-- ==== Sys2Proof/Word.lean ====
section
/-! DEFINITION. The word types of the LT7200 model: bytes, byte strings, 64-bit register words and the
72-bit tagged word of R26, with keyed tables (sparse data in one canonical order). -/

namespace Sys2Proof

/-- One byte. -/
abbrev Byte := BitVec 8

/-- A byte string, first byte first (R3: the first byte is the one at the lowest address). -/
abbrev Bytes := List Byte

/-- One 64-bit register or data word (R4). -/
abbrev W64 := BitVec 64

/-- One 32-bit counter or half register. -/
abbrev W32 := BitVec 32

/-- The secrecy classes of R29, in their order. -/
inductive SecClass where
  | pub
  | confidential
  | secret
  | held
  deriving DecidableEq, Repr

/-- The tagged word of R26: 64 data bits, V, P, CLASS and the check code CHK as stored with it. -/
structure TWord where
  data : W64
  v : Bool
  p : Bool
  cls : SecClass
  chk : BitVec 4
  deriving DecidableEq, Repr

/-- Sparse data by number, sorted by strictly rising key; what an unlisted key stands for is said by the reader of
each table. -/
abbrev Tbl (α : Type) := List (Nat × α)

/-- The entry of key `k`, if listed. -/
def Tbl.find {α : Type} (k : Nat) : Tbl α → Option α
  | [] => none
  | (j, a) :: t => if j = k then some a else Tbl.find k t

/-- `t` with `a` listed at key `k`, in key order. -/
def Tbl.put {α : Type} (k : Nat) (a : α) : Tbl α → Tbl α
  | [] => [(k, a)]
  | (j, b) :: t =>
    if k < j then (k, a) :: (j, b) :: t
    else if k = j then (k, a) :: t
    else (j, b) :: Tbl.put k a t

/-- `t` with key `k` not listed. -/
def Tbl.del {α : Type} (k : Nat) : Tbl α → Tbl α
  | [] => []
  | (j, b) :: t => if j = k then Tbl.del k t else (j, b) :: Tbl.del k t

/-- The canonical form: keys strictly rising. -/
def Tbl.wf {α : Type} : Tbl α → Bool
  | [] => true
  | (_, _) :: [] => true
  | (j, _) :: (k, b) :: t => decide (j < k) && Tbl.wf ((k, b) :: t)

end Sys2Proof
end

