-- ==== Sys2Proof/Syntax.lean ====
section
/-! DEFINITION. The commands of the LT7200 block: one constructor of `Instr` per row of spec/opcode_table.json, with the
operands the model gives it (the table names none: notes/assumptions/5.md), and the plain types those operands and the
manifest need. An operand that says what came back from outside the die (a drive, a DRAM, a peer, a detector) is the
environment's (notes/assumptions/6.md). -/

namespace Sys2Proof

/-! ### Access paths and returns from outside -/

/-- The access paths to the register space: the PF, a VF, the SMBus and SPI targets and the debug or LCY access port
(R4, R22, R24, R333, R435). -/
inductive Path where
  | pf
  | vf (n : Nat)
  | smbus
  | spi
  | debug
  deriving DecidableEq, Repr

/-- What a submission-slot read brought back (R49): the bytes of the head and its lighters, or a failure. Log 6, DESIGN CHOICE. -/
inductive SlotReturn where
  | data (bs : Bytes)
  | pcieError
  | poisoned
  deriving DecidableEq, Repr

/-- What a tug transfer brought back (R386): the bytes of a read (empty for a write accepted), an error on a read, or
poisoned data. Log 6, DESIGN CHOICE. -/
inductive XferReturn where
  | ok (bs : Bytes)
  | error
  | poisoned
  deriving DecidableEq, Repr

/-- What a drive returned for a store sector (R288): 4,096 ciphertext bytes with the metadata TAG, GEN and KIND and metadata
bytes 25 to 63, or a command error. -/
inductive SectorReturn where
  | sector (cipher : Bytes) (tag : Bytes) (gen : Nat) (kind : Nat) (rest : Bytes)
  | commandError
  deriving DecidableEq, Repr

/-- What the DRAM channels returned during one command, where it is not as stored (R282, R274, R279): words corrected by ECC, in data or
metadata lines and in the tree; lines (DRAM offset ÷ 64) whose data or metadata line is uncorrectable; counter blocks (half + 2 × (level
+ 8 × index)) that are uncorrectable with their node MAC, in DRAM or on the chip; lines altered outside the die, with ciphertext, stored
tags and MAC; counter blocks altered outside the die, with their bytes and node MAC. Log 6, DESIGN CHOICE. -/
structure DramReturn where
  dataCorrected : Nat := 0
  nodeCorrected : Nat := 0
  lostLines : List Nat := []
  lostNodes : List Nat := []
  alteredLines : List (Nat × Bytes × Bytes × Bytes) := []
  alteredNodes : List (Nat × Bytes × Bytes) := []
  deriving DecidableEq, Repr

/-- Everything as stored. -/
def DramReturn.asStored : DramReturn := {}

/-- The raw samples of an entropy cluster that a health-test event looks at (R255, R256): a byte a sample, bit i of oscillator i, oldest
first; and for each window of 4,096 CLK_PER cycles, oldest first, the eight oscillators' edge counts. Log 6, DESIGN CHOICE. -/
structure HealthData where
  samples : Bytes := []
  windows : List (List Nat) := []
  deriving DecidableEq, Repr

/-- Where a word that a service reads is poisoned (R28, R82): at the step with a status of the check table, or in its output. Log 6, DESIGN CHOICE. -/
inductive Poison where
  | step (status : Nat)
  | output
  deriving DecidableEq, Repr

/-- What failed in the units that a service used during its run, where all did not hold: the checker mismatches of its lane and of its tile
(0 none, 1 one whose retry passes, 2 a second one, more: the key-bus copy fails), the disagreements of KDU pairs, a poisoned word (R82,
R206, R215, R234); and the address that its routine's DECLASS instructions are fetched from (R307). Log 6, DESIGN CHOICE. -/
structure Hw where
  lane : Nat := 0
  tile : Nat := 0
  kdu : Nat := 0
  poison : Option Poison := none
  fetch : Nat := 0
  deriving DecidableEq, Repr

/-- A Broviry frame as received (R401): the header fields, the enciphered payload, the MAC, and whether its CRC-32C holds. -/
structure Frame where
  typ : Nat
  vc : Nat
  src : Nat
  dst : Nat
  lseq : Nat
  used : Nat
  payload : Bytes
  mac : Bytes
  crcOk : Bool
  deriving DecidableEq, Repr

/-- The 32 bytes of a completion before PHASE is known (R43, R44). -/
structure Comp where
  seq : Nat
  status : Nat
  epoch : Bool
  forwarded : Bool
  outbuf : Bool
  outLen : Nat
  time : Nat
  result : Bytes
  deriving DecidableEq, Repr

/-- A barge as the host or a client builds it (R37): the eight head words decoded, and the lighter bytes. -/
structure Barge where
  opcode : Nat
  flags : Nat
  format : Nat
  seq : Nat
  deadline : Nat
  permit : Nat
  h0 : Nat
  h1 : Nat
  h2 : Nat
  p0 : W64
  p1 : W64
  p2 : W64
  lights : Bytes
  deriving DecidableEq, Repr

/-- The contents of a forwarded barge frame with its data frames (R412). -/
structure FwdBarge where
  head : Nat
  epoch : Nat
  ring : Nat
  deadline : Nat
  failExpired : Bool
  pageTimeout : Nat
  tenant : Nat
  barge : Barge
  input : Option Bytes
  deriving DecidableEq, Repr

/-- What a link partner sends in link-up steps 2 and 3 (R406). -/
structure PeerHello where
  index : Nat
  digest : Bytes
  family : Nat
  dtime : Nat
  nonce : Bytes
  x448 : Bytes
  devId : Bytes
  aliasCertOk : Bool
  aliasKey : Bytes
  signature : Bytes
  deriving DecidableEq, Repr

/-! ### The configuration records of the manifest (R355) -/

/-- The MEMORY record. Bases are DRAM offsets in bytes, sizes in bytes. -/
structure MemCfg where
  protLog : Nat
  basinKd : Nat
  basinBase : Nat
  cacheKd : Nat
  cacheBase : Nat
  cacheSize : Nat
  holdKd : Nat
  holdBase : Nat
  archKd : Nat
  archBase : Nat
  archSize : Nat
  stageKd : Nat
  stageBase : Nat
  ltpStoreKd : Nat
  ltpStoreBase : Nat
  ltpStoreSize : Nat
  ltpPoolKd : Nat
  ltpPoolBase : Nat
  ltpPoolSize : Nat
  cargoMode : Nat
  nsid : Nat
  bucketsLog : Nat
  outcomeLog : Nat
  logSectors : Nat
  scrubHours : Nat
  deriving DecidableEq, Repr

/-- One Ethernet port of the IFACE record (R392). -/
structure PortCfg where
  enable : Bool
  speed25 : Bool
  vlan : Option Nat
  mtu : Nat
  tcpPort : Nat
  ipv4 : Bytes
  ipv6 : Bytes
  formed : Bool := true
  deriving DecidableEq, Repr

/-- The IFACE record (R392). -/
structure IfaceCfg where
  pcieEnable : Bool
  pcieGen : Nat
  pcieWidth : Nat
  vfCount : Nat
  cargoEnable : Bool
  cargoGen : Nat
  hsMs : Nat
  ltpV1 : Bool
  ltpV2 : Bool
  anchors : List Bytes
  serverKey : Nat
  oid : Bytes
  port0 : PortCfg
  port1 : PortCfg
  chain : Bytes
  formed : Bool := true
  deriving DecidableEq, Repr

/-- The CLUSTER record (R405) with its body, over which the record digest is taken. -/
structure ClusterCfg where
  kind : Nat
  x : Nat
  y : Nat
  index : Nat
  heads : List Nat
  links : BitVec 8
  fwdCredits : Nat
  devIds : List Bytes
  body : Bytes
  deriving DecidableEq, Repr

/-- A TENANT record (R176, R355): SHARE and the lane-group and tile-group masks. -/
structure TenantCfg where
  share : Nat
  laneMask : BitVec 8
  tileMask : BitVec 8
  deriving DecidableEq, Repr

/-- A RING record (R356): what RING_CFG and RING_LIMITS show. -/
structure RingCfg where
  tenant : Nat
  flow : Nat
  flowEn : Bool
  failExpired : Bool
  maint : Bool
  /-- 0 PCIe, 1 LTP (RING_CFG.TRANSPORT). -/
  transport : Nat
  func : Nat
  inflightMax : Nat
  defaultDeadline : Nat
  pageTimeout : Nat
  deriving DecidableEq, Repr

/-- A quorum entry (R164): signers wanted (0 NONE, 1 ONE, 2 TWO) and the role bits of OFFICER_A and OFFICER_B. -/
structure QuorumEntry where
  signers : Nat
  roleA : BitVec 8
  roleB : BitVec 8
  deriving DecidableEq, Repr

/-- One row of the tamper table, LEN_SRC[s] (R344). -/
structure SrcRow where
  level : Nat
  n : Nat
  window : Nat
  holdMs : Nat
  cellErase : Bool
  cellN : Nat
  deriving DecidableEq, Repr

/-- A tamper table with its LEN_CFG image (R344): rows by source, throttle fraction, enclosure polarity and enables. -/
structure TamperTable where
  /-- LEN_SRC[0..23]. -/
  rows : Tbl SrcRow
  /-- LEN_CFG.THROTTLE, 2 bits; reset 1. -/
  throttle : Nat := 1
  /-- LEN_CFG.ENCL_POL, 4 bits; reset 0. -/
  enclPol : BitVec 4 := 0
  /-- LEN_CFG.ENCL_EN, 4 bits; reset 0. -/
  enclEn : BitVec 4 := 0
  deriving DecidableEq, Repr

/-- The boot tamper table of R344. -/
def TamperTable.boot : TamperTable where
  rows := [
    (0, ⟨4, 1, 1, 1000, false, 0⟩), (1, ⟨4, 1, 1, 1000, false, 0⟩), (2, ⟨4, 1, 1, 1000, false, 0⟩),
    (3, ⟨4, 2, 33, 1000, false, 0⟩), (4, ⟨4, 2, 33, 1000, false, 0⟩), (5, ⟨3, 2, 33, 1000, false, 0⟩),
    (6, ⟨1, 1, 1, 1000, false, 2⟩), (7, ⟨4, 2, 33, 1000, false, 2⟩), (8, ⟨4, 2, 33, 1000, false, 2⟩),
    (9, ⟨5, 1, 1, 1000, true, 1⟩), (10, ⟨5, 1, 1, 1000, true, 1⟩), (11, ⟨5, 1, 1, 1000, true, 1⟩),
    (12, ⟨5, 1, 1, 1000, true, 1⟩), (13, ⟨5, 1, 1, 1000, true, 1⟩), (14, ⟨5, 1, 1, 1000, true, 1⟩),
    (15, ⟨5, 1, 1, 1000, true, 1⟩), (16, ⟨4, 1, 1, 1000, false, 0⟩), (17, ⟨1, 1, 1, 1000, false, 1⟩),
    (18, ⟨1, 1, 1, 1000, false, 0⟩), (19, ⟨1, 1, 1, 1000, false, 0⟩), (20, ⟨4, 1, 1, 1000, false, 0⟩),
    (21, ⟨4, 0, 0, 1000, false, 0⟩), (22, ⟨1, 1, 1, 1000, false, 0⟩), (23, ⟨1, 1, 1, 1000, false, 0⟩)]

/-- One gate region (R295, GTE_RGN registers): base and limit in 64-byte granules. -/
structure Region where
  kind : Nat := 0
  base : Nat := 0
  limit : Nat := 0
  r : Bool := false
  w : Bool := false
  x : Bool := false
  d : Bool := false
  mask : BitVec 64 := 0
  deriving DecidableEq, Repr

/-- The POWER record (R357). -/
structure PowerCfg where
  capW : Nat := 0
  floorClusters : Nat := 1
  floorLaneGroups : Nat := 1
  floorTiles : Nat := 1
  floorHashGroups : Nat := 1
  idleUs : Nat := 0
  drainMs : Nat := 100
  deriving DecidableEq, Repr

/-- The policy of a lane or tile group (ENGINE record, R218). -/
structure EngineCfg where
  dedicated : Bool := false
  strict : Bool := false
  deriving DecidableEq, Repr

/-- One parsed configuration record (R355). -/
inductive Record where
  | clock (spread : Nat)
  | memory (m : MemCfg)
  | iface (i : IfaceCfg)
  | cluster (c : ClusterCfg)
  | tenant (t : Nat) (c : TenantCfg)
  | officer (rec : Bytes)
  | ring (r : Nat) (c : RingCfg)
  | flow (f : Nat) (chamberMax : Nat)
  | quorum (action : Nat) (q : QuorumEntry)
  | tamperSource (s : Nat) (row : SrcRow)
  | tamperCfg (throttle : Nat) (pol en : BitVec 4)
  | gate (g r : Nat) (rg : Region)
  | pin (handle : Nat)
  | power (p : PowerCfg)
  | laneGroup (g : Nat) (c : EngineCfg)
  | tileGroup (g : Nat) (c : EngineCfg)
  | cphBudget (alarmLimit windowMs laneLimit : Nat)
  | bgnBudget (tileLimit : Nat)
  | rng (edgeFloor aptCutoff rctCutoff : Nat)
  deriving DecidableEq, Repr

/-- A whole configuration: the manifest's records by entry, or the active or pending copies of the functions of R369. An
unlisted ring, flow, region, tenant or group has the hardware default of R355. -/
structure Manifest where
  /-- CLOCK: down-spread in units of 0.01 % (R15); reset 0. -/
  spread : Nat := 0
  /-- MEMORY; dash: none before LAUNCH. -/
  mem : Option MemCfg := none
  /-- IFACE; none before LAUNCH. -/
  iface : Option IfaceCfg := none
  /-- CLUSTER; none: a single device (R405). -/
  cluster : Option ClusterCfg := none
  /-- TENANT by tenant. -/
  tenants : Tbl TenantCfg := []
  /-- OFFICER enrolment records. -/
  officers : List Bytes := []
  /-- RING by ring. -/
  rings : Tbl RingCfg := []
  /-- FLOW: CHAMBER_MAX by flow; unlisted 1. -/
  flows : Tbl Nat := []
  /-- QUORUM by action code; unlisted: the default of R164. -/
  quorum : Tbl QuorumEntry := []
  /-- TAMPER over the boot table (R344). -/
  tamper : TamperTable := TamperTable.boot
  /-- GATE by 16 g + r; unlisted OFF. -/
  gates : Tbl Region := []
  /-- PIN handles. -/
  pins : List Nat := []
  /-- POWER. -/
  power : PowerCfg := {}
  /-- ENGINE by lane group. -/
  laneGroups : Tbl EngineCfg := []
  /-- ENGINE by tile group. -/
  tileGroups : Tbl EngineCfg := []
  /-- CPH_BUDGET.ALARM_LIMIT, default 16. -/
  alarmLimit : Nat := 16
  /-- CPH_BUDGET.WINDOW_MS, default 1,000. -/
  windowMs : Nat := 1000
  /-- CPH_BUDGET.LANE_LIMIT, default 3. -/
  laneLimit : Nat := 3
  /-- BGN_BUDGET.TILE_LIMIT, default 3. -/
  tileLimit : Nat := 3
  /-- RNG: EDGE_FLOOR, default 4,096. -/
  edgeFloor : Nat := 4096
  /-- RNG: APT_CUTOFF, default 795. -/
  aptCutoff : Nat := 795
  /-- RNG: RCT_CUTOFF, default 41. -/
  rctCutoff : Nat := 41
  deriving DecidableEq, Repr

/-- What the world outside gives LAUNCH (R360): the manifest flash's two copies and density, fitted DRAM in bytes, the
drives with their NGUIDs and what they hold (R190, R291), and the outcomes of the self-tests of step 7. Log 6, DESIGN CHOICE. -/
structure LaunchEnv where
  flashA : Bytes
  flashB : Bytes
  density : Nat
  fittedDram : Nat
  nguidA : Bytes
  nguidB : Bytes
  namespaceOkA : Bool
  namespaceOkB : Bool
  /-- The superblock of checkpoint ROOT_GEN as drives A and B return it (R291). -/
  superA : SectorReturn
  superB : SectorReturn
  /-- The journal sectors behind the checkpoint as the first drive in service returns them, in ring order (R190). -/
  journal : List SectorReturn
  /-- LBAs of the store whose sector comes with another GEN than its entry in the generation tree, with that GEN (R291). -/
  gensFound : List (Nat × Nat)
  /-- LBAs of the store whose sector does not verify (R289). -/
  tagFails : List Nat
  failedLanes : List Nat
  failedTiles : List Nat
  failedEngines : List Nat
  failedTugs : List Nat
  failedDomains : List Nat
  deriving DecidableEq, Repr

/-- One command of the block: a row of spec/opcode_table.json. Log 5, DESIGN CHOICE. -/
inductive Instr where
  /-- REGISTER_WRITE (R6): A host or towpath write to a register that has no row of its own stores or clears fields
  as its access code says; writes to invisible or unassigned space are discarded and logged. -/
  | registerWrite (path : Path) (addr size : Nat) (v : W64)
  /-- MISALIGNED_REGISTER_ACCESS (R4): A register access that is not a naturally aligned 32- or 64-bit access is
  discarded or reads zero, and is logged. -/
  | misalignedRegisterAccess (path : Path) (write : Bool) (addr size : Nat)
  /-- GLB_TIME_LOW_READ (R16): A 32-bit read of GLB_TIME bits 31:0 latches bits 63:32 for the next high-half read by
  the same access path. -/
  | glbTimeLowRead (path : Path)
  /-- DOORBELL_SQ_TAIL (R48): A doorbell write offers a new SQ_TAIL, which is checked and accepted or faults the
  ring with DB_SQ_OVER. -/
  | doorbellSqTail (ring : Nat) (tail : W32) (head : Option W32)
  /-- DOORBELL_CQ_HEAD (R48): A doorbell write offers a new CQ_HEAD, which is checked and accepted, freeing credits,
  or faults the ring with DB_CQ_AHEAD or DB_CQ_BACK. -/
  | doorbellCqHead (ring : Nat) (head : W32) (tail : Option W32)
  /-- SLOT_FETCH (R49): The Wharf issues a read of a barge's slots once SQ_TAIL covers its head and lighters. -/
  | slotFetch (ring : Nat)
  /-- SLOT_READ_DONE (R49): A slot read returns; the barge is presented at its admission port, or a PCIe error or
  poisoned word faults the ring with SQ_READ. -/
  | slotReadDone (ring : Nat) (r : SlotReturn)
  /-- ADMIT_BARGE (R12): The admission stage admits one barge once all its resources are held, stamps admission time
  and deadline, and runs the head checks. -/
  | admitBarge
  /-- DISPATCH (R64): When a crew core of a list's clusters is free, the first eligible ready-list entry is
  dispatched to it. -/
  | dispatch (core : Nat)
  /-- BASIN_REFILL (R76): While general entries are below 28,160, the earliest non-held-back basin entry is moved
  back on-chip. -/
  | basinRefill (r : DramReturn)
  /-- DEADLINE_EXPIRE (R65): At the end of its deadline tick a queued, held-back or parked barge of a FAIL_EXPIRED
  ring fails EXPIRED in the next tick. -/
  | deadlineExpire (barge : Nat)
  /-- PAGE_TIMEOUT_EXPIRE (R66): A parked barge whose page limit passes without its page-ins returning fails
  KEY_PAGE_TIMEOUT or EXPIRED. -/
  | pageTimeoutExpire (barge : Nat)
  /-- BARGE_FINISH (R71): A dispatched barge's service ends and its completion is formed, releasing eviction locks,
  and released at once or held for its flow turn. -/
  | bargeFinish (core : Nat)
  /-- COMPLETION_WRITE (R50): A released completion is written to its host completion ring or LTP store, advancing
  CQ_TAIL and reducing in_flight. -/
  | completionWrite (ring : Nat) (ok : Bool)
  /-- COAL_TIMER_EXPIRE (R53): COAL_TIME µs after the first unsignalled completion the ring's interrupt falls due. -/
  | coalTimerExpire (ring : Nat)
  /-- PENDING_MSIX_SEND (R384): A pended MSI-X message is sent once the link is up, Bus Master Enable is 1 and the
  vector is unmasked. -/
  | pendingMsixSend (fn vec : Nat)
  /-- RING_OPEN (R51): A write of RING_CTL.OPEN opens a CLOSED ring with an epoch-change or held completions, or
  re-arms a FAULTED ring. -/
  | ringOpen (ring : Nat) (v : W64)
  /-- RING_CLOSE (R52): A write of RING_CTL.CLOSE puts the ring DRAINING and drops barges waiting at ports. -/
  | ringClose (ring : Nat) (v : W64)
  /-- RING_DRAINED (R52): When every admitted barge of a DRAINING ring has finished the ring becomes CLOSED. -/
  | ringDrained (ring : Nat)
  /-- ABORT_ALL (R57): A RING_ABORT with ALL = 1 aborts every admitted, uncompleted barge of the ring. -/
  | abortAll (ring : Nat)
  /-- ABORT_SEQ (R57): A RING_ABORT by SEQ aborts the admitted, uncompleted barges of the ring with that SEQ. -/
  | abortSeq (ring seq : Nat)
  /-- TEL_WINDOW_ROLL (R79): At the first tick of each 1 ms window the per-window telemetry fields take the values
  of the window just ended. -/
  | telWindowRoll
  /-- PIN_TRANSLATE (R93): Deciphers a PIN block and re-enciphers the PIN under another key and format. -/
  | pinTranslate (core : Nat) (hw : Hw)
  /-- PIN_VERIFY_3624 (R94): Verifies a PIN against an IBM 3624 offset. -/
  | pinVerify3624 (core : Nat) (hw : Hw)
  /-- PIN_VERIFY_PVV (R95): Verifies a PIN against a PVV. -/
  | pinVerifyPvv (core : Nat) (hw : Hw)
  /-- OFFSET_GENERATE (R94): Computes the IBM 3624 offset of an encrypted PIN. -/
  | offsetGenerate (core : Nat) (hw : Hw)
  /-- PVV_GENERATE (R95): Computes the PVV of an encrypted PIN. -/
  | pvvGenerate (core : Nat) (hw : Hw)
  /-- PIN_CHANGE_3624 (R96): Verifies the current PIN by offset and returns the new PIN's offset. -/
  | pinChange3624 (core : Nat) (hw : Hw)
  /-- PIN_CHANGE_PVV (R96): Verifies the current PIN by PVV and returns the new PIN's PVV. -/
  | pinChangePvv (core : Nat) (hw : Hw)
  /-- PIN_GENERATE (R97): Draws a random PIN and returns it enciphered. -/
  | pinGenerate (core : Nat) (hw : Hw)
  /-- PIN_MAILER (R98): Builds a GCM-encrypted PIN mailer record from an encrypted PIN and print data. -/
  | pinMailer (core : Nat) (hw : Hw)
  /-- CVV_GENERATE (R103): Computes a CVV, CVV2 or iCVV. -/
  | cvvGenerate (core : Nat) (hw : Hw)
  /-- CVV_VERIFY (R103): Verifies a CVV, CVV2 or iCVV. -/
  | cvvVerify (core : Nat) (hw : Hw)
  /-- CVC3_VERIFY (R104): Derives the card key and verifies a dynamic CVC3. -/
  | cvc3Verify (core : Nat) (hw : Hw)
  /-- DUKPT_INITIAL_KEY_EXPORT (R111): Derives a DUKPT initial key and exports it as a key block. -/
  | dukptInitialKeyExport (core : Nat) (hw : Hw)
  /-- DUKPT_PIN_TRANSLATE (R110): Derives a DUKPT PIN key and translates the terminal's PIN block. -/
  | dukptPinTranslate (core : Nat) (hw : Hw)
  /-- DUKPT_MAC_VERIFY (R110): Derives a DUKPT MAC key and verifies a message MAC. -/
  | dukptMacVerify (core : Nat) (hw : Hw)
  /-- ARQC_VERIFY (R121): Derives the EMV session key and verifies an ARQC. -/
  | arqcVerify (core : Nat) (hw : Hw)
  /-- ARQC_VERIFY_ARPC (R121): Verifies an ARQC and returns an ARPC by method 1 or 2. -/
  | arqcVerifyArpc (core : Nat) (hw : Hw)
  /-- SCRIPT_MAC (R122): Computes an EMV issuer script MAC. -/
  | scriptMac (core : Nat) (hw : Hw)
  /-- SCRIPT_ENCRYPT (R122): Encrypts EMV issuer script data in CBC mode. -/
  | scriptEncrypt (core : Nat) (hw : Hw)
  /-- MAC_GENERATE (R126): Computes a MAC of host data by the selected algorithm. -/
  | macGenerate (core : Nat) (hw : Hw)
  /-- MAC_VERIFY (R126): Verifies a MAC of host data. -/
  | macVerify (core : Nat) (hw : Hw)
  /-- ENCRYPT (R130): Encrypts host data in ECB, CBC, CTR or GCM mode with device-issued nonces. -/
  | encrypt (core : Nat) (hw : Hw)
  /-- DECRYPT (R131): Decrypts host data, holding GCM plaintext until the tag verifies. -/
  | decrypt (core : Nat) (hw : Hw)
  /-- RANDOM_BYTES (R133): Returns 1 to 65,536 DRBG bytes. -/
  | randomBytes (core : Nat) (hw : Hw)
  /-- HASH (R134): Hashes host data with a SHA-2, SHA-3, SHAKE or cSHAKE algorithm. -/
  | hash (core : Nat) (hw : Hw)
  /-- KEY_GENERATE (R149): Creates a symmetric key from DRBG output and commits it. -/
  | keyGenerate (core : Nat) (hw : Hw)
  /-- KEY_IMPORT (R152): Imports a key from an X9.143 key block and commits it. -/
  | keyImport (core : Nat) (hw : Hw)
  /-- KEY_EXPORT (R153): Exports a key as an X9.143 key block. -/
  | keyExport (core : Nat) (hw : Hw)
  /-- KEY_TRANSLATE (R154): Re-wraps a key block under another protection key. -/
  | keyTranslate (core : Nat) (hw : Hw)
  /-- KEY_CHECK_VALUE (R150): Returns the key check value of a TDES or AES key. -/
  | keyCheckValue (core : Nat) (hw : Hw)
  /-- COMPONENT_OPEN (R155): Opens a dual-control component entry session and returns an X448 public key. -/
  | componentOpen (core : Nat) (hw : Hw)
  /-- COMPONENT_ADD (R155): Accepts one signed, encrypted key component into a session. -/
  | componentAdd (core : Nat) (hw : Hw)
  /-- COMPONENT_CLOSE (R155): Combines the session's components into a key and commits it. -/
  | componentClose (core : Nat) (hw : Hw)
  /-- COMPONENT_SESSION_EXPIRE (R155): A component session ends at its permit's NOT_AFTER and its components are
  zeroed. -/
  | componentSessionExpire (session : Nat)
  /-- KEY_DELETE (R156): Removes a key from every level, commits a tombstone and makes cached slots DEAD. -/
  | keyDelete (core : Nat) (hw : Hw)
  /-- TR34_IMPORT (R157): Imports a key from a TR-34 token after certificate and signature checks. -/
  | tr34Import (core : Nat) (hw : Hw)
  /-- TR34_EXPORT (R157): Writes a signed, encrypted TR-34 one-pass token for a key. -/
  | tr34Export (core : Nat) (hw : Hw)
  /-- PERMIT_LODGE (R162): Checks and lodges a signed dual-control permit. -/
  | permitLodge (core : Nat) (hw : Hw)
  /-- PERMIT_WITHDRAW (R162): Removes a lodged permit or marks its number withdrawn. -/
  | permitWithdraw (core : Nat) (hw : Hw)
  /-- TENANT_CREATE (R166): Makes a FREE tenant ACTIVE, SELF or DEVICE administered. -/
  | tenantCreate (core : Nat) (hw : Hw)
  /-- TENANT_POLICY (R166): Sets an ACTIVE tenant's flags and KEY_QUOTA. -/
  | tenantPolicy (core : Nat) (hw : Hw)
  /-- TENANT_DELETE (R166): Sets a tenant DELETING, advances GEN, revokes its officers and discards its permits. -/
  | tenantDelete (core : Nat) (hw : Hw)
  /-- TENANT_RECLAIM_DONE (R166): When background reclamation of a deleted tenant's store space ends, the tenant
  becomes FREE. -/
  | tenantReclaimDone (tenant : Nat)
  /-- OFFICER_ENROL (R167): Enrols an officer in the lowest FREE entry of the officer table. -/
  | officerEnrol (core : Nat) (hw : Hw)
  /-- OFFICER_REVOKE (R167): Revokes an officer and discards the permits that name it. -/
  | officerRevoke (core : Nat) (hw : Hw)
  /-- CALENDAR_SET (R168): Sets the calendar and returns the previous reading. -/
  | calendarSet (core : Nat) (hw : Hw)
  /-- JOURNAL_QUERY (R61): Reports whether a state-changing barge of a given epoch, ring and SEQ committed. -/
  | journalQuery (core : Nat) (hw : Hw)
  /-- BACKUP_OPEN (R195): Opens a backup session with a snapshot and share recipients. -/
  | backupOpen (core : Nat) (hw : Hw)
  /-- BACKUP_READ (R196): Writes the next encrypted backup chunk. -/
  | backupRead (core : Nat) (hw : Hw)
  /-- BACKUP_CLOSE (R197): Writes the signed share package and ends the backup session. -/
  | backupClose (core : Nat) (hw : Hw)
  /-- RESTORE_OPEN (R198): Verifies a backup package and opens a restore session. -/
  | restoreOpen (core : Nat) (hw : Hw)
  /-- RESTORE_SHARE (R198): Accepts one custodian share and rebuilds the backup key at the K-th. -/
  | restoreShare (core : Nat) (hw : Hw)
  /-- RESTORE_WRITE (R199): Verifies one chunk and commits its records under this device's roots. -/
  | restoreWrite (core : Nat) (hw : Hw)
  /-- RESTORE_CLOSE (R199): Checks the chunk count and tag digest and ends the restore session. -/
  | restoreClose (core : Nat) (hw : Hw)
  /-- CARGO_SESSION_END (R194): Ends a backup or restore session and zeroes its key and shares. -/
  | cargoSessionEnd (core : Nat) (hw : Hw)
  /-- CARGO_FORMAT (R187): Formats an OFFLINE cargo store empty under the current customer root. -/
  | cargoFormat (core : Nat) (hw : Hw)
  /-- DRYDOCK_ENTER (R365): Under permit stops admission of non-maintenance rings to enter DRYDOCK. -/
  | drydockEnter (core : Nat) (hw : Hw)
  /-- DRYDOCK_DRAIN_DONE (R365): When no barge of a non-maintenance ring remains admitted the mode becomes DRYDOCK
  and MR7 is extended. -/
  | drydockDrainDone
  /-- DRYDOCK_EXIT (R365): Ends diagnostics, raw-sample mode and loopbacks and returns to SERVICE. -/
  | drydockExit (core : Nat) (hw : Hw)
  /-- FUNCTION_GRANT (R372): Grants PF stop-change-restart writes to one function in SERVICE. -/
  | functionGrant (core : Nat) (hw : Hw)
  /-- FIRMWARE_UPDATE (R373): Validates and writes a new manifest copy over the unused copy. -/
  | firmwareUpdate (core : Nat) (hw : Hw) (flashOk : Bool)
  /-- VERSION_MIGRATE (R322): Raises FLOOR and rewraps every cargo record under the new roots. -/
  | versionMigrate (core : Nat) (hw : Hw) (bad : Option (BitVec 3 × Nat))
  /-- RAW_RNG_ON (R266): Enters raw-sample mode: seed blocks discarded, DRBGs RAW_BLOCKED, raw buffer fed. -/
  | rawRngOn (core : Nat) (hw : Hw)
  /-- RAW_RNG_OFF (R266): Ends raw-sample mode and restarts clusters and DRBGs. -/
  | rawRngOff (core : Nat) (hw : Hw)
  /-- END_OF_LIFE (R330): Commits, blows T3, runs the erase sequence and enters HALT. -/
  | endOfLife (core : Nat) (hw : Hw)
  /-- AUDIT_READ (R433): Returns whole logbook records from a start SEQ. -/
  | auditRead (core : Nat) (hw : Hw)
  /-- AUDIT_SEAL (R433): Returns a signed digest over a range of audit-critical records. -/
  | auditSeal (core : Nat) (hw : Hw)
  /-- AUDIT_ACK (R434): Acknowledges audit-critical records up to a seal's last SEQ, freeing audit space. -/
  | auditAck (core : Nat) (hw : Hw)
  /-- AUDIT_STATUS (R433): Returns the oldest unacknowledged audit SEQ, OUTSTANDING and LIMIT. -/
  | auditStatus (core : Nat) (hw : Hw)
  /-- ASYM_KEYGEN (R246): Generates an RSA or elliptic-curve key pair and commits it. -/
  | asymKeygen (core : Nat) (hw : Hw)
  /-- PUBKEY_READ (R246): Returns the public part of a stored asymmetric key. -/
  | pubkeyRead (core : Nat) (hw : Hw)
  /-- SIGN (R247): Signs a message or digest with RSA, ECDSA or EdDSA. -/
  | sign (core : Nat) (hw : Hw)
  /-- VERIFY (R246): Verifies an asymmetric signature. -/
  | verify (core : Nat) (hw : Hw)
  /-- RSA_ENCRYPT (R247): Encrypts a message with RSA-OAEP. -/
  | rsaEncrypt (core : Nat) (hw : Hw)
  /-- RSA_DECRYPT (R247): Decrypts an RSA-OAEP ciphertext. -/
  | rsaDecrypt (core : Nat) (hw : Hw)
  /-- AGREE (R248): Computes an ECDH or X25519/X448 shared secret and stores a derived key. -/
  | agree (core : Nat) (hw : Hw)
  /-- PQ_KEYGEN (R249): Generates an ML-KEM or ML-DSA key and commits it. -/
  | pqKeygen (core : Nat) (hw : Hw)
  /-- MLKEM_ENCAPS (R250): Encapsulates to a peer key and stores the derived key. -/
  | mlkemEncaps (core : Nat) (hw : Hw)
  /-- MLKEM_DECAPS (R250): Decapsulates a ciphertext with implicit rejection and stores the derived key. -/
  | mlkemDecaps (core : Nat) (hw : Hw)
  /-- MLDSA_SIGN (R250): Signs a message with ML-DSA. -/
  | mldsaSign (core : Nat) (hw : Hw)
  /-- MLDSA_VERIFY (R249): Verifies an ML-DSA signature. -/
  | mldsaVerify (core : Nat) (hw : Hw)
  /-- ATTEST_REPORT (R252): Returns an alias-signed attestation report with selected measurement registers. -/
  | attestReport (core : Nat) (hw : Hw)
  /-- CERT_READ (R251): Returns the DevID or alias certificate. -/
  | certRead (core : Nat) (hw : Hw)
  /-- CLUSTER_HOME (R423): Returns a handle's home, replica and bucket. -/
  | clusterHome (core : Nat) (hw : Hw)
  /-- CLUSTER_RELAY (R423): Runs an inner audit or attestation barge at a named cluster device. -/
  | clusterRelay (core : Nat) (hw : Hw)
  /-- LANE_DIAG (R226): Runs a command stream on a lane as a diagnostic context. -/
  | laneDiag (core : Nat) (mism : List Nat)
  /-- HASH_DIAG (R226): Runs a command stream on a hash engine as a diagnostic context. -/
  | hashDiag (core : Nat)
  /-- TILE_DIAG (R254): Runs a command stream on a bignum tile as a diagnostic job. -/
  | tileDiag (core : Nat) (mism : List Nat)
  /-- PAGE_IN_RETURN (R173): A page-in returns INSTALLED, ABSENT or DAMAGED and each waiting barge is requeued or
  failed. -/
  | pageInReturn (handle : Nat) (r : DramReturn)
  /-- MOORING_WAIT_RETRY (R178): A page-in waiting for a mooring retries each time an eviction lock is released. -/
  | mooringWaitRetry (handle : Nat)
  /-- CACHE_FILL_RETRY (R182): A cargo-cache fill into a set whose records all have page-ins in progress proceeds
  when one returns. -/
  | cacheFillRetry (handle : Nat)
  /-- MOORING_ECC_ERROR (R175): An uncorrectable ECC error drops the mooring so the next lookup pages the key in
  again. -/
  | mooringEccError (m : Nat)
  /-- MOORING_MOVE (R179): Hardware moves a resident mooring to a bank of lower pressure. -/
  | mooringMove (m bank : Nat)
  /-- TUG_SELFCHECK_FAIL (R169): A tug failing its periodic self-check is taken out of service and its group
  shrinks. -/
  | tugSelfcheckFail (tug : Nat)
  /-- TUG_TRANSFER_DONE (R386): A tug read or write to host memory completes, or fails the barge on a host-side
  error. -/
  | tugTransferDone (core : Nat) (write : Bool) (r : XferReturn)
  /-- LEASE_COMMIT (R181): A nonce request with LEASED clear commits a new lease end to the journal, then issues the
  nonce. -/
  | leaseCommit (core : Nat)
  /-- GROUP_WRITE_START (R189): Gathered commits are written as one group write at 16 commits or 8 µs after the
  first. -/
  | groupWriteStart (poisoned : List Nat)
  /-- COMMIT_TICK (R189): When every drive acknowledges a commit's sectors the commit exists and its changes are
  applied. -/
  | commitTick (drive : Nat)
  /-- VOLATILE_COMMIT_DONE (R193): In the volatile hold a commit exists when the SLU has accepted its last DRAM
  line. -/
  | volatileCommitDone (r : DramReturn)
  /-- CHECKPOINT_START (R290): A checkpoint begins when journal FILL reaches 131,072 or 10 s after the last. -/
  | checkpointStart
  /-- CHECKPOINT_COMPLETE (R290): After the checkpoint's writes and Flush the keel register is updated and journal
  sectors are freed. -/
  | checkpointComplete
  /-- DRIVE_FAIL (R186): A drive that fails a command twice or leaves the link is dropped and the store degrades or
  goes OFFLINE. -/
  | driveFail (drive : Nat)
  /-- REBUILD_COMPLETE (R186): The rebuild of a replacement mirror drive ends and the store returns ONLINE. -/
  | rebuildComplete
  /-- NVME_COMMAND_TIMEOUT (R388): An NVMe command not completed within 2 s is aborted and counts as a failed
  command. -/
  | nvmeCommandTimeout (drive : Nat)
  /-- SECTOR_READ_DONE (R289): A cargo sector read returns and is released only after its tag, kind and generation
  verify. -/
  | sectorReadDone (handle drive lba : Nat) (r : SectorReturn)
  /-- PIN_ADD (R177): MOR_PIN_EDIT.ADD adds MOR_PIN_HANDLE to the pending pin table. -/
  | pinAdd
  /-- PIN_REMOVE (R177): MOR_PIN_EDIT.REMOVE removes MOR_PIN_HANDLE from the pending pin table. -/
  | pinRemove
  /-- LANE_OPEN (R202): Opens a lane context on a lane chosen by the allocator, waiting if none qualifies. -/
  | laneOpen (core : Nat) (cmd : W64) (data : List TWord)
  /-- LANE_LOAD (R203): Loads a key slot by handle, hitting in the lane or requesting a KDU load. -/
  | laneLoad (core : Nat) (cmd : W64) (data : List TWord)
  /-- KDU_LOAD_DONE (R206): A KDU load or STORE ends after 533 cycles, delivering the key or a failure status. -/
  | kduLoadDone (disagree : Nat) (poisoned : Bool)
  /-- ENC (R209): Enciphers one block under a slot, checked before release. -/
  | enc (core : Nat) (cmd : W64) (data : List TWord) (mism : Nat)
  /-- DEC (R209): Deciphers one block under a slot. -/
  | dec (core : Nat) (cmd : W64) (data label : List TWord) (mism : Nat)
  /-- ZKEY (R209): Outputs the encryption of a zero block or the key check value. -/
  | zkey (core : Nat) (cmd : W64) (data : List TWord) (mism : Nat)
  /-- NONCE (R214): Issues a nonce for a slot from its mooring counter or TLS record counter. -/
  | nonce (core : Nat) (cmd : W64) (data : List TWord)
  /-- KSTREAM (R214): Outputs keystream XOR data for a block index under the context's nonce. -/
  | kstream (core : Nat) (cmd : W64) (data : List TWord) (mism : Nat)
  /-- KSTREAM_D (R209): Outputs keystream XOR ciphertext, into the held buffer after HOLD. -/
  | kstreamD (core : Nat) (cmd : W64) (data : List TWord) (mism : Nat)
  /-- TAG (R209): Outputs the GCM tag from S. -/
  | tag (core : Nat) (cmd : W64) (data : List TWord) (mism : Nat)
  /-- TAGCHK (R217): Compares a GCM tag and releases or zeroes the held buffer. -/
  | tagchk (core : Nat) (cmd : W64) (data : List TWord) (mism : Nat)
  /-- STORE (R207): Wraps a context-owned key through the KDU and passes it to a commit. -/
  | store (core : Nat) (cmd : W64) (data : List TWord)
  /-- FREE (R209): Frees a slot and zeroes it if context-owned. -/
  | free (core : Nat) (cmd : W64) (data : List TWord)
  /-- HOLD (R217): Points the context at its held buffer. -/
  | hold (core : Nat) (cmd : W64) (data : List TWord)
  /-- PUT (R213): Writes data words into a key part of a slot by profile. -/
  | put (core : Nat) (cmd : W64) (data label : List TWord)
  /-- LOADT (R209): Writes a TEST key into a slot of a diagnostic context. -/
  | loadt (core : Nat) (cmd : W64) (data : List TWord)
  /-- LANE_CLOSE (R221): Ends a lane context, zeroing context-owned slots and the held buffer. -/
  | laneClose (core : Nat) (cmd : W64) (data : List TWord)
  /-- HELD_BUFFER_ZEROED (R217): Zeroing of a held buffer ends after 1,024 cycles and a waiting HOLD may proceed. -/
  | heldBufferZeroed (core : Nat)
  /-- MISMATCH_WINDOW_END (R216): At the end of each mismatch window the lane and tile counts restart. -/
  | mismatchWindowEnd
  /-- LANE_SELFTEST (R218): An idle lane runs its known-answer test; a failure retires it and brings in a spare. -/
  | laneSelftest (lane : Nat) (pass sparePass : Bool)
  /-- LANE_DRAIN_RETIRE (R218): A DRAINING lane is retired and replaced once its contexts have closed. -/
  | laneDrainRetire (lane : Nat) (sparePass : Bool)
  /-- INIT (R223): Starts a hash computation on an engine. -/
  | init (core : Nat) (cmd : W64) (data : List TWord)
  /-- ABSORB (R223): Absorbs data bytes into the hash state. -/
  | absorb (core : Nat) (cmd : W64) (data : List TWord)
  /-- HASH_KEY (R223): Loads the engine key register by handle through the KDU. -/
  | hashKey (core : Nat) (cmd : W64) (data : List TWord)
  /-- FINAL (R223): Applies padding to end absorption. -/
  | final (core : Nat) (cmd : W64) (data : List TWord)
  /-- SQUEEZE (R223): Outputs hash bytes. -/
  | squeeze (core : Nat) (cmd : W64) (data : List TWord)
  /-- CMP (R223): Compares the hash output with reference words and emits only a status. -/
  | cmp (core : Nat) (cmd : W64) (data : List TWord)
  /-- HASH_RESET (R223): Zeroes the engine state and key register. -/
  | hashReset (core : Nat) (cmd : W64) (data : List TWord)
  /-- HASH_SELFTEST (R225): An idle hash engine runs its self-check; a failing engine or KDU pair is retired. -/
  | hashSelftest (engine : Nat) (pass : Bool)
  /-- CPH_DIAG_ENABLE (R226): CPH_DIAG_CTL.ENABLE opens or closes a register-driven diagnostic context on a lane. -/
  | cphDiagEnable (v : W64)
  /-- CPH_DIAG_CMD (R226): A write of CPH_DIAG_CMD issues one lane command with the diagnostic data words. -/
  | cphDiagCmd (v : W64) (mism : Nat)
  /-- HSH_DIAG_ENABLE (R226): HSH_DIAG_CTL.ENABLE opens or closes a diagnostic context on a hash engine. -/
  | hshDiagEnable (v : W64)
  /-- HSH_DIAG_CMD (R226): A write of HSH_DIAG_CMD issues one hash-engine command. -/
  | hshDiagCmd (v : W64)
  /-- BGN_DIAG_ENABLE (R254): BGN_DIAG_CTL.ENABLE opens or closes a diagnostic job on a tile. -/
  | bgnDiagEnable (v : W64)
  /-- BGN_DIAG_CMD (R254): A write of BGN_DIAG_CMD issues one tile command. -/
  | bgnDiagCmd (v : W64) (mism : Nat)
  /-- MAC (R231): Multiply-accumulates two limb operands into the accumulator. -/
  | mac (core : Nat) (cmd : W64) (data : List TWord) (mism : Nat)
  /-- MACP (R231): Multiply-accumulates coefficient lanes for polynomial products. -/
  | macp (core : Nat) (cmd : W64) (data : List TWord) (mism : Nat)
  /-- RDACC (R231): Writes accumulator limbs or lanes to job words, optionally shifting. -/
  | rdacc (core : Nat) (cmd : W64) (data : List TWord) (mism : Nat)
  /-- CLR (R231): Zeroes the accumulator and selects MAC or MACP mode. -/
  | clr (core : Nat) (cmd : W64) (data : List TWord)
  /-- JOPEN (R228): Opens a tile job of 1 to 8 windows, waiting if no tile qualifies. -/
  | jopen (core : Nat) (cmd : W64) (data : List TWord)
  /-- JCLOSE (R236): Ends a job and starts clearing its windows. -/
  | jclose (core : Nat) (cmd : W64) (data : List TWord)
  /-- KEYIN (R231): Has the KDU deliver one chain link of a key into job words. -/
  | keyin (core : Nat) (cmd : W64) (data : List TWord)
  /-- WPUT (R231): Writes data words into a job. -/
  | wput (core : Nat) (cmd : W64) (data : List TWord)
  /-- WGET (R231): Outputs job words with their tags. -/
  | wget (core : Nat) (cmd : W64) (data : List TWord)
  /-- JOB_CLEAR_DONE (R236): After 1,024 cycles of clearing the job's windows become free. -/
  | jobClearDone (tile base : Nat)
  /-- TILE_SELFTEST (R237): A jobless tile runs its self-check; a failing or drained tile is retired and a spare
  joins. -/
  | tileSelftest (tile : Nat) (pass sparePass : Bool)
  /-- SETTLE_END (R257): After 20 µs of settling a cluster enters STARTUP. -/
  | settleEnd (cluster : Nat)
  /-- STARTUP_TEST_END (R257): A cluster's start-up test over 1,024 samples ends and it enters COLLECT. -/
  | startupTestEnd (cluster : Nat) (h : HealthData)
  /-- COLLECTION_END (R257): A 768-sample collection ends and goes to the conditioner. -/
  | collectionEnd (cluster : Nat) (h : HealthData)
  /-- HEALTH_TEST_FAIL (R257): A health test fails, discarding the collection and restarting or retiring the
  cluster. -/
  | healthTestFail (cluster : Nat) (h : HealthData)
  /-- SEED_BLOCK_READY (R260): A conditioned seed block is ready and delivered to a waiting DRBG or held. -/
  | seedBlockReady (cluster : Nat)
  /-- DRBG_SEEDED (R261): Instantiation or reseeding of a DRBG completes and it is SERVING. -/
  | drbgSeeded (drbg : Nat)
  /-- DRBG_DUE (R262): A DRBG reaches 65,536 requests or 1 s since seeding and waits for a block. -/
  | drbgDue (drbg : Nat)
  /-- DRBG_BLOCKED (R262): A DRBG reaches 131,072 requests or 2 s without a new block and stops serving. -/
  | drbgBlocked (drbg : Nat)
  /-- DRBG_REQUEST (R263): A crew core requests bytes from its home DRBG, receiving output or a not-valid word. -/
  | drbgRequest (core n : Nat)
  /-- RNG_STARTUP_COMPLETE (R264): The start-up condition holds once 12 clusters pass and all 64 DRBGs serve. -/
  | rngStartupComplete
  /-- RAW_SOURCE_SELECT (R266): A write of RNG_RAW_CTL selects the raw source and zeroes the buffer. -/
  | rawSourceSelect (v : W64)
  /-- RAW_DATA_READ (R266): A read of RNG_RAW_DATA removes the oldest raw word or sets EMPTY. -/
  | rawDataRead (path : Path)
  /-- LINE_READ (R286): A DRAM line read is decrypted and released after its MAC and counter path verify. -/
  | lineRead (master core addr : Nat) (r : DramReturn)
  /-- FULL_LINE_WRITE (R284): A write of eight valid words to one line is encrypted, MACed and written without a
  read. -/
  | fullLineWrite (master core addr : Nat) (words : List TWord) (r : DramReturn)
  /-- PARTIAL_WRITE (R284): A partial line write locks, reads, verifies, merges and writes the line. -/
  | partialWrite (master core addr : Nat) (words : List (Nat × TWord)) (r : DramReturn)
  /-- PATROL_SCRUB (R282): The patrol scrubber reads DRAM words and rewrites corrected ones. -/
  | patrolScrub (channel words : Nat) (r : DramReturn)
  /-- LINK_FRAME_RECEIVE (R402): A Broviry frame arrives and is checked by CRC, LSEQ and MAC, acknowledged or
  answered with a NAK. `acked` is the first LSEQ that the partner's acknowledgements leave unacknowledged. -/
  | linkFrameReceive (link : Nat) (f : Frame) (acked : Nat)
  /-- NAK_RECEIVED (R402): A NAK makes the sender replay its unacknowledged frames, taking the link down after 8
  failures. -/
  | nakReceived (link lseq : Nat)
  /-- DECLASS (R307): A crew-core instruction copies words lowering their class, if fetched from a declassify
  region. -/
  | declass (core fetch src dst n : Nat) (cls : SecClass) (ecc : List Nat)
  /-- GATE_BARRIER (R302): A write of GTE_GATE.BARRIER starts a gate barrier on the gate. -/
  | gateBarrier (gate : Nat)
  /-- GATE_BARRIER_DONE (R301): A gate barrier completes when every access checked under the old table has finished.
  -/
  | gateBarrierDone (gate : Nat)
  /-- YUHILD_REQUEST (R334): A write of LCY_YH_REQ issues a new Yuhild challenge. -/
  | yuhildRequest (scope : BitVec 4)
  /-- YUHILD_SUBMIT (R335): Setting LCY_YH_CTL.SUBMIT starts verification of the response. -/
  | yuhildSubmit
  /-- YUHILD_VERIFY_DONE (R335): Response verification ends with a RESULT code and, on success, a debug unlock. -/
  | yuhildVerifyDone
  /-- DEBUG_ACCESS (R333): A debug-port access is served or refused by life-cycle state and unlock, raising
  DEBUG_ATTEMPT when refused. -/
  | debugAccess (write : Bool) (addr : Nat) (v : W64) (ecc : Bool)
  /-- ALARM_SAMPLE (R340): A detector sample or unit event is filtered and may raise its source. -/
  | alarmSample (samples : List (Nat × Bool))
  /-- LATCH_HOLD_EXPIRE (R342): A level 0 to 3 latch clears after its condition has been absent for HOLD_MS. -/
  | latchHoldExpire (source : Nat)
  /-- LATCH_CLEAR_WRITE (R342): In DRYDOCK a W1C write to LEN_LATCH clears a latch whose condition is absent. -/
  | latchClearWrite (v : W64)
  /-- CELL_SAMPLE (R348): On the cell the lengthsman samples a source on schedule and applies its cell response
  after CELL_N hits. -/
  | cellSample (samples : List (Nat × Bool))
  /-- MAIN_POWER_LOST (R349): PWRGOOD falls, the sentry domain switches to VBAT, a MAIN_LOST entry is written and
  the device enters SENTRY. -/
  | mainPowerLost (vbatOk : Bool)
  /-- MAIN_POWER_RETURN (R349): Main power returns, a MAIN_RETURN entry is written and LAUNCH follows. -/
  | mainPowerReturn
  /-- SENTRY_POWER_LOST (R349): A power-up after total sentry power loss sets COLD and writes a single
  SENTRY_POWER_LOST entry. -/
  | sentryPowerLost
  /-- RESET_N_LOW (R450): A low pulse on RESET_N resets the device, writing the end cause, or if shorter than 10 µs
  raises RESET_GLITCH. -/
  | resetNLow (cycles : Nat) (pwrgoodLow : Bool) (vbatOk : Bool)
  /-- LAUNCH (R360): On power-up or reset the device validates the manifest, starts every unit and ends in SERVICE
  or HALT. -/
  | launch (env : LaunchEnv)
  /-- DRAM_TRAINING_DONE (R457): DRAM training ends, or a failing channel ends LAUNCH in HALT. -/
  | dramTrainingDone (ok : Bool)
  /-- DORMANT_REQUEST (R366): PWR_MODE_REQ DORMANT stops admission and starts the drain to DORMANT. -/
  | dormantRequest (path : Path)
  /-- DORMANT_DRAIN_DONE (R366): With nothing in flight the device ends sessions, writes back the counter cache and
  enters DORMANT. -/
  | dormantDrainDone
  /-- DRAIN_TIMEOUT (R366): The drain is not done within DRAIN_MS, admission resumes and RESULT is DRAIN_TIMEOUT. -/
  | drainTimeout
  /-- RESUME_REQUEST (R368): PWR_MODE_REQ RESUME powers domains and reloads firmware to leave DORMANT. -/
  | resumeRequest (path : Path)
  /-- RESUME_COMPLETE (R368): Resume self-checks end and admission is enabled in SERVICE, or a failure runs LAUNCH. -/
  | resumeComplete (images : List Bytes) (trained : Bool) (lanes tiles engines : List Nat)
  /-- HALT_REQUEST (R364): PWR_MODE_REQ HALT enters HALT. -/
  | haltRequest (path : Path)
  /-- HALT_FLUSH_DONE (R59): The Wharf flush ends, sessions are closed and remaining domains are zeroed and powered
  down. -/
  | haltFlushDone (failed : List (Nat × Nat))
  /-- RESET_REQUEST (R363): PWR_MODE_REQ RESET resets a device in HALT or DORMANT into LAUNCH. -/
  | resetRequest (path : Path)
  /-- FN_STOP (R370): PWR_FN_CTL.STOP stops the selected function. -/
  | fnStop
  /-- FN_CHANGE (R370): PWR_FN_CTL.CHANGE opens the pending copy of a STOPPED function. -/
  | fnChange
  /-- FN_RESTART (R370): PWR_FN_CTL.RESTART applies, validates and latches the pending copy or leaves the function
  STOPPED. -/
  | fnRestart
  /-- DOMAIN_IDLE_GATE (R377): A domain idle for IDLE_US is gated unless its floor forbids. -/
  | domainIdleGate (domain : Nat)
  /-- DOMAIN_WAKE (R377): The Lockmaster, OPEN or JOPEN wakes a gated domain when its work needs it. -/
  | domainWake (domain : Nat)
  /-- DOMAIN_WAKE_DONE (R377): A wake ends after 30 µs including the unit's self-check. -/
  | domainWakeDone (domain : Nat) (pass : Bool)
  /-- DOMAIN_POWER_FAIL (R376): A domain whose power-good does not arrive within 100 µs is FAILED. -/
  | domainPowerFail (domain : Nat)
  /-- AVS_UPDATE (R378): Every 1 ms the VDD_CORE target is revised. -/
  | avsUpdate
  /-- SUPPLY_READING (R378): Every 100 µs the regulator's voltage and current are read for the power cap. -/
  | supplyReading (mv ma10 : Nat)
  /-- DROOP_DETECT (R379): A VDD_CORE droop of 45 mV stretches CLK_CORE cycles. -/
  | droopDetect
  /-- STRETCH_END (R379): Stretching ends 64 cycles after the droop recovers. -/
  | stretchEnd
  /-- THERMAL_SAMPLE (R380): Every 100 µs the junction temperature sets or releases the thermal dispatch fraction. -/
  | thermalSample (temps : List Int)
  /-- POWER_CAP_STEP (R380): Power above the cap for 1 ms or below it for 10 ms steps the cap fraction. -/
  | powerCapStep
  /-- FUNCTION_LEVEL_RESET (R387): An FLR drains and aborts every ring of the function and closes them. -/
  | functionLevelReset (fn : Nat)
  /-- HOT_RESET (R387): A hot reset acts on every ring of every function as an FLR. -/
  | hotReset
  /-- VF_ENABLE_CLEAR (R387): A clear of VF Enable acts on every ring of every function as an FLR. -/
  | vfEnableClear
  /-- PCIE_LINK_DOWN (R386): A PCIe link-down outside DORMANT faults every OPEN ring with CQ_WRITE. -/
  | pcieLinkDown
  /-- PCIE_LINK_UP (R384): The PCIe link comes up and pended messages may be sent. -/
  | pcieLinkUp (gen width vfs : Nat) (bme : List Nat) (masked : List (Nat × Nat))
  /-- TCP_CONNECT (R389): A SYN on the listening port opens a TCP connection or is answered with RST. -/
  | tcpConnect (port : Nat)
  /-- CONTROL_PACKET (R389): ARP, NDP or ICMP echo is answered within its rate limit. -/
  | controlPacket (port : Nat)
  /-- TLS_CLIENT_HELLO (R390): A ClientHello starts a TLS 1.3 handshake with client authentication and tenant
  binding. -/
  | tlsClientHello (session : Nat) (hello : Bytes)
  /-- HANDSHAKE_TIMEOUT (R391): A handshake not finished within HS_MS ends with internal_error and a TCP close. -/
  | handshakeTimeout (session : Nat)
  /-- TLS_SESSION_CLOSE (R394): Closing a TLS session releases its ring bindings. -/
  | tlsSessionClose (session : Nat)
  /-- BIND (R394): An LTP BIND binds a ring to the session, opening a CLOSED ring. -/
  | bind (session ring cqLog : Nat)
  /-- UNBIND (R394): An LTP UNBIND releases a ring binding, optionally closing the ring. -/
  | unbind (session ring : Nat) (close : Bool)
  /-- LTP_BARGE (R395): An LTP v2 BARGE message within credits presents a barge for admission. -/
  | ltpBarge (session ring : Nat) (barge input : Bytes)
  /-- LTP_V1_BARGE (R397): An LTP v1 descriptor is translated to a barge and presented. -/
  | ltpV1Barge (session ring : Nat) (descriptor params input : Bytes)
  /-- LTP_ACK (R395): An LTP ACK advances CQ_HEAD, freeing credits sent in a CREDIT message. -/
  | ltpAck (session ring : Nat) (head : W32)
  /-- LTP_ABORT (R393): An LTP ABORT aborts barges of a bound ring as RING_ABORT does. -/
  | ltpAbort (session ring : Nat) (arg : W64)
  /-- LOOPBACK_START (R399): WHF_LOOP_CTL.START starts a loopback at the selected depth or is refused. -/
  | loopbackStart (v : W64)
  /-- LOOPBACK_END (R399): After DURATION_MS the loopback ends and the link retrains. -/
  | loopbackEnd (checked errors : Nat)
  /-- PARTNER_LOOPBACK (R399): A partner-directed PCIe Loopback is followed or refused. -/
  | partnerLoopback (iface : Nat)
  /-- TOWPATH_READ (R400): An SMBus or SPI target register read command returns data by its limit tick. -/
  | towpathRead (path : Path) (addr : Nat) (ready : Bool)
  /-- TOWPATH_READ_TIMEOUT (R400): A towpath read without data by its limit tick returns a count of 0 or ready byte
  0xA5. -/
  | towpathReadTimeout (path : Path)
  /-- TOWPATH_WRITE (R400): A towpath write command is accepted only for the mode-request register. -/
  | towpathWrite (path : Path) (addr : Nat) (v : W64)
  /-- GPIO_INPUT_CHANGE (R446): A module-absent, loss-of-signal or drive-presence GPIO changes and its port or drive
  follows. -/
  | gpioInputChange (pin : Nat) (level : Bool)
  /-- LINK_UP_ATTEMPT (R406): A Broviry link trains, attests, derives keys and checks time to come UP. -/
  | linkUpAttempt (link : Nat) (trained : Bool) (peer : PeerHello)
  /-- LINK_UP_RETRY (R403): A down link retries link-up every 1 ms while its function runs. -/
  | linkUpRetry (link : Nat)
  /-- HEARTBEAT_SEND (R403): Every 1,000 ticks a heartbeat is sent on each link that is up. -/
  | heartbeatSend
  /-- HEARTBEAT_TIMEOUT (R403): A link with no heartbeat by its limit tick goes down. -/
  | heartbeatTimeout (link : Nat)
  /-- PAIR_KEY_AGREE (R407): A joined device agrees a pair key with another live device. -/
  | pairKeyAgree (dev : Nat) (peer : PeerHello)
  /-- MAP_SWITCH (R408): At switch tick S every member applies a membership map update. -/
  | mapSwitch
  /-- HALT_NOTICE_RECEIVE (R416): A received halt or withdraw notice makes the coordinator declare the device lost. -/
  | haltNoticeReceive (dev : Nat) (withdraw : Bool)
  /-- FORWARD_BARGE (R412): A head forwards a barge to its home once it holds a credit. -/
  | forwardBarge (barge : Nat) (r : XferReturn)
  /-- FORWARDED_BARGE_RECEIVE (R412): A home admits a forwarded barge on the arrival link's port with the carried
  values. -/
  | forwardedBargeReceive (link : Nat) (fb : FwdBarge)
  /-- FORWARDED_COMPLETION_RECEIVE (R413): A head records a forwarded barge's completion, or discards a late one. -/
  | forwardedCompletionReceive (home ring seq : Nat) (comp : Comp) (output : Option Bytes)
  /-- ABORT_FRAME_RECEIVE (R413): A home applies an abort frame from a head. -/
  | abortFrameReceive (head ring : Nat) (arg : W64)
  /-- REPLICATION_RECEIVE (R414): A replica commits sealed records from the home and acknowledges. -/
  | replicationReceive (dev : Nat) (sealed : Bytes)
  /-- REPLICATION_ACK_RECEIVE (R414): The home commits after the replica's acknowledgement and releases the
  completion. -/
  | replicationAckReceive (dev commit : Nat)
  /-- CLUSTER_JOIN (R418): A device joining through the coordinator discards its founding records and enters resync.
  -/
  | clusterJoin
  /-- RESYNC_COMPLETE (R418): A bucket's resync stream ends and the next map update returns it to NORMAL. -/
  | resyncComplete (bucket : Nat)
  /-- TIME_SYNC_SEND (R419): Every 1,000 ticks time sync frames are sent. -/
  | timeSyncSend
  /-- TIME_SYNC_RECEIVE (R419): A time sync frame makes a device correct its device time by one tick. -/
  | timeSyncReceive (link masterTime delay : Nat)
  /-- LOG_RECORD_ENTER (R425): A record leaves the ingress queue, takes its SEQ and enters the logbook ring. -/
  | logRecordEnter
  /-- ARCHIVE_COPY (R430): Records are copied in SEQ order to the DRAM logbook archive. -/
  | archiveCopy (r : DramReturn)
  /-- RATE_WINDOW_REFILL (R428): At each 1 ms window start every code's token bucket refills and SUPPRESSED records
  are written. -/
  | rateWindowRefill
  /-- LOG_CURSOR_SEEK (R436): A PF write of LOG_CURSOR sets the cursor and takes a new window copy. -/
  | logCursorSeek (v : W64)
  /-- LOG_NEXT_READ (R436): A read of LOG_NEXT advances the cursor by AVAIL words and takes a new copy. -/
  | logNextRead (path : Path)
  /-- TCP_KEEPALIVE (R389): After 60 s without traffic on a TCP connection the device starts keepalive probes. -/
  | tcpKeepalive (session : Nat)
  /-- CLIENT_FINISHED (R391): The client's Certificate, CertificateVerify and Finished flight arrives; the chain and
  tenant extension are checked and the session is bound to its tenant or the handshake fails. -/
  | clientFinished (session : Nat) (chain : List Bytes) (flight : Bytes)
  /-- TLS_KEY_UPDATE (R390): A KeyUpdate from the client replaces the session's receive traffic key in its lane
  slot. -/
  | tlsKeyUpdate (session : Nat)
  /-- LTP_MALFORMED_MESSAGE (R396): An LTP message with an unknown TYPE, a bad LENGTH or non-zero reserved bytes is
  answered with ERROR MALFORMED, and the session is closed. -/
  | ltpMalformedMessage (session : Nat)
  /-- RAW_BUFFER_FEED (R266): In raw-sample mode each 64 raw bits from the selected source enter the 1,024-word raw
  buffer, or are dropped and counted in DROPPED when it is full. -/
  | rawBufferFeed (v : W64)
  deriving DecidableEq, Repr

end Sys2Proof
end

