-- ==== Sys2Proof/Config.lean ====
section
/-! DEFINITION. What an implementation fixes and what the spec leaves open: every constant here is opaque (no body),
so that no proof can see a value of it. The first part stands for the published standards whose text the spec leaves
out (spec/00_scope.md, "Text of published standards"; notes/assumptions/4.md); the second part for layouts, codes and
hashes the spec names and does not give; the third for values the spec leaves open. -/

namespace Sys2Proof.Config

/-! ### Published standards, uninterpreted -/

/-- A value of a standard's function at the length the standard gives it. Log 4, DESIGN CHOICE. -/
def sized (n : Nat) (bs : Bytes) : Bytes := bs.take n ++ List.replicate (n - bs.length) 0

@[simp] theorem sized_length (n : Nat) (bs : Bytes) : (sized n bs).length = n := by
  simp [sized]
  omega

/-- The function that `aesEnc` cuts to its length. Log 4, DESIGN CHOICE. -/
opaque aesEncText : Bytes → Bytes → Bytes
/-- AES (FIPS 197): key of 16, 24 or 32 bytes, one 16-byte block enciphered. -/
def aesEnc (k : Bytes) (b : Bytes) : Bytes := sized 16 (aesEncText k b)
/-- The function that `aesDec` cuts to its length. -/
opaque aesDecText : Bytes → Bytes → Bytes
/-- AES deciphering. -/
def aesDec (k : Bytes) (b : Bytes) : Bytes := sized 16 (aesDecText k b)
/-- The function that `tdesEnc` cuts to its length. Log 4, DESIGN CHOICE. -/
opaque tdesEncText : Bytes → Bytes → Bytes
/-- Two-key or three-key TDES, one 8-byte block enciphered. -/
def tdesEnc (k : Bytes) (b : Bytes) : Bytes := sized 8 (tdesEncText k b)
/-- The function that `tdesDec` cuts to its length. -/
opaque tdesDecText : Bytes → Bytes → Bytes
/-- TDES deciphering. -/
def tdesDec (k : Bytes) (b : Bytes) : Bytes := sized 8 (tdesDecText k b)
/-- The function that `desEnc` cuts to its length. -/
opaque desEncText : Bytes → Bytes → Bytes
/-- Single DES enciphering under an 8-byte key. -/
def desEnc (k : Bytes) (b : Bytes) : Bytes := sized 8 (desEncText k b)
/-- The function that `desDec` cuts to its length. -/
opaque desDecText : Bytes → Bytes → Bytes
/-- Single DES deciphering. -/
def desDec (k : Bytes) (b : Bytes) : Bytes := sized 8 (desDecText k b)
/-- The function that `cmac` cuts to its length. Log 4, DESIGN CHOICE. -/
opaque cmacText : Bytes → Bytes → Bytes
/-- AES-CMAC (NIST SP 800-38B), 16 bytes: key, message. -/
def cmac (k : Bytes) (m : Bytes) : Bytes := sized 16 (cmacText k m)
/-- The function that `mac1` cuts to its length. -/
opaque mac1Text : Bytes → Nat → Bytes → Bytes
/-- ISO 9797-1 MAC algorithm 1 with TDES: key, padding method, message. -/
def mac1 (k : Bytes) (p : Nat) (m : Bytes) : Bytes := sized 8 (mac1Text k p m)
/-- The function that `mac3` cuts to its length. -/
opaque mac3Text : Bytes → Nat → Bytes → Bytes
/-- ISO 9797-1 MAC algorithm 3 with two-key TDES: key, padding method (0: none), message. -/
def mac3 (k : Bytes) (p : Nat) (m : Bytes) : Bytes := sized 8 (mac3Text k p m)
/-- The function that `kmac256` cuts to its length. Log 4, DESIGN CHOICE. -/
opaque kmac256Text : Bytes → Bytes → Nat → Bytes → Bytes
/-- KMAC256(K, X, L, S) of NIST SP 800-185: key, input, output length in bits, customisation string. -/
def kmac256 (k : Bytes) (x : Bytes) (bits : Nat) (c : Bytes) : Bytes := sized (bits / 8) (kmac256Text k x bits c)
/-- The function that `kmac128` cuts to its length. -/
opaque kmac128Text : Bytes → Bytes → Nat → Bytes → Bytes
/-- KMAC128, as `kmac256`. -/
def kmac128 (k : Bytes) (x : Bytes) (bits : Nat) (c : Bytes) : Bytes := sized (bits / 8) (kmac128Text k x bits c)
/-- The function that `shake256` cuts to its length. Log 4, DESIGN CHOICE. -/
opaque shake256Text : Bytes → Nat → Bytes
/-- SHAKE256: input, output length in bytes. -/
def shake256 (m : Bytes) (n : Nat) : Bytes := sized n (shake256Text m n)
/-- The function that `sha1` cuts to its length. -/
opaque sha1Text : Bytes → Bytes
/-- SHA-1 (the option B derivation of R117). -/
def sha1 (m : Bytes) : Bytes := sized 20 (sha1Text m)
/-- The function that `hash` cuts to its length. Log 4, DESIGN CHOICE. -/
opaque hashText : Nat → Bytes → Bytes → Bytes → Nat → Bytes
/-- The hash of R134's code: code, function name, customisation string, message, output length in bytes. -/
def hash (alg : Nat) (f : Bytes) (c : Bytes) (m : Bytes) (n : Nat) : Bytes := sized n (hashText alg f c m n)
/-- HMAC by R125's algorithm code: code, key, message. -/
opaque hmac : Nat → Bytes → Bytes → Bytes
/-- The function that `gcmEnc` cuts to its length. Log 4, DESIGN CHOICE. -/
opaque gcmEncText : Bytes → Bytes → Bytes → Bytes → Bytes
/-- AES-GCM ciphertext: key, 12-byte nonce, additional data, plaintext. -/
def gcmEnc (k : Bytes) (n : Bytes) (a : Bytes) (m : Bytes) : Bytes := sized m.length (gcmEncText k n a m)
/-- The function that `gcmDec` cuts to its length. -/
opaque gcmDecText : Bytes → Bytes → Bytes → Bytes → Bytes
/-- AES-GCM plaintext from ciphertext: key, nonce, additional data, ciphertext. -/
def gcmDec (k : Bytes) (n : Bytes) (a : Bytes) (m : Bytes) : Bytes := sized m.length (gcmDecText k n a m)
/-- The function that `gcmTag` cuts to its length. -/
opaque gcmTagText : Bytes → Bytes → Bytes → Bytes → Bytes
/-- AES-GCM 16-byte tag over additional data and ciphertext: key, nonce, additional data, ciphertext. -/
def gcmTag (k : Bytes) (n : Bytes) (a : Bytes) (m : Bytes) : Bytes := sized 16 (gcmTagText k n a m)
/-- The function that `xtsEnc` cuts to its length. Log 4, DESIGN CHOICE. -/
opaque xtsEncText : Bytes → Nat → Bytes → Bytes
/-- XTS-AES-256 of one data unit: 64-byte key pair, data unit number, data. -/
def xtsEnc (k : Bytes) (n : Nat) (m : Bytes) : Bytes := sized m.length (xtsEncText k n m)
/-- The function that `xtsDec` cuts to its length. -/
opaque xtsDecText : Bytes → Nat → Bytes → Bytes
/-- XTS-AES-256 deciphering. -/
def xtsDec (k : Bytes) (n : Nat) (m : Bytes) : Bytes := sized m.length (xtsDecText k n m)
/-- The function that `ed448Public` cuts to its length. -/
opaque ed448PublicText : Bytes → Bytes
/-- Ed448 public key of a 57-byte private key. -/
def ed448Public (k : Bytes) : Bytes := sized 57 (ed448PublicText k)
/-- The function that `ed448Sign` cuts to its length. -/
opaque ed448SignText : Bytes → Bytes → Bytes → Bytes
/-- Ed448 signature: private key, context, message. -/
def ed448Sign (k : Bytes) (c : Bytes) (m : Bytes) : Bytes := sized 114 (ed448SignText k c m)
/-- Ed448 verification: public key, context, message, signature. Log 4, DESIGN CHOICE. -/
opaque ed448Verify : Bytes → Bytes → Bytes → Bytes → Bool
/-- The function that `x448` cuts to its length. Log 4, DESIGN CHOICE. -/
opaque x448Text : Bytes → Bytes → Bytes
/-- X448: scalar, u-coordinate. -/
def x448 (k : Bytes) (u : Bytes) : Bytes := sized 56 (x448Text k u)
/-- The function that `x448Public` cuts to its length. -/
opaque x448PublicText : Bytes → Bytes
/-- X448 public value of a scalar. -/
def x448Public (k : Bytes) : Bytes := sized 56 (x448PublicText k)
/-- CTR_DRBG instantiation (SP 800-90A): entropy, personalisation string; the internal state as bytes. Log 4, DESIGN CHOICE. -/
opaque drbgInstantiate : Bytes → Bytes → Bytes
/-- CTR_DRBG reseed: state, entropy. -/
opaque drbgReseed : Bytes → Bytes → Bytes
/-- The function that `drbgGenerate` cuts to its length. -/
opaque drbgGenerateText : Bytes → Nat → Bytes
/-- CTR_DRBG generate: state, number of bytes; the output. -/
def drbgGenerate (v : Bytes) (n : Nat) : Bytes := sized n (drbgGenerateText v n)
/-- CTR_DRBG generate: state, number of bytes; the state after. -/
opaque drbgNext : Bytes → Nat → Bytes
/-- The working key or initial key of DUKPT under ANSI X9.24: BDK, KSN, working-key type of R106 (or 255 for the initial
key), usage code. Log 4, DESIGN CHOICE. -/
opaque dukptKey : Bytes → Bytes → Nat → Nat → Bytes
/-- The host bus address of a function's MSI-X table entry, which the host sets (R384). Log 42. -/
opaque msixAddr : Nat → Nat → Nat
/-- What the derivation data or the variant of a DUKPT working key selects (R213, profiles 2 and 5): a PIN key or a MAC key, and its type, of
which the residue modulo 5 is a code of R106's WK_TYPE. -/
opaque dukptChild : Bytes → Bool × Nat
/-- The enciphered key and the MAC of an ANSI X9.143 key block, as hexadecimal characters: protection key, the characters of the header with
its optional blocks, key, random padding. Log 4, DESIGN CHOICE. -/
opaque keyBlockSeal : Bytes → Bytes → Bytes → Bytes → Bytes
/-- The length in bytes of the key that an ANSI X9.143 key block carries, as its enciphered length field gives it. -/
opaque keyBlockSize : Bytes → Nat
/-- The content of a time stamp block, TS: the calendar. Log 68. -/
opaque timeStamp : Nat → Bytes
/-- Whether the key block's MAC verifies under the protection key. -/
opaque keyBlockMacOk : Bytes → Bytes → Bool
/-- The key an accepted block carries: protection key, block. -/
opaque keyBlockKey : Bytes → Bytes → Bytes
/-- TR-34: the certificate's signature verifies under the authority's public part and its dates hold: authority key,
certificate, calendar. -/
opaque tr34CertOk : Bytes → Bytes → Nat → Bool
/-- TR-34: the token's signature verifies under the certificate's key. -/
opaque tr34TokenOk : Bytes → Bytes → Bool
/-- TR-34: the transported key's attributes (usage, algorithm, mode, exportability) and the key, under the private key. -/
opaque tr34Open : Bytes → Bytes → Option (Nat × Nat × Nat × Nat × Bytes)
/-- TR-34: a one-pass token: key, its label bytes, signing key, receiver certificate, randomness. Log 4, DESIGN CHOICE. -/
opaque tr34Token : Bytes → Bytes → Bytes → Bytes → Bytes → Bytes
/-- The public part of a generated key, in the encoding of R243: ALG, SIZE, private part. -/
opaque asymPublic : Nat → Nat → Bytes → Bytes
/-- The private part of a generated key from random bytes: ALG, SIZE, randomness. -/
opaque asymPrivate : Nat → Nat → Bytes → Bytes
/-- A signature: [SCHEME, HASH, PREHASH, SALT_LEN, SIZE], context, private part, randomness, message. Log 4, DESIGN CHOICE. -/
opaque asymSign : List Nat → Bytes → Bytes → Bytes → Bytes → Bytes
/-- Signature verification: [SCHEME, HASH, PREHASH, SALT_LEN, SIZE], context, public part, signature, message. -/
opaque asymVerify : List Nat → Bytes → Bytes → Bytes → Bytes → Bool
/-- RSA-OAEP encryption: HASH, label, public part, randomness, message. -/
opaque oaepEnc : Nat → Bytes → Bytes → Bytes → Bytes → Bytes
/-- RSA-OAEP decryption: HASH, label, private part, ciphertext; none where decoding fails. -/
opaque oaepDec : Nat → Bytes → Bytes → Bytes → Option Bytes
/-- Whether an RSA private result checks with e before release (R247). -/
opaque rsaSelfCheck : Bytes → Bytes → Bool
/-- The shared secret of AGREE: SCHEME, private part, peer's public value. -/
opaque agree : Nat → Bytes → Bytes → Bytes
/-- The order n of the NIST curve of a SIZE, and the group order L of an Edwards curve of a SCHEME. -/
opaque groupOrder : Nat → Nat
/-- Whether a public point or u-coordinate passes the tests of R243's step 11 that need the curve: SCHEME, SIZE, bytes. -/
opaque pointOk : Nat → Nat → Bytes → Bool
/-- ML-KEM encapsulation: SIZE, encapsulation key, randomness; ciphertext and shared secret. -/
opaque mlkemEncaps : Nat → Bytes → Bytes → Bytes × Bytes
/-- ML-KEM decapsulation with implicit rejection: SIZE, seed, ciphertext. -/
opaque mlkemDecaps : Nat → Bytes → Bytes → Bytes
/-- Whether every decoded coefficient of an encapsulation key is below 3,329. -/
opaque mlkemKeyOk : Nat → Bytes → Bool
/-- Shamir share x of a 32-byte secret with threshold K: secret, randomness, K, x. -/
opaque shamirShare : Bytes → Bytes → Nat → Nat → Bytes
/-- The secret rebuilt from (index, share) pairs. -/
opaque shamirCombine : List (Nat × Bytes) → Bytes
/-- The part of an X.509 certificate that is signed (R326): serial number, start and end of its validity, public key, content of the
extension. -/
opaque certTbs : Bytes → Bytes → Bytes → Bytes → Bytes → Bytes
/-- A certificate of its signed part and signature (R326). -/
opaque certSigned : Bytes → Bytes → Bytes
/-- A TLS client chain under R391: chain, anchors, calendar (none: dates not checked); the tenant of the leaf's
extension where everything verifies. -/
opaque tlsClientTenant : Bytes → List Bytes → Bytes → Option Nat → Option Nat
/-- A TLS client's Finished flight verifies against the transcript. -/
opaque tlsFinishedOk : Bytes → Bool
/-- A traffic key and IV derived in a TLS handshake or key update: seed material, generation. Log 47, DEDUCED. -/
opaque tlsTrafficKey : Bytes → Nat → Bytes
/-- CRC-32C. Log 4, DESIGN CHOICE. -/
opaque crc32c : Bytes → Nat

/-! ### Layouts, hashes and codes the spec names and does not give -/

/-- The bucket hash of R185. Log 38, DEDUCED. -/
opaque bucketHash : Nat → Nat
/-- The boot ROM image (R318, MR0). -/
opaque bootRom : Bytes
/-- The LOG_RATE capacity and refill of a code in a firmware image (LOG_RATE: "Loaded from the firmware image"). -/
opaque logRate : Bytes → Nat → Nat × Nat
/-- The declassify list of a firmware image (R300): ranges of 64-byte granules, base and limit. -/
opaque declassList : Bytes → List (Nat × Nat)
/-- A record code within the range R426 gives a kind of record: kind number. Log 10, DESIGN CHOICE. -/
opaque logCode : Nat → Nat
/-- The VDD_CORE target of the fused curve (R378), in steps of 5 mV above 650 mV: junction temperature in quarter degrees, device time,
by which the ageing margin grows. -/
opaque avsTarget : Int → Nat → Nat
/-- Whether a client's ClientHello offers what R390 supports. -/
opaque helloOk : Bytes → Bool
/-- Whether a ClientHello carries a key share of the group R390 selects; if not, HelloRetryRequest follows. -/
opaque helloShare : Bytes → Bool
/-- The ALPN of a ClientHello: 1 "lyszo-ltp1", 2 "lyszo-ltp2", another number where both or neither are offered. -/
opaque helloAlpn : Bytes → Nat

/-- A configuration record of TYPE with its body, parsed; the byte layouts of MEMORY, TENANT, QUORUM, TAMPER, GATE, ENGINE,
CLOCK and RNG are the spec's but not given in it (log 11). None: LEN or a field does not fit the record. -/
opaque parseRecord : Nat → Bytes → Option Record
/-- The value of an OTP slot as the part was shipped (log 18). -/
opaque otpValue : Nat → Bytes
/-- The DevID certificate in user flash as the part was shipped (log 18). -/
opaque devIdCert : Bytes
/-- A body word of a logbook record whose bit places the spec does not give: kind of record, the values it holds. Log 11, DESIGN CHOICE. -/
opaque logWord : Nat → List Nat → W64
/-- The number of moorings the cargo log sectors hold: words of the logbook archive sectors of a store. -/
opaque logSectorWords : Nat → Nat
/-- Entries a logbook ingress queue holds (R437 gives no number). Log 37, DESIGN CHOICE. -/
opaque ingressPlaces : Nat
/-- The LBA of an overflow sector of a bucket: the store layout's chain, by bucket and place (R185). -/
opaque overflowLba : Nat → Nat → Nat
/-- The 32-bit tag entry of a record in its set's tag line of the cargo cache (R182): handle, chain index. -/
opaque cacheTag : Nat → Nat → Nat
/-- The 64 bytes of a barge's entry in the ready-list basin (R77): barge-table index, admission order, deadline. -/
opaque basinEntry : Nat → Nat → Nat → Bytes
/-- The STORE_ID that the plaintext of a superblock holds (R184): its layout is not given. Log 11, DESIGN CHOICE. -/
opaque superblockStore : Bytes → Nat
/-- Where a ring's part of the LTP completion store, and its barges' parts of the output pool, lie in their areas, in lines (R56): ring,
number. -/
opaque ltpPlace : Nat → Nat → Nat
/-- Where a record's words lie in the logbook archive in DRAM, in lines (R430): the record's SEQ. -/
opaque archivePlace : Nat → Nat
/-- The slot of a record in its bucket's sectors (R185): handle, chain index. -/
opaque storeSlot : Nat → Nat → Nat
/-- Crew-core cycles of a key generation or an ML-DSA signature, which vary (R241, R253): opcode, SIZE, randomness.
Log 16, DESIGN CHOICE. -/
opaque variableCycles : Nat → Nat → Bytes → Nat
/-- The item a measurement register is extended with where the spec names what it holds and not its bytes (R318): register, numbers,
byte strings. Log 46, DESIGN CHOICE. -/
opaque measureItem : Nat → List Nat → List Bytes → Bytes
/-- A message of a Broviry link-up, or the two messages of its transcript, as bytes: numbers, byte strings (R406). -/
opaque linkHello : List Nat → List Bytes → Bytes
/-- The raw output of a hash engine: ALG of R223, HMAC, key register, absorbed bytes, output length (R223). -/
opaque engineHash : Nat → Bool → Bytes → Bytes → Nat → Bytes

/-! ### Values the spec leaves open -/

/-- A fresh unconstrained byte string: the free counter of the state, a length. -/
opaque freeBytes : Nat → Nat → Bytes
/-- A fresh unconstrained number. -/
opaque freeNat : Nat → Nat
/-- A fresh unconstrained 64-bit word. -/
opaque freeWord : Nat → W64

end Sys2Proof.Config
end

