-- ==== Sys2Proof/Machine/State.lean ====
section
/-! DEFINITION. The state of the LT7200 block: plain data holding every register, table, queue, mode, counter and pin the
spec gives the machine, and the commands that wait, first in, first out. Each field's docstring names what it is, the rule of
spec/ that gives it and its value at reset (its default here); "dash" marks a register field whose Reset column is a dash,
which reads as the default given here until loaded (DESIGN CHOICE, notes/assumptions/1.md). Sparse tables (`Tbl`) list only
what differs from the stated default of an unlisted key. -/

namespace Sys2Proof.Machine

/-! ### Time, modes, rings and the Lockmaster (01_architecture.md, 02_barges_and_rings.md, 03_lockmaster_scheduling.md) -/

/-- The modes of R362; SENTRY is the absence of main power. -/
inductive Mode where
  | sentry
  | dormant
  | launch
  | service
  | drydock
  | halt
  deriving DecidableEq, Repr

/-- Time bases (R16, R349) and main power. -/
structure Clock where
  /-- Device time in ticks of 10 ns, GLB_TIME, 64 bits as read (R16); reset 0. -/
  dtime : Nat := 0
  /-- Sentry time in ticks of 32.768 kHz, LEN_SENTRY_TIME, 48 bits as read (R338); reset 0. -/
  stime : Nat := 0
  /-- Phase of the sentry tick in 4,096ths of a device tick, the model's own (log 9); reset DESIGN CHOICE 0. -/
  phase : Nat := 0
  /-- Main power is present (R362); reset true. -/
  mainPower : Bool := true
  /-- PWR_CLOCK.LOCK: root PLL locked (R449); reset 0. -/
  pllLock : Bool := false
  /-- Device tick from which PWRGOOD has been high with the PLL locked (R339); reset 0. -/
  goodSince : Nat := 0
  /-- Latched high halves of GLB_TIME, by path number (R16); reset none. -/
  latched : Tbl W32 := []
  /-- The cluster correction of the next tick: what it adds instead of 1 (R419); reset none. -/
  correct : Option Nat := none
  /-- Tick of the last correction (R419); reset 0. -/
  corrected : Nat := 0
  /-- Ticks that a joining device ahead of the master still holds at add-0 (R419); reset 0. -/
  hold : Nat := 0
  deriving DecidableEq, Repr

/-- The GLB registers (01_architecture.md, "GLB registers"). -/
structure Glb where
  /-- GLB_STATUS.MODE and SENTRY (R362); reset LAUNCH (2). -/
  mode : Mode := .launch
  /-- PWR_MODE_STATUS.PREV_MODE: the mode before the last transition; reset 0 (SENTRY). -/
  prevMode : Mode := .sentry
  /-- GLB_STATUS.ADMIT; reset 0. -/
  admitting : Bool := false
  /-- GLB_INT_STATUS bits 5:0 (R25); reset 0. -/
  intStatus : BitVec 6 := 0
  /-- GLB_INT_ENABLE bits 5:0; reset 0. -/
  intEnable : BitVec 6 := 0
  /-- GLB_INT_VECTOR bits 11:0; reset 0. -/
  intVector : BitVec 12 := 0
  deriving DecidableEq, Repr

/-- The states of a ring, RING_CTL.STATE. -/
inductive RingState where
  | closed
  | opened
  | draining
  | stopped
  | faulted
  deriving DecidableEq, Repr

/-- A barge fetched and waiting at its admission port (R12, R49), with LTP input bytes where it came over LTP (R395) and
whether it came over LTP v1 (R397). -/
structure Waiting where
  b : Barge
  input : Option Bytes
  v1 : Bool
  deriving DecidableEq, Repr

/-- A released completion not yet written: the barge-table index it occupies (none for an epoch-change completion or a held
completion whose entry is its own), the completion, FLAGS.IRQ, output bytes for an LTP client, and whether it goes out in the
v1 form. -/
structure Pending where
  idx : Option Nat
  comp : Comp
  irq : Bool
  out : Option Bytes
  v1 : Bool
  deriving DecidableEq, Repr

/-- One ring pair (02_barges_and_rings.md, ring table; R48 to R56). -/
structure Ring where
  /-- RING_SQ_BASE.BASE as a bus address, bits 42:12; reset 0. -/
  sqBase : Nat := 0
  /-- RING_SQ_BASE.SQ_LOG, 5 bits; reset 0. -/
  sqLog : Nat := 0
  /-- RING_CQ_BASE.BASE as a bus address, bits 42:12; reset 0. -/
  cqBase : Nat := 0
  /-- RING_CQ_BASE.CQ_LOG, 5 bits; reset 0. -/
  cqLog : Nat := 0
  /-- RING_SQ_PTR.SQ_TAIL, 32 bits; reset 0. -/
  sqTail : W32 := 0
  /-- RING_SQ_PTR.SQ_HEAD, 32 bits; reset 0. -/
  sqHead : W32 := 0
  /-- RING_CQ_PTR.CQ_HEAD, 32 bits; reset 0. -/
  cqHead : W32 := 0
  /-- RING_CQ_PTR.CQ_TAIL, 32 bits; reset 0. -/
  cqTail : W32 := 0
  /-- RING_CTL.MSIX_VEC, 12 bits; reset 0. -/
  msixVec : Nat := 0
  /-- RING_CTL.COAL_COUNT, 16 bits; reset 0. -/
  coalCount : Nat := 0
  /-- RING_CTL.COAL_TIME, µs, 16 bits; reset 0. -/
  coalTime : Nat := 0
  /-- RING_CTL.STATE; reset CLOSED. -/
  st : RingState := .closed
  /-- RING_CTL.ERR; reset 0. -/
  err : Nat := 0
  /-- Slots fetched, a free-running 32-bit count (R49); reset 0. -/
  fetched : W32 := 0
  /-- A slot read is outstanding: slots asked for (R49); reset 0. -/
  fetching : Nat := 0
  /-- Fetched barges waiting at the port, ring order (R12, R49); reset empty. -/
  port : List Waiting := []
  /-- Admitted barges whose completion is not yet written, with an unwritten epoch-change completion (R50, R51); reset 0. -/
  inFlight : Nat := 0
  /-- Released completions not yet written, and held completions, release order (R49); reset empty. -/
  relq : List Pending := []
  /-- The epoch-change completion not yet written, ahead of `relq` (R49, R51); reset none. -/
  epochComp : Option Comp := none
  /-- The ring has been opened in this epoch (R51); reset false. -/
  openedInEpoch : Bool := false
  /-- Completions are held: ERR is CQ_WRITE (R49, R52); reset false. -/
  holding : Bool := false
  /-- Completions of `relq` that a re-arm or a reopen writes before it admits a barge (R51, R52); reset 0. -/
  heldLeft : Nat := 0
  /-- Unsignalled completions (R53); reset 0. -/
  unsig : Nat := 0
  /-- Tick of the first unsignalled completion (R53); reset none. -/
  coalFrom : Option Nat := none
  /-- An FLR or hot reset drains the ring: its completions are discarded (R387); reset false. -/
  flr : Bool := false
  /-- Session bound to an LTP ring (R394); reset none. -/
  bound : Option Nat := none
  /-- LTP completion store: completions queued and not acknowledged, CQ order, with output bytes and their pool
  reservation (R54 to R56); reset empty. -/
  store : List (Comp × Option Bytes × Nat × Bool) := []
  /-- BARGE messages counted since the BIND, 32 bits (R395); reset 0. -/
  received : W32 := 0
  /-- Credit limit granted, 32-bit free-running (R395); reset 0. -/
  creditLimit : W32 := 0
  /-- LTP v1: H, 16 bits (R397); reset 0. -/
  v1High : Nat := 0
  /-- LTP v1: previous SEQ16 (R397); reset none. -/
  v1Last : Option Nat := none
  deriving DecidableEq, Repr

/-- Where a queued barge's ready-list entry is (R75). -/
inductive Place where
  | general
  | reserved
  | basin
  deriving DecidableEq, Repr

/-- The phase of an admitted barge (03_lockmaster_scheduling.md); parked: the park tick and the handles whose page-ins it
waits for (R66, R171). -/
inductive Phase where
  | queued (p : Place)
  | parked (tick : Nat) (waits : List Nat)
  | running (core : Nat)
  | forwarded (home : Nat)
  | done
  deriving DecidableEq, Repr

/-- The origin of a barge that another device forwarded (R412). -/
structure Origin where
  head : Nat
  epoch : Nat
  ring : Nat
  link : Nat
  deriving DecidableEq, Repr

/-- An admitted barge: its barge-table entry (R9, R12). -/
structure Entry where
  /-- The barge (R37). -/
  b : Barge
  /-- Ring it was admitted on. -/
  ring : Nat
  /-- Tenant (RING_CFG.TENANT, or carried under R412). -/
  tenant : Nat
  /-- Admission order, total (R63). -/
  order : Nat
  /-- Device time of admission (R12). -/
  admitTick : Nat
  /-- Absolute deadline (R12). -/
  deadline : Nat
  /-- MISS_POLICY FAIL_EXPIRED at admission or as carried (R65). -/
  failExpired : Bool
  /-- PAGE_TIMEOUT (R66). -/
  pageTimeout : Nat
  /-- Ordered flow, if its ring is bound to one (R69). -/
  flow : Option Nat
  /-- Phase. -/
  ph : Phase
  /-- Handles on whose moorings it holds eviction locks (R67). -/
  locks : List Nat := []
  /-- It occupies a chamber entry (R70). -/
  chamber : Bool := false
  /-- Its completion, once formed and not released (R71). -/
  comp : Option Comp := none
  /-- Output bytes that go with the completion over LTP or to a head (R395, R412). -/
  outBytes : Option Bytes := none
  /-- LTP input bytes (R395), or input of data frames (R412). -/
  input : Option Bytes := none
  /-- LTP output pool reservation in bytes (R56). -/
  pool : Nat := 0
  /-- Received over LTP v1 (R397). -/
  v1 : Bool := false
  /-- Origin, if forwarded here (R412). -/
  origin : Option Origin := none
  /-- Its change waits for the replica's acknowledgement or its commit tick (R60, R414). -/
  committing : Bool := false
  /-- Its commit has its commit tick (R60). -/
  committed : Bool := false
  /-- A barge that asks every member of a cluster (R411, R415): the members that have not answered and the answers. -/
  asked : Option (List Nat × List Comp) := none
  deriving DecidableEq, Repr

/-- What a service left for the completion (R43): status, RESULT bytes, OUT_LEN, output-buffer bytes. -/
structure Outcome where
  status : Nat
  result : Bytes := []
  outLen : Nat := 0
  out : Option Bytes := none
  deriving DecidableEq, Repr

/-- A lane context, held by a crew core or by the diagnostic registers (08_cipher_lanes_and_hash.md R202). -/
structure LaneCtx where
  /-- Lane. -/
  lane : Nat
  /-- Tenant named at OPEN. -/
  tenant : Nat
  /-- Slots the context holds, at most 8: the lane's slot by the number the context's commands name (R203). -/
  slots : Tbl Nat := []
  /-- Nonce register: 12 bytes (R214); none before the first NONCE. -/
  nonce : Option Bytes := none
  /-- Slot of the nonce register. -/
  nonceSlot : Nat := 0
  /-- NMODE of the nonce: GCM. -/
  gcm : Bool := false
  /-- Last KSTREAM BLKIDX under the nonce. -/
  lastIdx : Nat := 0
  /-- TAG has run under the nonce. -/
  tagged : Bool := false
  /-- HOLD was issued: KSTREAM_D writes the held buffer (R217). -/
  holding : Bool := false
  /-- A HOLD waits for zeroing to end (R217). -/
  holdWaits : Bool := false
  /-- A NONCE of slot and mode waits for its lease commit (R181). -/
  nonceWaits : Option (Nat × Bool) := none
  /-- A diagnostic context (R226). -/
  diag : Bool := false
  /-- A LOAD or STORE waits for the KDU. -/
  waiting : Bool := false
  /-- Its barge has ended: it closes at the end of the command in progress (R221). -/
  closing : Bool := false
  deriving DecidableEq, Repr

/-- A command of a lane context, a hash engine or a tile job as its FIFO holds it (R208, R223, R230): its OP, the command word, the data
words, the label given with a key's first part (R211, R213), and what its check will find (R215, R234). -/
structure UnitCmd where
  op : Nat
  cmd : W64
  data : List TWord
  label : List TWord
  mism : Nat
  deriving DecidableEq, Repr

/-- The states of a crew core's held buffer (R217). -/
inductive HeldState where
  | closed
  | holding
  | released (cls : SecClass)
  | zeroing
  deriving DecidableEq, Repr

/-- A tile job, held by a crew core or by the diagnostic registers (09_bignum_engine_and_asymmetric.md R228). -/
structure Job where
  /-- Tile. -/
  tile : Nat
  /-- First window, 0 to 7. -/
  base : Nat
  /-- Windows: 1, 2, 4 or 8. -/
  size : Nat
  /-- Job words by address; an unlisted word is not-valid (R228). -/
  words : Tbl TWord := []
  /-- Mode of the last CLR: true MACP, false MAC; none before the first (R231). -/
  macp : Option Bool := none
  /-- The accumulator in MAC mode, modulo 2^10,752 (R231). -/
  acc : Nat := 0
  /-- The lanes in MACP mode, 64 bits each; unlisted 0. -/
  lanes : Tbl Nat := []
  /-- Accumulator class (R233). -/
  cls : SecClass := .pub
  /-- Accumulator poison (R232). -/
  poison : Bool := false
  /-- A single 8-window diagnostic job (R254). -/
  diag : Bool := false
  /-- Tenant named at JOPEN. -/
  tenant : Nat := 0
  /-- A KEYIN waits for the KDU. -/
  waiting : Bool := false
  /-- Its barge has ended: it stops at the end of the KEYIN in progress (R235). -/
  closing : Bool := false
  deriving DecidableEq, Repr

/-- A key label (R137), field by field; its 32 bytes are `KLabel.bytes`. -/
structure KLabel where
  /-- USAGE: the two ASCII characters, first character in bits 7:0. -/
  usage : Nat
  /-- ALG, ASCII. -/
  alg : Nat
  /-- MODE, ASCII. -/
  mode : Nat
  /-- EXPORT, ASCII. -/
  exportability : Nat
  /-- SIZE. -/
  size : Nat
  /-- DCLASS, bits 1:0. -/
  dclass : Nat
  /-- HANDLE (R39). -/
  handle : Nat
  /-- NOT_BEFORE, calendar seconds. -/
  notBefore : Nat
  /-- NOT_AFTER, calendar seconds. -/
  notAfter : Nat
  /-- CHAIN_IDX. -/
  chainIdx : Nat
  /-- CHAIN_LEN. -/
  chainLen : Nat
  deriving DecidableEq, Repr

/-- A 96-byte key record (R136): LABEL, CIPHER (32 bytes), WTAG (16 bytes), NONCE_CTR, USES, LAST_USE. -/
structure KRec where
  label : KLabel
  cipher : Bytes
  wtag : Bytes
  nonceCtr : Nat
  uses : Nat
  lastUse : Nat
  deriving DecidableEq, Repr

/-- A permit (R161) without its signatures. -/
structure Permit where
  no : Nat
  action : Nat
  scopeKind : Nat
  signers : Nat
  scope : Nat
  notBefore : Nat
  notAfter : Nat
  epoch : Nat
  device : Bytes
  officerA : Nat
  officerB : Nat
  arg : Bytes
  deriving DecidableEq, Repr

/-- What the cargo store holds for a handle: the links of a key in chain order, or a tombstone (R185). Log 13, DESIGN CHOICE. -/
inductive StoreEntry where
  | key (links : List KRec)
  | tombstone
  deriving DecidableEq, Repr

/-- One crew core (R9, R10): at most one barge, one lane context, one tile job, one hash engine. -/
structure Core where
  /-- Barge-table index of the barge it runs; reset none. -/
  job : Option Nat := none
  /-- Input buffer read by a tug; reset none. -/
  input : Option Bytes := none
  /-- The tug that carries its host-buffer transfer (R169); reset none. -/
  tug : Option Nat := none
  /-- What the service that ended leaves for the completion; reset none. -/
  res : Option Outcome := none
  /-- The output buffer has been written by a tug; reset false. -/
  written : Bool := false
  /-- The tick in which an abort was recorded: the barge stops at the end of the current command (R57); reset none. -/
  aborted : Option Nat := none
  /-- The records and tombstones of the claim tick of a BACKUP_OPEN that waits (R195); reset none. -/
  snapshot : Option (Tbl StoreEntry) := none
  /-- The permit its barge has claimed, with the claim tick (R163); reset none. -/
  claimed : Option (Nat × Permit) := none
  /-- The last DRBG reply, words of the output (R263); reset none. -/
  drbg : List TWord := []
  /-- Lane context (R202); reset none. -/
  lane : Option LaneCtx := none
  /-- State of the held buffer (R217); reset closed. -/
  heldSt : HeldState := .closed
  /-- Held buffer words; reset empty. -/
  held : List TWord := []
  /-- Tile job (R228); reset none. -/
  tile : Option Job := none
  /-- Hash engine held (R222); reset none. -/
  eng : Option Nat := none
  /-- The windows its last job held, as tile, first window and size: a command that reaches them while they are cleared is answered
  (R236); reset none. -/
  lastJob : Option (Nat × Nat × Nat) := none
  /-- Command FIFO of its lane context: what waits behind the command in progress (R208); reset empty. -/
  laneIn : List UnitCmd := []
  /-- What waits behind its hash engine's command in progress, or for an engine (R222, R223); reset empty. -/
  hashIn : List UnitCmd := []
  /-- What waits behind its tile job's command in progress (R229, R230); reset empty. -/
  tileIn : List UnitCmd := []
  /-- Output FIFO of its lane commands: output words and status words, oldest first (R208); reset empty. -/
  laneOut : List TWord := []
  /-- Output words and status words of its hash engine (R223); reset empty. -/
  hashOut : List TWord := []
  /-- Output words and status words of its tile job (R230); reset empty. -/
  tileOut : List TWord := []
  /-- Moorings wrapped by STORE for the barge's commit (R207); reset none. -/
  stored : List KRec := []
  /-- Busy cycles in the current telemetry window, TEL_CORE_BUSY (R79); reset 0. -/
  busy : Nat := 0
  /-- Busy cycles of the last complete window; reset 0. -/
  busyLast : Nat := 0
  deriving DecidableEq, Repr

/-- The Lockmaster and telemetry (03_lockmaster_scheduling.md). -/
structure Lkm where
  /-- The barge table by index, 0 to 131,071 (R9, R12); reset empty. -/
  tbl : Tbl Entry := []
  /-- Next admission order number (R63); reset 0. -/
  nextOrder : Nat := 0
  /-- LKM_PORTS.LAST: port last served (R11); reset 0. -/
  lastPort : Nat := 0
  /-- LKM_TEL_WINDOW.WINDOW, 2 bits; reset 0. -/
  telWindow : Nat := 0
  /-- TEL_SPILLS, 64 bits; reset 0. -/
  spills : W64 := 0
  /-- TEL_REFILLS, 64 bits; reset 0. -/
  refills : W64 := 0
  /-- Page-in returns in the current window (R79); reset 0. -/
  returns : Nat := 0
  /-- KEY_PAGE_TIMEOUT failures in the current window (R79); reset 0. -/
  timeouts : Nat := 0
  /-- TEL_PAGEIN.RETURNS, 32 bits; reset 0. -/
  returnsLast : Nat := 0
  /-- TEL_PAGEIN.TIMEOUTS, 32 bits; reset 0. -/
  timeoutsLast : Nat := 0
  /-- TEL_WINDOW_NO.WINDOW, 64 bits; reset 0. -/
  windowNo : Nat := 0
  /-- Windows rolled so far: the window the current counts belong to (R79); reset 0. -/
  curWindow : Nat := 0
  /-- TEL_HIST counts by 16 g + b, 64 bits each (R80); reset 0. -/
  hist : Tbl Nat := []
  /-- Engine busy cycles in the current window by TEL_ENGINE index; reset 0. -/
  engBusy : Tbl Nat := []
  /-- TEL_ENGINE busy cycles of the last complete window; reset 0. -/
  engBusyLast : Tbl Nat := []
  deriving DecidableEq, Repr

/-! ### Tenants, officers, permits and the calendar (06_key_model_and_permits.md) -/

/-- Tenant states (R142). -/
inductive TenantState where
  | free
  | active
  | deleting
  deriving DecidableEq, Repr

/-- A tenant-table entry in user flash (R142). -/
structure Tenant where
  st : TenantState := .free
  gen : Nat := 0
  f4Downgrade : Bool := false
  exportS : Bool := false
  keyQuota : Nat := 0
  /-- ADMIN: true DEVICE, false SELF (R143). -/
  deviceAdmin : Bool := false
  deriving DecidableEq, Repr

/-- Officer states (R159). -/
inductive OfficerState where
  | free
  | active
  | revoked
  deriving DecidableEq, Repr

/-- An officer-table entry in user flash (R159): roles bit 0 SECURITY_OFFICER, 1 KEY_CUSTODIAN_A, 2 KEY_CUSTODIAN_B, 3
AUDITOR, 4 OPERATOR. -/
structure Officer where
  tenant : Nat
  roles : BitVec 8
  key : Bytes
  st : OfficerState
  deriving DecidableEq, Repr

/-- A component-entry session (R155). -/
structure CompSession where
  number : Nat
  tenant : Nat
  label : KLabel
  officerA : Nat
  officerB : Nat
  notAfter : Nat
  count : Nat
  comps : List Bytes
  x448 : Bytes
  deriving DecidableEq, Repr

/-- Administration state. Log 32, DESIGN CHOICE. -/
structure Adm where
  /-- Tenant table by tenant, 0 to 4,095; unlisted: FREE (R142); reset tenant 0 ACTIVE. -/
  tenants : Tbl Tenant := [(0, { st := .active })]
  /-- Officer table by number, 0 to 511; unlisted: FREE (R159); reset empty. -/
  officers : Tbl Officer := []
  /-- Lodged permits with the lodging tenant, oldest first (R162); reset none. -/
  permits : List (Nat × Permit) := []
  /-- Permit numbers used or withdrawn in the epoch, by (tenant, number) (R162, R163); reset none. -/
  spent : List (Nat × Nat) := []
  /-- Lodges that passed check 5 of R162 in window: (window, count); reset (0, 0). -/
  lodges : Nat × Nat := (0, 0)
  /-- Calendar: CAL_BASE and CAL_TICK (R140); reset unset. -/
  calendar : Option (Nat × Nat) := none
  /-- Component sessions, at most 16 (R155); reset none. -/
  comps : List CompSession := []
  /-- Number of the next component session; reset DESIGN CHOICE 1. -/
  compNext : Nat := 1
  deriving DecidableEq, Repr

/-! ### Moorings, cargo cache and cargo store (07_moorings_and_cargo.md, 06_key_model_and_permits.md R136, R137) -/

/-- One resident mooring (R170, R178, R181): the record, its LEASED flag and its recency, the tick of the last key load or
install. `krec.nonceCtr` is the mooring's counter N. -/
structure Mooring where
  krec : KRec
  leased : Bool
  recency : Nat
  deriving DecidableEq, Repr

/-- A record in the cargo cache (R182, R183): as a mooring, with its last-use order and its place among the 16 of its set. -/
structure CacheRec where
  krec : KRec
  leased : Bool
  recency : Nat
  way : Nat
  deriving DecidableEq, Repr

/-- How far a page-in has come (R172): waiting for a tug of 12 to 15 (R169); at step 1, or at step 2 from the volatile hold; reading the
n-th sector of its chain, at an LBA, from a drive (2: held by a STOPPED cargo port), with the drive whose sector held a record that failed (R175); its sectors are read, and
its record failed in them or not; read and waiting for a place in a full cache set (R182); read and waiting for a mooring (R178). -/
inductive PageStage where
  | waitTug
  | lookup
  | reading (n lba drive : Nat) (tried : Option Nat)
  | read (spoiled : Bool)
  | cacheWait
  | mooringWait
  deriving DecidableEq, Repr

/-- A page-in in progress (R171), and the tug that runs it (R169). -/
structure PageIn where
  handle : Nat
  stage : PageStage
  tug : Option Nat
  deriving DecidableEq, Repr

/-- A change that a commit carries (R189). -/
inductive Change where
  | put (links : List KRec)
  | delete (handle : Nat)
  | tenant (t : Nat) (e : Tenant)
  | officer (n : Nat) (o : Officer)
  | lease (handle : Nat) (s : Nat)
  | discardPermits (tenant : Nat)
  | discardOfficerPermits (officer : Nat)
  | ackLog (toSeq : Nat)
  | calendar (base tick : Nat)
  deriving DecidableEq, Repr

/-- A commit (R60, R189): its number once it begins, the header of R60, its changes, the journal sectors it occupies and
what it ends. Log 13, DESIGN CHOICE. -/
structure Commit where
  /-- Commit number. -/
  number : Nat
  /-- Epoch of the barge. -/
  epoch : Nat
  /-- Index of the head device whose ring it came on (R414). -/
  head : Nat
  /-- Ring of the barge. -/
  ring : Nat
  /-- SEQ of the barge. -/
  seq : Nat
  /-- Opcode of the barge. -/
  opcode : Nat
  /-- First handle, for the audit-critical record (R426). -/
  handle : Nat
  /-- Device time at which it was built. -/
  time : Nat
  /-- Tenant of the barge. -/
  tenant : Nat
  /-- The barge's index, none for a lease commit. -/
  barge : Option Nat
  /-- Changes applied in the commit tick. -/
  changes : List Change
  /-- Journal sectors, ⌈B ÷ 4,096⌉. -/
  sectors : Nat
  /-- Words reserved for its audit-critical record (R432). -/
  logWords : Nat
  /-- A replica or every member holds it already (R414). -/
  replicated : Bool
  /-- A commit of another device that is acknowledged at its commit tick: the device and its number there (R414). -/
  ack : Option (Nat × Nat)
  /-- The tick in which it was gathered for a group write (R189); 0 until then. -/
  joined : Nat
  deriving DecidableEq, Repr

/-- One outcome entry (R191). -/
structure OutcomeEntry where
  /-- Index of the head device (R414); 0 on a single device. -/
  head : Nat
  epoch : Nat
  ring : Nat
  seq : Nat
  opcode : Nat
  time : Nat
  deriving DecidableEq, Repr

/-- A backup or restore session (R194 to R199). -/
structure CargoSession where
  number : Nat
  /-- Tenant of the ring that opened it. -/
  owner : Nat
  restore : Bool
  tenantScope : Nat
  k : Nat
  n : Nat
  /-- Backup ID, 16 bytes. -/
  backupId : Bytes
  /-- BK, 32 bytes, once known. -/
  bk : Option Bytes
  /-- Recipients: officer and X448 public key. -/
  recipients : List (Nat × Bytes)
  /-- Snapshot of a backup: entries not yet written, in handle order. -/
  snapshot : List (Nat × StoreEntry)
  /-- Records in the whole snapshot. -/
  total : Nat
  /-- Next chunk index. -/
  chunk : Nat
  /-- The last chunk has been written or received. -/
  ended : Bool
  /-- Chunk tags in order. -/
  tags : Bytes
  /-- Restore: the summary of R197. -/
  summary : Bytes
  /-- Restore: private part of the fresh X448 key of R198. -/
  x448 : Bytes
  /-- Restore: (share index, officer, share) accepted so far. -/
  shares : List (Nat × Nat × Bytes)
  deriving DecidableEq, Repr

/-- The states of the cargo store, MOR_STATUS.STORE_STATE. -/
inductive StoreState where
  | online
  | degraded
  | offline
  | volatileHold
  | rebuilding
  deriving DecidableEq, Repr

/-- One cargo drive (R186, R287). -/
structure Drive where
  /-- In service, MOR_STATUS.DRIVE_A or DRIVE_B; reset 0. -/
  inService : Bool := false
  /-- A drive is seated (its GPIO, R446). -/
  present : Bool := false
  /-- NGUID, 16 bytes (R287). -/
  nguid : Bytes := []
  /-- Whether the namespace meets the requirements of R388. -/
  namespaceOk : Bool := false
  /-- Cargo key set, 96 bytes (R320); none derived or zeroed. -/
  keys : Option Bytes := none
  /-- Consecutive failed commands (R186). -/
  fails : Nat := 0
  deriving DecidableEq, Repr

/-- The keel register (R291), in the sentry domain. -/
structure KeelReg where
  /-- STORE_ID, 64 bits; dash. -/
  storeId : Nat := 0
  /-- ROOT_GEN, 64 bits; dash. -/
  rootGen : Nat := 0
  /-- ROOT_COPY: false A, true B; dash. -/
  rootCopy : Bool := false
  /-- PENDING, 64 bits; dash. -/
  pending : Nat := 0
  /-- LAST_COMMIT, 64 bits; dash. -/
  lastCommit : Nat := 0
  deriving DecidableEq, Repr

/-- What the namespaces of a store hold (R184): the buckets of the last checkpoint, the journal after it with the ring's next sector, the
outcome area with the first epoch it answers for, the generation tree and the last commit. -/
structure Namespaces where
  base : Tbl StoreEntry
  journal : List Commit
  journalPos : Nat
  outcomes : List OutcomeEntry
  since : Nat
  gens : Tbl Nat
  lastCommit : Nat
  deriving DecidableEq, Repr

/-- The three key levels and the journal. Log 13, DESIGN CHOICE. Log 32. -/
structure Mor where
  /-- Resident moorings by index, 0 to 262,143; an unlisted mooring is free (R136, R170); reset all free. The directory of
  R170 is the handles listed here. -/
  moorings : Tbl Mooring := []
  /-- Bank accesses in the current 1 ms window, by bank (R178); reset 0. -/
  bankNow : Tbl Nat := []
  /-- MOR_BANK[k].PRESSURE: accesses in the last complete window; reset 0. -/
  bankLast : Tbl Nat := []
  /-- Cargo cache records, no order (R182); reset empty. -/
  cache : List CacheRec := []
  /-- Page-ins in progress, oldest first (R171); reset none. -/
  pageIns : List PageIn := []
  /-- The applied content of the store: what the buckets and overflow sectors hold with every committed change applied, by
  handle (R185, R189); reset empty. -/
  store : Tbl StoreEntry := []
  /-- What the buckets held at the last checkpoint (R290); reset empty. -/
  base : Tbl StoreEntry := []
  /-- Commits in the journal after the last checkpoint, oldest first (R189, R190); reset empty. -/
  journal : List Commit := []
  /-- Commits gathered and not yet written (R189); reset none. -/
  gathered : List Commit := []
  /-- Tick of the first gathered commit (R189); reset none. -/
  gatherFrom : Option Nat := none
  /-- The group write (or volatile commit) in flight (R189, R193); reset none. -/
  flight : List Commit := []
  /-- Drives whose acknowledgement of the group write is outstanding, bit 0 A, bit 1 B. -/
  awaiting : BitVec 2 := 0
  /-- Number of the last commit with a commit tick, MOR_JOURNAL_HEAD; dash. -/
  lastCommit : Nat := 0
  /-- MOR_JOURNAL.FILL: journal sectors not yet checkpointed, 19 bits; reset 0. -/
  fill : Nat := 0
  /-- Journal sector of the ring written next (R184), the model's own; reset DESIGN CHOICE 0. -/
  journalPos : Nat := 0
  /-- The drive that served the last read of a mirror, true B: reads alternate (R186); reset DESIGN CHOICE false. -/
  lastReadB : Bool := false
  /-- The outcome area, in the order of its entries (R191); reset empty. -/
  outcomes : List OutcomeEntry := []
  /-- Handles whose USES and LAST_USE the store has received since the last checkpoint (R183, R290); reset none. -/
  usesDirty : List Nat := []
  /-- What the namespaces hold while the volatile hold stands in for an absent drive (R193); reset none. -/
  away : Option Namespaces := none
  /-- First epoch for which the outcome area answers: that of the store's formatting (R187); reset 0. -/
  since : Nat := 0
  /-- A checkpoint runs (R290): its journal prefix in commits; reset none. -/
  ckpt : Option Nat := none
  /-- Tick of the previous checkpoint (R290); reset 0. -/
  ckptAt : Nat := 0
  /-- Generation tree: GEN of the LBAs written since the store's formatting, which gave every other sector GEN 1 (R290, R291); reset
  empty. -/
  gens : Tbl Nat := []
  /-- MOR_STATUS.STORE_STATE; reset OFFLINE (2). -/
  storeSt : StoreState := .offline
  /-- MOR_STATUS.CARGO_MODE: 0 DRIVE, 1 MIRROR, 2 VOLATILE; dash. -/
  cargoMode : Nat := 0
  /-- Drive A. -/
  driveA : Drive := {}
  /-- Drive B. -/
  driveB : Drive := {}
  /-- The keel register (R291); reset as power first reaches the sentry domain: zero. -/
  keelReg : KeelReg := {}
  /-- Open backup and restore sessions, at most four (R194); reset none. -/
  sessions : List CargoSession := []
  /-- Number of the next session (R195); reset DESIGN CHOICE 1. -/
  sessionNext : Nat := 1
  /-- MOR_PAGE_CACHE, 64 bits, wraps; reset 0. -/
  pageCache : W64 := 0
  /-- MOR_PAGE_STORE, 64 bits, wraps; reset 0. -/
  pageStore : W64 := 0
  /-- MOR_EVICT, 64 bits, wraps; reset 0. -/
  evict : W64 := 0
  /-- MOR_ERRORS.MIRROR_RETRY, 16 bits saturating; reset 0. -/
  mirrorRetry : Nat := 0
  /-- MOR_ERRORS.DAMAGED, 16 bits saturating; reset 0. -/
  damaged : Nat := 0
  /-- MOR_ERRORS.ECC_REFETCH, 16 bits saturating; reset 0. -/
  eccRefetch : Nat := 0
  /-- MOR_ERRORS.OFFLINE, 16 bits saturating; reset 0. -/
  offline : Nat := 0
  /-- MOR_PIN_HANDLE, 64 bits; reset 0. -/
  pinHandle : W64 := 0
  /-- Tugs out of service (R169), by number; reset none. -/
  tugsOut : List Nat := []
  /-- Tick of the last replacement drive's rebuild start, while REBUILDING (R186); reset none. -/
  rebuildFrom : Option Nat := none
  deriving DecidableEq, Repr

/-! ### Cipher lanes, hash engines and bignum tiles (08_cipher_lanes_and_hash.md, 09_bignum_engine_and_asymmetric.md) -/

/-- The states of a lane or tile, CPH_LANE[n].STATE and BGN_TILE[n].STATE. -/
inductive UnitState where
  | active
  | spare
  | draining
  | retired
  | off
  | diag
  deriving DecidableEq, Repr

/-- What a key slot holds (R203, R213): a loaded key under its label, a context-owned key of a derivation profile with the
label of its root key or the label given with it, or a TEST key of an algorithm type of R106. -/
inductive SlotKind where
  | loaded (label : KLabel)
  | owned (profile : Nat) (label : KLabel)
  | test (wk : Nat)
  deriving DecidableEq, Repr

/-- One key slot of a lane (R203). -/
structure KSlot where
  kind : SlotKind
  tenant : Nat
  /-- The 32-byte key field. -/
  key : Bytes
  /-- DEAD under R204. -/
  dead : Bool
  /-- Tick of the last use (R203's least recently used). -/
  used : Nat
  /-- Auxiliary field: the 12-byte IV of profile 9 (DST 3). -/
  aux : Bytes
  /-- Record counter of profile 9, or the slot counter of a TEST slot (R214, R226). -/
  counter : Nat
  /-- DCLASS (R211). -/
  dclass : SecClass
  deriving DecidableEq, Repr

/-- One cipher lane (R201). -/
structure Lane where
  /-- CPH_LANE[n].STATE; dash. -/
  st : UnitState := .active
  /-- CPH_LANE[n].GROUP, 0 to 7, 0xF for an unused spare; dash. -/
  group : Nat := 0xF
  /-- Key slots 0 to 15; unlisted: free (R203); reset free. -/
  slots : Tbl KSlot := []
  /-- CPH_LANE[n].MISMATCH_WIN, 8 bits; reset 0. -/
  mismatchWin : Nat := 0
  /-- The state to return to when a diagnostic context closes (R226). -/
  before : UnitState := .active
  /-- Tick of the last known-answer test (R218); reset 0. -/
  tested : Nat := 0
  deriving DecidableEq, Repr

/-- One hash engine (R222, R223). -/
structure Eng where
  /-- HSH_ENG[e].STATE: active, retired, off or diag; dash. -/
  st : UnitState := .active
  /-- The crew core that holds it, 96 for the diagnostic registers; reset none. -/
  holder : Option Nat := none
  /-- A computation is in progress: ALG and HMAC of INIT; reset none. -/
  alg : Option (Nat × Bool) := none
  /-- Bytes absorbed so far; reset empty. -/
  msg : Bytes := []
  /-- FINAL has been applied; reset false. -/
  final : Bool := false
  /-- Output bytes already squeezed; reset 0. -/
  squeezed : Nat := 0
  /-- OUTLEN of INIT; reset 0. -/
  outLen : Nat := 0
  /-- Highest class among the absorbed words (R225); reset PUBLIC. -/
  cls : SecClass := .pub
  /-- A poisoned word was absorbed (R225); reset false. -/
  poison : Bool := false
  /-- Key register, filled through the KDU (R223); reset none. -/
  key : Option Bytes := none
  /-- A KEY waits for the KDU; reset false. -/
  waiting : Bool := false
  /-- Its barge has ended: it is given up at the end of the KEY in progress (R57, R221); reset false. -/
  closing : Bool := false
  /-- The state to return to when a diagnostic context closes. -/
  before : UnitState := .active
  deriving DecidableEq, Repr

/-- One bignum tile (R227). -/
structure Tile where
  /-- BGN_TILE[n].STATE; dash. -/
  st : UnitState := .active
  /-- BGN_TILE[n].GROUP, 0 to 2, 0xF for an unused spare; dash. -/
  group : Nat := 0xF
  /-- Window ranges (first window, windows) being cleared (R236); reset none. -/
  clearing : List (Nat × Nat) := []
  /-- BGN_TILE[n].MISMATCH_WIN, 8 bits; reset 0. -/
  mismatchWin : Nat := 0
  /-- The state to return to when a diagnostic job closes. -/
  before : UnitState := .active
  /-- Tick of the last known-answer test (R237); reset 0. -/
  tested : Nat := 0
  deriving DecidableEq, Repr

/-- Where a KDU load or STORE delivers (R207). -/
inductive KduDest where
  | laneSlot (slot : Nat)
  | storeSlot (slot : Nat) (label : KLabel)
  | engine
  | tileWords (addr : Nat)
  deriving DecidableEq, Repr

/-- A KDU request (R205, R206): the requester (a crew core, or 96 for the diagnostic registers), the destination, the handle
and chain index, and, once a pair has started it, what step 1 read. -/
structure KduReq where
  who : Nat
  dest : KduDest
  handle : Nat
  idx : Nat
  started : Bool
  read : Option KRec
  /-- The key has been deleted, or its tenant's GEN has advanced, since step 1: the slot filled is DEAD (R156, R204). -/
  dead : Bool := false
  deriving DecidableEq, Repr

/-- The diagnostic registers of one block: CPH_DIAG_*, HSH_DIAG_* or BGN_DIAG_* (R226, R254). -/
structure DiagRegs where
  /-- DIAG_CTL.LANE, ENGINE or TILE, 7 bits; reset 0. -/
  sel : Nat := 0
  /-- DIAG_CTL.ENABLE; reset 0. -/
  enable : Bool := false
  /-- ENABLE waits for the unit's contexts or jobs to close; reset false. -/
  opening : Bool := false
  /-- DIAG_DATA[0..3]; reset 0. -/
  data : Tbl W64 := []
  /-- DIAG_OUT[0..1]; reset 0. -/
  out : Tbl W64 := []
  /-- DIAG_STATUS.CODE, 8 bits; reset 0. -/
  code : Nat := 0
  /-- DIAG_STATUS.BUSY; reset 0. -/
  busy : Bool := false
  deriving DecidableEq, Repr

/-- The lane pool. -/
structure Cph where
  /-- Lanes 0 to 67; unlisted: lane n < 64 ACTIVE in group n ÷ 8, others SPARE (R201, CPH_STATUS resets); reset empty. -/
  lanes : Tbl Lane := []
  /-- CPH_STATUS.RETIRED, 8 bits; reset 0. -/
  retired : Nat := 0
  /-- CPH_MISMATCH.MISMATCHES, 32 bits; reset 0. -/
  mismatches : W32 := 0
  /-- CPH_MISMATCH.FAULTS, 32 bits; reset 0. -/
  faults : W32 := 0
  /-- Device-wide mismatches in the current mismatch window, lanes and tiles (R216, R234); reset 0. -/
  deviceWin : Nat := 0
  /-- Source 22 has been raised for the current window; reset false. -/
  raisedWin : Bool := false
  /-- Number of the current mismatch window (R216); reset 0. -/
  window : Nat := 0
  /-- CPH_BUDGET.ALARM_LIMIT, 16 bits; dash. -/
  alarmLimit : Nat := 0
  /-- CPH_BUDGET.WINDOW_MS, 16 bits; dash. -/
  windowMs : Nat := 0
  /-- CPH_BUDGET.LANE_LIMIT, 8 bits; dash. -/
  laneLimit : Nat := 0
  /-- OPEN requests that wait for a lane: crew core, tenant, hint (R202); reset none. -/
  waiting : List (Nat × Nat × Nat) := []
  /-- CPH_DIAG registers. -/
  diag : DiagRegs := {}
  deriving DecidableEq, Repr

/-- The hash engines and the KDU. -/
structure Hsh where
  /-- Engines 0 to 55; unlisted: `{}` (R222); reset empty. -/
  engs : Tbl Eng := []
  /-- HSH_STATUS.KDU_PAIRS, 0 to 4; reset 4. -/
  pairs : Nat := 4
  /-- HSH_KDU_LOADS.COUNT, 64 bits, wraps; reset 0. -/
  loads : W64 := 0
  /-- HSH_KDU_ERR.DAMAGED, 32 bits saturating; reset 0. -/
  damaged : Nat := 0
  /-- HSH_KDU_ERR.MISMATCH, 32 bits saturating; reset 0. -/
  mismatch : Nat := 0
  /-- KDU requests in arrival order (R205); reset none. -/
  queue : List KduReq := []
  /-- HSH_DIAG registers. -/
  diag : DiagRegs := {}
  deriving DecidableEq, Repr

/-- The tile pool. -/
structure Bgn where
  /-- Tiles 0 to 25; unlisted: tile n < 24 ACTIVE in group n ÷ 8, others SPARE (R227); reset empty. -/
  tiles : Tbl Tile := []
  /-- BGN_STATUS.RETIRED, 8 bits; reset 0. -/
  retired : Nat := 0
  /-- BGN_MISMATCH.MISMATCHES, 32 bits; reset 0. -/
  mismatches : W32 := 0
  /-- BGN_MISMATCH.FAULTS, 32 bits; reset 0. -/
  faults : W32 := 0
  /-- BGN_BUDGET.TILE_LIMIT, 8 bits; dash. -/
  tileLimit : Nat := 0
  /-- JOPEN requests that wait, BGN_JOBS.WAITING: crew core, tenant, size code (R228); reset none. -/
  waiting : List (Nat × Nat × Nat) := []
  /-- BGN_DIAG registers. -/
  diag : DiagRegs := {}
  deriving DecidableEq, Repr

/-! ### Random number generation (10_random_generation.md) -/

/-- The states of an entropy cluster, RNG_CLUSTER.STATE (R257). -/
inductive ClState where
  | off
  | settle
  | startup
  | collect
  | retired
  | raw
  deriving DecidableEq, Repr

/-- One entropy cluster. -/
structure Cluster where
  /-- RNG_CLUSTER.STATE; reset OFF. -/
  st : ClState := .off
  /-- RNG_CLUSTER.FAILS, 32 bits saturating; reset 0. -/
  fails : Nat := 0
  /-- RNG_CLUSTER.CAUSE, 4 bits; reset 0. -/
  cause : BitVec 4 := 0
  /-- RNG_CLUSTER.CONSEC, 0 to 3; reset 0. -/
  consec : Nat := 0
  /-- Seed blocks held, older first, at most two (R260); reset none. -/
  held : List Bytes := []
  /-- Seed blocks in the conditioner (R259); reset none. -/
  cond : List Bytes := []
  /-- The start-up test has passed since the RNG started (R264); reset false. -/
  passed : Bool := false
  deriving DecidableEq, Repr

/-- The states of a DRBG, RNG_DRBG.STATE (R262, R266). -/
inductive DrbgState where
  | unseeded
  | serving
  | due
  | blocked
  | rawBlocked
  deriving DecidableEq, Repr

/-- One DRBG (R261, R262). -/
structure Drbg where
  /-- RNG_DRBG.STATE; reset UNSEEDED. -/
  st : DrbgState := .unseeded
  /-- The internal state of the CTR_DRBG, in the opaque form of Config; reset empty. -/
  v : Bytes := []
  /-- RNG_DRBG.REQUESTS since the last seeding, 18 bits; reset 0. -/
  requests : Nat := 0
  /-- RNG_DRBG.SEEDINGS, 32 bits; reset 0. -/
  seedings : Nat := 0
  /-- Tick of the last seeding (R262); reset 0. -/
  seededAt : Nat := 0
  /-- A delivered seed block under seeding (R261); reset none. -/
  seeding : Option Bytes := none
  /-- It waits for a block (R260); reset false. -/
  waits : Bool := false
  deriving DecidableEq, Repr

/-- The RNG. -/
structure Rng where
  /-- Clusters 0 to 15; unlisted: `{}`; reset all OFF. -/
  clusters : Tbl Cluster := []
  /-- DRBGs 0 to 63; unlisted: `{}`; reset all UNSEEDED. -/
  drbgs : Tbl Drbg := []
  /-- RNG_STATUS.READY; reset 0. -/
  ready : Bool := false
  /-- RNG_STATUS.FATAL; reset 0. -/
  fatal : Bool := false
  /-- RNG_STATUS.RAW: raw-sample mode; reset 0. -/
  raw : Bool := false
  /-- RNG_HT_CFG.EDGE_FLOOR, 16 bits; dash. -/
  edgeFloor : Nat := 0
  /-- RNG_HT_CFG.APT_CUTOFF, 11 bits; dash. -/
  aptCutoff : Nat := 0
  /-- RNG_HT_CFG.RCT_CUTOFF, 8 bits; dash. -/
  rctCutoff : Nat := 0
  /-- RNG_BLOCKS.DISCARDED, 32 bits, wraps; reset 0. -/
  discarded : W32 := 0
  /-- RNG_BLOCKS.ACCEPTED, 32 bits, wraps; reset 0. -/
  accepted : W32 := 0
  /-- RNG_RAW_CTL.CLUSTER, 4 bits; reset 0. -/
  rawCluster : Nat := 0
  /-- RNG_RAW_CTL.OSC, 4 bits; reset 0. -/
  rawOsc : Nat := 0
  /-- The raw buffer, oldest first, at most 1,024 words (R266); reset empty. -/
  rawBuf : List W64 := []
  /-- RNG_RAW_STATUS.DROPPED, 32 bits saturating; reset 0. -/
  rawDropped : Nat := 0
  /-- RNG_RAW_STATUS.EMPTY; reset 0. -/
  rawEmpty : Bool := false
  deriving DecidableEq, Repr

/-! ### The SLU (11_inline_memory_encryption.md) -/

/-- A written DRAM line: its eight tagged words and its owning key domain (R273, R275). Log 14, DESIGN CHOICE. -/
structure Line where
  words : List TWord
  owner : Nat
  deriving DecidableEq, Repr

/-- A counter block (R278): major counter and the minor counters of its 64 children; an unlisted minor is 0. Log 14, DESIGN CHOICE. -/
structure CtrBlock where
  major : Nat := 0
  minors : Tbl Nat := []
  deriving DecidableEq, Repr

/-- The SLU. -/
structure Slu where
  /-- SLU_STATUS.READY; reset 0. -/
  ready : Bool := false
  /-- SLU_STATUS.HALF0; reset 0. -/
  half0 : Bool := false
  /-- SLU_STATUS.HALF1; reset 0. -/
  half1 : Bool := false
  /-- SLU_STATUS.SECTOR, 0 to 4; reset 0 IDLE. -/
  sector : Nat := 0
  /-- Every SLU path has stopped taking accesses (R283); reset false. -/
  stopped : Bool := false
  /-- Key-domain XTS key pairs (64 × 64 bytes) and the halves' MAC keys (2 × 32 bytes), 4,160 bytes (R270); reset none. -/
  keys : Bytes := []
  /-- SLU_LAYOUT.PROT_LOG, 6 bits; dash. -/
  protLog : Nat := 0
  /-- Written lines by line number, DRAM offset ÷ 64 (R276); reset none written. -/
  lines : Tbl Line := []
  /-- Counter blocks by `blockKey` half, level and index, the root blocks among them; unlisted: all zero (R276); reset
  zero. -/
  blocks : Tbl CtrBlock := []
  /-- The counter cache: block keys with their dirty flag, no order (R280); reset empty. -/
  cached : List (Nat × Bool) := []
  /-- SLU_CTR_CACHE.HITS, 32 bits, wraps; reset 0. -/
  hits : W32 := 0
  /-- SLU_CTR_CACHE.MISSES, 32 bits, wraps; reset 0. -/
  misses : W32 := 0
  /-- SLU_ROLLOVER.COUNT, 64 bits; reset 0. -/
  rollovers : W64 := 0
  /-- SLU_ECC.UE_DATA, 16 bits saturating; reset 0. -/
  ueData : Nat := 0
  /-- SLU_ECC.CE_NODE, 16 bits saturating; reset 0. -/
  ceNode : Nat := 0
  /-- SLU_ECC.CE_DATA, 32 bits saturating; reset 0. -/
  ceData : Nat := 0
  /-- SLU_SCRUB.PASSES, 32 bits; reset 0. -/
  passes : W32 := 0
  /-- SLU_SCRUB.HOURS, 8 bits; dash. -/
  hours : Nat := 0
  /-- DRAM words read by the patrol scrubber in the current pass, by channel (R282); reset 0. -/
  scrubbed : Tbl Nat := []
  /-- SLU_VIOL.DOMAIN, 32 bits saturating; reset 0. -/
  domainViol : Nat := 0
  /-- SLU_VIOL.RANGE, 32 bits saturating; reset 0. -/
  rangeViol : Nat := 0
  /-- SLU_SECTORS.READS, 32 bits, wraps; reset 0. -/
  sectorReads : W32 := 0
  /-- SLU_SECTORS.WRITES, 32 bits, wraps; reset 0. -/
  sectorWrites : W32 := 0
  /-- INTEGRITY cause bits since LAUNCH: 0 TREE_UNCORRECTABLE, 1 MAC_MISMATCH, 2 COUNTER_REPLAY (R283, R427); reset 0. -/
  cause : BitVec 3 := 0
  /-- INTEGRITY events since LAUNCH (R427); reset 0. -/
  integrityCount : Nat := 0
  /-- First INTEGRITY event: path, address and key domain (R427); reset none. -/
  firstIntegrity : Option (Nat × Nat × Nat) := none
  /-- The eight words the last line read returned, by master (R286), the model's own record; reset none. -/
  returned : Tbl (List TWord) := []
  /-- DRAM fitted in bytes, which the patrol scrubber passes over (R282); reset 0 until LAUNCH. -/
  fitted : Nat := 0
  deriving DecidableEq, Repr

/-! ### Barrier gates (12_barrier_gates_and_tags.md) -/

/-- The access kinds of a gate check and report (R297, GTE_VIOL_INFO.KIND). -/
inductive Access where
  | read
  | write
  | fetch
  | declassify
  deriving DecidableEq, Repr

/-- One violation report (R299): entry c mod 16 of the report ring. -/
structure Report where
  addr : Nat
  time : Nat
  kd : Nat
  kind : Access
  region : Nat
  master : Nat
  /-- The report has been read (for GTE_VIOL_PTR.LOST). -/
  read : Bool
  deriving DecidableEq, Repr

/-- Gate reports, counts and barriers; the region tables are in the active configuration. -/
structure Gte where
  /-- GTE_VIEW.PENDING; reset 0. -/
  viewPending : Bool := false
  /-- GTE_COUNT.HELD_READS, 16 bits saturating; reset 0. -/
  heldReads : Nat := 0
  /-- GTE_COUNT.DECLASS, 32 bits saturating; reset 0. -/
  declass : Nat := 0
  /-- GTE_COUNT.EGRESS_ZEROED, 16 bits saturating; reset 0. -/
  egressZeroed : Nat := 0
  /-- GTE_VIOL_PTR.COUNT, 32 bits; reset 0. -/
  violCount : Nat := 0
  /-- GTE_VIOL_PTR.LOST, 32 bits saturating; reset 0. -/
  violLost : Nat := 0
  /-- The report ring by entry, 0 to 15; reset empty (zero). -/
  reports : Tbl Report := []
  /-- Gates with a barrier in progress and the accesses it waits for, GTE_GATE[g].OUTSTANDING (R301, R302): of gate 112 the rings whose
  slot read is out; every other access of the model ends in the command that makes it; reset none. -/
  barriers : Tbl (List Nat) := []
  deriving DecidableEq, Repr

/-! ### Roots, identity and life cycle (13_roots_identity_lifecycle.md) -/

/-- A triplicated OTP field: its three copies (R309). -/
structure Tri (w : Nat) where
  a : BitVec w
  b : BitVec w
  c : BitVec w
  deriving DecidableEq, Repr

/-- One key slot (R309, R311): value, check and the state bits as stored three times. -/
structure Slot where
  value : Bytes := List.replicate 32 0
  check : Bytes := List.replicate 4 0
  written : Tri 1 := ⟨0, 0, 0⟩
  locked : Tri 1 := ⟨0, 0, 0⟩
  retired : Tri 1 := ⟨0, 0, 0⟩
  deriving DecidableEq, Repr

/-- A slot as R311 leaves it after a complete write: value, check over the slot index and value, WRITTEN and LOCKED. -/
def Slot.programmed (i : Nat) (value : Bytes) : Slot where
  value := value
  check := Config.shake256 (BitVec.ofNat 8 i :: value) 4
  written := ⟨1, 1, 1⟩
  locked := ⟨1, 1, 1⟩

/-- Fuses, roots, measurements and identity. -/
structure Root where
  /-- Key slots 0 to 31; an unlisted slot is blank (R309); reset DESIGN CHOICE (log 18) a PRODUCTION part as shipped: slots
  0, 1 and 4 programmed. -/
  slots : Tbl Slot := [(0, Slot.programmed 0 (Config.otpValue 0)), (1, Slot.programmed 1 (Config.otpValue 1)),
    (4, Slot.programmed 4 (Config.otpValue 4))]
  /-- Transition word T1, 32 bits (R309); reset DESIGN CHOICE (log 18) blown. -/
  t1 : BitVec 32 := 0xFFFFFFFF
  /-- Transition word T2; reset DESIGN CHOICE (log 18) blown. -/
  t2 : BitVec 32 := 0xFFFFFFFF
  /-- Transition word T3; reset not blown. -/
  t3 : BitVec 32 := 0
  /-- OTP GRADE, 8 bits, three copies (R309); reset DESIGN CHOICE (log 18) 0x01, LT7200-B1-C. -/
  grade : Tri 8 := ⟨1, 1, 1⟩
  /-- OTP NONCE_PREFIX, 32 bits, three copies; dash. -/
  noncePrefix : Tri 32 := ⟨0, 0, 0⟩
  /-- OTP FLOOR, 64 bits, thermometer-coded, three copies; dash. -/
  floor : Tri 64 := ⟨0, 0, 0⟩
  /-- Slots whose check failed at power-up and whose KEY_SLOT_BAD waits for the tamper table (R312); reset none. -/
  badSlots : List Nat := []
  /-- MR0 to MR7, 64 bytes each (R317); reset zero. -/
  mr : Tbl Bytes := []
  /-- KDU root register: CR, 32 bytes (R321); reset none derived. -/
  cr : Option Bytes := none
  /-- CR′ during version migration (R322); reset none. -/
  crNew : Option Bytes := none
  /-- DevID seed, 57 bytes (R321); reset none derived. -/
  devId : Option Bytes := none
  /-- Alias seed, 57 bytes (R321); reset none derived. -/
  aliasSeed : Option Bytes := none
  /-- ROOT_VERSION.FAMILY, 32 bits; dash. -/
  family : Nat := 0
  /-- ROOT_VERSION.VERSION, 16 bits; dash. -/
  version : Nat := 0
  /-- Security VERSION held as sealed with SID: the current SIGNER digest used for SID at LAUNCH (R319); reset empty. -/
  sid : Bytes := []
  /-- ROOT_STATUS.KEEL_FRESH; reset 0. -/
  keelFresh : Bool := false
  /-- DevID certificate in the identity area of user flash (R326); reset DESIGN CHOICE (log 18) the shipped certificate. -/
  devIdCert : Bytes := Config.devIdCert
  /-- Alias certificate issued at LAUNCH (R326); reset none. -/
  aliasCert : Bytes := []
  deriving DecidableEq, Repr

/-- Life cycle and debug authorisation (LCY registers, R334 to R337). -/
structure Lcy where
  /-- Scope unlocked, LCY_STATE.SCOPE, while UNLOCKED; reset none. -/
  unlocked : Option (BitVec 4) := none
  /-- The outstanding challenge, LCY_YH_CHAL, 112 bytes; reset none. -/
  chal : Option Bytes := none
  /-- LCY_YH_RESP words by index, 0 to 22; reset 0. -/
  resp : Tbl W64 := []
  /-- LCY_YH_CTL.RESULT, 3 bits; reset 0. -/
  result : Nat := 0
  /-- LCY_YH_CTL.BUSY and SUBMIT: the challenge and response under verification as they stood at SUBMIT (R337); reset
  none. -/
  busy : Option (Option Bytes × Bytes) := none
  /-- A LCY_YH_REQ write that waits for the verification to end (R337); reset none. -/
  nextReq : Option (BitVec 4) := none
  deriving DecidableEq, Repr

/-! ### The lengthsman (14_lengthsman_tamper.md) -/

/-- A held latch (R342): the level at which the source was raised and the sentry tick in which its condition was last
present. -/
structure Latch where
  level : Nat
  lastSeen : Nat
  deriving DecidableEq, Repr

/-- One entry of the sentry record (R350); `order` is the order of writing, by which R351 finds the oldest. -/
structure SEntry where
  order : Nat
  stime : Nat
  kind : Nat
  source : Nat
  level : Nat
  taken : Nat
  isProtected : Bool
  reported : Bool
  events : Nat
  dtime : Nat
  deriving DecidableEq, Repr

/-- The lengthsman. Log 32, DESIGN CHOICE. -/
structure Len where
  /-- The active tamper table and LEN_CFG (R344); reset the boot table. -/
  table : TamperTable := TamperTable.boot
  /-- LEN_STATUS.TABLE: a manifest or RESTART table is in force; reset 0. -/
  latched : Bool := false
  /-- LEN_VIEW.PENDING; reset 0. -/
  viewPending : Bool := false
  /-- LEN_ACTIVE.COND, 24 bits; reset 0. -/
  cond : BitVec 24 := 0
  /-- LEN_LATCH: held latches by source (R342); reset none. -/
  latches : Tbl Latch := []
  /-- Filter events: sentry ticks of the events of the last WINDOW ticks, by source (R340); reset none. -/
  events : Tbl (List Nat) := []
  /-- LEN_SRC[s].COUNT, 16 bits saturating, by source; reset 0. -/
  counts : Tbl Nat := []
  /-- LEN_FIRST: source and device time of the first raise since LAUNCH; reset none (VALID 0). -/
  first : Option (Nat × Nat) := none
  /-- LEN_STATUS.ERASED (held in the sentry domain); dash. -/
  erased : Bool := false
  /-- The sentry domain has power, from main power or from the cell (R349); reset true. -/
  powered : Bool := true
  /-- LEN_STATUS.COLD (R349: the first power-up of the sentry domain reads 1); reset 1. -/
  cold : Bool := true
  /-- LEN_STATUS.OSC: the RC backup oscillator runs (R338); dash. -/
  oscRc : Bool := false
  /-- The sentry record by place, 0 to 63 (R350); reset the one SENTRY_POWER_LOST entry of R349. -/
  srec : Tbl SEntry := [(0, ⟨0, 0, 6, 0xFF, 0, 0, false, false, 0, 0⟩)]
  /-- Order number of the next entry, the model's own form of R351's oldest; reset 1. -/
  nextOrder : Nat := 1
  /-- LEN_SREC_STATUS.OVERFLOW, 32 bits saturating; dash. -/
  overflow : Nat := 0
  /-- Consecutive samples meeting the threshold on the cell, by source (R348); reset 0. -/
  cellHits : Tbl Nat := []
  /-- Sentry tick at which the cell schedule started (R349); reset 0. -/
  cellStart : Nat := 0
  /-- Sentry tick of the last raise and the highest level raised in it, for the combination of R346; reset none. -/
  tickLevel : Option (Nat × Nat) := none
  /-- Admission stopped by QUIESCE resumes in this sentry tick, the one after the last QUIESCE-level latch cleared (R343);
  reset 0. -/
  resumeAt : Nat := 0
  /-- Keel secret, 32 bytes (R315); reset zeroed. -/
  keel : Bytes := List.replicate 32 0
  /-- Check of the keel secret, 4 bytes (R315); reset zeroed. -/
  keelCheck : Bytes := List.replicate 4 0
  /-- VALID of the keel secret (R315); reset clear: the sentry domain first received power. -/
  keelValid : Bool := false
  deriving DecidableEq, Repr

/-! ### Launch, modes and power (15_launch_modes_power.md) -/

/-- EPOCH_STATE in user flash (R361). -/
inductive EpochState where
  | running
  | launching
  | ended (cause : Nat)
  deriving DecidableEq, Repr

/-- The states of a power domain, PWR_DOMAIN[d].STATE (R375 to R377). -/
inductive DomState where
  | off
  | on
  | ret
  | waking
  | failed
  | gated
  deriving DecidableEq, Repr

/-- One power domain. -/
structure Domain where
  /-- PWR_DOMAIN[d].STATE; reset OFF. -/
  st : DomState := .off
  /-- PWR_DOMAIN[d].WAKES, 32 bits; reset 0. -/
  wakes : W32 := 0
  /-- Tick since which it has had no work (R377); reset 0. -/
  idleFrom : Nat := 0
  /-- Tick at which its wake or ramp began; reset 0. -/
  since : Nat := 0
  deriving DecidableEq, Repr

/-- A transition in progress (R363): the DORMANT drain with its limit tick, or a resume. -/
inductive Transition where
  | drain (limit : Nat)
  | resume
  deriving DecidableEq, Repr

/-- The halt report, PWR_HALT (R364). -/
structure HaltReport where
  reason : Nat
  sources : BitVec 24
  epoch : Nat
  time : Nat
  delivered : Nat
  undeliverable : Nat
  cause : BitVec 3
  count : Nat
  path : Nat
  kd : Nat
  addr : Nat
  step : Nat
  code : Nat
  deriving DecidableEq, Repr

/-- Where LAUNCH stands (R360): not begun; steps 1 to 8 done and waiting for the DRAM and the RNG, with what the outside
world gave; or ended. -/
inductive LaunchStage where
  | notBegun
  | training (env : LaunchEnv) (dram : Bool)
  | ended
  deriving DecidableEq, Repr

/-- Modes, functions, power and clocks. -/
structure Pwr where
  /-- PWR_MODE_STATUS.RESULT, 0 to 7; reset 0. -/
  result : Nat := 0
  /-- PWR_MODE_STATUS.REQ, 3 bits; reset 0. -/
  req : Nat := 0
  /-- The transition in progress (R363); reset none. -/
  trans : Option Transition := none
  /-- The epoch in user flash, PWR_EPOCH (R361); dash. -/
  epoch : Nat := 0
  /-- EPOCH_STATE in user flash (R361); reset DESIGN CHOICE (log 18) ended orderly, as a part never launched. -/
  epochState : EpochState := .ended 0
  /-- PWR_EPOCH_END.CAUSE, 2 bits; dash. -/
  epochEnd : Nat := 0
  /-- PWR_FN_SEL.FN, 8 bits; reset 0. -/
  fnSel : Nat := 0
  /-- Functions STOPPED (R370); reset none. -/
  stopped : List Nat := []
  /-- REASON of the last RESTART by function, PWR_FN_STATUS.REASON; reset 0. -/
  reasons : Tbl Nat := []
  /-- Functions that hold a grant (R372); reset none. -/
  grants : List Nat := []
  /-- The open pending copy: its function and the configuration as it would become (R370); reset none. -/
  pend : Option (Nat × Manifest) := none
  /-- The gates whose barriers a RESTART of the gate tables waits for (R301); reset none. -/
  restarting : List Nat := []
  /-- PWR_FN_BUF words by index, 0 to 511; reset 0. -/
  fnBuf : Tbl W64 := []
  /-- PWR_FN_BUF_LEN.LEN, 13 bits; reset 0. -/
  fnBufLen : Nat := 0
  /-- PWR_THROTTLE.THERMAL, eighths; reset 8. -/
  thermal : Nat := 8
  /-- PWR_THROTTLE.CAP, eighths; reset 8. -/
  cap : Nat := 8
  /-- Tick since which the junction has stayed below 97.0 °C (R380); reset none. -/
  coolFrom : Option Nat := none
  /-- Tick since which power has stayed above the cap (R380); reset none. -/
  aboveFrom : Option Nat := none
  /-- Tick since which power has stayed below CAP_W − 2 W (R380); reset none. -/
  belowFrom : Option Nat := none
  /-- Dispatch credit in eighths of a decision, by which the fraction limits dispatch (R381, log 19); reset DESIGN CHOICE
  0. -/
  dispatchCredit : Nat := 0
  /-- PWR_AVS.CURRENT, 10 mA units, 16 bits; reset 0. -/
  current : Nat := 0
  /-- PWR_AVS.MEAS_MV, 16 bits; reset 0. -/
  measMv : Nat := 0
  /-- PWR_AVS.TARGET_MV, 16 bits; reset 750. -/
  targetMv : Nat := 750
  /-- PWR_TEMP.SENSOR, 3 bits; reset 0. -/
  tempSensor : Nat := 0
  /-- PWR_TEMP.MAX, quarter degrees, 16 bits; reset 0. -/
  tempMax : Int := 0
  /-- CLK_CORE cycles are stretched (R379); reset false. -/
  stretching : Bool := false
  /-- PWR_OVERRIDE.STRETCH, 32 bits saturating; reset 0. -/
  stretches : Nat := 0
  /-- PWR_OVERRIDE.STEPS, 16 bits saturating; reset 0. -/
  steps : Nat := 0
  /-- PWR_OVERRIDE.FLOOR_HELD, 16 bits saturating; reset 0. -/
  floorHeld : Nat := 0
  /-- Domains PD00 to PD71; unlisted: `{}`; reset all OFF. -/
  domains : Tbl Domain := []
  /-- PWR_HALT: the halt report; reset none (zero). -/
  halt : Option HaltReport := none
  /-- The Wharf flush of R59 runs; reset false. -/
  flushing : Bool := false
  /-- Where LAUNCH stands (R360); reset not begun: the next LAUNCH command runs it. -/
  launch : LaunchStage := .notBegun
  /-- Device time at step 1 of LAUNCH, for KWM_LAUNCH_TIME; reset 0. -/
  launchFrom : Nat := 0
  /-- SHAKE256-512 digests of the firmware images recorded at LAUNCH (R368); reset none. -/
  imageDigests : List Bytes := []
  /-- The declassify list of the firmware images recorded at LAUNCH, granule ranges (R300); reset none. -/
  declass : List (Nat × Nat) := []
  /-- A DRYDOCK_ENTER has passed its claim and drains: the crew core that runs it (R365); reset none. -/
  drydockBy : Option Nat := none
  deriving DecidableEq, Repr

/-- The state of manifest copies (KWM registers). -/
structure Kwm where
  /-- KWM_STATUS.DONE; reset 0. -/
  done : Bool := false
  /-- KWM_STATUS.STEP, 8 bits; reset 0. -/
  step : Nat := 0
  /-- KWM_STATUS.COUNTERSIGNED; reset 0. -/
  countersigned : Bool := false
  /-- KWM_STATUS.FALLBACK; reset 0. -/
  fallback : Bool := false
  /-- KWM_STATUS.COPY: false A, true B; reset 0. -/
  copyB : Bool := false
  /-- KWM_LAUNCH_TIME.TICKS, 64 bits; reset 0. -/
  ticks : Nat := 0
  /-- KWM_COPY[0]: SEQ_LO, REASON and USED; reset 0. -/
  copy0 : Nat × Nat × Bool := (0, 0, false)
  /-- KWM_COPY[1]; reset 0. -/
  copy1 : Nat × Nat × Bool := (0, 0, false)
  /-- KWM_DIGEST: 64 bytes; reset 0. -/
  digest : Bytes := []
  /-- SEQUENCE of the copy in use (R373); reset 0. -/
  sequence : Nat := 0
  /-- Migration record in user flash: F′ and progress LBA (R322), ROOT_MIGRATE; reset none. -/
  migration : Option (Nat × Nat) := none
  /-- The barge whose migration the record belongs to, as its outcome entry will name it (R323); reset none. -/
  migrant : Option OutcomeEntry := none
  /-- Density of the manifest flash in bytes, read from its SFDP table in LAUNCH (R353); reset 0. -/
  density : Nat := 0
  deriving DecidableEq, Repr

/-! ### Host interfaces (16_wharf_host_interfaces.md) -/

/-- A running loopback (R399): the tick it began in, and DURATION_MS, IFACE and DEPTH as they stood at its START. -/
structure LoopRun where
  since : Nat
  ms : Nat
  iface : Nat
  depth : Nat
  deriving DecidableEq, Repr

/-- How far a TLS session has come (R390, R391). -/
inductive SessStage where
  | tcp
  | handshake (since : Nat)
  | opened
  deriving DecidableEq, Repr

/-- One session: a TCP connection with its TLS session (R389 to R391). -/
structure Session where
  /-- Ethernet port, 0 or 1. -/
  port : Nat
  stage : SessStage := .tcp
  /-- Tenant bound by the leaf certificate (R391). -/
  tenant : Nat := 0
  /-- LTP version by ALPN: true v2, false v1. -/
  v2 : Bool := true
  /-- Handshake transcript so far. -/
  transcript : Bytes := []
  /-- Receive traffic key and IV under profile 9, with its generation (R390). -/
  rxKey : Bytes := []
  rxGen : Nat := 0
  /-- Transmit traffic key and IV, with its generation. -/
  txKey : Bytes := []
  txGen : Nat := 0
  /-- Tick of the last traffic on the connection (R389). -/
  traffic : Nat
  deriving DecidableEq, Repr

/-- A towpath read accepted and not yet answered (R400). -/
structure TowRead where
  addr : Nat
  limit : Nat
  deriving DecidableEq, Repr

/-- The Wharf. Log 32, DESIGN CHOICE. -/
structure Wharf where
  /-- WHF_PCIE_STATUS.UP; reset 0. -/
  pcieUp : Bool := false
  /-- WHF_PCIE_STATUS.GEN, 4 bits; reset 0. -/
  gen : Nat := 0
  /-- WHF_PCIE_STATUS.WIDTH, 4 bits; reset 0. -/
  width : Nat := 0
  /-- WHF_PCIE_STATUS.VFS, 6 bits; reset 0. -/
  vfs : Nat := 0
  /-- Functions whose Bus Master Enable is 1 (R384, R386), in configuration space; reset none. -/
  bme : List Nat := []
  /-- Masked MSI-X vectors, (function, vector), with a function mask as (function, 4,096) (R384); reset none. -/
  masked : List (Nat × Nat) := []
  /-- Pending Bits: (function, vector) (R384); reset none. -/
  msixPending : List (Nat × Nat) := []
  /-- The addresses of MSI-X messages that gate 112 refused and has not reported yet (R294, R299); reset empty. -/
  msixRefused : List Nat := []
  /-- WHF_PCIE_ERR.FLR_DISCARDS, 16 bits saturating; reset 0. -/
  flrDiscards : Nat := 0
  /-- WHF_PCIE_ERR.LINK_DOWNS, 16 bits saturating; reset 0. -/
  linkDowns : Nat := 0
  /-- WHF_PCIE_ERR.POISONED, 16 bits saturating; reset 0. -/
  poisoned : Nat := 0
  /-- WHF_PCIE_ERR.TIMEOUTS, 16 bits saturating; reset 0. -/
  timeouts : Nat := 0
  /-- Sessions by number (R389), at most 4,096; reset none. -/
  sessions : Tbl Session := []
  /-- Number of the next session; reset DESIGN CHOICE 0. -/
  sessionNext : Nat := 0
  /-- WHF_SESSIONS.LTP_ERRORS, 16 bits saturating; reset 0. -/
  ltpErrors : Nat := 0
  /-- WHF_SESSIONS.HS_FAILED, 16 bits saturating; reset 0. -/
  hsFailed : Nat := 0
  /-- WHF_CARGO_PORT.CMD_TIMEOUTS, 32 bits saturating; reset 0. -/
  cmdTimeouts : Nat := 0
  /-- WHF_CARGO_PORT.GEN_A, 4 bits; reset 0. -/
  genA : Nat := 0
  /-- WHF_CARGO_PORT.GEN_B, 4 bits; reset 0. -/
  genB : Nat := 0
  /-- WHF_TOWPATH.SPI_TIMEOUTS, 32 bits saturating; reset 0. -/
  spiTimeouts : Nat := 0
  /-- WHF_TOWPATH.SMB_TIMEOUTS, 32 bits saturating; reset 0. -/
  smbTimeouts : Nat := 0
  /-- SMBus read in progress (R400); reset none. -/
  smbRead : Option TowRead := none
  /-- SPI read in progress (R400); reset none. -/
  spiRead : Option TowRead := none
  /-- WHF_ETH[0].UP; reset 0. -/
  eth0Up : Bool := false
  /-- WHF_ETH[1].UP; reset 0. -/
  eth1Up : Bool := false
  /-- WHF_ETH[p].FEC_CORR, 32 bits, by port; reset 0. -/
  fecCorr : Tbl Nat := []
  /-- WHF_ETH[p].FEC_UNCORR, 16 bits, by port; reset 0. -/
  fecUncorr : Tbl Nat := []
  /-- Control packets answered in the current second: (second, count), by port (R389); reset none. -/
  control : Tbl (Nat × Nat) := []
  /-- WHF_LOOP_CTL.DURATION_MS, 32 bits; reset 0. -/
  loopMs : Nat := 0
  /-- WHF_LOOP_CTL.IFACE, 4 bits; reset 0. -/
  loopIface : Nat := 0
  /-- WHF_LOOP_CTL.DEPTH, 2 bits; reset 0. -/
  loopDepth : Nat := 0
  /-- WHF_LOOP_STATUS.RESULT, 4 bits; reset 0. -/
  loopResult : Nat := 0
  /-- WHF_LOOP_STATUS.ERRORS, 16 bits saturating; reset 0. -/
  loopErrors : Nat := 0
  /-- WHF_LOOP_STATUS.CHECKED, 32 bits; reset 0. -/
  loopChecked : Nat := 0
  /-- The running loopback (START is set); reset none. -/
  loop : Option LoopRun := none
  /-- A partner-directed PCIe Loopback is followed (R399); reset false. -/
  partnerLoop : Bool := false
  /-- GPIO pin levels, bit n GPIO[n] (R446); reset 0: inputs with pull-downs, outputs not enabled. -/
  gpio : BitVec 16 := 0
  /-- GPIO outputs are enabled (R446, step 1 of R360); reset false. -/
  gpioOut : Bool := false
  /-- Output slew strap sampled at the rising edge of RESET_N (R459), 2 bits; reset DESIGN CHOICE 0. -/
  slew : Nat := 0
  deriving DecidableEq, Repr

/-! ### Broviry links and clusters (17_broviry_cluster.md) -/

/-- The states of a link, BRV_LINK[l].STATE. -/
inductive LinkState where
  | off
  | training
  | attesting
  | up
  | stopped
  | down
  deriving DecidableEq, Repr

/-- A message that waits for its turn on a link (R402, R422): its header fields and plaintext. -/
structure LinkMsg where
  typ : Nat
  vc : Nat
  src : Nat
  dst : Nat
  payload : Bytes
  deriving DecidableEq, Repr

/-- One Broviry link. -/
structure BLink where
  /-- BRV_LINK[l].STATE; reset OFF. -/
  st : LinkState := .off
  /-- BRV_LINK[l].PEER, 8 bits; reset 0xFF. -/
  peer : Nat := 0xFF
  /-- BRV_LINK[l].REASON, 4 bits; reset 0. -/
  reason : Nat := 0
  /-- BRV_LINK[l].RETRIES, 16 bits saturating; reset 0. -/
  retries : Nat := 0
  /-- BRV_LINK[l].DOWNS, 16 bits saturating; reset 0. -/
  downs : Nat := 0
  /-- Tick of the last recorded heartbeat (R403); reset 0. -/
  heartbeat : Nat := 0
  /-- Tick since which the link is down, for the retry of R403; reset 0. -/
  downFrom : Nat := 0
  /-- Keys of the transmit direction, 96 bytes (R406); reset none (zeroed). -/
  txKeys : Bytes := []
  /-- Keys of the receive direction, 96 bytes; reset none (zeroed). -/
  rxKeys : Bytes := []
  /-- Transmit frame counter, 64 bits, SLU_LINK[l].TX_CTR (R292); reset 0. -/
  txCtr : Nat := 0
  /-- Next receive frame counter (R292); reset 0. -/
  rxCtr : Nat := 0
  /-- LSEQ of the next frame sent, 16 bits (R402); reset 0. -/
  txSeq : Nat := 0
  /-- LSEQ expected next, 16 bits (R402); reset 0. -/
  rxSeq : Nat := 0
  /-- Unacknowledged frames as sent with their messages, oldest first, at most 128 (R402); reset empty. -/
  unacked : List (Frame × LinkMsg) := []
  /-- Messages that wait: for room in the replay buffer, for a STOPPED function or for the link to come up (R402, R422);
  reset empty. -/
  waiting : List LinkMsg := []
  /-- Consecutive failed replays (R402); reset 0. -/
  replays : Nat := 0
  /-- SLU_LINK[l].MAC_FAIL, 16 bits saturating; reset 0. -/
  macFail : Nat := 0
  /-- Round-trip delay measured on the link, ticks (R419); reset 0. -/
  delay : Nat := 0
  deriving DecidableEq, Repr

/-- The states of a bucket, BRV_MAP[b].STATE (R409). -/
inductive BucketState where
  | normal
  | failedOver
  | degraded
  | resync
  | unavailable
  deriving DecidableEq, Repr

/-- One bucket of the map, BRV_MAP[b]. -/
structure Bucket where
  home : Nat
  replica : Nat
  st : BucketState
  deriving DecidableEq, Repr

/-- The membership states, BRV_STATUS.STATE. -/
inductive Member where
  | single
  | forming
  | joining
  | member
  | left
  | withdrawn
  deriving DecidableEq, Repr

/-- A membership change decided and waiting for its switch tick (R408): devices lost or leaving (no DEVICE_LOST for a leave,
R421), devices joined, buckets whose stream ended, the switch tick. -/
structure MapUpdate where
  lost : List Nat
  leaving : List Nat
  joined : List Nat
  resynced : List Nat
  tick : Nat
  deriving DecidableEq, Repr

/-- The cluster. -/
structure Brv where
  /-- BRV_STATUS.COORD, 8 bits; reset 0xFF. -/
  coord : Nat := 0xFF
  /-- BRV_STATUS.MAP_VERSION, 16 bits; reset 0. -/
  mapVersion : Nat := 0
  /-- BRV_STATUS.STATE; reset SINGLE. -/
  st : Member := .single
  /-- BRV_LIVE.MASK; reset 0. -/
  live : BitVec 64 := 0
  /-- Bucket map, 0 to 4,095; unlisted: HOME 0, REPLICA 0xFF, NORMAL; reset empty. -/
  map : Tbl Bucket := []
  /-- The map updates that wait for their switch ticks, oldest first (R408); reset none. -/
  updates : List MapUpdate := []
  /-- A switch tick that removed devices, whose barges end in the next tick, with those devices (R417); reset none. -/
  settle : Option (Nat × List Nat) := none
  /-- Link directions known to be down: device and its link (R416); reset none. -/
  cut : List (Nat × Nat) := []
  /-- Devices known to have linked up, by which a head sees the cluster form (R408); reset none. -/
  linked : List Nat := []
  /-- Barges that arrived on link l and wait at admission port 3 + l, oldest first (R11, R412); reset none. -/
  ports : Tbl (List FwdBarge) := []
  /-- Links 0 to 3; unlisted: `{}`. -/
  links : Tbl BLink := []
  /-- BRV_FWD.FORWARDED, 32 bits, wraps; reset 0. -/
  forwarded : W32 := 0
  /-- BRV_FWD.LOST, 16 bits saturating; reset 0. -/
  lostCount : Nat := 0
  /-- BRV_FWD.LATE, 16 bits saturating; reset 0. -/
  late : Nat := 0
  /-- BRV_REPL.REPLICATED, 32 bits, wraps; reset 0. -/
  replicated : W32 := 0
  /-- BRV_REPL.DEGRADED, 16 bits saturating; reset 0. -/
  degradedCount : Nat := 0
  /-- BRV_TIME.CORRECTIONS, 32 bits, wraps; reset 0. -/
  corrections : W32 := 0
  /-- BRV_TIME.OFFSET, ns, two's complement, 16 bits; reset 0. -/
  offset : Int := 0
  /-- Pair keys by device (R407), 32 bytes; reset none. -/
  pairs : Tbl Bytes := []
  /-- The 64-bit pair counters of sealing by device (R407); reset 0. -/
  pairCtr : Tbl Nat := []
  /-- Commits sent to a replica and not acknowledged: commit, replica (R414); reset none. -/
  awaiting : List (Commit × Nat) := []
  /-- Number of the next commit sent to a replica, by which its acknowledgement names it; reset 0. -/
  replNext : Nat := 0
  /-- Tick of the last heartbeats sent (R403); reset 0. -/
  hbSent : Nat := 0
  /-- Tick of the last time sync frames sent (R419); reset 0. -/
  syncSent : Nat := 0
  /-- Forward credits in use by home (R412); reset 0. -/
  fwdUsed : Tbl Nat := []
  /-- Permits a head has forwarded to be lodged elsewhere: tenant, number, device (R411); reset none. -/
  permits : List (Nat × Nat × Nat) := []
  deriving DecidableEq, Repr

/-! ### The logbook (18_logbook_and_fifos.md) -/

/-- A logbook record (R424): the header's fields and the body words; `seq` is given when it enters the ring (R425). -/
structure Rec where
  code : Nat
  time : Nat
  tenant : Nat := 0
  unit : Nat := 0xFF
  audit : Bool
  body : List W64
  seq : Nat := 0
  deriving DecidableEq, Repr

/-- One token bucket, LOG_RATE[c] (R428). -/
structure Rate where
  /-- LOG_RATE.CAPACITY, 8 bits; dash. -/
  capacity : Nat := 0
  /-- LOG_RATE.REFILL, 8 bits; dash. -/
  refill : Nat := 0
  /-- LOG_RATE.TOKENS, 8 bits; dash. -/
  tokens : Nat := 0
  /-- LOG_RATE.SUPPRESSED, 32 bits; reset 0. -/
  suppressed : Nat := 0
  /-- Device time of the first record suppressed in the window (R429); reset 0. -/
  first : Nat := 0
  /-- Device time of the last record suppressed in the window (R429); reset 0. -/
  last : Nat := 0
  deriving DecidableEq, Repr

/-- The cursor and window of one access path (R435). -/
structure Cursor where
  /-- SEQ of the record at the cursor. -/
  seq : Nat := 0
  /-- LOG_CURSOR_INFO.OFFSET, 8 bits. -/
  off : Nat := 0
  /-- LOG_CURSOR_INFO.SKIPPED. -/
  skipped : Bool := false
  /-- LOG_WINDOW: the words copied, at most 64; AVAIL is their number. -/
  win : List W64 := []
  /-- LOG_NEXT.ADVANCED of the last advance. -/
  advanced : Nat := 0
  deriving DecidableEq, Repr

/-- A kept seal of AUDIT_SEAL (R433, R434). -/
structure Seal where
  number : Nat
  first : Nat
  last : Nat
  device : Bool
  deriving DecidableEq, Repr

/-- The logbook. Log 32, DESIGN CHOICE. -/
structure Log where
  /-- Ingress queue: records made and not yet in the ring, arrival order (R437); reset empty. -/
  ingress : List Rec := []
  /-- The on-chip ring, oldest first (R430); reset empty. -/
  ring : List Rec := []
  /-- Epoch field of SEQ, 24 bits (R425); reset 0. -/
  seqEpoch : Nat := 0
  /-- Records entered into the ring in the epoch, 40 bits (R425); reset 0. -/
  seqCount : Nat := 0
  /-- SEQ of the next record to copy to the archive (R430); reset 0. -/
  nextCopy : Nat := 0
  /-- The DRAM archive, oldest first (R430); reset empty. -/
  archive : List Rec := []
  /-- Archive capacity in words, from the MEMORY record (R430); reset 0 until LAUNCH. -/
  archCap : Nat := 0
  /-- Greatest SEQ of the audit-critical records acknowledged, plus 1 (R434); reset 0. -/
  ackTo : Nat := 0
  /-- The cargo store's logbook archive sectors: audit-critical records written at checkpoints (R430, R431); reset empty. -/
  cargo : List Rec := []
  /-- LOG_LOST.ARCHIVE, 32 bits saturating; reset 0. -/
  lostArchive : Nat := 0
  /-- LOG_LOST.INGRESS, 16 bits saturating; reset 0. -/
  lostIngress : Nat := 0
  /-- LOG_LOST.RING, 16 bits saturating; reset 0. -/
  lostRing : Nat := 0
  /-- LOG_AUDIT.THRESHOLD, percent, 8 bits; reset 80. -/
  threshold : Nat := 80
  /-- LOG_AUDIT.LIMIT, words, 28 bits (R432); dash, set in LAUNCH. -/
  limit : Nat := 0
  /-- LOG_AUDIT.OUTSTANDING, words, 28 bits (R432); dash, set in LAUNCH. -/
  outstanding : Nat := 0
  /-- Words reserved by barges at their audit-space check and not yet written (R432); reset 0. -/
  reserved : Nat := 0
  /-- An audit-critical record found the whole archive full: admission stops but for maintenance rings of the device
  tenant (R432); reset false. -/
  auditStop : Bool := false
  /-- The last 16 seals of the epoch (R433); reset empty. -/
  seals : List Seal := []
  /-- Number the next seal takes (R433); reset DESIGN CHOICE 0. -/
  sealNext : Nat := 0
  /-- Cursors by path: 0 PF, 1 SMBus, 2 SPI, 3 debug (R435); unlisted: not read yet; reset empty. -/
  cursors : Tbl Cursor := []
  /-- LOG_RATE by code; an unlisted code's bucket is `{}`; reset empty. -/
  rates : Tbl Rate := []
  /-- Window number at which buckets were last refilled (R428); reset 0. -/
  lastRefill : Nat := 0
  deriving DecidableEq, Repr

/-! ### The whole state -/

/-- What leaves the device at its pins, in order (log 7). -/
inductive Emit where
  /-- A read of host memory issued under a function (R20, R49). -/
  | hostRead (fn addr len : Nat)
  /-- A write to host memory under a function (R20, R50). -/
  | hostWrite (fn addr : Nat) (bs : Bytes)
  /-- An MSI-X message of a function (R384). -/
  | msix (fn vec : Nat)
  /-- The data of a register read, to its path (R4, R400). -/
  | regData (path : Path) (addr : Nat) (v : W64)
  /-- A towpath read that ended at its limit (R400). -/
  | towTimeout (path : Path)
  /-- An LTP message to a session: TYPE, RING, ARG, body (R393). -/
  | ltp (session typ ring arg : Nat) (body : Bytes)
  /-- A TLS alert or message of a session by name: 0 server flight, 1 HelloRetryRequest, 2 KeyUpdate, 3 close_notify, 4
  internal_error, 5 no_application_protocol, 6 handshake failure (R390, R391). -/
  | tls (session what : Nat)
  /-- A TCP segment of a port: 0 SYN-ACK, 1 RST, 2 FIN, 3 keepalive probe (R389). -/
  | tcp (port session what : Nat)
  /-- An answer to ARP, NDP or ICMP echo (R389). -/
  | control (port : Nat) (mac : Bytes)
  /-- A Broviry frame sent on a link (R401). -/
  | frame (link : Nat) (f : Frame)
  /-- What a device sends in steps 2 and 3 of a link-up on a link, or of a pair-key agreement with a device (R406, R407). -/
  | hello (pair : Bool) (to_ : Nat) (step2 step3 : Bytes)
  /-- An acknowledgement or NAK of an LSEQ (R402). -/
  | linkAck (link lseq : Nat) (nak : Bool)
  /-- An NVMe command to a drive: 0 Read, 1 Write with FUA, 2 Flush, 3 Abort; LBA, sectors (R388). -/
  | nvme (drive op lba sectors : Nat)
  /-- A manifest copy written to the flash: copy B, bytes (R373). -/
  | flashWrite (copyB : Bool) (bs : Bytes)
  /-- A new VDD_CORE target to the regulator, mV (R378). -/
  | avs (mv : Nat)
  /-- Data of a debug-port read (R332). -/
  | debugData (addr : Nat) (v : W64)
  deriving DecidableEq, Repr

/-- The LT7200. -/
structure State where
  /-- Time bases and main power. -/
  clock : Clock
  /-- GLB registers and mode. -/
  glb : Glb
  /-- Rings 0 to 16,383 by number; unlisted: `{}` CLOSED (R51); reset empty. -/
  rings : Tbl Ring
  /-- The Lockmaster and telemetry. -/
  lkm : Lkm
  /-- Crew cores 0 to 95 by number; entry 96 stands for the diagnostic registers' contexts; unlisted: `{}` idle. -/
  cores : Tbl Core
  /-- Moorings, cargo cache, cargo store. -/
  mor : Mor
  /-- Tenants, officers, permits, calendar. -/
  adm : Adm
  /-- Cipher lanes. -/
  cph : Cph
  /-- Hash engines and KDU. -/
  hsh : Hsh
  /-- Bignum tiles. -/
  bgn : Bgn
  /-- Random number generation. -/
  rng : Rng
  /-- Inline encryption. -/
  slu : Slu
  /-- On-chip SRAM of the address map (core scratch and cluster SRAM) by 8-byte word number; an unlisted word is the
  not-valid word of R28 (R26, R303); reset empty. -/
  sram : Tbl TWord
  /-- Barrier gates. -/
  gte : Gte
  /-- Roots and identity. -/
  root : Root
  /-- Life cycle and debug. -/
  lcy : Lcy
  /-- The lengthsman and sentry domain. -/
  len : Len
  /-- Modes, functions and power. -/
  pwr : Pwr
  /-- Manifest status. -/
  kwm : Kwm
  /-- The Wharf and pins. -/
  wharf : Wharf
  /-- Broviry. -/
  brv : Brv
  /-- The logbook. -/
  log : Log
  /-- The active configuration of every function (R369), the manifest's after LAUNCH; reset the hardware defaults. -/
  cfg : Manifest
  /-- What has left the device, oldest first (log 7): the model's own record; reset empty. -/
  out : List Emit
  /-- Counter of free values taken (the model's own; log 20); reset DESIGN CHOICE 0. -/
  free : Nat
  /-- Commands that wait, first in, first out; reset empty. -/
  pending : List Instr
  deriving DecidableEq, Repr

/-- Why a run would stop with a fault. The model has no such stop: every command of the table ends in a next state (an
access the device refuses is answered as the spec says). Safe. -/
inductive Fault where
  /-- Raised by no meaning; it keeps the type inhabited for the host's interface. Safe. -/
  | unreachable
  deriving DecidableEq, Repr

/-- Why a run would stop with a refusal. -/
inductive Refusal where
  /-- The command of that mnemonic has no meaning in the model. Raised by the dispatch alone. Safe. -/
  | notModelled (mnemonic : String)
  deriving DecidableEq, Repr

/-- The machine right after reset: main power has just come on for the first time on a part in PRODUCTION (log 8, log 18);
mode LAUNCH, nothing launched. Log 1, DESIGN CHOICE. Log 32. -/
def State.reset : State where
  clock := {}
  glb := {}
  rings := []
  lkm := {}
  cores := []
  mor := {}
  adm := {}
  cph := {}
  hsh := {}
  bgn := {}
  rng := {}
  slu := {}
  sram := []
  gte := {}
  root := {}
  lcy := {}
  len := {}
  pwr := {}
  kwm := {}
  wharf := {}
  brv := {}
  log := {}
  cfg := {}
  out := []
  free := 0
  pending := []

end Sys2Proof.Machine
end

