-- ==== Sys2Proof/Machine/Flags.lean ====
section
/-! DEFINITION. Codes and flag computations: the status codes of R46 and those the chapters add, the CFLAGS of a completion
(R44), saturating counters, the GLB_INT_STATUS bits (01_architecture.md) and the levels of the lengthsman's responses (R341). -/

namespace Sys2Proof.Machine

/-! ### Status codes (R46, R83, R145, R188, R239, R373, R410) -/

/-- DONE (0x0000). -/
abbrev stDone : Nat := 0x0000
/-- DONE_LATE (0x0001). -/
abbrev stDoneLate : Nat := 0x0001
/-- BAD_OPCODE (0x0101). -/
abbrev stBadOpcode : Nat := 0x0101
/-- BAD_FORMAT (0x0102). -/
abbrev stBadFormat : Nat := 0x0102
/-- BAD_LENGTH (0x0103). -/
abbrev stBadLength : Nat := 0x0103
/-- BAD_POINTER (0x0104). -/
abbrev stBadPointer : Nat := 0x0104
/-- KEY_UNKNOWN (0x0201). -/
abbrev stKeyUnknown : Nat := 0x0201
/-- KEY_USAGE (0x0202). -/
abbrev stKeyUsage : Nat := 0x0202
/-- KEY_DAMAGED (0x0203). -/
abbrev stKeyDamaged : Nat := 0x0203
/-- KEY_PAGE_TIMEOUT (0x0204). -/
abbrev stKeyPageTimeout : Nat := 0x0204
/-- KEY_EXISTS (0x0205, R145). -/
abbrev stKeyExists : Nat := 0x0205
/-- KEY_LIMIT (0x0206, R145). -/
abbrev stKeyLimit : Nat := 0x0206
/-- CARGO_OFFLINE (0x0207, R188). -/
abbrev stCargoOffline : Nat := 0x0207
/-- KEY_SPLIT (0x0208, R410). -/
abbrev stKeySplit : Nat := 0x0208
/-- PERMIT_MISSING (0x0301). -/
abbrev stPermitMissing : Nat := 0x0301
/-- PERMIT_INVALID (0x0302). -/
abbrev stPermitInvalid : Nat := 0x0302
/-- PERMIT_EXPIRED (0x0303). -/
abbrev stPermitExpired : Nat := 0x0303
/-- AUDIT_FULL (0x0304). -/
abbrev stAuditFull : Nat := 0x0304
/-- POLICY_DENIED (0x0305, R83). -/
abbrev stPolicyDenied : Nat := 0x0305
/-- PERMIT_TABLE_FULL (0x0306, R145). -/
abbrev stPermitTableFull : Nat := 0x0306
/-- PERMIT_RATE (0x0307, R145). -/
abbrev stPermitRate : Nat := 0x0307
/-- EXPIRED (0x0401). -/
abbrev stExpired : Nat := 0x0401
/-- ENTROPY_UNAVAILABLE (0x0402). -/
abbrev stEntropy : Nat := 0x0402
/-- RING_CLOSED (0x0403). -/
abbrev stRingClosed : Nat := 0x0403
/-- LANE_FAULT (0x0501). -/
abbrev stLaneFault : Nat := 0x0501
/-- DATA_POISONED (0x0502). -/
abbrev stPoisoned : Nat := 0x0502
/-- DEVICE_LOST (0x0503). -/
abbrev stDeviceLost : Nat := 0x0503
/-- ABORTED (0x0504). -/
abbrev stAborted : Nat := 0x0504
/-- HALTED (0x0505). -/
abbrev stHalted : Nat := 0x0505
/-- EPOCH_LOST (0x0506). -/
abbrev stEpochLost : Nat := 0x0506
/-- FLASH_FAULT (0x0507, R373). -/
abbrev stFlashFault : Nat := 0x0507
/-- VERIFY_FAIL (0x0601). -/
abbrev stVerifyFail : Nat := 0x0601
/-- POINT_INVALID (0x0602). -/
abbrev stPointInvalid : Nat := 0x0602
/-- VALUE_OUT_OF_RANGE (0x0603). -/
abbrev stRange : Nat := 0x0603
/-- PIN_BLOCK_INVALID (0x0604, R83). -/
abbrev stPinBlock : Nat := 0x0604
/-- DECRYPT_INVALID (0x0605, R239). -/
abbrev stDecryptInvalid : Nat := 0x0605

/-- The codes of R46 and those the chapters add that a barge's failure may carry. -/
def failureCodes : List Nat :=
  [stBadOpcode, stBadFormat, stBadLength, stBadPointer, stKeyUnknown, stKeyUsage, stKeyDamaged, stKeyPageTimeout, stKeyExists, stKeyLimit,
    stCargoOffline, stKeySplit, stPermitMissing, stPermitInvalid, stPermitExpired, stAuditFull, stPolicyDenied, stPermitTableFull,
    stPermitRate, stExpired, stEntropy, stLaneFault, stPoisoned, stAborted, stFlashFault, stVerifyFail, stPointInvalid, stRange, stPinBlock,
    stDecryptInvalid]

/-! ### The completion's flags (R44, R47) -/

/-- CFLAGS of a completion with its PHASE. -/
def cflags (c : Comp) (phase : Bool) : Nat :=
  (if phase then 1 else 0) + (if c.epoch then 2 else 0) + (if c.forwarded then 4 else 0) + (if c.outbuf then 8 else 0)

/-- PHASE of the completion written at count `tail` of a ring of 2^log entries: 1 on the first pass (R44). -/
def phaseOf (tail log : Nat) : Bool := tail / 2 ^ log % 2 == 0

/-- The status of a completion at its release tick (R47, R65): DONE after the deadline on a COMPLETE_LATE ring is
DONE_LATE. -/
def releaseStatus (status : Nat) (failExpired : Bool) (deadline tick : Nat) : Nat :=
  if status = stDone ∧ failExpired = false ∧ deadline < tick then stDoneLate else status

/-! ### Counters -/

/-- A saturating counter of w bits. -/
def satAdd (w n k : Nat) : Nat := min (n + k) (2 ^ w - 1)

/-- A free-running 32-bit difference (R48, R50). -/
def diff32 (a b : W32) : Nat := (a - b).toNat

/-! ### Summary interrupt causes (GLB_INT_STATUS) -/

/-- MODE_CHANGE. -/
abbrev intMode : BitVec 6 := 1
/-- ALARM. -/
abbrev intAlarm : BitVec 6 := 2
/-- AUDIT_SPACE. -/
abbrev intAudit : BitVec 6 := 4
/-- RESTARTED. -/
abbrev intRestarted : BitVec 6 := 8
/-- THROTTLE. -/
abbrev intThrottle : BitVec 6 := 16
/-- SPARE_USED. -/
abbrev intSpare : BitVec 6 := 32

/-! ### Dispatch fractions, in eighths (R379 to R381, LEN_CFG.THROTTLE) -/

/-- The dispatch fraction of a THROTTLE code in eighths: 1 half, 2 quarter, 3 eighth; 0 as 1. -/
def throttleEighths (code : Nat) : Nat :=
  match code with
  | 2 => 2
  | 3 => 1
  | _ => 4

/-! ### Mode and life-cycle codes -/

/-- GLB_STATUS.MODE; SENTRY has no code of its own and reads 0. -/
def Mode.code : Mode → Nat
  | .sentry => 0
  | .dormant => 1
  | .launch => 2
  | .service => 3
  | .drydock => 4
  | .halt => 5

/-- RING_CTL.STATE. -/
def RingState.code : RingState → Nat
  | .closed => 0
  | .opened => 1
  | .draining => 2
  | .stopped => 3
  | .faulted => 4

/-- PWR_DOMAIN.STATE. -/
def DomState.code : DomState → Nat
  | .off => 0
  | .on => 1
  | .ret => 2
  | .waking => 3
  | .failed => 4
  | .gated => 5

/-- RNG_CLUSTER.STATE. -/
def ClState.code : ClState → Nat
  | .off => 0
  | .settle => 1
  | .startup => 2
  | .collect => 3
  | .retired => 4
  | .raw => 5

/-- RNG_DRBG.STATE. -/
def DrbgState.code : DrbgState → Nat
  | .unseeded => 0
  | .serving => 1
  | .due => 2
  | .blocked => 3
  | .rawBlocked => 4

/-- MOR_STATUS.STORE_STATE. -/
def StoreState.code : StoreState → Nat
  | .online => 0
  | .degraded => 1
  | .offline => 2
  | .volatileHold => 3
  | .rebuilding => 4

/-- BRV_LINK.STATE. -/
def LinkState.code : LinkState → Nat
  | .off => 0
  | .training => 1
  | .attesting => 2
  | .up => 3
  | .stopped => 4
  | .down => 5

/-- BRV_MAP.STATE. -/
def BucketState.code : BucketState → Nat
  | .normal => 0
  | .failedOver => 1
  | .degraded => 2
  | .resync => 3
  | .unavailable => 4

/-- BRV_STATUS.STATE. -/
def Member.code : Member → Nat
  | .single => 0
  | .forming => 1
  | .joining => 2
  | .member => 3
  | .left => 4
  | .withdrawn => 5

/-- GTE_VIOL_INFO.KIND. -/
def Access.code : Access → Nat
  | .read => 0
  | .write => 1
  | .fetch => 2
  | .declassify => 3

end Sys2Proof.Machine
end

