-- ==== Sys2Proof/Machine/Operands.lean ====
section
/-! DEFINITION. Operand forms: bytes and numbers, bit fields, the barge head and its lighters (R37 to R41), key handles
(R39), command words of lanes, hash engines and tiles (R208, R223, R230), key labels (R137) and tagged words (R26 to R30). -/

namespace Sys2Proof.Machine

/-! ### Numbers and bytes (R3) -/

/-- Bits hi:lo of a number. -/
def bitsOf (hi lo n : Nat) : Nat := n / 2 ^ lo % 2 ^ (hi + 1 - lo)

/-- Bit i of a number. -/
def bitOf (i n : Nat) : Bool := n / 2 ^ i % 2 == 1

/-- Bits hi:lo of a 64-bit word, as a number. -/
def wbits (hi lo : Nat) (w : W64) : Nat := bitsOf hi lo w.toNat

/-- Bit i of a 64-bit word. -/
def wbit (i : Nat) (w : W64) : Bool := w.getLsbD i

/-- The n low bytes of a number, lowest address first (R3). -/
def toLE : Nat → Nat → Bytes
  | 0, _ => []
  | n + 1, v => BitVec.ofNat 8 v :: toLE n (v / 256)

/-- The number of a little-endian byte string (R3). -/
def ofLE : Bytes → Nat
  | [] => 0
  | b :: bs => b.toNat + 256 * ofLE bs

/-- The n low bytes of a number, most significant first. -/
def toBE (n v : Nat) : Bytes := (toLE n v).reverse

/-- The number of a big-endian byte string. -/
def ofBE (bs : Bytes) : Nat := ofLE bs.reverse

/-- n zero bytes. -/
def zeros (n : Nat) : Bytes := List.replicate n 0

/-- A byte string cut or zero-padded at its end to n bytes. -/
def fixLen (n : Nat) (bs : Bytes) : Bytes := bs.take n ++ zeros (n - bs.length)

/-- Bytes i to i + n − 1 of a byte string, zero beyond its end. -/
def slice (i n : Nat) (bs : Bytes) : Bytes := fixLen n (bs.drop i)

/-- The little-endian number in bytes i to i + n − 1. -/
def le (i n : Nat) (bs : Bytes) : Nat := ofLE (slice i n bs)

/-- Bytewise exclusive-OR, as long as the first. -/
def xorBytes (a b : Bytes) : Bytes := List.zipWith (· ^^^ ·) a (fixLen a.length b)

/-- Whether a byte string is all zero. -/
def allZero (bs : Bytes) : Bool := bs.all (· == 0)

/-- The bytes of an ASCII string. -/
def ascii (s : String) : Bytes := s.toList.map fun c => BitVec.ofNat 8 c.toNat

/-- The little-endian 64-bit words of a byte string, zero-padded to a whole word. -/
def toWords (bs : Bytes) : List W64 :=
  (List.range ((bs.length + 7) / 8)).map fun i => BitVec.ofNat 64 (le (8 * i) 8 bs)

/-- The bytes of 64-bit words, little-endian. -/
def ofWords (ws : List W64) : Bytes := ws.flatMap fun w => toLE 8 w.toNat

/-- Odd parity on one byte: the low bit is set so that the byte holds an odd number of ones. -/
def oddParity (b : Byte) : Byte :=
  let ones := (List.range 7).countP fun i => b.getLsbD (i + 1)
  (b &&& 0xFE) ||| (if ones % 2 == 0 then 1 else 0)

/-- Rounded-up division. -/
def ceilDiv (a b : Nat) : Nat := (a + b - 1) / b

/-- Replace n-byte windows: `bs` with bytes from i replaced by `v`. -/
def splice (i : Nat) (v bs : Bytes) : Bytes :=
  fixLen i bs ++ v ++ bs.drop (i + v.length)

/-! ### Key handles (R39, R141) -/

/-- The tenant of a handle, bits 59:48. -/
def handleTenant (h : Nat) : Nat := bitsOf 59 48 h

/-- The key number of a handle, bits 47:20. -/
def handleKey (h : Nat) : Nat := bitsOf 47 20 h

/-- The version of a handle, bits 19:12. -/
def handleVersion (h : Nat) : Nat := bitsOf 19 12 h

/-- Bits 63:60 and 11:0 are zero (R39). -/
def handleForm (h : Nat) : Bool := bitsOf 63 60 h == 0 && bitsOf 11 0 h == 0

/-- A handle that can name a key: key number and version not 0 (R141). -/
def handleNames (h : Nat) : Bool := handleKey h != 0 && handleVersion h != 0

/-! ### The barge (R37, R38, R40) -/

end Sys2Proof.Machine

namespace Sys2Proof

open Sys2Proof.Machine

/-- LIGHTERS, FLAGS bits 1:0. -/
def Barge.lighters (b : Barge) : Nat := b.flags % 4

/-- BUF, FLAGS bit 2. -/
def Barge.buf (b : Barge) : Bool := bitOf 2 b.flags

/-- IRQ, FLAGS bit 3. -/
def Barge.irq (b : Barge) : Bool := bitOf 3 b.flags

/-- Input buffer address (R40). -/
def Barge.inAddr (b : Barge) : Nat := b.p0.toNat

/-- Output buffer address (R40). -/
def Barge.outAddr (b : Barge) : Nat := b.p1.toNat

/-- Input length, PARAM2 bits 31:0. -/
def Barge.inLen (b : Barge) : Nat := wbits 31 0 b.p2

/-- Output capacity, PARAM2 bits 63:32. -/
def Barge.outCap (b : Barge) : Nat := wbits 63 32 b.p2

/-- The non-zero handles of the head, in position order. -/
def Barge.handles (b : Barge) : List Nat := [b.h0, b.h1, b.h2].filter (· != 0)

end Sys2Proof

namespace Sys2Proof.Machine

/-- Opcode group, bits 15:8. -/
def opGroup (op : Nat) : Nat := op / 256

/-- The head and lighters as the little-endian bytes of the slots (R37). -/
def bargeOfBytes (bs : Bytes) : Barge where
  opcode := le 6 2 bs
  flags := le 5 1 bs
  format := le 4 1 bs
  seq := le 0 4 bs
  deadline := le 12 4 bs
  permit := le 8 4 bs
  h0 := le 16 8 bs
  h1 := le 24 8 bs
  h2 := le 32 8 bs
  p0 := BitVec.ofNat 64 (le 40 8 bs)
  p1 := BitVec.ofNat 64 (le 48 8 bs)
  p2 := BitVec.ofNat 64 (le 56 8 bs)
  lights := slice 64 (64 * (le 5 1 bs % 4)) bs

/-- The bytes of a barge's head and lighters (R37). -/
def bytesOfBarge (b : Barge) : Bytes :=
  toLE 4 b.seq ++ toLE 1 b.format ++ toLE 1 b.flags ++ toLE 2 b.opcode ++ toLE 4 b.permit ++ toLE 4 b.deadline
    ++ toLE 8 b.h0 ++ toLE 8 b.h1 ++ toLE 8 b.h2 ++ toLE 8 b.p0.toNat ++ toLE 8 b.p1.toNat ++ toLE 8 b.p2.toNat
    ++ b.lights

/-! ### Key labels (R137) -/

/-- The 32 bytes of a label. -/
def KLabel.bytes (l : KLabel) : Bytes :=
  toLE 2 l.usage ++ toLE 1 l.alg ++ toLE 1 l.mode ++ toLE 1 l.exportability ++ toLE 1 l.size ++ toLE 1 l.dclass ++ [0]
    ++ toLE 8 l.handle ++ toLE 4 l.notBefore ++ toLE 4 l.notAfter ++ toLE 2 l.chainIdx ++ toLE 2 l.chainLen ++ zeros 4

/-- The label that 32 bytes hold. -/
def labelOfBytes (bs : Bytes) : KLabel where
  usage := le 0 2 bs
  alg := le 2 1 bs
  mode := le 3 1 bs
  exportability := le 4 1 bs
  size := le 5 1 bs
  dclass := le 6 1 bs % 4
  handle := le 8 8 bs
  notBefore := le 16 4 bs
  notAfter := le 20 4 bs
  chainIdx := le 24 2 bs
  chainLen := le 26 2 bs

/-- A usage code of two ASCII characters as `KLabel.usage` holds it. -/
def usage (s : String) : Nat := ofLE (ascii s)

/-- An ASCII character as a number. -/
def chr (s : String) : Nat := ofLE (ascii s)

/-- The DCLASS of a label as a class (R29, R137). -/
def classOfCode : Nat → SecClass
  | 0 => .pub
  | 1 => .confidential
  | 2 => .secret
  | _ => .held

/-! ### Tagged words (R26 to R30) -/

end Sys2Proof.Machine

namespace Sys2Proof

open Sys2Proof.Machine

/-- The code of a class (R29). -/
def SecClass.code : SecClass → Nat
  | .pub => 0
  | .confidential => 1
  | .secret => 2
  | .held => 3

/-- The higher of two classes (R30). -/
def SecClass.max (a b : SecClass) : SecClass := if a.code < b.code then b else a

end Sys2Proof

namespace Sys2Proof.Machine

/-- CHK over the data bits (R27): bit i is the complement of the parity of the bits d[j] with j mod 4 = i. -/
def chkOf (d : W64) : BitVec 4 :=
  let col (i : Nat) : Bool := ((List.range 16).countP fun k => d.getLsbD (4 * k + i)) % 2 == 0
  BitVec.ofNat 4 ((if col 0 then 1 else 0) + (if col 1 then 2 else 0) + (if col 2 then 4 else 0)
    + (if col 3 then 8 else 0))

/-- A valid word of a class with its CHK. -/
def word (d : W64) (cls : SecClass) (p : Bool := false) : TWord := ⟨d, true, p, cls, chkOf d⟩

/-- The not-valid word of R28. -/
def notValid : TWord := ⟨0, false, false, .pub, 0xF⟩

/-- The poisoned word of a refused read (R298): data zero, V = 1, P = 1, PUBLIC, CHK correct. -/
def poisonedWord : TWord := word 0 .pub true

end Sys2Proof.Machine

namespace Sys2Proof

open Sys2Proof.Machine

/-- A word as delivered by a FIFO or link hop: poison is set when CHK fails (R27). -/
def TWord.delivered (w : TWord) : TWord := if w.chk = chkOf w.data then w else { w with p := true }

/-- A word as DRAM keeps it: as delivered, with CHK rebuilt from the data on read (R273, R305). -/
def TWord.stored (w : TWord) : TWord := { w.delivered with chk := chkOf w.data }

/-- A word unfit as an operand: not valid or poisoned (R28). -/
def TWord.bad (w : TWord) : Bool := !w.v || w.p

end Sys2Proof

namespace Sys2Proof.Machine

/-- The highest class among words (R30). -/
def classOf (ws : List TWord) : SecClass := ws.foldl (fun c w => c.max w.cls) .pub

/-- Whether any word is not valid or poisoned (R28). -/
def anyBad (ws : List TWord) : Bool := ws.any TWord.bad

/-- The data bytes of tagged words, little-endian. -/
def wordsBytes (ws : List TWord) : Bytes := ofWords (ws.map TWord.data)

/-- Words of a class over bytes, zero-padded to whole words. -/
def wordsOf (bs : Bytes) (cls : SecClass) (p : Bool := false) : List TWord :=
  (toWords bs).map fun d => word d cls p

end Sys2Proof.Machine

namespace Sys2Proof

open Sys2Proof.Machine

/-- The stored tag byte's V, P and CLASS as a number, bits 7:4 (R26, R273). -/
def TWord.tagNibble (w : TWord) : Nat :=
  (if w.v then 8 else 0) + (if w.p then 4 else 0) + w.cls.code

/-- The 72-bit tag byte of a word (R26). -/
def TWord.tagByte (w : TWord) : Nat := 16 * w.tagNibble + w.chk.toNat

end Sys2Proof
end

