-- ==== Sys2Proof/Machine/Ops.lean ====
section
/-! DEFINITION. The named operations over the whole state: table access with the defaults of unlisted entries, what leaves the
device, interrupts (R25, R384), logbook records (R424 to R428, R437), the sentry record (R350, R351), alarms (R340 to R347)
and the entry to HALT (R364). -/

namespace Sys2Proof.Machine

/-! ### Reading and writing tables -/

/-- The entry of key `k`, or `d` where none is listed. -/
def tget {α : Type} (d : α) (k : Nat) (t : Tbl α) : α := (Tbl.find k t).getD d

/-- The least key from `n` on that a table in key order does not list. -/
def firstGap {α : Type} : Nat → Tbl α → Nat
  | n, [] => n
  | n, (k, _) :: t => if k < n then firstGap n t else if k = n then firstGap (n + 1) t else n

/-- Device time now (R16). -/
def State.now (s : State) : Nat := s.clock.dtime

/-- Ring `r` (R51: an unlisted ring is CLOSED with every field 0). -/
def State.ringAt (s : State) (r : Nat) : Ring := tget {} r s.rings

/-- Replace ring `r`. -/
def State.setRing (s : State) (r : Nat) (g : Ring) : State := { s with rings := Tbl.put r g s.rings }

/-- The RING configuration of a ring without a record (R355): it cannot be opened. -/
def RingCfg.blank : RingCfg := ⟨0, 0, false, false, false, 0, 0, 0, 0, 0⟩

/-- The active RING configuration of ring `r` (R355, R356). -/
def State.ringCfg (s : State) (r : Nat) : RingCfg := tget RingCfg.blank r s.cfg.rings

/-- Crew core `k`; 96 stands for the diagnostic registers. -/
def State.coreAt (s : State) (k : Nat) : Core := tget {} k s.cores

/-- Replace crew core `k`. -/
def State.setCore (s : State) (k : Nat) (c : Core) : State := { s with cores := Tbl.put k c s.cores }

/-- The barge-table entry `i`, if in use (R9). -/
def State.entryAt (s : State) (i : Nat) : Option Entry := Tbl.find i s.lkm.tbl

/-- Replace barge-table entry `i`. -/
def State.setEntry (s : State) (i : Nat) (e : Entry) : State :=
  { s with lkm := { s.lkm with tbl := Tbl.put i e s.lkm.tbl } }

/-- Free barge-table entry `i`. -/
def State.delEntry (s : State) (i : Nat) : State :=
  { s with lkm := { s.lkm with tbl := Tbl.del i s.lkm.tbl } }

/-- Lane `n` (R201): unlisted, the state LAUNCH gives a healthy part. -/
def State.laneAt (s : State) (n : Nat) : Lane :=
  tget (if n < 64 then { st := .active, group := n / 8 } else { st := .spare, group := 0xF }) n s.cph.lanes

/-- Replace lane `n`. -/
def State.setLane (s : State) (n : Nat) (l : Lane) : State :=
  { s with cph := { s.cph with lanes := Tbl.put n l s.cph.lanes } }

/-- Hash engine `e` (R222). -/
def State.engAt (s : State) (e : Nat) : Eng := tget {} e s.hsh.engs

/-- Replace hash engine `e`. -/
def State.setEng (s : State) (e : Nat) (g : Eng) : State :=
  { s with hsh := { s.hsh with engs := Tbl.put e g s.hsh.engs } }

/-- Tile `n` (R227): unlisted, the state LAUNCH gives a healthy part. -/
def State.tileAt (s : State) (n : Nat) : Tile :=
  tget (if n < 24 then { st := .active, group := n / 8 } else { st := .spare, group := 0xF }) n s.bgn.tiles

/-- Replace tile `n`. -/
def State.setTile (s : State) (n : Nat) (t : Tile) : State :=
  { s with bgn := { s.bgn with tiles := Tbl.put n t s.bgn.tiles } }

/-- Entropy cluster `n` (R257). -/
def State.clusterAt (s : State) (n : Nat) : Cluster := tget {} n s.rng.clusters

/-- Replace entropy cluster `n`. -/
def State.setCluster (s : State) (n : Nat) (c : Cluster) : State :=
  { s with rng := { s.rng with clusters := Tbl.put n c s.rng.clusters } }

/-- DRBG `n` (R261). -/
def State.drbgAt (s : State) (n : Nat) : Drbg := tget {} n s.rng.drbgs

/-- Replace DRBG `n`. -/
def State.setDrbg (s : State) (n : Nat) (d : Drbg) : State :=
  { s with rng := { s.rng with drbgs := Tbl.put n d s.rng.drbgs } }

/-- Broviry link `l` (R401). -/
def State.linkAt (s : State) (l : Nat) : BLink := tget {} l s.brv.links

/-- Replace Broviry link `l`. -/
def State.setLink (s : State) (l : Nat) (k : BLink) : State :=
  { s with brv := { s.brv with links := Tbl.put l k s.brv.links } }

/-- Power domain `d` (R375). -/
def State.domAt (s : State) (d : Nat) : Domain := tget {} d s.pwr.domains

/-- Replace power domain `d`. -/
def State.setDom (s : State) (d : Nat) (x : Domain) : State :=
  { s with pwr := { s.pwr with domains := Tbl.put d x s.pwr.domains } }

/-- The work of a power domain has ended: its idle time starts (R377). -/
def State.idleNow (s : State) (d : Nat) : State := s.setDom d { s.domAt d with idleFrom := s.now }

/-- Tenant `t` (R142): unlisted, FREE; the device tenant 0x000 is always ACTIVE and SELF. -/
def State.tenantAt (s : State) (t : Nat) : Tenant :=
  let x := tget {} t s.adm.tenants
  if t = 0 then { x with st := .active, deviceAdmin := false } else x

/-- A word of on-chip SRAM: an unlisted word is the not-valid word of R28. -/
def State.sramAt (s : State) (w : Nat) : TWord := tget notValid w s.sram

/-- Write a word of on-chip SRAM, keeping the canonical form: no listed word equals the not-valid word. -/
def State.setSram (s : State) (w : Nat) (x : TWord) : State :=
  { s with sram := if x = notValid then Tbl.del w s.sram else Tbl.put w x s.sram }

/-- The canonical form of the on-chip SRAM: addresses strictly rising and no entry equal to what an unlisted word reads. -/
def Memory.wf (m : Tbl TWord) : Bool := Tbl.wf m && m.all fun p => decide (p.2 ≠ notValid)

/-- A fresh free number: the counter advances (log 20). -/
def State.freshNat (s : State) : Nat × State := (Config.freeNat s.free, { s with free := s.free + 1 })

/-- What leaves the device at its pins (log 7). -/
def State.emit (s : State) (e : Emit) : State := { s with out := s.out ++ [e] }

/-- Several things leaving the device in order. Log 7, DESIGN CHOICE. -/
def State.emits (s : State) (es : List Emit) : State := { s with out := s.out ++ es }

/-! ### The address map (R18, R19) -/

/-- What an address of the system map names. -/
inductive Target where
  | bootRom
  | clusterSram
  | scratch
  | registers
  | flash
  | dram (kd offset : Nat)
  | host (offset : Nat)
  deriving DecidableEq, Repr

/-- `a` lies in the n bytes from `base`. -/
def within (a base n : Nat) : Bool := decide (base ≤ a) && decide (a < base + n)

/-- The target of one byte address (R18, R19): outside the DRAM window bits 51:46 must be zero. -/
def targetOf (a : Nat) : Option Target :=
  let low := a % 2 ^ 46
  if 2 ^ 52 ≤ a then none
  else if within low (2 ^ 40) (2 ^ 38) then some (.dram (a / 2 ^ 46) (low - 2 ^ 40))
  else if 2 ^ 46 ≤ a then none
  else if within a 0 0x40000 then some .bootRom
  else if within a 0x1000000 0xC00000 then some .clusterSram
  else if within a 0x2000000 0xC00000 then some .scratch
  else if within a 0x10000000 0x1000000 then some .registers
  else if within a 0x20000000 0x800000 then some .flash
  else if within a (2 ^ 43) (2 ^ 43) then some (.host (a - 2 ^ 43))
  else none

/-- The system address of a host bus address (R20). -/
def hostAddr (a : Nat) : Nat := 2 ^ 43 + a

/-! ### Checking an access (R295 to R298, R303) -/

/-- Region r of gate g in the active tables. -/
def State.region (s : State) (g r : Nat) : Region := tget {} (16 * g + r) s.cfg.gates

/-- A region matches a byte (R295). -/
def regionHas (rg : Region) (a : Nat) : Bool :=
  match targetOf a with
  | some (.dram kd off) =>
    decide (rg.kind = 2) && decide (rg.base ≤ off / 64) && decide (off / 64 ≤ rg.limit) && rg.mask.getLsbD kd
  | some _ => decide (rg.kind = 1) && decide (rg.base ≤ a / 64) && decide (a / 64 ≤ rg.limit)
  | none => false

/-- The right an access needs of a region (R297, R307). -/
def regionGrants (rg : Region) : Access → Bool
  | .read => rg.r
  | .write => rg.w
  | .fetch => rg.x
  | .declassify => rg.x && rg.d

/-- The regions of a gate that match a byte, by number. -/
def State.matching (s : State) (g a : Nat) : List Nat := (List.range 16).filter fun r => regionHas (s.region g r) a

/-- A byte has the right (R296): some region matches it and every one that does grants it. -/
def State.byteAllowed (s : State) (g a : Nat) (k : Access) : Bool :=
  !(s.matching g a).isEmpty && (s.matching g a).all fun r => regionGrants (s.region g r) k

/-- The lowest-numbered matching region that withholds the right, 0x1F where none matches (R299). -/
def State.blamed (s : State) (g a : Nat) (k : Access) : Nat :=
  ((s.matching g a).find? fun r => !regionGrants (s.region g r) k).getD 0x1F

/-- The first byte an access has in each 64-byte granule it touches: rights and targets change only at granules. -/
def granules (addr len : Nat) : List Nat :=
  if len = 0 then []
  else (List.range ((addr + len - 1) / 64 - addr / 64 + 1)).map fun i => max addr (64 * (addr / 64 + i))

/-- The destination rule of R303. -/
def classAllowed (t : Target) (c : SecClass) : Bool :=
  match t with
  | .clusterSram | .scratch => decide (c ≠ .held)
  | .dram _ _ => decide (c = .pub) || decide (c = .confidential)
  | _ => decide (c = .pub)

/-- The checks of R297 in order over the bytes that begin each part of an access, lowest first, and over the words it writes: the first
forbidden byte and the region blamed, which the spec leaves open for the destination rule. None: the access passes. -/
def State.gateScan (s : State) (g : Nat) (k : Access) (as : List Nat) (ws : List (Nat × TWord)) : Option (Nat × Option Nat) :=
  match as.find? fun a => (targetOf a).isNone with
  | some a => some (a, some 0x1F)
  | none =>
    match as.find? fun a => !s.byteAllowed g a k with
    | some a => some (a, some (s.blamed g a k))
    | none =>
      if k = .write then
        (ws.find? fun p => match targetOf p.1 with
          | some t => !classAllowed t p.2.cls
          | none => false).map fun p => (p.1, none)
      else none

/-- The gate check of an access of `len` bytes that writes the words given (R297). -/
def State.gateCheck (s : State) (g : Nat) (k : Access) (addr len : Nat) (words : List TWord) : Option (Nat × Option Nat) :=
  s.gateScan g k (granules addr len) (((List.range words.length).zip words).map fun p => (addr + 8 * p.1, p.2))

/-! ### Interrupts (R25, R53, R384) -/

/-- A function may send an MSI-X message now (R384); a STOPPED PCIe endpoint holds back gate 112's traffic (R369). Log 42, DEDUCED. -/
def State.msixReady (s : State) (fn vec : Nat) : Bool :=
  s.wharf.pcieUp && !s.pwr.stopped.contains 0x28 && s.wharf.bme.contains fn && !s.wharf.masked.contains (fn, vec) && !s.wharf.masked.contains (fn, 4096)

/-- The system address that a function's MSI-X table entry makes its message write to (R20): the entry's address is the host's, and no row of
the table writes it. Log 42. -/
def msixAddr (fn vec : Nat) : Nat := hostAddr (Config.msixAddr fn vec % 2 ^ 43)

/-- The endpoint writes an MSI-X message, where gate 112 lets it (R294); a refused one is lost, and reported in the next device tick. Log 42,
DEDUCED. -/
def State.sendMsix (s : State) (fn vec : Nat) : State :=
  match s.gateCheck 112 .write (msixAddr fn vec) 4 [] with
  | none => s.emit (.msix fn vec)
  | some bad => { s with wharf := { s.wharf with msixRefused := s.wharf.msixRefused ++ [bad.1] } }

/-- An MSI-X message falls due: sent, or its Pending Bit is set (R384). Log 42, DEDUCED. -/
def State.msix (s : State) (fn vec : Nat) : State :=
  if s.msixReady fn vec then s.sendMsix fn vec
  else if s.wharf.msixPending.contains (fn, vec) then s
  else { s with wharf := { s.wharf with msixPending := s.wharf.msixPending ++ [(fn, vec)] } }

/-- Whether any enabled summary cause is set (R25). -/
def Glb.due (g : Glb) : Bool := (g.intStatus &&& g.intEnable) != 0

/-- Replace the GLB registers: the summary interrupt is sent when the OR of enabled causes goes from 0 to 1 (R25). -/
def State.withGlb (s : State) (g : Glb) : State :=
  let s' := { s with glb := g }
  if g.due && !s.glb.due then s'.msix 0 g.intVector.toNat else s'

/-- Set summary causes (R25). -/
def State.setInt (s : State) (bits : BitVec 6) : State :=
  s.withGlb { s.glb with intStatus := s.glb.intStatus ||| bits }

/-! ### The logbook (R424 to R428, R437) -/

/-- The kinds of record the model writes. -/
inductive LogKind where
  | suppressed
  | mode
  | haltEntered
  | integrity
  | power
  | alarm
  | commit
  | permit
  | fuse
  | debug
  | violation
  | interface
  deriving DecidableEq, Repr

/-- The code of a kind of record within the range R426 gives it (log 10); `sub` names the record within its kind. -/
def LogKind.code (k : LogKind) (sub : Nat) : Nat :=
  let pick (lo size : Nat) : Nat := lo + Config.logCode (16 * sub + lo) % size
  match k with
  | .suppressed => 0x0001
  | .mode =>
    let c := pick 0x0010 47
    if c < 0x0012 then c else c + 1
  | .haltEntered => 0x0012
  | .integrity => 0x0040
  | .power => pick 0x0041 0xBF
  | .alarm => pick 0x0100 0x20
  | .commit => pick 0x0120 0x20
  | .permit => pick 0x0140 0x20
  | .fuse => pick 0x0160 0x20
  | .debug => pick 0x0180 0x80
  | .violation => pick 0x0200 0x100
  | .interface => pick 0x0300 0x100

/-- Audit-critical kinds (R426). -/
def LogKind.audit : LogKind → Bool
  | .haltEntered | .integrity | .alarm | .commit | .permit | .fuse | .debug => true
  | _ => false

/-- Words of a record: three header words and the body (R424). -/
def Rec.words (r : Rec) : Nat := 3 + r.body.length

/-- A record reaches the ingress queue, whose oldest entry is overwritten when it is full (R437). Log 37, DESIGN CHOICE. -/
def State.ingress (s : State) (r : Rec) : State :=
  let q := s.log.ingress ++ [r]
  if Config.ingressPlaces < q.length then
    { s with log := { s.log with ingress := q.tail, lostIngress := satAdd 16 s.log.lostIngress 1 } }
  else { s with log := { s.log with ingress := q } }

/-- One bucket refilled for the windows that have begun (R428). -/
def Rate.refilled (b : Rate) (windows : Nat) : Rate := { b with tokens := min b.capacity (b.tokens + windows * b.refill) }

/-- The SUPPRESSED record of a code (R429). -/
def State.suppressedRec (s : State) (c : Nat) (b : Rate) : Rec where
  code := 0x0001
  time := s.now % 2 ^ 40
  audit := false
  body := [BitVec.ofNat 64 (c + 2 ^ 32 * b.suppressed), BitVec.ofNat 64 b.first, BitVec.ofNat 64 b.last]

/-- The windows of 1 ms that have begun since the last refill are refilled, and then each code that was suppressed has its record
(R428, R429). -/
def State.refillDue (s : State) : State :=
  let w := s.now / 100000
  if s.log.lastRefill < w then
    let told := s.log.rates.filter fun p => 0 < p.2.suppressed
    let s' := { s with log := { s.log with
      rates := s.log.rates.map fun p => (p.1, { p.2.refilled (w - s.log.lastRefill) with suppressed := 0 })
      lastRefill := w } }
    told.foldl (fun s p => s.ingress (s.suppressedRec p.1 p.2)) s'
  else s

/-- A unit makes a record, after what the window's first tick does (R429): audit-critical records always pass, others take a token of their
code or are suppressed and counted (R428). -/
def State.logRec (s : State) (k : LogKind) (sub tenant unit : Nat) (body : List W64) : State :=
  let s := s.refillDue
  let c := k.code sub
  let r : Rec := { code := c, time := s.now % 2 ^ 40, tenant := tenant, unit := unit, audit := k.audit, body := body }
  if k.audit then s.ingress r
  else
    let b := tget {} c s.log.rates
    if 0 < b.tokens then
      { s with log := { s.log with rates := Tbl.put c { b with tokens := b.tokens - 1 } s.log.rates } }.ingress r
    else
      let b' := { b with
        suppressed := satAdd 32 b.suppressed 1
        first := if b.suppressed = 0 then s.now else b.first
        last := s.now }
      { s with log := { s.log with rates := Tbl.put c b' s.log.rates } }

/-- A device event with two body words. -/
def State.logEvent (s : State) (k : LogKind) (sub a b : Nat) : State :=
  s.logRec k sub 0 0xFF [BitVec.ofNat 64 a, BitVec.ofNat 64 b]

/-! ### Register blocks and access errors (R4, R21, R22) -/

/-- What a path may do with a block. -/
inductive Vis where
  | hidden
  | read
  | full
  deriving DecidableEq, Repr

/-- The block of a register offset (R21): 0 GLB to 0x11 KWM, 0x80 the ring table; none: unassigned space. -/
def regBlock (addr : Nat) : Option Nat :=
  if addr < 0x120000 then some (addr / 0x10000)
  else if 0x800000 ≤ addr ∧ addr < 0x900000 then some 0x80
  else none

/-- Visibility of a block through PF BAR0 (R22). -/
def pfVis (m : Mode) (b : Nat) : Vis :=
  match m with
  | .sentry | .dormant => .hidden
  | .launch =>
    if b = 0 ∨ b = 0xF ∨ b = 0xB ∨ b = 0xC ∨ b = 0x11 then .read else .hidden
  | .service =>
    if [0x0, 0x1, 0x2, 0xD, 0xE, 0x80, 0xF].contains b then .full
    else if [0xB, 0xC, 0x11, 0x10, 0x3, 0x7, 0x8, 0x9, 0xA].contains b then .read
    else .hidden
  | .drydock => if b = 0x11 ∨ b = 0x10 then .read else .full
  | .halt => if [0x3, 0x7, 0x8, 0x9, 0xA, 0x4, 0x5, 0x6].contains b then .hidden else .read

/-- A path answers now: every path needs main power, and in DORMANT the Wharf's paths, the PF and the VFs, are unpowered (R22, R24). -/
def State.answers (s : State) (p : Path) : Bool :=
  s.clock.mainPower && match p with
    | .pf | .vf _ => decide (s.glb.mode ≠ .dormant)
    | .smbus | .spi | .debug => true

/-- A register access error of a path (R4, R22): its address and a code of what was wrong. A path that does not answer makes none. -/
def State.logOn (s : State) (p : Path) (addr what : Nat) : State :=
  if s.answers p then s.logEvent .violation 3 addr what else s

/-- A register access error of the PF (R4, R22). -/
def State.logAccess (s : State) (addr what : Nat) : State := s.logOn .pf addr what

/-- A PF write that block `b` does not take in this mode: discarded, and logged where the block is invisible (R22). Log 30, DEDUCED. -/
def State.refused (s : State) (b addr what : Nat) : State :=
  if pfVis s.glb.mode b = .hidden then s.logAccess addr what else s

/-! ### The sentry record (R350, R351) -/

/-- The oldest entry meeting a test, by its place. -/
def oldestWhere (p : SEntry → Bool) (t : Tbl SEntry) : Option (Nat × SEntry) :=
  t.foldl (fun acc x =>
    if p x.2 then
      match acc with
      | none => some x
      | some y => if x.2.order < y.2.order then some x else acc
    else acc) none

/-- The place a new entry takes under R351, and whether OVERFLOW counts it; none: dropped. -/
def srecPlace (t : Tbl SEntry) (isProtected : Bool) : Option Nat × Bool :=
  match (List.range 64).find? fun i => (Tbl.find i t).isNone with
  | some i => (some i, false)
  | none =>
    match oldestWhere (fun e => e.reported) t with
    | some (i, _) => (some i, false)
    | none =>
      match oldestWhere (fun e => !e.isProtected && !e.reported) t with
      | some (i, _) => (some i, false)
      | none =>
        if isProtected then ((oldestWhere (fun e => e.isProtected) t).map (·.1), true) else (none, true)

/-- A new entry of the sentry record (R350, R351). -/
def State.sentryAdd (s : State) (kind source level taken : Nat) (isProtected reported : Bool) (events : Nat) : State :=
  let e : SEntry := ⟨s.len.nextOrder, s.clock.stime % 2 ^ 48, kind, source, level, taken, isProtected, reported,
    min events 255, if s.clock.mainPower then s.now % 2 ^ 32 else 0⟩
  let pl := srecPlace s.len.srec isProtected
  let l := { s.len with
    nextOrder := s.len.nextOrder + 1
    overflow := if pl.2 then satAdd 32 s.len.overflow 1 else s.len.overflow }
  match pl.1 with
  | some i => { s with len := { l with srec := Tbl.put i e s.len.srec } }
  | none => { s with len := l }

/-- The 16 bytes of an entry (R350). -/
def SEntry.bytes (e : SEntry) : Bytes :=
  toLE 6 e.stime ++ toLE 1 e.kind ++ toLE 1 e.source ++ toLE 1 e.level ++ toLE 1 e.taken
    ++ toLE 1 ((if e.isProtected then 1 else 0) + (if e.reported then 2 else 0)) ++ toLE 1 e.events ++ toLE 4 e.dtime

/-! ### Alarms (R340 to R347) -/

/-- The active table's row of a source (R344). -/
def State.srcRow (s : State) (src : Nat) : SrcRow := tget ⟨0, 1, 1, 1000, false, 0⟩ src s.len.table.rows

/-- A latch is held whose source the active table puts at level `n` or above (R342, R345). -/
def State.latchedAt (s : State) (n : Nat) : Bool := s.len.latches.any fun p => n ≤ (s.srcRow p.1).level

/-- ALARM_N and GLB_STATUS.ALARM: a latch at NOTIFY or above is held (R341, R342). -/
def State.alarmHeld (s : State) : Bool := s.len.latches.any fun p => 1 ≤ p.2.level

/-- QUIESCE stops admission (R343). Log 57, DEDUCED. -/
def State.quiesced (s : State) : Bool := s.latchedAt 3 || decide (s.clock.stime < s.len.resumeAt)

/-- The lengthsman's dispatch fraction in eighths (R341, LEN_CFG.THROTTLE). -/
def State.tamperEighths (s : State) : Nat :=
  if s.latchedAt 2 then throttleEighths s.len.table.throttle else 8

/-- The effective dispatch fraction in eighths (R381). -/
def State.effectiveEighths (s : State) : Nat := min (min s.pwr.thermal s.pwr.cap) s.tamperEighths

/-- ERASE (order 1 of R347, R315, R336): keel secret, check, VALID and keel register zeroed; a Yuhild unlock ends. -/
def State.eraseKeel (s : State) : State :=
  { s with
    len := { s.len with keel := zeros 32, keelCheck := zeros 4, keelValid := false, erased := true }
    mor := { s.mor with keelReg := {} }
    lcy := { s.lcy with unlocked := none } }

/-- The sources held in latches as a bit mask (PWR_HALT bytes 4 to 7). -/
def State.latchMask (s : State) : BitVec 24 :=
  s.len.latches.foldl (fun m p => m ||| (BitVec.ofNat 24 (2 ^ p.1))) 0

/-- Change the mode: PREV_MODE, the MODE_CHANGE cause and a logbook record (GLB_STATUS, R362). -/
def State.toMode (s : State) (m : Mode) : State :=
  let s := s.withGlb { s.glb with mode := m, prevMode := s.glb.mode, intStatus := s.glb.intStatus ||| intMode }
  s.logEvent .mode 0 m.code 0

/-- The halt report at entry to HALT (PWR_HALT, R364). -/
def State.haltReport (s : State) (reason step code : Nat) : HaltReport where
  reason := reason
  sources := s.latchMask
  epoch := s.pwr.epoch
  time := s.now
  delivered := 0
  undeliverable := 0
  cause := s.slu.cause
  count := min s.slu.integrityCount (2 ^ 16 - 1)
  path := (s.slu.firstIntegrity.map (·.1)).getD 0
  kd := (s.slu.firstIntegrity.map (·.2.2)).getD 0
  addr := (s.slu.firstIntegrity.map (·.2.1)).getD 0
  step := step
  code := code

/-- Raw-sample mode ends (R266): clusters start again at STARTUP, DRBGs are UNSEEDED and wait, the buffer is zeroed. -/
def State.rawOff (s : State) : State :=
  if s.rng.raw = false then s
  else
    { s with rng := { s.rng with
      raw := false
      rawBuf := []
      clusters := s.rng.clusters.map fun (p : Nat × Cluster) => (p.1, { p.2 with st := if p.2.st = .raw then .startup else p.2.st })
      drbgs := s.rng.drbgs.map fun (p : Nat × Drbg) => (p.1, { p.2 with st := .unseeded, waits := true }) } }

/-- Entry to HALT, step 1 of R364: admission and dispatch stop, the Wharf flush of R59 begins, drains and pending copies are
abandoned (R363, R371), and raw-sample mode ends with DRYDOCK (R266). In HALT and without main power it changes nothing. -/
def State.enterHalt (s : State) (reason step code : Nat) : State :=
  if s.glb.mode = .halt ∨ s.glb.mode = .sentry then s
  else
    let s1 := { s with
      pwr := { s.pwr with halt := some (s.haltReport reason step code), flushing := true, trans := none, pend := none,
                          stopped := [], restarting := [], drydockBy := none, launch := .ended }
      glb := { s.glb with admitting := false } }
    (s1.rawOff.toMode .halt).logEvent .haltEntered 0 reason (256 * step + code)

/-- Sources raised in one sentry tick with the events counted (R346, R347). -/
def State.raise (s : State) (srcs : List (Nat × Nat)) : State :=
  if srcs = [] then s
  else
    let level (src : Nat) : Nat := if src = 21 then 4 else (s.srcRow src).level
    let prior : Nat :=
      match s.len.tickLevel with
      | some (t, l) => if t = s.clock.stime then l else 0
      | none => 0
    let prior := if s.pwr.flushing then max prior 4 else prior
    let taken := srcs.foldl (fun m p => max m (level p.1)) prior
    -- latches, LEN_FIRST and the restarted filters
    let lowest := srcs.foldl (fun m p => min m p.1) 31
    let latches := srcs.foldl (fun t p => Tbl.put p.1 ⟨level p.1, s.clock.stime⟩ t) s.len.latches
    let events := srcs.foldl (fun t p => Tbl.del p.1 t) s.len.events
    let s := { s with len := { s.len with
      latches := latches
      events := events
      first := s.len.first.or (some (lowest, s.now % 2 ^ 32))
      tickLevel := some (s.clock.stime, taken) } }
    -- order 1: ERASE once
    let s := if 5 ≤ taken ∧ prior < 5 then s.eraseKeel else s
    -- order 2: the sentry record
    let s := srcs.foldl (fun s p =>
      if 3 ≤ taken ∨ (9 ≤ p.1 ∧ p.1 ≤ 15) then
        s.sentryAdd 1 p.1 (level p.1) taken (decide (4 ≤ taken)) true p.2
      else s) s
    -- order 3: HALT; in HALT the report carries the sources
    let s := if 4 ≤ taken then s.enterHalt 1 (if s.glb.mode = .launch then s.kwm.step else 0) 0 else s
    let s := { s with pwr := { s.pwr with halt := s.pwr.halt.map fun (h : HaltReport) => { h with sources := h.sources ||| s.latchMask } } }
    -- order 4: the LOG records, and the lower responses that still have an effect
    let s := srcs.foldl (fun s p =>
      let e : SEntry := ⟨0, s.clock.stime % 2 ^ 48, 1, p.1, level p.1, taken, decide (4 ≤ taken), true, min p.2 255,
        s.now % 2 ^ 32⟩
      s.logRec .alarm 0 0 0xFF (Config.logWord 0 [p.1, level p.1, taken] :: toWords e.bytes)) s
    if s.glb.mode = .halt then s
    else if 2 ≤ taken then s.setInt (intAlarm ||| intThrottle)
    else if 1 ≤ taken then s.setInt intAlarm
    else s

/-- One event of a source enters its filter (R340): whether the source is raised now and with how many events. While the
source is latched the event only counts and renews the hold. -/
def State.filterEvent (s : State) (src : Nat) : State × Option (Nat × Nat) :=
  let s := { s with len := { s.len with counts := Tbl.put src (satAdd 16 (tget 0 src s.len.counts) 1) s.len.counts } }
  match Tbl.find src s.len.latches with
  | some l => ({ s with len := { s.len with latches := Tbl.put src { l with lastSeen := s.clock.stime } s.len.latches } },
      none)
  | none =>
    let row := s.srcRow src
    let old := (tget [] src s.len.events).filter fun t => decide (s.clock.stime < t + row.window)
    let evs := old ++ [s.clock.stime]
    let s' := { s with len := { s.len with events := Tbl.put src evs s.len.events } }
    if src = 21 ∨ row.n ≤ evs.length then (s', some (src, evs.length)) else (s', none)

/-- An event of sources 16 and 18 to 23, raised by a unit (R338): filtered, and its response carried out (R341). RNG_FATAL
before the start-up condition holds enters HALT whatever the table says (R345), with the reason RNG_START (R360, R364). -/
def State.alarmEvent (s : State) (src : Nat) : State :=
  let s := if src = 20 ∧ s.rng.ready = false then s.enterHalt 6 (if s.glb.mode = .launch then s.kwm.step else 0) 0 else s
  let f := s.filterEvent src
  match f.2 with
  | some p => f.1.raise [p]
  | none => f.1

/-! ### INTEGRITY (R283, R427) -/

/-- The logbook body of an INTEGRITY record (R427). -/
def State.integrityBody (s : State) : List W64 :=
  let f := s.slu.firstIntegrity.getD (0, 0, 0)
  [BitVec.ofNat 64 (s.slu.cause.toNat + 2 ^ 16 * min s.slu.integrityCount (2 ^ 16 - 1) + 2 ^ 32 * f.1 + 2 ^ 40 * f.2.2),
    BitVec.ofNat 64 f.2.1]

/-- An INTEGRITY event: every SLU path stops, the cause joins the report, source 21 is raised with no filter and the device
enters HALT with reason INTEGRITY (R283, R364). -/
def State.integrity (s : State) (cause : BitVec 3) (path addr kd : Nat) : State :=
  let s := { s with slu := { s.slu with
    stopped := true
    cause := s.slu.cause ||| cause
    integrityCount := s.slu.integrityCount + 1
    firstIntegrity := s.slu.firstIntegrity.or (some (path, addr, kd)) } }
  let s := s.logRec .integrity 0 0 0xFF s.integrityBody
  let s := s.enterHalt 2 (if s.glb.mode = .launch then s.kwm.step else 0) 0
  let s := { s with pwr := { s.pwr with halt := s.pwr.halt.map fun (h : HaltReport) =>
    let first := s.slu.firstIntegrity.getD (0, 0, 0)
    { h with cause := s.slu.cause, count := min s.slu.integrityCount (2 ^ 16 - 1), path := first.1, addr := first.2.1, kd := first.2.2 } } }
  s.alarmEvent 21

/-! ### Gate violations (R299) and egress (R308) -/

/-- One report: the report ring and the logbook, as a gate violation (sub 0) or an egress zeroing (sub 1) (R299, R426). -/
def State.report (s : State) (sub addr kd region master : Nat) (kind : Access) : State :=
  let i := s.gte.violCount % 16
  let lost := match Tbl.find i s.gte.reports with
    | some r => !r.read
    | none => false
  let rep : Report := ⟨addr, s.now % 2 ^ 32, kd, kind, region, master, false⟩
  let s := { s with gte := { s.gte with
    reports := Tbl.put i rep s.gte.reports
    violCount := (s.gte.violCount + 1) % 2 ^ 32
    violLost := if lost then satAdd 32 s.gte.violLost 1 else s.gte.violLost } }
  let info := 2 ^ 32 * rep.time + 2 ^ 16 * kd + 2 ^ 12 * kind.code + 2 ^ 7 * region + master
  s.logRec .violation sub 0 master [BitVec.ofNat 64 addr, BitVec.ofNat 64 info]

/-- The report of a refused access (R299). -/
def State.violation (s : State) (addr kd region master : Nat) (kind : Access) : State := s.report 0 addr kd region master kind

/-- What a word shows at a port (R308). -/
def egressData (w : TWord) : W64 := if w.cls = .pub ∧ w.p = false then w.data else 0

/-- The status a barge's outgoing words give it (R308): none where all leave unchanged. -/
def egressStatus (ws : List TWord) : Option Nat :=
  if ws.any fun w => decide (w.cls ≠ .pub) then some stBadPointer
  else if ws.any fun w => w.p then some stPoisoned
  else none

end Sys2Proof.Machine
end

