-- ==== Sys2Proof/Machine/Lines.lean ====
section
/-! DEFINITION. Line mode of the SLU (11_inline_memory_encryption.md R268 to R286): lines with their owners, the split-counter tree
with its cache, integrity, and the accesses of the units that keep tables in DRAM. -/

namespace Sys2Proof.Machine

/-! ### Layout (R269, R271, R278) -/

/-- The half of a DRAM offset: bit 12 (R269). -/
def sluHalf (off : Nat) : Nat := off / 4096 % 2

/-- The channel-local offset of a DRAM offset (R269). -/
def sluLocal (off : Nat) : Nat := off / 8192 * 4096 + off % 4096

/-- The index of a line in its half. -/
def sluLine (off : Nat) : Nat := sluLocal off / 64

/-- The DRAM offset of line i of a half (R269). -/
def sluOffset (half i : Nat) : Nat := 64 * i / 4096 * 8192 + 4096 * half + 64 * i % 4096

/-- Counter blocks of a level in one half, for P = 2^p (R278). -/
def sluBlocks (p level : Nat) : Nat := ceilDiv (2 ^ (p - 13)) (64 ^ level)

/-- Levels below the root: until a level has 64 blocks or fewer (R278, SLU_LAYOUT.LEVELS). -/
def sluLevels (p : Nat) : Nat := (((List.range 8).find? fun l => decide (sluBlocks p l ≤ 64)).getD 7) + 1

/-- On-chip levels: the top one, and the one below when both fit in 2,080 blocks (R278, SLU_LAYOUT.ONCHIP). -/
def sluOnchip (p : Nat) : Nat :=
  let n := sluLevels p
  if sluBlocks p (n - 1) + sluBlocks p (n - 2) ≤ 2080 ∧ 2 ≤ n then 2 else 1

/-- DRAM-resident levels. -/
def State.dramLevels (s : State) : Nat := sluLevels s.slu.protLog - sluOnchip s.slu.protLog

/-- The channel-local address of a counter block (R271). -/
def sluBlockAddr (p level idx : Nat) : Nat :=
  5 * 2 ^ (p - 3) + 64 * (((List.range level).map (sluBlocks p)).sum + idx)

/-- The number under which a counter block is kept: half, level and index. -/
def blockKey (half level idx : Nat) : Nat := half + 2 * (level + 8 * idx)
/-- The half of a block number. -/
def keyHalf (k : Nat) : Nat := k % 2
/-- The level of a block number. -/
def keyLevel (k : Nat) : Nat := k / 2 % 8
/-- The index of a block number. -/
def keyIdx (k : Nat) : Nat := k / 16

/-! ### Counters (R272, R278 to R281) -/

/-- A counter block; unlisted: all zero (R276). -/
def State.blockAt (s : State) (k : Nat) : CtrBlock := tget {} k s.slu.blocks

/-- Replace a counter block. -/
def State.setBlock (s : State) (k : Nat) (b : CtrBlock) : State := { s with slu := { s.slu with blocks := Tbl.put k b s.slu.blocks } }

/-- The counter of a block's child: major × 128 + minor (R272). -/
def CtrBlock.ctr (b : CtrBlock) (j : Nat) : Nat := b.major * 128 + tget 0 j b.minors

/-- The counter of line i of a half (R272). -/
def State.lineCtr (s : State) (half i : Nat) : Nat := (s.blockAt (blockKey half 0 (i / 64))).ctr (i % 64)

/-- The counter of a block in its parent (R279). -/
def State.nodeCtr (s : State) (k : Nat) : Nat := (s.blockAt (blockKey (keyHalf k) (keyLevel k + 1) (keyIdx k / 64))).ctr (keyIdx k % 64)

/-- A counter block as 64 bytes (R278). -/
def blockOf (b : Bytes) : CtrBlock :=
  let n := ofLE b
  { major := n % 2 ^ 57
    minors := ((List.range 64).map fun j => (j, n / 2 ^ (64 + 7 * j) % 128)).filter fun x => x.2 != 0 }

/-- A block is in the counter cache. -/
def State.blockCached (s : State) (k : Nat) : Bool := s.slu.cached.any fun x => x.1 == k

/-- Mark a cached block dirty. -/
def State.dirty (s : State) (k : Nat) : State :=
  { s with slu := { s.slu with cached := s.slu.cached.map fun x => if x.1 = k then (k, true) else x } }

/-- The parent of a counter block. -/
def upKey (k : Nat) : Nat := blockKey (keyHalf k) (keyLevel k + 1) (keyIdx k / 64)

/-! ### Integrity of what DRAM returns (R274, R279, R282, R283) -/

/-- The MAC key of a half (R270). -/
def State.macKey (s : State) (half : Nat) : Bytes := slice (4096 + 32 * half) 32 s.slu.keys

/-- The XTS key pair of a key domain (R270). -/
def State.lineKey (s : State) (kd : Nat) : Bytes := slice (64 * kd) 64 s.slu.keys

/-- The MAC of a line (R274). -/
def State.lineMac (s : State) (off : Nat) (tags cipher : Bytes) : Bytes :=
  let half := sluHalf off
  (Config.cmac (s.macKey half) (toLE 8 off ++ toLE 8 (s.lineCtr half (sluLine off)) ++ slice 0 8 tags ++ zeros 8 ++ slice 0 64 cipher)).take 8

/-- The node MAC of a block (R279). -/
def State.nodeMac (s : State) (k : Nat) (b : Bytes) : Bytes :=
  (Config.cmac (s.macKey (keyHalf k)) (toLE 8 (sluBlockAddr s.slu.protLog (keyLevel k) (keyIdx k)) ++ toLE 8 (s.nodeCtr k)
    ++ toLE 8 (keyLevel k) ++ zeros 8 ++ slice 0 64 b)).take 8

/-- The owner that stored tag bytes name (R273). -/
def tagOwner (tags : Bytes) : Nat := le 0 1 tags % 16 + 16 * (le 1 1 tags % 4)

/-- The words of an altered line whose MAC verifies (R272, R273): decrypted, CHK recomputed. -/
def State.lineWords (s : State) (off : Nat) (tags cipher : Bytes) : List TWord :=
  let unit_ := 2 ^ 64 * s.lineCtr (sluHalf off) (sluLine off) + off
  let plain := fixLen 64 (Config.xtsDec (s.lineKey (tagOwner tags)) unit_ (slice 0 64 cipher))
  (List.range 8).map fun i =>
    let t := le i 1 tags
    { word (BitVec.ofNat 64 (le (8 * i) 8 plain)) (classOfCode (t / 16 % 4)) (bitOf 6 t) with v := bitOf 7 t }

/-- The owner and words of a line as DRAM returns it: as stored, or altered. None: its MAC fails (R273, R274). -/
def State.verifyLine (s : State) (off : Nat) (r : DramReturn) : Option Line :=
  match r.alteredLines.find? fun x => x.1 == off / 64 with
  | some (_, cipher, tags, mac) =>
    if s.lineMac off tags cipher = slice 0 8 mac then some ⟨s.lineWords off tags cipher, tagOwner tags⟩ else none
  | none => some ((Tbl.find (off / 64) s.slu.lines).getD ⟨List.replicate 8 notValid, 0⟩)

/-- A counter block read from DRAM: the cause of INTEGRITY where it is uncorrectable or its node MAC fails, else its contents (R276, R279,
R282). A block under a parent counter of 0 is taken as zero and not read. -/
def State.verifyBlock (s : State) (k : Nat) (r : DramReturn) : BitVec 3 ⊕ CtrBlock :=
  if s.nodeCtr k = 0 then .inr {}
  else if r.lostNodes.contains k then .inl 1
  else match r.alteredNodes.find? fun x => x.1 == k with
    | some (_, b, mac) => if s.nodeMac k b = slice 0 8 mac then .inr (blockOf b) else .inl 4
    | none => .inr (s.blockAt k)

/-- ECC events that change no outcome (R282). -/
def State.countEcc (s : State) (r : DramReturn) : State :=
  { s with slu := { s.slu with
    ceData := satAdd 32 s.slu.ceData r.dataCorrected, ceNode := satAdd 16 s.slu.ceNode r.nodeCorrected } }

/-- An uncorrectable data or metadata line is counted (R282). -/
def State.countLost (s : State) : State := { s with slu := { s.slu with ueData := satAdd 16 s.slu.ueData 1 } }

/-! ### Rollovers (R281) -/

/-- The DRAM offset of child c of a level-0 block. -/
def childOff (k c : Nat) : Nat := sluOffset (keyHalf k) (64 * keyIdx k + c)

/-- The first cause of INTEGRITY among the children of a block that its rollover reads: all but child j, which is being written (R281,
R283). A child block in the cache or on the chip is not read. -/
def State.rolloverCause (s : State) (k j : Nat) (r : DramReturn) : Option (BitVec 3) :=
  ((List.range 64).filter (· != j)).findSome? fun c =>
    if keyLevel k = 0 then
      if (s.blockAt k).ctr c ≠ 0 ∧ (s.verifyLine (childOff k c) r).isNone = true then some 2 else none
    else
      let child := blockKey (keyHalf k) (keyLevel k - 1) (64 * keyIdx k + c)
      if s.dramLevels ≤ keyLevel child ∨ s.blockCached child = true then none
      else match s.verifyBlock child r with
        | .inl cause => some cause
        | .inr _ => none

/-- What a rollover leaves of a child line (R281): a line never written becomes not-valid words, of an open owner (log 20); an uncorrectable
one becomes poisoned and is counted (R282). Log 14, DEDUCED. -/
def State.rollLine (s : State) (k j : Nat) (r : DramReturn) (c : Nat) : State :=
  let off := childOff k c
  let put (s : State) (l : Line) : State := { s with slu := { s.slu with lines := Tbl.put (off / 64) l s.slu.lines } }
  if c = j then s
  else if (s.blockAt k).ctr c = 0 then
    let f := s.freshNat
    put f.2 ⟨List.replicate 8 notValid, f.1 % 64⟩
  else if r.lostLines.contains (off / 64) then
    put s.countLost ⟨List.replicate 8 poisonedWord, ((s.verifyLine off r).map (·.owner)).getD 0⟩
  else match s.verifyLine off r with
    | some l => put s l
    | none => s

/-- What a rollover leaves of a child counter block: as DRAM returns it, under a new node MAC (R281). -/
def State.rollBlock (s : State) (k j : Nat) (r : DramReturn) (c : Nat) : State :=
  let child := blockKey (keyHalf k) (keyLevel k - 1) (64 * keyIdx k + c)
  if c = j ∨ s.dramLevels ≤ keyLevel child ∨ s.blockCached child = true then s
  else match s.verifyBlock child r with
    | .inr b => s.setBlock child b
    | .inl _ => s

/-- A rollover of a block for a write of child j (R281): every other child is read, verified and rewritten; the major counter advances and
every minor is 0. -/
def State.rollover (s : State) (k j : Nat) (r : DramReturn) : State :=
  let s := (List.range 64).foldl (fun (s : State) c => if keyLevel k = 0 then s.rollLine k j r c else s.rollBlock k j r c) s
  let s := (s.setBlock k { major := (s.blockAt k).major + 1 }).dirty k
  { s with slu := { s.slu with rollovers := s.slu.rollovers + 1 } }

/-- Advance a child's counter in its block (R280), by a rollover past minor 127 (R281). The cause of INTEGRITY where a child fails. -/
def State.bump (s : State) (k j : Nat) (r : DramReturn) : Option (BitVec 3) × State :=
  let b := s.blockAt k
  let m := tget 0 j b.minors
  if m < 127 then (none, (s.setBlock k { b with minors := Tbl.put j (m + 1) b.minors }).dirty k)
  else match s.rolloverCause k j r with
    | some c => (some c, s)
    | none => (none, s.rollover k j r)

/-! ### The counter cache (R280) -/

/-- A block takes a place in the cache of its half, 8,192 blocks, never that of one in `keep`: the block that leaves a full cache, with its
dirty flag; which one leaves is open (log 20). -/
def State.takePlace (s : State) (k : Nat) (keep : List Nat) : Option (Nat × Bool) × State :=
  let mine := s.slu.cached.filter fun x => keyHalf x.1 == keyHalf k
  let add (s : State) : State := { s with slu := { s.slu with cached := s.slu.cached ++ [(k, false)] } }
  if mine.length < 8192 then (none, add s)
  else
    let may := mine.filter fun x => !keep.contains x.1
    let f := s.freshNat
    match may[f.1 % may.length]? with
    | none => (none, f.2)
    | some v => (some v, add { f.2 with slu := { f.2.slu with cached := f.2.slu.cached.filter fun x => x.1 != v.1 } })

/-- Bring a block into the cache, its path up to a cached or on-chip block first, each block verified as it enters (R280). A dirty block
that leaves is written back: its counter advances in its parent, which is brought in for it. The cause of INTEGRITY where one fails. -/
def State.bring (r : DramReturn) : Nat → List Nat → Nat → State → Option (BitVec 3) × State
  | 0, _, _, s => (none, s)
  | fuel + 1, keep, k, s =>
    if s.blockCached k = true ∨ s.dramLevels ≤ keyLevel k then (none, s)
    else
      match State.bring r fuel keep (upKey k) s with
      | (some c, s) => (some c, s)
      | (none, s) =>
        match s.verifyBlock k r with
        | .inl c => (some c, s)
        | .inr b =>
          let p := (s.setBlock k b).takePlace k keep
          match p.1 with
          | some (v, true) =>
            match State.bring r fuel (k :: keep) (upKey v) p.2 with
            | (some c, s) => (some c, s)
            | (none, s) => s.bump (upKey v) (keyIdx v % 64) r
          | _ => (none, p.2)

/-- Steps that bringing a block in may take: a bound on the chain of write-backs. -/
def bringFuel : Nat := 20000

/-- The counter path of a line is brought into the cache and verified (R280); lookups count as hits and misses. A block of the path that is
uncorrectable wherever it stands is INTEGRITY (R282). -/
def State.walk (s : State) (half i : Nat) (r : DramReturn) : Option (BitVec 3) × State :=
  let path := (List.range (sluLevels s.slu.protLog + 1)).map fun l => blockKey half l (i / 64 ^ (l + 1))
  let stored := path.take s.dramLevels
  let missing := stored.takeWhile fun k => !s.blockCached k
  let s := { s with slu := { s.slu with
    misses := s.slu.misses + BitVec.ofNat 32 missing.length
    hits := s.slu.hits + (if missing.length < stored.length then 1 else 0) } }
  let s := s.countEcc r
  if path.any fun k => r.lostNodes.contains k then (some 1, s)
  else State.bring r bringFuel stored (blockKey half 0 (i / 64)) s

/-- One dirty block is written back: its counter advances in its parent, which is brought into the cache for it. -/
def State.writeBackBlock (s : State) (k : Nat) : State :=
  if s.slu.cached.contains (k, true) then
    let s := (State.bring .asStored bringFuel [k] (upKey k) s).2
    if s.slu.cached.contains (k, true) then
      let s := { s with slu := { s.slu with cached := s.slu.cached.map fun (y : Nat × Bool) => if y.1 = k then (k, false) else y } }
      (s.bump (upKey k) (keyIdx k % 64) .asStored).2
    else s
  else s

/-- Write back every dirty block, level by level, so that a parent that a write-back makes dirty is written back after it (R280, before
DORMANT). -/
def State.writeBackAll (s : State) : State :=
  (List.range s.dramLevels).foldl (fun (s : State) level =>
    ((s.slu.cached.filter fun x => x.2 && keyLevel x.1 == level).map Prod.fst).foldl (fun (s : State) k => s.writeBackBlock k) s) s

/-! ### One line (R271, R275 to R277, R284, R285) -/

/-- The SLU takes line-mode accesses in a half; a DDR loopback holds back those of its channel (R399). -/
def State.sluTakes (s : State) (half : Nat) : Bool :=
  !(s.wharf.loop.any fun l => l.iface == 8 + half) && s.slu.ready && !s.slu.stopped && (if half = 0 then s.slu.half0 else s.slu.half1)

/-- How a line verified: its words and owner (none: never written), or what came of it. -/
inductive LineGot where
  | line (l : Option Line)
  | uncorrectable
  | broken (cause : BitVec 3)
  deriving DecidableEq, Repr

/-- Read and verify one line with its path (R274 to R276, R282). -/
def State.getLine (s : State) (off : Nat) (r : DramReturn) : LineGot × State :=
  let half := sluHalf off
  let w := s.walk half (sluLine off) r
  let s := w.2
  match w.1 with
  | some c => (.broken c, s)
  | none =>
    if s.lineCtr half (sluLine off) = 0 then (.line none, s)
    else if r.lostLines.contains (off / 64) then (.uncorrectable, s.countLost)
    else match s.verifyLine off r with
      | some l => (.line (some l), s)
      | none => (.broken 2, s)

/-- A line is written under a key domain: its counter advances and the domain owns it; CHK is not stored (R273, R275, R280, R281, R284).
The cause of INTEGRITY where a rollover fails; nothing is written then. -/
def State.putLine (s : State) (kd off : Nat) (ws : List TWord) (r : DramReturn) : Option (BitVec 3) × State :=
  let half := sluHalf off
  let i := sluLine off
  match s.bump (blockKey half 0 (i / 64)) (i % 64) r with
  | (some c, s) => (some c, s)
  | (none, s) => (none, { s with slu := { s.slu with lines := Tbl.put (off / 64) ⟨ws.map TWord.stored, kd⟩ s.slu.lines } })

/-- The end of a line write: INTEGRITY where it failed (R283). -/
def State.endWrite (kd off : Nat) : Option (BitVec 3) × State → State
  | (some c, s) => s.integrity c (sluHalf off) off kd
  | (none, s) => s

/-- A write of eight valid words to one whole line (R284). -/
def wholeLine (ws : List TWord) : Bool := decide (ws.length = 8) && ws.all TWord.v

/-- Eight words with some of them replaced (R284 step 6). -/
def mergeWords (old : List TWord) (ws : List (Nat × TWord)) : List TWord :=
  (List.range 8).map fun i => ((ws.find? fun p => p.1 == i).map Prod.snd).getD (old.getD i notValid)

/-- The lines that words, numbered from the start of one line, fall in, in order. -/
def linesOf (ws : List (Nat × TWord)) : List Nat := ((ws.map fun p => p.1 / 8).dedup).mergeSort (· ≤ ·)

/-! ### The units' own accesses (R56, R77, R182, R193, R268, R430)

The ready-list basin, the cargo cache, the volatile hold, the logbook archive and the two LTP areas are tables in DRAM. State holds what a
unit has written into its table; its lines pass the SLU as here. Log 63, DESIGN CHOICE. -/

/-- How a unit's read of DRAM ended: verified, uncorrectable or of another owner, or an INTEGRITY event. -/
inductive DramGot where
  | good
  | poisoned
  | broken
  deriving DecidableEq, Repr

/-- An access of a unit at P or above, or under another key domain, is counted (R271, R275). -/
def State.unitOutside (s : State) : State := { s with slu := { s.slu with rangeViol := satAdd 32 s.slu.rangeViol 1 } }
/-- An access of a unit to a line of another key domain is counted (R275). -/
def State.unitForeign (s : State) : State := { s with slu := { s.slu with domainViol := satAdd 32 s.slu.domainViol 1 } }

/-- A unit reads the n lines from a DRAM offset under a key domain: each is verified (R274 to R283). -/
def State.unitRead (kd : Nat) (r : DramReturn) : Nat → Nat → State → DramGot × State
  | 0, _, s => (.good, s)
  | n + 1, off, s =>
    let line := off - off % 64
    if 2 ^ s.slu.protLog ≤ line then (.poisoned, s.unitOutside)
    else
      let g := s.getLine line r
      match g.1 with
      | .broken c => (.broken, g.2.integrity c (sluHalf line) line kd)
      | .uncorrectable => (.poisoned, g.2)
      | .line none => (.poisoned, g.2)
      | .line (some l) => if l.owner = kd then State.unitRead kd r n (line + 64) g.2 else (.poisoned, g.2.unitForeign)

/-- The part of a unit's write that falls in one line. -/
def State.unitLine (s : State) (kd off : Nat) (part : List (Nat × TWord)) (r : DramReturn) : State :=
  if s.sluTakes (sluHalf off) = false then s
  else if 2 ^ s.slu.protLog ≤ off then s.unitOutside
  else if wholeLine (mergeWords [] part) then
    let w := s.walk (sluHalf off) (sluLine off) r
    match w.1 with
    | some c => w.2.integrity c (sluHalf off) off kd
    | none => State.endWrite kd off (w.2.putLine kd off (mergeWords [] part) r)
  else
    let g := s.getLine off r
    match g.1 with
    | .broken c => g.2.integrity c (sluHalf off) off kd
    | .uncorrectable => g.2
    | .line none => State.endWrite kd off (g.2.putLine kd off (mergeWords [] part) r)
    | .line (some l) => if l.owner = kd then State.endWrite kd off (g.2.putLine kd off (mergeWords l.words part) r) else g.2.unitForeign

/-- A unit writes whole words from a DRAM offset, line by line, under a key domain. -/
def State.unitPut (s : State) (kd off : Nat) (ws : List TWord) (r : DramReturn) : State :=
  let first := off % 64 / 8
  let numbered := (List.range ws.length).zip ws |>.map fun p => (first + p.1, p.2)
  (linesOf numbered).foldl (fun (s : State) l =>
    s.unitLine kd (off - off % 64 + 64 * l) ((numbered.filter fun p => p.1 / 8 == l).map fun p => (p.1 % 8, p.2)) r) s

end Sys2Proof.Machine
end

