-- ==== Sys2Proof/Machine/Work.lean ====
section
/-! DEFINITION. The life of a barge inside the Lockmaster (03_lockmaster_scheduling.md): ready lists, ordered flows and
chambers (R63 to R77), forming and releasing completions (R43, R47, R71), and what a device of a cluster needs for it: the
bucket map (R409), routing (R404) and frames (R401, R402). -/

namespace Sys2Proof.Machine

/-! ### The cluster a device is in (R404, R405, R409) -/

/-- This device's index; 0 on a single device. -/
def State.index (s : State) : Nat := (s.cfg.cluster.map (·.index)).getD 0

/-- The cluster's device count N (R404); 1 for a single device. -/
def State.clusterN (s : State) : Nat := (s.cfg.cluster.map fun c => c.x * c.y).getD 1

/-- This device is a head of a cluster. -/
def State.isHead (s : State) : Bool :=
  match s.cfg.cluster with
  | some c => c.heads.contains c.index
  | none => false

/-- Device `d` is a member (BRV_LIVE). -/
def State.isMember (s : State) (d : Nat) : Bool := s.brv.live.getLsbD d

/-- The bucket of a handle (R409). Log 38, DEDUCED. -/
def bucketOf (h : Nat) : Nat :=
  le 0 2 (Config.shake256 (toLE 2 (handleTenant h) ++ toLE 4 (bitsOf 47 28 h)) 64) % 4096

/-- Bucket `b` of the map (R409, BRV_MAP). -/
def State.bucketAt (s : State) (b : Nat) : Bucket := tget ⟨0, 0xFF, .normal⟩ b s.brv.map

/-- The home of a handle: this device on a single device; none where the bucket is UNAVAILABLE. -/
def State.homeOf (s : State) (h : Nat) : Option Nat :=
  match s.cfg.cluster with
  | none => some 0
  | some _ =>
    let b := s.bucketAt (bucketOf h)
    if b.st = .unavailable then none else some b.home

/-- The next link towards a device in dimension order, X first (R404), `yFirst` where the X path crosses a lost device. -/
def linkToward (c : ClusterCfg) (dst : Nat) (yFirst : Bool) : Option Nat :=
  let x := c.index % c.x
  let y := c.index / c.x
  let dx := dst % c.x
  let dy := dst / c.x
  let wraps := c.kind ≠ 0
  let stepX : Option Nat :=
    if dx = x then none
    else if wraps then (if (dx + c.x - x) % c.x ≤ (x + c.x - dx) % c.x then some 0 else some 1)
    else if x < dx then some 0 else some 1
  let stepY : Option Nat :=
    if dy = y then none
    else if (dy + c.y - y) % c.y ≤ (y + c.y - dy) % c.y then some 2 else some 3
  if yFirst then stepY.or stepX else stepX.or stepY

/-- The devices on the X-first way from one index to another, ends left out, at most `fuel` of them (R404). -/
def wayTo (c : ClusterCfg) (dst : Nat) : Nat → Nat → List Nat
  | 0, _ => []
  | fuel + 1, at_ =>
    match linkToward { c with index := at_ } dst false with
    | none => []
    | some l =>
      let x := at_ % c.x
      let y := at_ / c.x
      let nx := if l = 0 then (x + 1) % c.x else if l = 1 then (x + c.x - 1) % c.x else x
      let ny := if l = 2 then (y + 1) % c.y else if l = 3 then (y + c.y - 1) % c.y else y
      let n := ny * c.x + nx
      if n = dst then [] else n :: wayTo c dst fuel n

/-- The link a frame for `dst` leaves by (R404). -/
def State.route (s : State) (dst : Nat) : Option Nat :=
  match s.cfg.cluster with
  | none => none
  | some c =>
    let crosses := (wayTo c dst 32 c.index).any fun d => !s.isMember d
    linkToward c dst crosses

/-- The 16 header bytes of a frame (R401). -/
def frameHeader (typ vc src dst lseq used : Nat) : Bytes :=
  toLE 1 typ ++ toLE 1 vc ++ toLE 1 src ++ toLE 1 dst ++ toLE 2 lseq ++ toLE 2 used ++ zeros 8

/-- The four 64-byte units of a frame's payload under f, with their data unit numbers (R292). -/
def frameUnits (f : Nat → Bytes → Bytes) (ctr : Nat) (payload : Bytes) : Bytes :=
  (List.range 4).flatMap fun u => f (ctr * 2 ^ 64 + u) (slice (64 * u) 64 payload)

/-- The MAC of a frame (R292): the leftmost 8 bytes of AES-CMAC over F, the header and the ciphertext. -/
def frameMac (keys : Bytes) (ctr : Nat) (header cipher : Bytes) : Bytes :=
  (Config.cmac (slice 64 32 keys) (toLE 8 ctr ++ header ++ cipher)).take 8

/-- The next frame of a link, for a message (R292, R401). -/
def BLink.frame (k : BLink) (m : LinkMsg) : Frame :=
  let cipher := frameUnits (fun n b => Config.xtsEnc (slice 0 64 k.txKeys) n b) k.txCtr (fixLen 256 m.payload)
  let header := frameHeader m.typ m.vc m.src m.dst k.txSeq m.payload.length
  ⟨m.typ, m.vc, m.src, m.dst, k.txSeq, m.payload.length, cipher, frameMac k.txKeys k.txCtr header cipher, true⟩

/-- A message is sent on a link that is up: LSEQ, counter and replay buffer advance (R401, R402, R292). -/
def State.sendMsg (s : State) (l : Nat) (m : LinkMsg) : State :=
  let k := s.linkAt l
  let f := k.frame m
  (s.setLink l { k with
    txSeq := (k.txSeq + 1) % 2 ^ 16
    txCtr := (k.txCtr + 1) % 2 ^ 64
    unacked := k.unacked ++ [(f, m)] }).emit (.frame l f)

/-- The message a link sends next (R402, R422): the control VC first, then responses, then requests; a STOPPED function's link sends
only control frames. None while the link is not up, 128 frames are unacknowledged, or the direction has reached 2^48 frames (R292). -/
def BLink.next (k : BLink) : Option LinkMsg :=
  if k.unacked.length < 128 ∧ k.txCtr < 2 ^ 48 then
    match k.st with
    | .up =>
      ((k.waiting.find? fun m => m.vc == 0).or (k.waiting.find? fun m => m.vc == 2)).or k.waiting.head?
    | .stopped => k.waiting.find? fun m => m.vc == 0
    | _ => none
  else none

/-- The waiting messages of a link leave while they may, at most `fuel` of them. -/
def State.pumpLink (l : Nat) : Nat → State → State
  | 0, s => s
  | fuel + 1, s =>
    let k := s.linkAt l
    match k.next with
    | none => s
    | some m => State.pumpLink l fuel ((s.setLink l { k with waiting := k.waiting.erase m }).sendMsg l m)

/-- A message joins those waiting on a link and leaves in its turn; on a link that is OFF it is lost. -/
def State.queueOn (s : State) (l : Nat) (m : LinkMsg) : State :=
  let k := s.linkAt l
  if k.st = .off then s
  else State.pumpLink l (k.waiting.length + 1) (s.setLink l { k with waiting := k.waiting ++ [m] })

/-- A message of this device on a link. -/
def State.sendOn (s : State) (l typ vc dst : Nat) (payload : Bytes) : State :=
  s.queueOn l ⟨typ, vc, s.index, dst, payload⟩

/-- The 256-byte pieces of a payload; one empty piece for an empty payload. -/
def pieces (bs : Bytes) : List Bytes :=
  (List.range (max 1 (ceilDiv bs.length 256))).map fun i => (bs.drop (256 * i)).take 256

/-- A message to a device in as many frames as it takes, on the link towards it (R401, R404). -/
def State.sendTo (s : State) (typ vc dst : Nat) (payload : Bytes) : State :=
  match s.route dst with
  | none => s
  | some l => (pieces payload).foldl (fun s p => s.sendOn l typ vc dst p) s

/-- A link leaves service: its keys are zeroed and its counters start again; what waits and what was not acknowledged is sent after the
next link-up. -/
def BLink.fallen (k : BLink) (st : LinkState) (now : Nat) : BLink :=
  { k with
    st := st, peer := 0xFF, txKeys := [], rxKeys := [], txCtr := 0, rxCtr := 0, txSeq := 0, rxSeq := 0, replays := 0
    unacked := [], waiting := k.unacked.map Prod.snd ++ k.waiting, downFrom := now }

/-- A link may come up now: the device runs and the CLUSTER record enables the link (R405, R420). -/
def State.linkEnabled (s : State) (c : ClusterCfg) (l : Nat) : Bool :=
  c.links.getLsbD l && (decide (s.glb.mode = .launch) || decide (s.glb.mode = .service) || decide (s.glb.mode = .drydock))

/-! ### Counting and order (R63, R69, R70) -/

/-- A completion formed and released (its entry waits only for the write). -/
def Entry.released (e : Entry) : Bool := decide (e.ph = .done) && e.comp.isNone

/-- A barge on a ready list. -/
def Entry.queued (e : Entry) : Bool :=
  match e.ph with
  | .queued _ => true
  | _ => false

/-- A parked barge. -/
def Entry.parked (e : Entry) : Bool :=
  match e.ph with
  | .parked _ _ => true
  | _ => false

/-- A barge dispatched to a crew core or forwarded. -/
def Entry.dispatched (e : Entry) : Bool :=
  match e.ph with
  | .running _ => true
  | .forwarded _ => true
  | _ => false

/-- Barges admitted and not completed: those without a formed completion (LKM_COUNT_A.INFLIGHT counts until written). -/
def Entry.open (e : Entry) : Bool := decide (e.ph ≠ .done)

/-- The unreleased barges of a flow (R69). -/
def State.flowOpen (s : State) (f : Nat) : Tbl Entry :=
  s.lkm.tbl.filter fun p => decide (p.2.flow = some f) && !p.2.released

/-- The entry of least admission order. -/
def oldestEntry (t : Tbl Entry) : Option (Nat × Entry) :=
  t.foldl (fun acc p =>
    match acc with
    | none => some p
    | some q => if p.2.order < q.2.order then some p else acc) none

/-- Barge `i` is its flow's oldest unreleased barge (R69). -/
def State.isOldest (s : State) (i f : Nat) : Bool :=
  match oldestEntry (s.flowOpen f) with
  | some (j, _) => j == i
  | none => false

/-- Chamber entries of a flow in use (R70). -/
def State.chamberOcc (s : State) (f : Nat) : Nat :=
  s.lkm.tbl.countP fun p => decide (p.2.flow = some f) && p.2.chamber

/-- CHAMBER_MAX of a flow (R355: 1 without a record). -/
def State.chamberMax (s : State) (f : Nat) : Nat := tget 1 f s.cfg.flows

/-- A queued barge that holds no chamber entry is held back by its flow's full chamber (R72). -/
def State.heldBack (s : State) (i : Nat) (e : Entry) : Bool :=
  match e.flow with
  | none => false
  | some f => !e.chamber && !s.isOldest i f && decide (s.chamberMax f ≤ s.chamberOcc f)

/-- The order of the ready lists: absolute deadline, then admission (R63). -/
def Entry.before (a b : Entry) : Bool :=
  decide (a.deadline < b.deadline) || (decide (a.deadline = b.deadline) && decide (a.order < b.order))

/-- Entries in a place. -/
def State.inPlace (s : State) (p : Place) : Tbl Entry :=
  s.lkm.tbl.filter fun x => decide (x.2.ph = .queued p)

/-! ### Insertion, spill and the reserved entries (R75) -/

/-- The general entry to spill: held-back entries first, then the latest deadline, then the latest admitted (R75). -/
def State.spillChoice (s : State) (t : Tbl Entry) : Option (Nat × Entry) :=
  t.foldl (fun acc p =>
    match acc with
    | none => some p
    | some q =>
      let hp := s.heldBack p.1 p.2
      let hq := s.heldBack q.1 q.2
      if (hp && !hq) || (hp == hq && q.2.before p.2) then some p else acc) none

/-- The line of a barge's basin slot (R77): its key domain and DRAM offset; none before a MEMORY record is loaded. -/
def State.basinSlot (s : State) (i : Nat) : Option (Nat × Nat) := s.cfg.mem.map fun m => (m.basinKd, m.basinBase + 64 * i)

/-- A spilled entry is written to its barge's basin slot through the SLU as CONFIDENTIAL (R77). -/
def State.spillLine (s : State) (i : Nat) (e : Entry) : State :=
  match s.basinSlot i with
  | none => s
  | some (kd, off) => s.unitPut kd off (wordsOf (fixLen 64 (Config.basinEntry i e.order e.deadline)) .confidential) {}

/-- Insertion into the general entries, spilling one to the basin when all 28,672 are taken (R75). -/
def State.enqueueGeneral (s : State) (i : Nat) (e : Entry) : State :=
  let s1 := s.setEntry i { e with ph := .queued .general }
  if (s1.inPlace .general).length ≤ 28672 then s1
  else
    match s1.spillChoice (s1.inPlace .general) with
    | none => s1
    | some (j, x) =>
      let s2 := s1.setEntry j { x with ph := .queued .basin }
      State.spillLine { s2 with lkm := { s2.lkm with spills := s2.lkm.spills + 1 } } j x

/-- Put a barge on its ready list: the flow's oldest unreleased barge into its reserved entry, any other into a general
entry (R75). -/
def State.enqueue (s : State) (i : Nat) (e : Entry) : State :=
  match e.flow with
  | some f => if s.isOldest i f then s.setEntry i { e with ph := .queued .reserved } else s.enqueueGeneral i e
  | none => s.enqueueGeneral i e

/-- A queued barge that becomes its flow's oldest unreleased barge moves into the flow's reserved entry (R75). -/
def State.moveReserved (s : State) (f : Nat) : State :=
  match oldestEntry (s.flowOpen f) with
  | none => s
  | some (i, e) => if e.queued then s.setEntry i { e with ph := .queued .reserved } else s

/-! ### Forming and releasing completions (R43, R45, R47, R71, R74) -/

/-- A completion without output. -/
def failComp (seq status : Nat) : Comp := ⟨seq, status, false, false, false, 0, 0, zeros 16⟩

/-- The bytes of a completion frame to the head that forwarded the barge (R412). -/
def compFrame (o : Origin) (c : Comp) (out : Option Bytes) : Bytes :=
  toLE 8 o.epoch ++ toLE 2 o.ring ++ toLE 4 c.seq ++ toLE 2 c.status ++ toLE 2 (cflags c false) ++ toLE 4 c.outLen
    ++ fixLen 16 c.result ++ (out.getD [])

/-- Release the completion of barge `i` (R71, R74): TIME and DONE_LATE are decided in this tick (R47, R65). It joins its
ring's completions to write, or goes to the head that forwarded the barge, unless that head is lost (R417); on a ring under FLR it is
discarded (R387). -/
def State.release (s : State) (i : Nat) (e : Entry) (c : Comp) : State :=
  let c := { c with status := releaseStatus c.status e.failExpired e.deadline s.now, time := s.now % 2 ^ 32 }
  match e.origin with
  | some o =>
    if s.isMember o.head then (s.delEntry i).sendTo 0x12 2 o.head (compFrame o c e.outBytes) else s.delEntry i
  | none =>
    let g := s.ringAt e.ring
    if g.flr then
      let s := (s.delEntry i).setRing e.ring { g with inFlight := g.inFlight - 1 }
      { s with wharf := { s.wharf with flrDiscards := satAdd 16 s.wharf.flrDiscards 1 } }
    else
      let s := s.setEntry i { e with ph := .done, comp := none, chamber := false, locks := [] }
      s.setRing e.ring { g with relq := g.relq ++ [⟨some i, c, e.b.irq, e.outBytes, e.v1⟩] }

/-- Release every ready completion at the head of a flow, in flow order, at most `fuel` of them (R71). -/
def State.releaseRun (f : Nat) : Nat → State → State
  | 0, s => s
  | fuel + 1, s =>
    match oldestEntry (s.flowOpen f) with
    | none => s
    | some (i, e) =>
      match e.comp with
      | none => s
      | some c => State.releaseRun f fuel (s.release i e c)

/-- A completion is formed for barge `i` (R71): its eviction locks end (R67) and it is released at once, or in its flow's
turn with every ready completion behind it; the flow's new oldest barge moves into the reserved entry. -/
def State.finish (s : State) (i : Nat) (c : Comp) (out : Option Bytes) : State :=
  match s.entryAt i with
  | none => s
  | some e =>
    let e := { e with ph := .done, comp := some c, outBytes := out, locks := [] }
    match e.flow with
    | none => s.release i e c
    | some f =>
      let s := s.setEntry i e
      (s.releaseRun f (s.flowOpen f).length).moveReserved f

/-- Barge `i` fails before or without running to its end: OUT_LEN 0 and a zero result (R42). -/
def State.failBarge (s : State) (i : Nat) (status : Nat) : State :=
  match s.entryAt i with
  | none => s
  | some e => s.finish i (failComp e.b.seq status) none

/-! ### State-changing opcodes and who holds a running barge -/

/-- The opcodes whose barges are state-changing (R60, and the tables of R146, R166, R194, R240, R373, R374, R187, R330,
R434). -/
def stateChanging (op : Nat) : Bool :=
  [0x0700, 0x0701, 0x0707, 0x0708, 0x0709, 0x0800, 0x0806, 0x0900, 0x0901, 0x0902, 0x0C10, 0x0C11, 0x0C12, 0x0C20, 0x0C21,
    0x0C55, 0x0C62, 0x0C73, 0x0C74, 0x0C75, 0x0C78].contains op

/-- A crew core with no barge (R64). -/
def State.coreFree (s : State) (k : Nat) : Bool := (s.coreAt k).job.isNone

end Sys2Proof.Machine
end

