-- ==== Sys2Proof/Machine/Opcodes.lean ====
section
/-! DEFINITION. The opcodes the service chapters assign and what the head checks of R42 ask of each: the BUF settings it
accepts with the LIGHTERS each requires, the limits of its buffers, and the modes and rings its chapter admits it in. -/

namespace Sys2Proof.Machine

/-- What the head checks ask of an opcode (R42). -/
structure OpInfo where
  /-- LIGHTERS accepted with BUF = 0; none accepted: BUF = 0 is not a setting of the opcode. -/
  lights0 : List Nat
  /-- LIGHTERS accepted with BUF = 1. -/
  lights1 : List Nat
  /-- Least and greatest input length (BUF = 1). -/
  inMin : Nat := 0
  inMax : Nat := 2 ^ 32 - 1
  /-- Least and greatest output capacity (BUF = 1). -/
  capMin : Nat := 0
  capMax : Nat := 2 ^ 32 - 1
  /-- Modes in which its chapter admits it. -/
  modes : List Mode := [.service, .drydock]
  /-- Its chapter admits it only on device-tenant rings. -/
  deviceRing : Bool := false
  /-- Its chapter admits it only on maintenance rings. -/
  maintRing : Bool := false
  deriving DecidableEq, Repr

/-- The assigned opcodes (R82, R87, R102, R107, R119, R124, R128, R133, R134, R147, R165 to R168, R187, R194, R226, R246,
R249, R251, R254, R265, R330, R365, R372 to R374, R423, R433). Log 31, DEDUCED. -/
def opInfo (op : Nat) : Option OpInfo :=
  match op with
  | 0x0100 => some { lights0 := [1], lights1 := [] }
  | 0x0101 => some { lights0 := [2], lights1 := [] }
  | 0x0102 => some { lights0 := [1], lights1 := [] }
  | 0x0103 => some { lights0 := [2], lights1 := [] }
  | 0x0104 => some { lights0 := [1], lights1 := [] }
  | 0x0105 => some { lights0 := [2], lights1 := [] }
  | 0x0106 => some { lights0 := [1], lights1 := [] }
  | 0x0107 => some { lights0 := [1], lights1 := [] }
  | 0x0108 => some { lights0 := [], lights1 := [2], inMax := 0, capMin := 108 }
  | 0x0200 | 0x0201 | 0x0202 => some { lights0 := [1], lights1 := [] }
  | 0x0300 => some { lights0 := [], lights1 := [1], inMax := 0 }
  | 0x0301 => some { lights0 := [1], lights1 := [] }
  | 0x0302 => some { lights0 := [], lights1 := [1], inMin := 1, inMax := 65536, capMax := 0 }
  | 0x0400 | 0x0401 => some { lights0 := [3], lights1 := [] }
  | 0x0402 => some { lights0 := [], lights1 := [1], inMin := 1, inMax := 4096, capMax := 0 }
  | 0x0403 => some { lights0 := [], lights1 := [1], inMin := 1, inMax := 4080 }
  | 0x0500 => some { lights0 := [], lights1 := [1], inMin := 1, inMax := 1048576, capMax := 64 }
  | 0x0501 => some { lights0 := [], lights1 := [2], inMin := 1, inMax := 1048576, capMax := 0 }
  | 0x0600 | 0x0601 => some { lights0 := [], lights1 := [1], inMin := 1, inMax := 16777216 }
  | 0x0700 => some { lights0 := [1], lights1 := [] }
  | 0x0701 => some { lights0 := [], lights1 := [1], inMin := 16, inMax := 4096, capMax := 0 }
  | 0x0702 => some { lights0 := [], lights1 := [1], inMax := 0 }
  | 0x0703 => some { lights0 := [], lights1 := [1], inMin := 16, inMax := 4096 }
  | 0x0704 => some { lights0 := [0], lights1 := [] }
  | 0x0705 => some { lights0 := [], lights1 := [1], inMin := 8, inMax := 8 }
  | 0x0706 => some { lights0 := [], lights1 := [0], inMin := 226, inMax := 226, capMax := 0 }
  | 0x0707 | 0x0708 => some { lights0 := [0], lights1 := [] }
  | 0x0709 => some { lights0 := [], lights1 := [1], inMin := 1 }
  | 0x070A => some { lights0 := [], lights1 := [0], inMin := 1 }
  | 0x0800 => some { lights0 := [], lights1 := [2], inMax := 0 }
  | 0x0801 => some { lights0 := [], lights1 := [1], inMax := 0 }
  | 0x0802 | 0x0903 => some { lights0 := [], lights1 := [1], inMax := 1048576 }
  | 0x0803 | 0x0804 | 0x0805 | 0x0904 => some { lights0 := [], lights1 := [1] }
  | 0x0806 | 0x0901 | 0x0902 => some { lights0 := [], lights1 := [2] }
  | 0x0900 => some { lights0 := [], lights1 := [2], inMax := 0 }
  | 0x0A00 => some { lights0 := [0], lights1 := [0], inMax := 0, capMin := 1, capMax := 65536 }
  | 0x0B00 => some { lights0 := [], lights1 := [1], inMax := 16777216, capMax := 65536 }
  | 0x0C00 => some { lights0 := [], lights1 := [0], inMin := 316, inMax := 316, capMax := 0 }
  | 0x0C01 => some { lights0 := [0], lights1 := [] }
  | 0x0C10 => some { lights0 := [], lights1 := [1], inMax := 356, deviceRing := true }
  | 0x0C11 | 0x0C12 => some { lights0 := [], lights1 := [1], inMax := 0, deviceRing := true }
  | 0x0C20 => some { lights0 := [], lights1 := [0], inMin := 178, inMax := 178 }
  | 0x0C21 | 0x0C30 | 0x0C40 => some { lights0 := [0], lights1 := [] }
  | 0x0C50 => some { lights0 := [], lights1 := [1], inMin := 352, inMax := 1408 }
  | 0x0C51 => some { lights0 := [], lights1 := [0], inMin := 4, inMax := 4, capMin := 81968 }
  | 0x0C52 => some { lights0 := [], lights1 := [0], inMin := 4, inMax := 4 }
  | 0x0C53 => some { lights0 := [], lights1 := [1], inMin := 475, inMax := 1147 }
  | 0x0C54 => some { lights0 := [], lights1 := [0], inMin := 226, inMax := 226 }
  | 0x0C55 => some { lights0 := [], lights1 := [0], inMin := 52, inMax := 81972 }
  | 0x0C56 | 0x0C57 => some { lights0 := [0], lights1 := [] }
  | 0x0C60 => some { lights0 := [], lights1 := [1], inMax := 0, capMin := 64, capMax := 1048576 }
  | 0x0C61 => some { lights0 := [], lights1 := [1], inMax := 0, capMin := 202 }
  | 0x0C62 => some { lights0 := [0], lights1 := [], deviceRing := true }
  | 0x0C63 => some { lights0 := [0], lights1 := [] }
  | 0x0C70 => some { lights0 := [0], lights1 := [], modes := [.service], maintRing := true }
  | 0x0C71 => some { lights0 := [0], lights1 := [], modes := [.drydock], maintRing := true }
  | 0x0C72 => some { lights0 := [0], lights1 := [], modes := [.service], deviceRing := true }
  | 0x0C73 => some { lights0 := [], lights1 := [0], inMin := 256, inMax := 67108864, capMax := 0, modes := [.drydock],
                     deviceRing := true, maintRing := true }
  | 0x0C74 | 0x0C75 | 0x0C76 | 0x0C77 =>
    some { lights0 := [0], lights1 := [], modes := [.drydock], deviceRing := true, maintRing := true }
  | 0x0C78 => some { lights0 := [0], lights1 := [], modes := [.drydock], deviceRing := true }
  | 0x0D00 | 0x0D01 => some { lights0 := [], lights1 := [1] }
  | 0x0E00 => some { lights0 := [0], lights1 := [] }
  | 0x0E01 => some { lights0 := [2, 3], lights1 := [2, 3] }
  | 0x0F10 | 0x0F11 | 0x0F12 =>
    some { lights0 := [], lights1 := [1], inMin := 8, inMax := 4096, modes := [.drydock], maintRing := true }
  | _ => none

/-- A buffer lies wholly below 2^43, or is absent (R20, R40, R42). -/
def bufBelow (addr len : Nat) : Bool := decide (len = 0) || decide (addr + len ≤ 2 ^ 43)

/-- Check 3 of R42: the opcode is assigned and allowed in the mode and, where its chapter says so, on this ring. Log 31, DEDUCED. -/
def opAllowed (m : Mode) (tenant : Nat) (maint : Bool) (op : Nat) : Bool :=
  match opInfo op with
  | none => false
  | some i => i.modes.contains m && (!i.deviceRing || decide (tenant = 0)) && (!i.maintRing || maint)

/-- The head checks of R42, in order: the status of the first that fails. Over LTP a barge with BUF = 1 must carry zero buffer
addresses (R395). Log 31, DEDUCED. -/
def headCheck (m : Mode) (tenant : Nat) (maint ltp : Bool) (b : Barge) : Option Nat :=
  let i := (opInfo b.opcode).getD { lights0 := [], lights1 := [] }
  let lights := if b.buf then i.lights1 else i.lights0
  if b.format ≠ 0x02 then some stBadFormat
  else if b.flags / 16 ≠ 0 then some stBadFormat
  else if opAllowed m tenant maint b.opcode = false then some stBadOpcode
  else if lights = [] then some stBadFormat
  else if lights.contains b.lighters = false then some stBadLength
  else if b.handles.all handleForm = false then some stBadFormat
  else if (b.handles.all fun h => handleTenant h == tenant) = false then some stKeyUnknown
  else if b.buf && !(bufBelow b.inAddr b.inLen && bufBelow b.outAddr b.outCap) then some stBadPointer
  else if b.buf && ltp && !(b.inAddr == 0 && b.outAddr == 0) then some stBadPointer
  else if b.buf && !(decide (i.inMin ≤ b.inLen) && decide (b.inLen ≤ i.inMax) && decide (i.capMin ≤ b.outCap)
      && decide (b.outCap ≤ i.capMax)) then some stBadLength
  else none

end Sys2Proof.Machine
end

