-- ==== Sys2Proof/Machine/Roots.lean ====
section
/-! DEFINITION. Fuses, the keel secret, measurements, the derivation tree and the life-cycle state
(13_roots_identity_lifecycle.md R309 to R331), and the calendar (R140). -/

namespace Sys2Proof.Machine

/-! ### Fuses (R309 to R314) -/

/-- The bitwise majority of a triplicated field (R309). -/
def Tri.read {w : Nat} (t : Tri w) : BitVec w := (t.a &&& t.b) ||| (t.a &&& t.c) ||| (t.b &&& t.c)

/-- Ones among the low n bits of a number. -/
def ones : Nat → Nat → Nat
  | 0, _ => 0
  | n + 1, v => v % 2 + ones n (v / 2)

/-- A transition word is blown when 16 or more of its 32 bits are 1 (R309). -/
def blown (t : BitVec 32) : Bool := decide (16 ≤ ones 32 t.toNat)

/-- FLOOR: the number of majority-set bits (R309). -/
def State.floor (s : State) : Nat := ones 64 s.root.floor.read.toNat

/-- Key slot `i` (R309). -/
def State.slot (s : State) (i : Nat) : Slot := tget {} i s.root.slots

/-- Replace key slot `i`. -/
def State.setSlot (s : State) (i : Nat) (x : Slot) : State :=
  { s with root := { s.root with slots := Tbl.put i x s.root.slots } }

/-- The state bits of a slot, by majority. -/
def Slot.isWritten (x : Slot) : Bool := x.written.read == 1
/-- LOCKED, by majority. -/
def Slot.isLocked (x : Slot) : Bool := x.locked.read == 1
/-- RETIRED, by majority. -/
def Slot.isRetired (x : Slot) : Bool := x.retired.read == 1

/-- The check of a slot index and value (R311). -/
def slotCheck (i : Nat) (v : Bytes) : Bytes := Config.shake256 (BitVec.ofNat 8 i :: v) 4

/-- CHECK_OK: WRITTEN, LOCKED and the check passes (R312). -/
def Slot.checkOk (i : Nat) (x : Slot) : Bool := x.isWritten && x.isLocked && x.check == slotCheck i x.value

/-- The slot can be current (R313). -/
def Slot.usable (i : Nat) (x : Slot) : Bool := x.checkOk i && !x.isRetired

/-- The classes of R310: first slot and number of slots. -/
inductive SlotClass where
  | uds
  | signer
  | yuhild
  | csig
  | seed
  deriving DecidableEq, Repr

/-- The slots of a class (R310). -/
def SlotClass.slots : SlotClass → List Nat
  | .uds => [0]
  | .signer => [1, 2, 3]
  | .yuhild => [4, 5]
  | .csig => [6, 7]
  | .seed => (List.range 24).map (· + 8)

/-- The class code of a slot (ROOT_SLOT.CLASS). -/
def slotClassCode (i : Nat) : Nat :=
  if i = 0 then 0 else if i ≤ 3 then 1 else if i ≤ 5 then 2 else if i ≤ 7 then 3 else 4

/-- The current slot of a class: the lowest usable one (R313). -/
def State.current (s : State) (c : SlotClass) : Option Nat := c.slots.find? fun i => (s.slot i).usable i

/-- The value that the slot logic gives for a slot (R328): with T3 blown, zero for slots 6 to 31. -/
def State.slotValue (s : State) (i : Nat) : Bytes := if blown s.root.t3 ∧ 6 ≤ i then zeros 32 else (s.slot i).value

/-- The value of the current slot of a class; zero where none is current. -/
def State.currentValue (s : State) (c : SlotClass) : Bytes :=
  match s.current c with
  | some i => s.slotValue i
  | none => zeros 32

/-- SEEDS_LEFT: SEED slots neither WRITTEN nor RETIRED (ROOT_STATUS). -/
def State.seedsLeft (s : State) : Nat :=
  SlotClass.seed.slots.countP fun i => !(s.slot i).isWritten && !(s.slot i).isRetired

/-- A programming event writes an audit-critical record naming slot or field (R314). -/
def State.logFuse (s : State) (field : Nat) : State :=
  s.logRec .fuse 0 0 0xFF [BitVec.ofNat 64 field]

/-- Program a slot: value, check, WRITTEN, LOCKED (R311). -/
def State.programSlot (s : State) (i : Nat) (v : Bytes) : State := (s.setSlot i (Slot.programmed i v)).logFuse i

/-- Set a slot RETIRED (R311). -/
def State.retireSlot (s : State) (i : Nat) : State :=
  (s.setSlot i { s.slot i with retired := ⟨1, 1, 1⟩ }).logFuse i

/-! ### The life-cycle state (R328) -/

/-- The life-cycle states of R328. -/
inductive LifeCycle where
  | blank
  | test
  | production
  | endOfLife
  deriving DecidableEq, Repr

/-- The state that the transition words read as (R328). -/
def State.lcs (s : State) : LifeCycle :=
  match blown s.root.t3, blown s.root.t2, blown s.root.t1 with
  | false, false, false => .blank
  | false, false, true => .test
  | false, true, true => .production
  | _, _, _ => .endOfLife

/-- GLB_STATUS.LCS (R328). -/
def LifeCycle.code : LifeCycle → Nat
  | .blank => 0x0
  | .test => 0x3
  | .production => 0x5
  | .endOfLife => 0xF

/-! ### Measurements (R317, R318) -/

/-- Measurement register i: 64 bytes, zero at the start of LAUNCH. -/
def State.mr (s : State) (i : Nat) : Bytes := tget (zeros 64) i s.root.mr

/-- Extend MRi with an item (R317). -/
def State.extend (s : State) (i : Nat) (item : Bytes) : State :=
  { s with root := { s.root with
    mr := Tbl.put i (Config.shake256 (s.mr i ++ Config.shake256 item 64) 64) s.root.mr } }

/-! ### The keel secret and the derivation tree (R315, R319 to R321) -/

/-- The keel secret is valid (R315). -/
def State.keelOk (s : State) : Bool := s.len.keelValid && s.len.keelCheck == slotCheck 0xFF s.len.keel

/-- SID = SHAKE256-512(MR0 ‖ current SIGNER digest ‖ FAMILY ‖ FLOOR) for a FLOOR (R319). -/
def State.sidFor (s : State) (floor : Nat) : Bytes :=
  Config.shake256 (s.mr 0 ++ s.root.sid ++ toLE 4 s.root.family ++ toLE 4 floor) 64

/-- The customer root of a FLOOR (R320). -/
def State.crFor (s : State) (floor : Nat) : Bytes :=
  Config.kmac256 (s.currentValue .seed) (s.len.keel ++ s.sidFor floor) 256 (ascii "LT7200-CUSTOMER")

/-- The tenant root of a tenant under a customer root (R320). -/
def tenantRoot (cr : Bytes) (t gen : Nat) : Bytes :=
  Config.kmac256 cr (toLE 2 t ++ toLE 4 gen) 256 (ascii "LT7200-TENANT")

/-- The cargo key set of a drive under a customer root (R320): XTS pair in bytes 0 to 63, tag key in bytes 64 to 95. -/
def cargoKeys (cr nguid : Bytes) (drive : Nat) : Bytes :=
  Config.kmac256 cr (fixLen 16 nguid ++ toLE 1 drive) 768 (ascii "LT7200-CARGO")

/-- The DevID seed (R320). -/
def State.devIdSeed (s : State) : Bytes :=
  Config.kmac256 (s.slot 0).value (s.mr 0) 456 (ascii "LT7200-DEVID")

/-- The alias seed (R320). -/
def State.aliasSeedOf (s : State) (devId : Bytes) : Bytes :=
  Config.kmac256 devId (s.mr 2 ++ s.mr 3 ++ s.mr 4) 456 (ascii "LT7200-ALIAS")

/-- The DevID public key (R325). -/
def State.devIdKey (s : State) : Bytes := Config.ed448Public (s.root.devId.getD [])

/-- The alias public key (R325). -/
def State.aliasKey (s : State) : Bytes := Config.ed448Public (s.root.aliasSeed.getD [])

/-- An alias-key signature under a context (R327). -/
def State.aliasSign (s : State) (ctx msg : Bytes) : Bytes := Config.ed448Sign (s.root.aliasSeed.getD []) ctx msg

/-- ROOT_DEVID_DIG: SHAKE256-256 of the DevID public key; all zero before LAUNCH derives it. -/
def State.devIdDigest (s : State) : Bytes :=
  match s.root.devId with
  | some k => Config.shake256 (Config.ed448Public k) 32
  | none => zeros 32

/-- ROOT_ALIAS_DIG. -/
def State.aliasDigest (s : State) : Bytes :=
  match s.root.aliasSeed with
  | some k => Config.shake256 (Config.ed448Public k) 32
  | none => zeros 32

/-- The extension content of the alias certificate (R326). -/
def State.aliasExtension (s : State) : Bytes :=
  s.mr 2 ++ s.mr 3 ++ s.mr 4 ++ toLE 4 s.root.family ++ toLE 2 s.root.version ++ toLE 4 s.floor ++ toLE 1 s.lcs.code

/-- The serial number of the alias certificate (R326). -/
def aliasSerial (key : Bytes) : Bytes :=
  match Config.shake256 key 16 with
  | b :: bs => (b &&& 0x7F) :: bs
  | [] => []

/-- The alias certificate (R326): its TBS part names the alias key, the serial number, the validity and Hudric's extension, and the DevID
key signs it. -/
def State.aliasCertOf (s : State) (devId alias_ : Bytes) : Bytes :=
  let key := Config.ed448Public alias_
  let tbs := Config.certTbs (aliasSerial key) (ascii "20000101000000Z") (ascii "99991231235959Z") key s.aliasExtension
  Config.certSigned tbs (Config.ed448Sign devId [] tbs)

/-! ### Zeroing (R293, R321, R331) -/

/-- What HALT and ERASE zero in the SLU, the ROOT block and the drives' key sets (R293, R321). -/
def State.zeroRoots (s : State) : State :=
  { s with
    slu := { s.slu with keys := [], blocks := [], cached := [], ready := false, half0 := false, half1 := false }
    root := { s.root with cr := none, crNew := none, devId := none, aliasSeed := none }
    mor := { s.mor with driveA := { s.mor.driveA with keys := none }, driveB := { s.mor.driveB with keys := none } } }

/-- The erase sequence of R331: keel secret and register, KDU root register and identity store, moorings and cargo cache,
user flash with the identity area. -/
def State.eraseSequence (s : State) : State :=
  let s := s.eraseKeel
  let s := { s with
    root := { s.root with cr := none, crNew := none, devId := none, aliasSeed := none, devIdCert := [], aliasCert := [] }
    mor := { s.mor with moorings := [], cache := [] }
    adm := { s.adm with tenants := [], officers := [] }
    pwr := { s.pwr with epoch := 0, epochState := .ended 0 }
    kwm := { s.kwm with migration := none, migrant := none } }
  s

/-! ### The calendar (R140) -/

/-- The calendar's reading, none while unset (R140). -/
def State.calendarNow (s : State) : Option Nat :=
  s.adm.calendar.map fun p => p.1 + (s.now - p.2) / 100000000

/-- A date window holds (R140). -/
def State.dateOk (s : State) (notBefore notAfter : Nat) : Bool :=
  if notBefore = 0 ∧ notAfter = 0 then true
  else
    match s.calendarNow with
    | none => false
    | some c => (notBefore == 0 || decide (notBefore ≤ c)) && (notAfter == 0 || decide (c ≤ notAfter))

end Sys2Proof.Machine
end

