-- ==== Sys2Proof/Machine/Gates.lean ====
section
/-! DEFINITION. What a refused access leads to (R299), egress (R308), gate barriers (R301, R302) and declassification (R307); the address map
and the checks themselves are in Ops. -/

namespace Sys2Proof.Machine

/-! ### A refused access (R299) -/

/-- The key domain of an address, 0 outside the DRAM window (R19). -/
def kdOf (a : Nat) : Nat :=
  match targetOf a with
  | some (.dram kd _) => kd
  | _ => 0

/-- The barge on a crew core ends with a status: it stops at the end of its current command (R299, R386). Log 17, DESIGN CHOICE. -/
def State.stopJob (s : State) (k status : Nat) : State :=
  let c := s.coreAt k
  if c.job.isSome then s.setCore k { c with res := some ⟨status, [], 0, none⟩, written := true } else s

/-- A refused access: its report (R299), and for a master that is a crew core the end of its barge. Log 20, DESIGN CHOICE. -/
def State.refuse (s : State) (g : Nat) (k : Access) (bad : Nat × Option Nat) : State :=
  let pick := match bad.2 with
    | some r => (r, s)
    | none => ((s.freshNat).1 % 32, (s.freshNat).2)
  let s := pick.2.violation bad.1 (kdOf bad.1) pick.1 g k
  if g < 96 then s.stopJob g (if k = .read then stPoisoned else stBadPointer)
  else if g = 119 then s.alarmEvent 23
  else s

/-- The MSI-X messages that gate 112 has refused are reported (R294, R299). Log 42. -/
def State.reportMsix (s : State) : State :=
  s.wharf.msixRefused.foldl (fun (s : State) a => s.violation a 0 (s.blamed 112 a .write) 112 .write)
    { s with wharf := { s.wharf with msixRefused := [] } }

/-! ### Egress (R308) -/

/-- The words that leave as zero, at the addresses given: each is counted and reported with the port's master ID and kind WRITE (R308). The
region that such a report blames is open. Log 20, DESIGN CHOICE. -/
def State.egressZero (s : State) (port : Nat) : List Nat → State
  | [] => s
  | a :: rest =>
    let f := s.freshNat
    let s := { f.2 with gte := { f.2.gte with egressZeroed := satAdd 16 f.2.gte.egressZeroed 1 } }
    (s.report 1 a (kdOf a) (f.1 % 32) port .write).egressZero port rest

/-- A word that may not leave the die as it stands (R308). -/
def wordStays (w : TWord) : Bool := decide (w.cls ≠ .pub) || w.p

/-- The addresses, from `addr` on, of the words that may not leave. -/
def stayAddrs (addr : Nat) (ws : List TWord) : List Nat :=
  ((List.range ws.length).filter fun i => (ws[i]?.map wordStays).getD false).map fun i => addr + 8 * i

/-! ### Gate barriers (R301, R302) -/

/-- The accesses that a gate has checked and that are not finished: the slot reads of gate 112 (R294, R301). -/
def State.outstanding (s : State) (gate : Nat) : List Nat :=
  if gate = 112 then (s.rings.filter fun p => decide (0 < p.2.fetching)).map Prod.fst else []

/-- A barrier starts on a gate. -/
def State.startBarrier (s : State) (gate : Nat) : State :=
  { s with gte := { s.gte with barriers := Tbl.put gate (s.outstanding gate) s.gte.barriers } }

/-- A ring's slot read has returned: no barrier waits for it any longer (R301). -/
def State.slotReturned (s : State) (ring : Nat) : State :=
  match Tbl.find 112 s.gte.barriers with
  | some w => { s with gte := { s.gte with barriers := Tbl.put 112 (w.filter (· != ring)) s.gte.barriers } }
  | none => s

/-- GATE_BARRIER (R302): a barrier starts on the gate, or merges with the one that runs. Where GTE takes no writes it is discarded,
and logged where GTE is invisible (R22). -/
def execGateBarrier (gate : Nat) (s : State) : Host.Outcome State Fault Refusal :=
  .next <|
    if s.glb.mode = .drydock then
      match Tbl.find gate s.gte.barriers with
      | some _ => s
      | none => s.startBarrier gate
    else s.refused 0x9 (0x90400 + 8 * gate) 0

/-- A RESTART is over (R370): it is told by the summary interrupt. -/
def State.restarted (s : State) : State := s.setInt intRestarted

/-- GATE_BARRIER_DONE (R301): a barrier that waits for no access ends; with the last that a RESTART of the gate tables waits for, the
RESTART completes. -/
def execGateBarrierDone (gate : Nat) (s : State) : Host.Outcome State Fault Refusal :=
  .next <|
    match Tbl.find gate s.gte.barriers with
    | some [] =>
      let left := s.pwr.restarting.filter (· != gate)
      let s' := { s with
        gte := { s.gte with barriers := Tbl.del gate s.gte.barriers }
        pwr := { s.pwr with restarting := left } }
      if s.pwr.restarting ≠ [] ∧ left = [] then s'.restarted else s'
    | _ => s

/-! ### Held words (R217, R306) -/

/-- The held buffer that an address of cluster SRAM lies in, and the word of it: core j of cluster c has 64 KiB at 0x80000 + j × 0x10000 of
its cluster's SRAM (R217). -/
def heldPlace (addr : Nat) : Option (Nat × Nat) :=
  let a := addr - 0x1000000
  let o := a % 0x100000
  if within addr 0x1000000 0xC00000 ∧ 0x80000 ≤ o then
    some (8 * (a / 0x100000) + (o - 0x80000) / 0x10000, o % 0x10000 / 8)
  else none

/-- The word at an address of core scratch or cluster SRAM. A held buffer holds HELD words until the tag comparison, the slot's DCLASS once
released, and not-valid words while it is zeroed (R217). Log 58, DEDUCED. -/
def State.wordAt (s : State) (addr : Nat) : TWord :=
  match heldPlace addr with
  | none => s.sramAt (addr / 8)
  | some (k, i) =>
    let w := ((s.coreAt k).held[i]?).getD notValid
    match (s.coreAt k).heldSt with
    | .closed => s.sramAt (addr / 8)
    | .holding => w
    | .zeroing => notValid
    | .released cls => if w = notValid then w else { w with cls := cls }

/-- What a reader other than the lane context is given of a word: a HELD word reads as not valid (R306). -/
def unheld (w : TWord) : TWord := if w.cls = .held then notValid else w

/-- Reads of HELD words are counted and make no report (R306). Log 58, DEDUCED. -/
def State.countHeld (s : State) (ws : List TWord) : State :=
  let n := ws.countP fun w => decide (w.cls = .held)
  if n = 0 then s else { s with gte := { s.gte with heldReads := satAdd 16 s.gte.heldReads n } }

/-! ### Declassification (R307) -/

/-- The n words of core scratch at a byte address. -/
def State.sramWords (s : State) (addr n : Nat) : List TWord := (List.range n).map fun i => s.sramAt (addr / 8 + i)

/-- Write words of core scratch from a byte address. -/
def State.putSram (s : State) (addr : Nat) : List TWord → State
  | [] => s
  | w :: ws => State.putSram (s.setSram (addr / 8) w) (addr + 8) ws

/-- The n words at a byte address lie in core scratch, aligned (R307). -/
def inScratch (addr n : Nat) : Bool :=
  decide (addr % 8 = 0) && within addr 0x2000000 0xC00000 && decide (addr + 8 * n ≤ 0x2000000 + 0xC00000)

/-- A word of on-chip SRAM as read: with P = 1 where its ECC finds an uncorrectable error (R305). -/
def eccRead (bad : Bool) (w : TWord) : TWord := if bad then { w with p := true } else w

/-- DECLASS (R304, R305, R307): up to eight words are copied with the class named, PUBLIC or CONFIDENTIAL, their P kept; the fetch address
needs X and D, no source word may be HELD, and the core's gate checks the read and the write. `ecc`: the source words, by place, that are
uncorrectable. -/
def execDeclass (core fetch src dst n : Nat) (cls : SecClass) (ecc : List Nat) (s : State) : Host.Outcome State Fault Refusal :=
  .next <|
    if inScratch src n = false ∨ inScratch dst n = false ∨ 8 < n ∨ (cls ≠ .pub ∧ cls ≠ .confidential) then s
    else
      let from_ := ((List.range n).zip (s.sramWords src n)).map fun p => eccRead (ecc.contains p.1) p.2
      let fetchBad := s.gateCheck core .declassify fetch 4 []
      match fetchBad with
      | some b => s.refuse core .declassify (fetch, b.2)
      | none =>
        if from_.any fun w => decide (w.cls = .held) then s.refuse core .declassify (fetch, none)
        else match s.gateCheck core .read src (8 * n) [] with
          | some b => s.refuse core .read b
          | none =>
            let words := from_.map fun w => { w with cls := cls }
            match s.gateCheck core .write dst (8 * n) words with
            | some b => s.refuse core .write b
            | none =>
              let s := s.putSram dst words
              { s with gte := { s.gte with declass := satAdd 32 s.gte.declass 1 } }

end Sys2Proof.Machine
end

