-- ==== Sys2Proof/Machine/Keys.lean ====
section
/-! DEFINITION. Keys and the three key levels: the wrap of R144, moorings and their placement (R170, R176 to R178), page-ins
(R171 to R175), the cargo cache (R182, R183) and eviction locks (R67). -/

namespace Sys2Proof.Machine

/-! ### The key wrap (R144) -/

/-- The 96 bytes of a record (R136). -/
def KRec.bytes (r : KRec) : Bytes :=
  r.label.bytes ++ fixLen 32 r.cipher ++ fixLen 16 r.wtag ++ toLE 8 r.nonceCtr ++ toLE 4 r.uses ++ toLE 4 r.lastUse

/-- The record that 96 bytes spell (R136). -/
def recOfBytes (b : Bytes) : KRec := ⟨labelOfBytes (slice 0 32 b), slice 32 32 b, slice 64 16 b, le 80 8 b, le 88 4 b, le 92 4 b⟩

/-- Key bytes of a label's key field: a symmetric key's SIZE, 32 for a link of a chain. -/
def KLabel.keyLen (l : KLabel) : Nat :=
  if l.alg = chr "T" ∨ l.alg = chr "A" ∨ l.alg = chr "H" ∨ l.alg = chr "K" then l.size else 32

/-- Wrap a key field under a tenant root (R144): ciphertext and tag. -/
def wrapKey (tr : Bytes) (l : KLabel) (f : Bytes) : Bytes × Bytes :=
  let kek := Config.kmac256 tr l.bytes 512 (ascii "LT7200-KEK")
  let wtag := Config.kmac256 (slice 32 32 kek) (l.bytes ++ f) 128 (ascii "LT7200-TAG")
  (xorBytes f (Config.kmac256 (slice 0 32 kek) wtag 256 (ascii "LT7200-ENC")), wtag)

/-- Unwrap a record: its key field, none where WTAG is wrong or an unused byte is not zero (R144). -/
def unwrapKey (tr : Bytes) (r : KRec) : Option Bytes :=
  let kek := Config.kmac256 tr r.label.bytes 512 (ascii "LT7200-KEK")
  let f := xorBytes r.cipher (Config.kmac256 (slice 0 32 kek) r.wtag 256 (ascii "LT7200-ENC"))
  let wtag := Config.kmac256 (slice 32 32 kek) (r.label.bytes ++ f) 128 (ascii "LT7200-TAG")
  if wtag = r.wtag ∧ allZero (f.drop r.label.keyLen) = true then some f else none

/-- The store layout of R184: first LBA of the buckets. -/
def State.bucketsBase (s : State) : Nat :=
  262146 + 2 ^ (s.cfg.mem.map (·.outcomeLog)).getD 0 + (s.cfg.mem.map (·.logSectors)).getD 0

/-- The store is a DRAM region (R193). -/
def State.volatileStore (s : State) : Bool := s.mor.storeSt == .volatileHold

/-- Buckets of the store, 2^b (R184): at most 2^21 in the volatile hold (R193). -/
def State.bucketCount (s : State) : Nat :=
  let b := (s.cfg.mem.map (·.bucketsLog)).getD 0
  2 ^ (if s.volatileStore then min b 21 else b)

/-- The bucket of a handle (R185). -/
def State.storeBucket (s : State) (h : Nat) : Nat := Config.bucketHash h % s.bucketCount

/-- The LBA of a handle's bucket sector. -/
def State.bucketLba (s : State) (h : Nat) : Nat := s.bucketsBase + s.storeBucket h

/-- Sectors below this LBA are under the new key set of a version migration (R322, R323). -/
def State.migrated (s : State) : Nat := (s.kwm.migration.map (·.2)).getD 0

/-- The customer root under which a handle's records are wrapped now: during a version migration CR′ for those already rewrapped
(R320, R322). -/
def State.crOf (s : State) (h : Nat) : Bytes :=
  match s.root.crNew with
  | some c => if s.bucketLba h < s.migrated then c else s.root.cr.getD (zeros 32)
  | none => s.root.cr.getD (zeros 32)

/-- The root of a tenant now (R320), under a customer root. -/
def State.tenantRootUnder (s : State) (cr : Bytes) (t : Nat) : Bytes := tenantRoot cr t (s.tenantAt t).gen

/-- The root of the tenant of a handle for wrapping its records (R144). -/
def State.rootFor (s : State) (h : Nat) : Bytes := s.tenantRootUnder (s.crOf h) (handleTenant h)

/-- A record that wraps a key field under its label now (R144). -/
def State.newRec (s : State) (l : KLabel) (f : Bytes) : KRec :=
  let w := wrapKey (s.rootFor l.handle) l (fixLen 32 f)
  ⟨l, w.1, w.2, 0, 0, 0⟩

/-- The key field of a record under its tenant's root (R144); during a version migration under CR or CR′, which the KDU both holds
(R322). -/
def State.openRec (s : State) (r : KRec) : Option Bytes :=
  let t := handleTenant r.label.handle
  (unwrapKey (s.tenantRootUnder (s.root.cr.getD (zeros 32)) t) r).or
    (s.root.crNew.bind fun c => unwrapKey (s.tenantRootUnder c t) r)

/-! ### Moorings (R170, R176 to R178) -/

/-- The mooring that holds link `idx` of a handle. -/
def State.mooringOf (s : State) (h idx : Nat) : Option (Nat × Mooring) :=
  s.mor.moorings.find? fun p => decide (p.2.krec.label.handle = h) && decide (p.2.krec.label.chainIdx = idx)

/-- A handle is resident (R170). -/
def State.resident (s : State) (h : Nat) : Bool := (s.mooringOf h 0).isSome

/-- The bank of a mooring index, bits 17:16 (R170). -/
def bankOf (m : Nat) : Nat := m / 65536 % 4

/-- One access to a bank in the current window (R178). -/
def State.bankAccess (s : State) (m : Nat) : State :=
  { s with mor := { s.mor with bankNow := Tbl.put (bankOf m) (tget 0 (bankOf m) s.mor.bankNow + 1) s.mor.bankNow } }

/-- Resident moorings of a tenant (R176). -/
def State.occupancy (s : State) (t : Nat) : Nat :=
  s.mor.moorings.countP fun p => decide (handleTenant p.2.krec.label.handle = t)

/-- SHARE of a tenant (R176): 0 without a TENANT record, and until it is ACTIVE (R142). -/
def State.share (s : State) (t : Nat) : Nat :=
  if (s.tenantAt t).st = .active then ((Tbl.find t s.cfg.tenants).map (·.share)).getD 0 else 0

/-- A handle is pinned (R177). -/
def State.pinned (s : State) (h : Nat) : Bool := s.cfg.pins.contains h

/-- A barge holds an eviction lock on a handle's moorings (R67). -/
def State.locked (s : State) (h : Nat) : Bool := s.lkm.tbl.any fun p => p.2.locks.contains h

/-- A key load reads a link's mooring now (R178, R179). -/
def State.loading (s : State) (l : KLabel) : Bool :=
  s.hsh.queue.any fun q => q.started && q.handle == l.handle && q.idx == l.chainIdx

/-- Moorings that a page-in of handle h may evict (R178): not pinned, not locked, not in a key load, and no link of the chain that is being
installed (R172). -/
def State.candidates (s : State) (h : Nat) : Tbl Mooring :=
  s.mor.moorings.filter fun p =>
    let l := p.2.krec.label
    !s.pinned l.handle && !s.locked l.handle && !s.loading l && l.handle != h

/-- The least recently used of some moorings, the lower index in a tie (R178). -/
def lruMooring (t : Tbl Mooring) : Option (Nat × Mooring) :=
  t.foldl (fun acc p =>
    match acc with
    | none => some p
    | some q => if p.2.recency < q.2.recency then some p else acc) none

/-- The lowest free mooring of a bank. -/
def State.freeIn (s : State) (bank : Nat) : Option Nat :=
  let m := firstGap (65536 * bank) s.mor.moorings
  if bankOf m = bank then some m else none

/-- Resident moorings of a bank (MOR_BANK.USED). -/
def State.bankUsed (s : State) (bank : Nat) : Nat := s.mor.moorings.countP fun p => bankOf p.1 == bank

/-- The bank rule 1 of R178 takes a free mooring from: the lowest pressure that has one, the lower bank in a tie. -/
def State.freeBank (s : State) : Option Nat :=
  ((List.range 4).filter fun b => decide (s.bankUsed b < 65536)).foldl (fun acc b =>
    match acc with
    | none => some b
    | some c => if tget 0 b s.mor.bankLast < tget 0 c s.mor.bankLast then some b else acc) none

/-- What R178 gives a page-in of handle `h`: a mooring, and the mooring evicted for it. -/
def State.mooringChoice (s : State) (h : Nat) : Option (Nat × Option Mooring) :=
  match s.freeBank with
  | some b => (s.freeIn b).map fun m => (m, none)
  | none =>
    let t := handleTenant h
    let under := decide (s.occupancy t < s.share t)
    let cand := s.candidates h
    let of (p : Nat → Bool) := cand.filter fun x => p (handleTenant x.2.krec.label.handle)
    let rule2 := if under then lruMooring (of fun u => decide (s.share u < s.occupancy u)) else none
    let rule3 := lruMooring (of fun u => u == t)
    let rule4 := if under then lruMooring cand else none
    (rule2.or (rule3.or rule4)).map fun p => (p.1, some p.2)

/-! ### The cargo cache (R182, R183) -/

/-- Sets of the cargo cache: 2^(20 + SIZE). -/
def State.cacheSets (s : State) : Nat := 2 ^ (20 + ((s.cfg.mem.map (·.cacheSize)).getD 0))

/-- A handle's set: the low bits of its SHAKE256 hash (R182). -/
def State.cacheSet (s : State) (h : Nat) : Nat := ofLE (Config.shake256 (toLE 8 h) 64) % s.cacheSets

/-- The cached record of a link. -/
def State.cached (s : State) (h idx : Nat) : Option CacheRec :=
  s.mor.cache.find? fun r => decide (r.krec.label.handle = h) && decide (r.krec.label.chainIdx = idx)

/-- Drop every cached record of a handle. -/
def dropCached (h : Nat) (c : List CacheRec) : List CacheRec := c.filter fun r => decide (r.krec.label.handle ≠ h)

/-- The cached records of a set. -/
def State.setRecs (s : State) (set : Nat) : List CacheRec :=
  s.mor.cache.filter fun x => s.cacheSet x.krec.label.handle == set

/-- The tag line of a set: sixteen 32-bit entries (R182), whose bits the manual does not give. -/
def State.tagLine (s : State) (set : Nat) : Bytes :=
  (List.range 16).flatMap fun w =>
    toLE 4 ((((s.setRecs set).find? fun x => x.way == w).map fun x =>
      Config.cacheTag x.krec.label.handle x.krec.label.chainIdx).getD 0)

/-- A record stands in the cargo cache, in place of the one of its link: its record lines and the tag line of its set pass the SLU as
CONFIDENTIAL words (R182). -/
def State.cachePut (s : State) (x : CacheRec) : State :=
  let l := x.krec.label
  let keep := s.mor.cache.filter fun r => !(r.krec.label.handle == l.handle && r.krec.label.chainIdx == l.chainIdx)
  let s := { s with mor := { s.mor with cache := keep ++ [x] } }
  match s.cfg.mem with
  | none => s
  | some m =>
    let base := m.cacheBase + 1600 * s.cacheSet l.handle
    let s := s.unitPut m.cacheKd (base + 64 + 96 * x.way) (wordsOf x.krec.bytes .confidential) {}
    s.unitPut m.cacheKd base (wordsOf (s.tagLine (s.cacheSet l.handle)) .confidential) {}

/-- The page-in of a handle is in progress (R171). -/
def State.pagingIn (s : State) (h : Nat) : Bool := s.mor.pageIns.any fun p => p.handle == h

/-- A record that leaves the cargo cache takes its USES and LAST_USE to the store (R183), which writes its bucket within the next checkpoint
(R290). -/
def State.storeUses (s : State) (r : KRec) : State :=
  match Tbl.find r.label.handle s.mor.store with
  | some (.key ls) =>
    let ls := ls.map fun (x : KRec) =>
      if x.label.chainIdx = r.label.chainIdx then { x with uses := r.uses, lastUse := r.lastUse } else x
    { s with mor := { s.mor with
      store := Tbl.put r.label.handle (.key ls) s.mor.store
      usesDirty := if s.mor.usesDirty.contains r.label.handle then s.mor.usesDirty else s.mor.usesDirty ++ [r.label.handle] } }
  | _ => s

/-- Fill one record into its set: a full set of 16 gives up its least recently used record that has no page-in in progress;
none where every one has (R182). -/
def State.cacheFill (s : State) (r : KRec) (leased : Bool) : Option State :=
  let same := s.setRecs (s.cacheSet r.label.handle)
  match (List.range 16).find? fun w => !same.any fun x => x.way == w with
  | some w => some (s.cachePut ⟨r, leased, s.now, w⟩)
  | none =>
    let old := (same.filter fun x => !s.pagingIn x.krec.label.handle).foldl (fun acc x =>
      match acc with
      | none => some x
      | some y => if x.recency < y.recency then some x else acc) (none : Option CacheRec)
    old.map fun x =>
      (State.storeUses { s with mor := { s.mor with cache := s.mor.cache.erase x } } x.krec).cachePut ⟨r, leased, s.now, x.way⟩

/-- Write a mooring back to the cargo cache on eviction: NONCE_CTR, LEASED, USES and LAST_USE (R183); a resident record that
had left the cache returns to it, and waits where every record of its set has a page-in in progress. -/
def State.writeBack (s : State) (m : Mooring) : Option State :=
  match s.cached m.krec.label.handle m.krec.label.chainIdx with
  | some x => some (s.cachePut { x with krec := m.krec, leased := m.leased, recency := s.now })
  | none => s.cacheFill m.krec m.leased

/-! ### Page-ins (R171 to R173) -/

/-- The n-th sector of a handle's bucket: the bucket sector, then its overflow sectors, which lie behind the buckets (R184, R185). -/
def State.pageLba (s : State) (h n : Nat) : Nat :=
  if n = 0 then s.bucketLba h
  else s.bucketsBase + s.bucketCount + Config.overflowLba (s.storeBucket h) (n - 1) % (s.bucketCount / 8)

/-- The store is on drives and takes reads and writes (MOR_STATUS). -/
def State.driveStore (s : State) : Bool :=
  s.mor.storeSt == .online || s.mor.storeSt == .degraded || s.mor.storeSt == .rebuilding

/-- Drive 0 A or 1 B. -/
def State.drive (s : State) (d : Nat) : Drive := if d = 0 then s.mor.driveA else s.mor.driveB

/-- Replace a drive. -/
def State.setDrive (s : State) (d : Nat) (x : Drive) : State :=
  if d = 0 then { s with mor := { s.mor with driveA := x } } else { s with mor := { s.mor with driveB := x } }

/-- Drives in service. -/
def State.drivesIn (s : State) : List Nat := [0, 1].filter fun d => (s.drive d).inService

/-- Set the stage of a page-in. -/
def State.setStage (s : State) (h : Nat) (st : PageStage) : State :=
  { s with mor := { s.mor with pageIns := s.mor.pageIns.map fun p => if p.handle = h then { p with stage := st } else p } }

/-- The drive a sector read goes to: reads of a mirror alternate, but for one that has to come from the other drive (R175, R186). -/
def State.readDrive (s : State) (avoid : Option Nat) : Option Nat :=
  match s.drivesIn with
  | [] => none
  | [d] => some d
  | _ => some (match avoid with
    | some d => 1 - d
    | none => if s.mor.lastReadB then 0 else 1)

/-- The n-th sector read of a page-in is issued (R172), not to drive `avoid` where the mirror has another; a STOPPED cargo port holds it
(R369). -/
def State.readSector (s : State) (h n lba : Nat) (avoid tried : Option Nat) : State :=
  match s.readDrive avoid with
  | none => s.setStage h .lookup
  | some d =>
    let s := { s with mor := { s.mor with
      lastReadB := d == 1
      mirrorRetry := if avoid = none ∨ avoid = some d then s.mor.mirrorRetry else satAdd 16 s.mor.mirrorRetry 1 } }
    if s.pwr.stopped.contains 0x2B then s.setStage h (.reading n lba 2 tried)
    else (s.setStage h (.reading n lba d tried)).emit (.nvme d 0 lba 1)

/-- The sector reads outstanding on drive d are issued again: of a mirror on the other drive, which MIRROR_RETRY counts (R186). -/
def State.reissueReads (s : State) (d : Nat) : State :=
  s.mor.pageIns.foldl (fun (s : State) p =>
    match p.stage with
    | .reading n lba e tried => if e = d then s.readSector p.handle n lba (some d) tried else s
    | _ => s) s

/-- The sector reads that a STOPPED cargo port has held are issued (R369). -/
def State.resendReads (s : State) : State :=
  s.mor.pageIns.foldl (fun (s : State) p => match p.stage with
    | .reading n lba 2 tried => s.readSector p.handle n lba none tried
    | _ => s) s

/-- The links of a key in the cargo cache, all of them. -/
def State.cachedLinks (s : State) (h : Nat) : Option (List (KRec × Bool)) :=
  match s.cached h 0 with
  | none => none
  | some r0 =>
    let ls := (List.range r0.krec.label.chainLen).map fun i => s.cached h i
    if ls.all Option.isSome then some (ls.filterMap fun x => x.map fun r => (r.krec, r.leased)) else none

/-- Transfers outstanding on a tug (R169): host-buffer transfers of crew cores and page-ins. -/
def State.tugLoad (s : State) (t : Nat) : Nat :=
  s.cores.countP (fun p => p.2.tug == some t) + s.mor.pageIns.countP fun p => p.tug == some t

/-- The tug a transfer of a group of n tugs from `lo` goes to (R169): the lowest in service with fewer than 64 transfers outstanding. -/
def State.freeTug (s : State) (lo n : Nat) : Option Nat :=
  ((List.range n).map (lo + ·)).find? fun t => !s.mor.tugsOut.contains t && decide (s.tugLoad t < 64)

/-- A page-in that waits for a tug of 12 to 15 begins where one is free (R169, R172): one that misses the cargo cache reads its bucket
sector. -/
def State.startPageIn (s : State) (h : Nat) : State :=
  match s.freeTug 12 4 with
  | none => s
  | some t =>
    let s := { s with mor := { s.mor with
      pageIns := s.mor.pageIns.map fun p => if p.handle = h then { p with stage := .lookup, tug := some t } else p } }
    if s.driveStore && (s.cachedLinks h).isNone then s.readSector h 0 (s.bucketLba h) none none else s

/-- The page-ins that wait for a tug begin as far as tugs are free, oldest first. -/
def State.startWaiting (s : State) : State :=
  (s.mor.pageIns.filter fun p => decide (p.stage = .waitTug)).foldl (fun (s : State) p => s.startPageIn p.handle) s

/-- Start the page-ins of handles that have none in progress (R171). -/
def State.startPageIns (s : State) (hs : List Nat) : State :=
  hs.foldl (fun s h =>
    if s.pagingIn h then s
    else State.startPageIn { s with mor := { s.mor with pageIns := s.mor.pageIns ++ [⟨h, .waitTug, none⟩] } } h) s

/-- The links of a handle in the store, if it holds the key; a key of a tenant that is not ACTIVE is lost with its GEN (R142, R166). -/
def State.storeLinks (s : State) (h : Nat) : Option (List KRec) :=
  if (s.tenantAt (handleTenant h)).st ≠ .active then none
  else match Tbl.find h s.mor.store with
  | some (.key ls) => some ls
  | _ => none

/-- The fields of a label lie in the ranges of R137 (step 4 of R172); the usage table is applied by `labelAccepted`. -/
def KLabel.inRange (l : KLabel) : Bool :=
  decide (l.dclass < 4) && decide (l.chainIdx < l.chainLen) && decide (0 < l.chainLen)

/-- A usage row of R138: ALG with the sizes accepted, and the modes. -/
def usageRow (u : Nat) : List (String × List Nat) × String :=
  let upTo (a b : Nat) : List Nat := (List.range (b + 1 - a)).map (· + a)
  if u = usage "B0" ∨ u = usage "B1" then ([("T", [16]), ("A", [16, 24, 32])], "X")
  else if u = usage "C0" then ([("T", [16])], "CGV")
  else if u = usage "D0" then ([("T", [16, 24]), ("A", [16, 24, 32])], "BDE")
  else if u = usage "D1" then ([("R", upTo 8 32)], "BDE")
  else if u = usage "E0" ∨ u = usage "E1" ∨ u = usage "E2" ∨ u = usage "E4" then ([("T", [16]), ("A", [16])], "X")
  else if u = usage "K0" ∨ u = usage "K1" ∨ u = usage "P0" then ([("T", [16, 24]), ("A", [16, 24, 32])], "BDE")
  else if u = usage "K3" then ([("E", [1, 2, 3, 6, 7])], "N")
  else if u = usage "M1" then ([("T", [16, 24])], "CGV")
  else if u = usage "M3" then ([("T", [16])], "CGV")
  else if u = usage "M6" then ([("A", [16, 24, 32])], "CGV")
  else if u = usage "M7" then ([("H", upTo 16 32)], "CGV")
  else if u = usage "S0" then ([("R", upTo 8 32), ("E", upTo 1 5), ("Q", [1, 2])], "NSV")
  else if u = usage "S1" then ([("R", upTo 8 32), ("E", upTo 1 5)], "SV")
  else if u = usage "V1" then ([("T", [16, 24])], "CGV")
  else if u = usage "V2" then ([("T", [16])], "CGV")
  else if u = usage "50" then ([("A", [32])], "BE")
  else if u = usage "51" then ([("K", [32])], "CGV")
  else if u = usage "52" then ([("M", [1, 2])], "N")
  else ([], "")

/-- A mode character is one of a row's modes. -/
def modeIn (m : Nat) (modes : String) : Bool := modes.toList.any fun c => c.toNat == m

/-- Usage, algorithm, size and mode lie within a row of R138. -/
def rowAccepted (l : KLabel) : Bool :=
  let row := usageRow l.usage
  (row.1.any fun p => chr p.1 == l.alg && p.2.contains l.size) && modeIn l.mode row.2

/-- The label lies within its row of R138, with an EXPORT of R137. -/
def labelAccepted (l : KLabel) : Bool := rowAccepted l && modeIn l.exportability "ESN"

/-- Step 4 of R172: the label names the handle, lies in range and is a chain's head. -/
def recChecks (h : Nat) (r : KRec) : Bool :=
  decide (r.label.handle = h) && r.label.inRange && labelAccepted r.label && decide (r.label.chainIdx = 0)

/-- Evict a mooring: it is written back to the cargo cache (R178, R183). -/
def State.evictMooring (s : State) (m : Nat) (old : Mooring) : Option State :=
  (s.writeBack old).map fun (t : State) =>
    let t := t.bankAccess m
    { t with mor := { t.mor with evict := t.mor.evict + 1 } }

/-- Put one record into a mooring, evicting and writing back another where needed (R178). -/
def State.install (s : State) (r : KRec) (leased : Bool) : Option State :=
  match s.mooringChoice r.label.handle with
  | none => none
  | some (m, old) =>
    (match old with
      | none => some s
      | some x => s.evictMooring m x).map fun (t : State) =>
      let t := t.bankAccess m
      { t with mor := { t.mor with moorings := Tbl.put m ⟨r, leased, t.now⟩ t.mor.moorings } }

/-- Install a whole chain (R172): all of its links or none. -/
def State.installAll (s : State) : List (KRec × Bool) → Option State
  | [] => some s
  | (r, leased) :: rest =>
    match s.install r leased with
    | none => none
    | some s' => s'.installAll rest

/-- How a page-in returns (R172). -/
inductive Returned where
  | installed
  | absent
  | damaged
  deriving DecidableEq, Repr

/-- Do something in the tick after this one: what R65, R66 and R173 date in the tick + 1. -/
def State.inNextTick (s : State) (f : State → State) : State :=
  let s' := f { s with clock := { s.clock with dtime := s.clock.dtime + 1 } }
  { s' with clock := s.clock }

/-- The governing limit of a barge parked in tick `t`, and the status it gives (R66). -/
def Entry.pageLimit (e : Entry) (t : Nat) : Nat × Nat :=
  if e.failExpired = true ∧ e.deadline ≤ t + e.pageTimeout then (e.deadline, stExpired) else (t + e.pageTimeout, stKeyPageTimeout)

/-- A parked barge fails at its governing limit (R66), counted where it is KEY_PAGE_TIMEOUT (R79). -/
def State.failParked (s : State) (i status : Nat) : State :=
  (if status = stKeyPageTimeout then { s with lkm := { s.lkm with timeouts := s.lkm.timeouts + 1 } } else s).failBarge i status

/-- One parked barge sees the return of a page-in (R173, R67): INSTALLED gives it an eviction lock and requeues it with its
last page-in; ABSENT and DAMAGED fail it in the next tick. A return past its governing limit comes too late (R62, R66). -/
def State.returnTo (s : State) (h : Nat) (how : Returned) (i : Nat) : State :=
  match s.entryAt i with
  | none => s
  | some e =>
    match e.ph with
    | .parked t waits =>
      if waits.contains h = true ∧ (e.pageLimit t).1 < s.now then s.failParked i (e.pageLimit t).2
      else if waits.contains h then
        match how with
        | .installed =>
          let rest := waits.erase h
          let e := { e with locks := h :: e.locks, ph := .parked t rest }
          if rest = [] then (s.setEntry i e).enqueue i e else s.setEntry i e
        | .absent => s.inNextTick fun s => s.failBarge i stKeyUnknown
        | .damaged => s.inNextTick fun s => s.failBarge i stKeyDamaged
      else s
    | _ => s

/-- A page-in's return is recorded (R173): counted for telemetry, the page-in ends, and each waiting barge sees it in
admission order. -/
def State.pageReturn (s : State) (h : Nat) (how : Returned) : State :=
  let s := { s with
    mor := { s.mor with
      pageIns := s.mor.pageIns.filter fun p => decide (p.handle ≠ h)
      damaged := if how = Returned.damaged then satAdd 16 s.mor.damaged 1 else s.mor.damaged }
    lkm := { s.lkm with returns := s.lkm.returns + 1 } }
  ((s.lkm.tbl.map Prod.fst).foldl (fun (s : State) (i : Nat) => s.returnTo h how i) s).startWaiting

/-- Step 5 of R172: take moorings for the whole chain and return INSTALLED, or wait for a lock to be released (R178). -/
def State.pageInstall (s : State) (h : Nat) (links : List (KRec × Bool)) : State :=
  match s.installAll links with
  | some s' => s'.pageReturn h .installed
  | none => s.setStage h .mooringWait

/-- Fill all the links of a key into the cargo cache (R172 step 3). -/
def State.cacheFillAll (s : State) : List KRec → Option State
  | [] => some s
  | r :: rest =>
    match s.cacheFill r false with
    | none => none
    | some s' => s'.cacheFillAll rest

/-- No source of the record passes step 4 of R172 (R175): it leaves the cache, and the page-in returns DAMAGED. -/
def State.pageDamaged (s : State) (h : Nat) : State :=
  { s with mor := { s.mor with cache := dropCached h s.mor.cache } }.pageReturn h .damaged

/-- Steps 3 to 5 of R172 from the store's content: ABSENT, a fill that waits (R182), DAMAGED, or the moorings. -/
def State.pageFromStore (s : State) (h : Nat) : State :=
  match s.storeLinks h with
  | none => s.pageReturn h .absent
  | some ls =>
    match s.cacheFillAll ls with
    | none => s.setStage h .cacheWait
    | some s1 =>
      if recChecks h (ls.headD ⟨labelOfBytes [], [], [], 0, 0, 0⟩) then s1.pageInstall h (ls.map fun r => (r, false))
      else s1.pageDamaged h

end Sys2Proof.Machine
end

