-- ==== Sys2Proof/Machine/Rings.lean ====
section
/-! DEFINITION. Rings and completions (02_barges_and_rings.md R48 to R57): doorbells, slot fetch, opening and closing, the writing
of completions and ring interrupts, and aborts. -/

namespace Sys2Proof.Machine

/-! ### Faults and interrupts of a ring -/

/-- A ring fault (R49): it sets STATE and ERR while ERR is 0; a failed completion write always sets ERR to CQ_WRITE and holds
the ring's completions. Log 39, DESIGN CHOICE. -/
def State.ringFault (s : State) (r code : Nat) : State :=
  let g := s.ringAt r
  let stops := decide (g.st = .opened) || decide (g.st = .stopped)
  if code = 5 then
    s.setRing r { g with err := 5, holding := true, st := if stops then .faulted else g.st }
  else if g.err = 0 && stops then s.setRing r { g with err := code, st := .faulted }
  else s

/-- The ring's interrupt falls due: its count and timer restart and the message is sent or pended (R53, R384). -/
def State.ringInterrupt (s : State) (r : Nat) : State :=
  let g := s.ringAt r
  let s := s.setRing r { g with unsig := 0, coalFrom := none }
  if (s.ringCfg r).transport = 0 then s.msix (s.ringCfg r).func g.msixVec else s

/-- A completion has been written: the interrupt falls due on COAL_COUNT unsignalled completions or on FLAGS.IRQ (R53). -/
def State.signal (s : State) (r : Nat) (irq : Bool) : State :=
  let g := s.ringAt r
  let g' := { g with unsig := g.unsig + 1, coalFrom := g.coalFrom.or (some s.now) }
  let s := s.setRing r g'
  if irq || decide (max 1 g.coalCount ≤ g'.unsig) then s.ringInterrupt r else s

/-- Modes in which the Wharf fetches, the admission stage may admit and the ring table takes writes: SERVICE and DRYDOCK (R22, R362). -/
def State.serving (s : State) : Bool := decide (s.glb.mode = .service) || decide (s.glb.mode = .drydock)

/-! ### Doorbells (R48) -/

/-- What the SQ_TAIL value of a doorbell write gives: an error code, or none. -/
def sqReject (g : Ring) (tail : W32) : Option Nat := if 2 ^ g.sqLog < diff32 tail g.sqHead then some 1 else none

/-- What a CQ_HEAD value gives: DB_CQ_BACK, DB_CQ_AHEAD, or none. -/
def cqReject (g : Ring) (head : W32) : Option Nat :=
  if 2 ^ 31 ≤ diff32 head g.cqHead then some 3
  else if diff32 g.cqTail g.cqHead < diff32 head g.cqHead then some 2
  else none

/-- A doorbell write (R48): each value is checked on its own against the counters before the write; a rejected value faults
the ring, the SQ_TAIL code first. A ring that is not OPEN on PCIe discards and logs it. -/
def State.doorbell (s : State) (r : Nat) (tail head : Option W32) : State :=
  let g := s.ringAt r
  if g.st = .opened ∧ (s.ringCfg r).transport = 0 ∧ s.serving = true then
    let rejT := tail.bind (sqReject g)
    let rejH := head.bind (cqReject g)
    let g' := { g with
      sqTail := match tail with
        | some t => if rejT.isNone then t else g.sqTail
        | none => g.sqTail
      cqHead := match head with
        | some h => if rejH.isNone then h else g.cqHead
        | none => g.cqHead }
    let s := s.setRing r g'
    match rejT.or rejH with
    | some code => s.ringFault r code
    | none => s
  else s.logAccess (0x800000 + 64 * r + 0x10) 1

/-- DOORBELL_SQ_TAIL (R48). -/
def execDoorbellSqTail (ring : Nat) (tail : W32) (head : Option W32) (s : State) :
    Host.Outcome State Fault Refusal := .next (s.doorbell ring (some tail) head)

/-- DOORBELL_CQ_HEAD (R48, R50). -/
def execDoorbellCqHead (ring : Nat) (head : W32) (tail : Option W32) (s : State) :
    Host.Outcome State Fault Refusal := .next (s.doorbell ring tail (some head))

/-! ### Fetching slots (R49, R386) -/

/-- Slots a submission ring covers and has not fetched, at most the four of one barge; none where SQ_TAIL has been set back behind slots
already fetched, which stay fetched (R48, R49). -/
def fetchable (g : Ring) : Nat :=
  if diff32 g.sqTail g.fetched ≤ 2 ^ g.sqLog then min 4 (diff32 g.sqTail g.fetched) else 0

/-- The bus address of the slot at free-running count `n`. -/
def slotAddr (g : Ring) (n : Nat) : Nat := g.sqBase + 64 * (n % 2 ^ g.sqLog)

/-- The bus addresses of the slots asked for next. -/
def slotReads (g : Ring) : List Nat := (List.range (fetchable g)).map fun i => slotAddr g (g.fetched.toNat + i)

/-- SLOT_FETCH (R49, R294, R386): the covered slots of the next barge are asked for; with Bus Master Enable 0, or refused by gate
112, it is a failed slot read; a STOPPED PCIe endpoint holds it back (R369). -/
def execSlotFetch (ring : Nat) (s : State) : Host.Outcome State Fault Refusal :=
  let g := s.ringAt ring
  let fn := (s.ringCfg ring).func
  .next <|
    if g.st = .opened ∧ (s.ringCfg ring).transport = 0 ∧ s.serving = true ∧ g.fetching = 0 ∧ 0 < fetchable g
        ∧ s.pwr.stopped.contains 0x28 = false then
      match (slotReads g).findSome? fun a => s.gateCheck 112 .read (hostAddr a) 64 [] with
      | some b => (s.refuse 112 .read b).ringFault ring 4
      | none =>
        if s.wharf.bme.contains fn then
          (s.setRing ring { g with fetching := fetchable g }).emits ((slotReads g).map fun a => .hostRead fn a 64)
        else s.ringFault ring 4
    else s

/-- SLOT_READ_DONE (R49): a barge whose head and lighters are covered is presented at the port; an error or a poisoned word is a
failed slot read. A head whose lighters are not covered yet waits and is read again. On a ring no longer OPEN or STOPPED the
read counts as not made. A barrier of gate 112 waits for it no longer (R301). Log 39, DESIGN CHOICE. -/
def execSlotReadDone (ring : Nat) (r : SlotReturn) (s : State) : Host.Outcome State Fault Refusal :=
  let s := s.slotReturned ring
  let g := s.ringAt ring
  let done := s.setRing ring { g with fetching := 0 }
  .next <|
    if g.fetching = 0 then s
    else if g.st ≠ .opened ∧ g.st ≠ .stopped then done
    else match r with
      | .data bs =>
        let b := bargeOfBytes (fixLen (64 * g.fetching) bs)
        let n := 1 + b.lighters
        if n ≤ g.fetching then
          s.setRing ring { g with
            fetching := 0
            fetched := g.fetched + BitVec.ofNat 32 n
            port := g.port ++ [⟨b, none, false⟩] }
        else done
      | .pcieError => done.ringFault ring 4
      | .poisoned =>
        ({ done with wharf := { done.wharf with poisoned := satAdd 16 done.wharf.poisoned 1 } }).ringFault ring 4

/-! ### Completions on their way out (R43, R44, R49, R50, R393) -/

/-- The 32 bytes of a completion (R43). -/
def compBytes (c : Comp) (phase : Bool) : Bytes :=
  toLE 4 c.seq ++ toLE 2 c.status ++ toLE 2 (cflags c phase) ++ toLE 4 c.outLen ++ toLE 4 c.time ++ fixLen 16 c.result

/-- The epoch-change completion (R58): the new epoch and how the previous one ended. -/
def State.epochCompletion (s : State) : Comp where
  seq := 0
  status := stEpochLost
  epoch := true
  forwarded := false
  outbuf := false
  outLen := 16
  time := s.now % 2 ^ 32
  result := toLE 8 s.pwr.epoch ++ toLE 4 s.pwr.epochEnd ++ zeros 4

/-- The body of an LTP COMPLETION message (R393), in the 24-byte form over LTP v1 (R397). -/
def ltpCompBody (c : Comp) (phase : Bool) (out : Option Bytes) (v1 : Bool) : Bytes :=
  (if v1 then toLE 2 c.seq ++ toLE 2 c.status ++ toLE 4 c.outLen ++ fixLen 16 c.result else compBytes c phase)
    ++ out.getD []

/-- Send an LTP message to the session a ring is bound to (R393). -/
def State.ltpTo (s : State) (r typ arg : Nat) (body : Bytes) : State :=
  match (s.ringAt r).bound with
  | some n => s.emit (.ltp n typ r arg body)
  | none => s

/-- The bus address of the completion a ring writes next (R50). -/
def compAddr (g : Ring) : Nat := g.cqBase + 32 * (g.cqTail.toNat % 2 ^ g.cqLog)

/-- A completion of an LTP ring is written into the completion store, and its output into the output pool, through the SLU as PUBLIC words
(R56); where in the two areas, the manual does not say. Log 63, DESIGN CHOICE. -/
def State.ltpLines (s : State) (r : Nat) (slot : W32) (comp : Bytes) (out : Option Bytes) : State :=
  match s.cfg.mem with
  | none => s
  | some m =>
    let place (n base size : Nat) : Nat := base + 64 * (Config.ltpPlace r n % (size / 64))
    let s := s.unitPut m.ltpStoreKd (place 0 m.ltpStoreBase m.ltpStoreSize + 32 * slot.toNat) (wordsOf comp .pub) {}
    match out with
    | some bs => s.unitPut m.ltpPoolKd (place (slot.toNat + 1) m.ltpPoolBase m.ltpPoolSize) (wordsOf bs .pub) {}
    | none => s

/-- One completion goes out (R50): into its slot of the host ring, or into the LTP completion store and to the bound session.
CQ_TAIL and in_flight change together and the barge-table entry is freed. -/
def State.putCompletion (s : State) (r : Nat) (p : Pending) : State :=
  let g := s.ringAt r
  let phase := phaseOf g.cqTail.toNat g.cqLog
  let pool := match p.idx with
    | some i => ((s.entryAt i).map (·.pool)).getD 0
    | none => 0
  let s := match p.idx with
    | some i => s.delEntry i
    | none => s
  if (s.ringCfg r).transport = 0 then
    let s := s.setRing r { g with cqTail := g.cqTail + 1, inFlight := g.inFlight - 1 }
    (s.emit (.hostWrite (s.ringCfg r).func (compAddr g) (compBytes p.comp phase))).signal r p.irq
  else
    let s := s.setRing r { g with
      cqTail := g.cqTail + 1
      inFlight := g.inFlight - 1
      store := g.store ++ [(p.comp, p.out, pool, p.v1)] }
    let s := s.ltpLines r (g.cqTail % BitVec.ofNat 32 (2 ^ g.cqLog)) (compBytes p.comp phase) p.out
    s.ltpTo r 0x11 0 (ltpCompBody p.comp phase p.out p.v1)

/-- A completion that gate 112 refuses to write: its barge fails BAD_POINTER (R299), but for one whose change of state has committed, which is
reported DONE (R60). Log 39, DEDUCED. -/
def State.barred (s : State) (p : Pending) : Pending :=
  let kept := ((p.idx.bind s.entryAt).map (·.committed)).getD false
  if kept then p
  else { p with comp := { p.comp with status := stBadPointer, outbuf := false, outLen := 0, result := zeros 16 }, out := none }

/-- The completion that a ring writes next has been refused by gate 112 (R299). -/
def State.barNext (s : State) (r : Nat) : State :=
  let g := s.ringAt r
  match g.epochComp, g.relq with
  | none, p :: rest => s.setRing r { g with relq := s.barred p :: rest }
  | _, _ => s

/-- Gate 112 refuses the write of a ring's next completion into host memory: the address and the region it blames (R294, R297). -/
def State.compRefused (s : State) (ring : Nat) : Option (Nat × Option Nat) :=
  if (s.ringCfg ring).transport ≠ 0 then none
  else s.gateCheck 112 .write (hostAddr (compAddr (s.ringAt ring))) 32 (wordsOf (zeros 32) .pub)

/-- COMPLETION_WRITE (R49, R50, R294, R386): the first completion of the ring's release order is written, an epoch-change
completion first; one that fails, falls due with Bus Master Enable 0 or is refused by gate 112 faults the ring with CQ_WRITE and
is held. No completion of a FAULTED ring, of a ring that holds its completions or, on PCIe, while the endpoint is STOPPED (R369) is
written; in HALT the flush writes them (R59). -/
def execCompletionWrite (ring : Nat) (ok : Bool) (s : State) : Host.Outcome State Fault Refusal :=
  let g := s.ringAt ring
  let ltp := decide ((s.ringCfg ring).transport ≠ 0)
  let refused := s.compRefused ring
  let sends := ltp || (refused.isNone && ok && s.wharf.bme.contains (s.ringCfg ring).func && s.wharf.pcieUp)
  .next <|
    if g.holding ∨ g.st = .faulted ∨ g.st = .closed ∨ s.glb.mode = .halt ∨ (g.epochComp = none ∧ g.relq = [])
        ∨ (ltp = false ∧ s.pwr.stopped.contains 0x28 = true) then s
    else match refused with
    | some b => ((s.barNext ring).refuse 112 .write b).ringFault ring 5
    | none =>
      match g.epochComp, g.relq with
      | some c, _ =>
        if sends then (s.setRing ring { g with epochComp := none }).putCompletion ring ⟨none, c, false, none, false⟩
        else s.ringFault ring 5
      | none, p :: rest =>
        if sends then (s.setRing ring { g with relq := rest, heldLeft := g.heldLeft - 1 }).putCompletion ring p else s.ringFault ring 5
      | none, [] => s

/-- COAL_TIMER_EXPIRE (R53): COAL_TIME µs after the first unsignalled completion. -/
def execCoalTimerExpire (ring : Nat) (s : State) : Host.Outcome State Fault Refusal :=
  let g := s.ringAt ring
  .next <|
    match g.coalFrom with
    | some t => if 0 < g.coalTime ∧ t + 100 * g.coalTime ≤ s.now then s.ringInterrupt ring else s
    | none => s

/-- PENDING_MSIX_SEND (R384). -/
def execPendingMsixSend (fn vec : Nat) (s : State) : Host.Outcome State Fault Refusal :=
  .next <|
    if s.wharf.msixPending.contains (fn, vec) ∧ s.msixReady fn vec = true then
      ({ s with wharf := { s.wharf with msixPending := s.wharf.msixPending.erase (fn, vec) } }).sendMsix fn vec
    else s

/-! ### Opening and closing (R51, R52) -/

/-- Completions a ring holds (R49, R52). -/
def Ring.held (g : Ring) : Nat := g.relq.length + (if g.epochComp.isSome then 1 else 0)

/-- The interrupt fields of a RING_CTL value: COAL_TIME, COAL_COUNT and MSIX_VEC, the last discarded at or above the size of the
function's MSI-X table, 4,096 entries for the PF and 64 for a VF (R382, R384). -/
def ctlFields (fn : Nat) (g : Ring) (v : W64) : Ring :=
  { g with
    msixVec := if fn ≠ 0 ∧ 64 ≤ wbits 63 52 v then g.msixVec else wbits 63 52 v
    coalCount := wbits 47 32 v
    coalTime := wbits 31 16 v }

/-- Open a CLOSED ring (R51, R52, R58): counters to 0, the checks, then the epoch-change completion at the first open in the
epoch, or the held completions at a reopen. -/
def State.openRing (s : State) (r : Nat) : State :=
  let g := s.ringAt r
  let pcie := (s.ringCfg r).transport = 0
  let g0 := { g with sqTail := 0, sqHead := 0, cqHead := 0, cqTail := 0, fetched := 0, fetching := 0, err := 0, unsig := 0,
                     coalFrom := none, v1High := 0, v1Last := none }
  let sizes := (!decide pcie || (decide (4 ≤ g.sqLog) && decide (g.sqLog ≤ 16) && g.sqBase != 0 && g.cqBase != 0))
    && decide (4 ≤ g.cqLog) && decide (g.cqLog ≤ 17)
  let room := decide (g.held < 2 ^ g.cqLog)
  if (Tbl.find r s.cfg.rings).isSome && sizes && room then
    let first := !g.openedInEpoch
    s.setRing r { g0 with
      st := .opened
      holding := false
      flr := false
      openedInEpoch := true
      heldLeft := g.relq.length
      epochComp := if first then some s.epochCompletion else g.epochComp
      inFlight := if first then 1 else g.held }
  else s.setRing r { g0 with err := 6 }

/-- RING_OPEN (R51): open a CLOSED ring or re-arm a FAULTED one, whose unwritten completions go out before a barge is admitted; both OPEN
and CLOSE, or any other state, is discarded and logged. Log 39, DESIGN CHOICE. -/
def execRingOpen (ring : Nat) (v : W64) (s : State) : Host.Outcome State Fault Refusal :=
  let g := ctlFields (s.ringCfg ring).func (s.ringAt ring) v
  .next <|
    if wbit 1 v ∨ (s.ringCfg ring).transport ≠ 0 ∨ s.serving = false then s.logAccess (0x800000 + 64 * ring + 0x30) 2
    else match g.st with
      | .closed => (s.setRing ring g).openRing ring
      | .faulted => s.setRing ring { g with st := .opened, err := 0, holding := false, heldLeft := g.relq.length, fetching := 0 }
      | _ => s.logAccess (0x800000 + 64 * ring + 0x30) 2

/-- Begin closing a ring (R52): barges waiting at a port are dropped there, admitted barges run on. -/
def State.closeRing (s : State) (r : Nat) : State :=
  let g := s.ringAt r
  s.setRing r { g with st := .draining, port := [], fetching := 0 }

/-- RING_CLOSE (R52). -/
def execRingClose (ring : Nat) (v : W64) (s : State) : Host.Outcome State Fault Refusal :=
  let g := ctlFields (s.ringCfg ring).func (s.ringAt ring) v
  .next <|
    if wbit 0 v ∨ s.serving = false then s.logAccess (0x800000 + 64 * ring + 0x30) 2
    else match g.st with
      | .opened | .stopped | .faulted => (s.setRing ring g).closeRing ring
      | _ => s.logAccess (0x800000 + 64 * ring + 0x30) 2

/-- Admitted barges of a ring whose completion is neither written nor held (R52). -/
def State.unfinished (s : State) (r : Nat) : Nat :=
  let g := s.ringAt r
  if g.holding then g.inFlight - g.held else g.inFlight

/-- RING_DRAINED (R52, R387, R55, R56): with every admitted barge finished the ring is CLOSED; after an FLR its host-written
fields take their reset values; an LTP ring's completion store is freed. -/
def execRingDrained (ring : Nat) (s : State) : Host.Outcome State Fault Refusal :=
  let g := s.ringAt ring
  .next <|
    if g.st = .draining ∧ s.unfinished ring = 0 then
      let g := { g with st := .closed, store := [] }
      if g.flr then
        s.setRing ring { g with
          flr := false, sqBase := 0, sqLog := 0, cqBase := 0, cqLog := 0, msixVec := 0, coalCount := 0, coalTime := 0,
          relq := [], epochComp := none, inFlight := 0, holding := false }
      else s.setRing ring g
    else s

/-! ### Aborts (R57) -/

/-- Abort one barge (R57, R413): queued or parked, it completes ABORTED; dispatched before its commit begins, it stops at the
end of its command; forwarded, its home is told; otherwise it stands. -/
def State.abortBarge (s : State) (i : Nat) : State :=
  match s.entryAt i with
  | none => s
  | some e =>
    match e.ph with
    | .queued _ | .parked _ _ => s.failBarge i stAborted
    | .running k =>
      if e.committing || e.committed then s else s.setCore k { s.coreAt k with aborted := (s.coreAt k).aborted.or (some s.now) }
    | .forwarded home =>
      s.sendTo 0x13 1 home (toLE 1 s.index ++ toLE 2 e.ring ++ toLE 8 e.b.seq)
    | .done => s

/-- Abort the open barges that meet a test. -/
def State.abortWhere (s : State) (p : Entry → Bool) : State :=
  ((s.lkm.tbl.filter fun x => p x.2 && x.2.open).map Prod.fst).foldl (fun (s : State) (i : Nat) => s.abortBarge i) s

/-- ABORT_ALL (R57). -/
def execAbortAll (ring : Nat) (s : State) : Host.Outcome State Fault Refusal :=
  .next <|
    if s.serving then s.abortWhere fun e => decide (e.ring = ring) && e.origin.isNone else s.logAccess (0x800000 + 64 * ring + 0x38) 2

/-- ABORT_SEQ (R57). -/
def execAbortSeq (ring seq : Nat) (s : State) : Host.Outcome State Fault Refusal :=
  .next <|
    if s.serving then s.abortWhere fun e => decide (e.ring = ring) && e.origin.isNone && decide (e.b.seq = seq)
    else s.logAccess (0x800000 + 64 * ring + 0x38) 2

end Sys2Proof.Machine
end

