-- ==== Sys2Proof/Machine/Lockmaster.lean ====
section
/-! DEFINITION. Admission (R11, R12, R42, R50, R142, R343, R365, R432), the residence check (R13, R170, R171), dispatch (R64, R70,
R72, R80, R381), the limits of waiting barges (R62, R65, R66), the basin (R76) and telemetry windows (R79). -/

namespace Sys2Proof.Machine

/-! ### Where a barge runs in a cluster (R411) -/

/-- Where a barge executes. -/
inductive Where where
  | here
  | device (d : Nat)
  | fails (status : Nat)
  deriving DecidableEq, Repr

/-- The opcodes that carry the new-label lighter of R148, with its offset in the lighters. -/
def newLabelAt (op : Nat) : Option Nat :=
  if [0x0700, 0x0701, 0x0705, 0x0709].contains op then some 0
  else if [0x0800, 0x0806, 0x0900, 0x0901, 0x0902].contains op then some 64
  else none

/-- The handles of a barge in the sense of R411: its non-zero handles and its TARGET. -/
def bargeHandles (b : Barge) : List Nat :=
  b.handles ++ (match newLabelAt b.opcode with
    | some o => [le o 8 b.lights]
    | none => [])

/-- The device of a cluster that a permit's DEVICE names: bytes 0 to 7 of SHAKE256 of its DevID public key, as DEVIDS of the
CLUSTER record holds them (R161, R405). -/
def deviceOf (c : ClusterCfg) (device : Bytes) : Option Nat := c.devIds.findIdx? (· == device)

/-- The session number a barge names, where it is known: in PARAM0, or in the first bytes of its input (R155, R194). -/
def sessionOf (b : Barge) (input : Option Bytes) : Option Nat :=
  if [0x0707, 0x0C56, 0x0C57].contains b.opcode then some (wbits 31 0 b.p0)
  else if [0x0706, 0x0C51, 0x0C52, 0x0C54, 0x0C55].contains b.opcode then input.map (le 0 4)
  else none

/-- Where a head's barge executes (R411); every other device runs its barges itself. In DRYDOCK, where no barges are exchanged, a barge
that names handles fails KEY_UNKNOWN and any other runs at the device itself (R420). Log 43, DEDUCED. -/
def State.runsAt (s : State) (tenant : Nat) (b : Barge) (input : Option Bytes) : Where :=
  match s.cfg.cluster with
  | none => .here
  | some c =>
    let at_ (d : Nat) : Where := if d = c.index then .here else .device d
    if s.glb.mode = .drydock then (if bargeHandles b = [] then .here else .fails stKeyUnknown)
    else if s.isHead = false ∨ b.opcode = 0x0E00 ∨ b.opcode = 0x0E01 then .here
    else match bargeHandles b with
      | h :: hs =>
        if hs.all fun x => s.homeOf x == s.homeOf h then
          match s.homeOf h with
          | some d => at_ d
          | none => .fails stDeviceLost
        else .fails stKeySplit
      | [] =>
        if [0x0C10, 0x0C11, 0x0C12, 0x0C20, 0x0C21, 0x0C30].contains b.opcode then at_ s.brv.coord
        else match sessionOf b input with
          | some n => at_ (bitsOf 31 26 n)
          | none =>
            if b.opcode = 0x0C00 then
              match input.bind fun i => deviceOf c (slice 40 8 i) with
              | some d => at_ d
              | none => .here
            else if b.opcode = 0x0C50 ∨ b.opcode = 0x0C53 then
              match s.brv.permits.find? fun p => p.1 == tenant && p.2.1 == b.permit with
              | some p => at_ p.2.2
              | none => .here
            else .here

/-! ### Admission (R11, R12, R42, R50) -/

/-- The admission port a ring's barges wait at (R11, R396): 0 PCIe, 1 and 2 the Ethernet ports, 7 internal. -/
def State.portOf (s : State) (r : Nat) : Nat :=
  if (s.ringCfg r).transport = 0 then 0
  else if (s.ringCfg r).transport = 2 then 7
  else match (s.ringAt r).bound.bind fun n => Tbl.find n s.wharf.sessions with
    | some x => 1 + x.port
    | none => 1

/-- A ring's barges are admitted now: STATE, its epoch-change and held completions written (R51, R52), the mode, QUIESCE (R343), the drain
to DRYDOCK (R365), the full audit archive (R432) and a withdrawn device (R408). -/
def State.admitting (s : State) (r : Nat) : Bool :=
  let c := s.ringCfg r
  let officers := c.maint && decide (c.tenant = 0)
  decide ((s.ringAt r).st = .opened) && (s.ringAt r).epochComp.isNone && decide ((s.ringAt r).heldLeft = 0) && s.glb.admitting && s.serving
    && (c.maint || (decide (s.glb.mode = .service) && s.pwr.drydockBy.isNone))
    && (officers || (!s.quiesced && !s.log.auditStop)) && decide (s.brv.st ≠ .withdrawn) && !s.pwr.stopped.contains (r / 1024)

/-- Bytes of the LTP output pool in use (R56). -/
def State.poolUsed (s : State) : Nat :=
  (s.lkm.tbl.map fun x => x.2.pool).sum + (s.rings.map fun x => (x.2.store.map fun y => y.2.2.1).sum).sum

/-- What a barge of a ring reserves in the LTP output pool: its capacity rounded up to 4 KiB (R56). -/
def State.poolNeed (s : State) (r : Nat) (b : Barge) : Nat :=
  if (s.ringCfg r).transport ≠ 0 ∧ b.buf = true then 4096 * ceilDiv b.outCap 4096 else 0

/-- Barge-table entries reserved for barges other devices forward here (R412). -/
def State.fwdReserve (s : State) : Nat :=
  match s.cfg.cluster with
  | some c => c.fwdCredits * (c.heads.filter (· ≠ c.index)).length
  | none => 0

/-- Barges of this device's own rings in the barge table. -/
def State.ownBarges (s : State) : Nat := s.lkm.tbl.countP fun x => x.2.origin.isNone

/-- Every resource of R12, R50 and R56 is free for a waiting barge of a ring. -/
def State.resources (s : State) (r : Nat) (w : Waiting) : Bool :=
  let g := s.ringAt r
  decide (diff32 g.cqTail g.cqHead + g.inFlight + 1 ≤ 2 ^ g.cqLog) && decide (g.inFlight < (s.ringCfg r).inflightMax)
    && decide (s.ownBarges + s.fwdReserve < 131072)
    && decide (s.poolUsed + s.poolNeed r w.b ≤ (s.cfg.mem.map (·.ltpPoolSize)).getD 0 ∨ s.poolNeed r w.b = 0)

/-- The first barge waiting at a ring's port may be admitted. -/
def State.ready (s : State) (r : Nat) : Bool :=
  match (s.ringAt r).port with
  | w :: _ => s.admitting r && s.resources r w
  | [] => false

/-- Rings whose first waiting barge may be admitted at a port. -/
def State.readyAt (s : State) (p : Nat) : List Nat :=
  (s.rings.map Prod.fst).filter fun r => s.portOf r == p && s.ready r

/-- A barge that another device forwarded may be admitted now at port 3 + l (R11, R343, R412, R420). -/
def State.linkReady (s : State) (l : Nat) : Bool :=
  !(tget [] l s.brv.ports).isEmpty && s.glb.admitting && decide (s.glb.mode = .service) && !s.quiesced && decide (s.brv.st = .member)

/-- A port holds a barge that may be admitted; a STOPPED interface function holds back its port (R369). -/
def State.portReady (s : State) (p : Nat) : Bool :=
  if 3 ≤ p ∧ p ≤ 6 then s.linkReady (p - 3)
  else !(s.readyAt p).isEmpty && !(decide (p ≤ 2) && s.pwr.stopped.contains (0x28 + p))

/-- The port served next: round-robin from the one after the last served (R11). Log 39, DESIGN CHOICE. -/
def State.nextPort (s : State) : Option Nat :=
  ((List.range 8).map fun i => (s.lkm.lastPort + 1 + i) % 8).find? s.portReady

/-- The residence check (R13, R170, R171): the label of each resident handle is read and locked; a barge with a non-resident
handle is parked and its page-ins are started, any other goes on its ready list. -/
def State.lookup (s : State) (i : Nat) (e : Entry) : State :=
  let hs := e.b.handles
  let s := hs.foldl (fun (s : State) (h : Nat) =>
    match s.mooringOf h 0 with
    | some p => s.bankAccess p.1
    | none => s) s
  let e := { e with locks := hs.filter s.resident }
  match hs.filter fun h => !s.resident h with
  | [] => s.enqueue i e
  | waits => (s.setEntry i { e with ph := .parked s.now waits.dedup }).startPageIns waits

/-- An admitted barge with its head-check result (R42): a failed check completes it in its turn; then the tenant's state
(R142), the cluster's routing (R411, R420) and the residence check. -/
def State.admitEntry (s : State) (i : Nat) (e : Entry) (failed : Option Nat) : State :=
  let s := s.setEntry i e
  let group := opGroup e.b.opcode
  match failed with
  | some st => s.failBarge i st
  | none =>
    if (s.tenantAt e.tenant).st ≠ .active ∧ group ≠ 0x0C ∧ group ≠ 0x0D then s.failBarge i stKeyUnknown
    else if e.b.handles.all handleNames = false then s.failBarge i stKeyUnknown
    else if s.cfg.cluster.isSome ∧ s.glb.mode = .drydock ∧ bargeHandles e.b ≠ [] then s.failBarge i stKeyUnknown
    else match (if e.origin.isSome then Where.here else s.runsAt e.tenant e.b e.input) with
      | .fails st => s.failBarge i st
      | .device _ => s.enqueue i e
      | .here => s.lookup i e

/-- The barge-table entry of a barge admitted now on a ring (R12). -/
def State.newEntry (s : State) (r : Nat) (w : Waiting) : Entry :=
  let c := s.ringCfg r
  { b := w.b, ring := r, tenant := c.tenant, order := s.lkm.nextOrder, admitTick := s.now
    deadline := s.now + (if w.b.deadline = 0 then c.defaultDeadline else w.b.deadline)
    failExpired := c.failExpired, pageTimeout := c.pageTimeout
    flow := if c.flowEn then some c.flow else none
    ph := .queued .general, input := w.input, pool := s.poolNeed r w.b, v1 := w.v1 }

/-- Admit the first waiting barge of a ring (R12, R50): in_flight and SQ_HEAD advance. -/
def State.admitOn (s : State) (r : Nat) (w : Waiting) (rest : List Waiting) : State :=
  let c := s.ringCfg r
  let g := s.ringAt r
  let i := firstGap 0 s.lkm.tbl
  let e := s.newEntry r w
  let s := s.setRing r { g with
    port := rest
    inFlight := g.inFlight + 1
    sqHead := if c.transport = 0 then g.sqHead + BitVec.ofNat 32 (1 + w.b.lighters) else g.sqHead }
  let s := { s with lkm := { s.lkm with nextOrder := s.lkm.nextOrder + 1, lastPort := s.portOf r } }
  s.admitEntry i e (headCheck s.glb.mode c.tenant c.maint (c.transport ≠ 0) w.b)

/-- The entry of a barge forwarded to this device over link l: it carries its head's values (R412). -/
def State.fwdEntry (s : State) (l : Nat) (f : FwdBarge) : Entry :=
  { b := f.barge, ring := f.ring, tenant := f.tenant, order := s.lkm.nextOrder, admitTick := s.now, deadline := f.deadline
    failExpired := f.failExpired, pageTimeout := f.pageTimeout, flow := none, ph := .queued .general, input := f.input
    origin := some ⟨f.head, f.epoch, f.ring, l⟩ }

/-- Admit the first barge that waits at the port of link l (R11, R412), in the entry its credit reserved. -/
def State.admitForwarded (s : State) (l : Nat) : State :=
  match tget [] l s.brv.ports with
  | [] => s
  | f :: rest =>
    let i := firstGap 0 s.lkm.tbl
    let e := s.fwdEntry l f
    let s := { s with
      brv := { s.brv with ports := Tbl.put l rest s.brv.ports }
      lkm := { s.lkm with nextOrder := s.lkm.nextOrder + 1, lastPort := 3 + l } }
    s.admitEntry i e none

/-- ADMIT_BARGE (R11, R12, R42, R50). Which of several rings of one port comes first is open: a free value (log 20).
Log 39, DESIGN CHOICE. -/
def execAdmitBarge (s : State) : Host.Outcome State Fault Refusal :=
  .next <|
    match s.nextPort with
    | none => s
    | some p =>
      if 3 ≤ p ∧ p ≤ 6 then s.admitForwarded (p - 3)
      else
        let rs := s.readyAt p
        let pick := if rs.length ≤ 1 then (0, s) else s.freshNat
        match rs[pick.1 % rs.length]? with
        | none => s
        | some r =>
          match (s.ringAt r).port with
          | w :: rest => pick.2.admitOn r w rest
          | [] => s

/-! ### Dispatch (R10, R64, R70, R72, R80, R381) -/

/-- A barge is on the administration list (R63). -/
def adminList (op : Nat) : Bool := opGroup op == 0x0C || opGroup op == 0x0E

/-- A barge of a FAIL_EXPIRED ring is past its deadline tick: it is never dispatched (R62, R65). -/
def State.lapsed (s : State) (e : Entry) : Bool := e.failExpired && decide (e.deadline < s.now)

/-- An entry on-chip on its ready list that may be dispatched (R64, R65, R72): its ring is not STOPPED, a STOPPED flow table does not
hold it back (R369), its chamber has room and it has not lapsed. -/
def State.eligible (s : State) (i : Nat) (e : Entry) : Bool :=
  (decide (e.ph = .queued .general) || decide (e.ph = .queued .reserved))
    && (e.origin.isSome || !s.pwr.stopped.contains (e.ring / 1024))
    && !(s.pwr.stopped.contains 0x10 && e.flow.isSome) && !s.heldBack i e && !s.lapsed e

/-- The first entry in the order of R63. -/
def firstByDeadline (t : Tbl Entry) : Option (Nat × Entry) :=
  t.foldl (fun acc p =>
    match acc with
    | none => some p
    | some q => if p.2.before q.2 then some p else acc) none

/-- The entry a free core of a list takes next. -/
def State.nextFor (s : State) (admin : Bool) : Option (Nat × Entry) :=
  firstByDeadline (s.lkm.tbl.filter fun x =>
    s.eligible x.1 x.2 && (adminList x.2.b.opcode == admin)
      && decide ((if x.2.origin.isSome then Where.here else s.runsAt x.2.tenant x.2.b x.2.input) = .here))

/-- The bucket of a waiting time in ticks (R80). -/
def waitBucket (ticks : Nat) : Nat := if ticks < 100 then 0 else min 15 (Nat.log2 (ticks / 100) + 1)

/-- The chamber entry a barge takes at dispatch, or holds since an earlier one (R70). Log 43, DEDUCED. -/
def State.takesChamber (s : State) (i : Nat) (e : Entry) : Bool :=
  e.chamber || match e.flow with
  | some f => !s.isOldest i f
  | none => false

/-- A barge's input is read from a host buffer by a tug (R40, R169). -/
def State.readsHost (s : State) (e : Entry) : Bool :=
  e.b.buf && e.origin.isNone && e.input.isNone && decide (0 < e.b.inLen) && decide ((s.ringCfg e.ring).transport = 0)

/-- Barge `i` starts on crew core `k`: its waiting time is counted (R80). -/
def State.startOn (s : State) (k i : Nat) (e : Entry) : State :=
  let key := 16 * bitsOf 13 10 e.ring + waitBucket (s.now - e.admitTick)
  let s := s.setEntry i { e with ph := .running k, chamber := s.takesChamber i e }
  let c := s.coreAt k
  let s := s.setCore k { c with
    job := some i, input := e.input, res := none, written := false, aborted := none, claimed := none, stored := []
    tug := if s.readsHost e then s.freeTug 0 12 else none }
  { s with lkm := { s.lkm with hist := Tbl.put key (tget 0 key s.lkm.hist + 1) s.lkm.hist } }

/-- The list a core serves: clusters 0 to 9 the service list, cluster 11 the administration list (R10, R63). -/
def coreList (k : Nat) : Option Bool := if k < 80 then some false else if 88 ≤ k then some true else none

/-- DISPATCH (R64): a free, powered core takes the first eligible entry of its list; the effective fraction lets through so many
eighths of the decisions (R381, log 19). -/
def execDispatch (core : Nat) (s : State) : Host.Outcome State Fault Refusal :=
  .next <|
    match coreList core with
    | none => s
    | some admin =>
      if s.serving ∧ s.coreFree core = true ∧ (s.domAt (core / 8)).st = .on then
        match s.nextFor admin with
        | none => s
        | some (i, e) =>
          let credit := s.pwr.dispatchCredit + s.effectiveEighths
          if credit < 8 then { s with pwr := { s.pwr with dispatchCredit := credit } }
          else ({ s with pwr := { s.pwr with dispatchCredit := credit - 8 } }).startOn core i e
      else s

/-! ### The limits of waiting barges (R62, R65, R66); in HALT the flush answers for every barge (R59) -/

/-- DEADLINE_EXPIRE (R65): a queued or parked barge of a FAIL_EXPIRED ring fails EXPIRED once its deadline tick has passed, but
for a parked one whose page limit came first (R66). -/
def execDeadlineExpire (barge : Nat) (s : State) : Host.Outcome State Fault Refusal :=
  .next <|
    match s.entryAt barge with
    | none => s
    | some e =>
      if e.failExpired = true ∧ e.deadline < s.now ∧ s.glb.mode ≠ .halt then
        match e.ph with
        | .queued _ => s.failBarge barge stExpired
        | .parked t _ => if t + e.pageTimeout < e.deadline then s else s.failBarge barge stExpired
        | _ => s
      else s

/-- PAGE_TIMEOUT_EXPIRE (R66): KEY_PAGE_TIMEOUT once the page limit has passed, EXPIRED where a FAIL_EXPIRED ring's deadline
governs. -/
def execPageTimeoutExpire (barge : Nat) (s : State) : Host.Outcome State Fault Refusal :=
  .next <|
    match s.entryAt barge with
    | none => s
    | some e =>
      match e.ph with
      | .parked t _ =>
        if (e.pageLimit t).1 < s.now ∧ s.glb.mode ≠ .halt then s.failParked barge (e.pageLimit t).2 else s
      | _ => s

/-! ### The basin and telemetry (R76, R79) -/

/-- The read of a basin slot through the SLU (R77): verified where no MEMORY record is loaded. -/
def State.refillRead (s : State) (i : Nat) (r : DramReturn) : DramGot × State :=
  match s.basinSlot i with
  | none => (.good, s)
  | some (kd, off) => State.unitRead kd r 1 off s

/-- BASIN_REFILL (R76, R77): the earliest basin entry that is not held back moves back on-chip while fewer than 28,160 general entries
are in use. An integrity failure of its line is that of R283; a barge whose line is uncorrectable fails DATA_POISONED.
Log 63, DESIGN CHOICE. -/
def execBasinRefill (r : DramReturn) (s : State) : Host.Outcome State Fault Refusal :=
  .next <|
    if (s.inPlace .general).length < 28160 then
      match firstByDeadline ((s.inPlace .basin).filter fun x => !s.heldBack x.1 x.2) with
      | none => s
      | some (i, e) =>
        let got := s.refillRead i r
        match got.1 with
        | .broken => got.2
        | .poisoned => got.2.failBarge i stPoisoned
        | .good =>
          let s := got.2.setEntry i { e with ph := .queued .general }
          { s with lkm := { s.lkm with refills := s.lkm.refills + 1 } }
    else s

/-- TEL_WINDOW_ROLL (R79, R178): at the first tick of a window the per-window fields take the values of the window just ended;
once for each window. -/
def execTelWindowRoll (s : State) : Host.Outcome State Fault Refusal :=
  let w := s.now / 100000
  .next <|
    if s.lkm.curWindow < w then
      { s with
        lkm := { s.lkm with
          curWindow := w
          windowNo := w - 1
          returnsLast := s.lkm.returns
          timeoutsLast := s.lkm.timeouts
          returns := 0
          timeouts := 0
          engBusyLast := s.lkm.engBusy
          engBusy := [] }
        mor := { s.mor with bankLast := s.mor.bankNow, bankNow := [] }
        cores := s.cores.map fun p => (p.1, { p.2 with busyLast := p.2.busy, busy := 0 }) }
    else s

end Sys2Proof.Machine
end

