-- ==== Sys2Proof/Machine/Vis.lean ====
section
/-! DEFINITION. Which register blocks an access path reaches (01_architecture.md R21 to R24; 13_roots_identity_lifecycle.md R332 to
R334). -/

namespace Sys2Proof.Machine

/-- The debug port reaches registers (R332, R333): in PRODUCTION only under a READ unlock, but for the LCY access port. -/
def State.debugReads (s : State) (b : Nat) : Bool :=
  match s.lcs with
  | .production =>
    b == 0xB || (match s.lcy.unlocked with
      | some scope => scope.getLsbD 0
      | none => false)
  | _ => true

/-- The debug port may write registers (R334): under a REGWRITE unlock, only in DRYDOCK. -/
def State.debugWrites (s : State) : Bool :=
  match s.lcs with
  | .production => decide (s.glb.mode = .drydock) && (match s.lcy.unlocked with
      | some scope => scope.getLsbD 1
      | none => false)
  | _ => true

/-- Visibility of a block by path, the VFs' own rings aside (R22, R24, R333). The towpath's one write is the mode request. -/
def State.vis (s : State) (p : Path) (b : Nat) : Vis :=
  if s.clock.mainPower = false then .hidden
  else match p with
  | .pf => pfVis s.glb.mode b
  | .vf _ => .hidden
  | .smbus | .spi => if [0x0, 0xB, 0xC, 0xD, 0xF, 0x10, 0x11].contains b then .read else .hidden
  | .debug =>
    if s.debugReads b then (if s.debugWrites ∨ b = 0xB then .full else .read) else .hidden

/-- A path reads a block now. -/
def State.reads (s : State) (p : Path) (b : Nat) : Bool := decide (s.vis p b ≠ .hidden)

end Sys2Proof.Machine
end

