-- ==== Sys2Proof/Machine/Logbook.lean ====
section
/-! DEFINITION. The logbook (18_logbook_and_fifos.md R424 to R438): records entering the ring, the archive, the token buckets, and
reading through the window. The audit opcodes are in Machine/Audit.lean. -/

namespace Sys2Proof.Machine

/-- The words of a record (R424). -/
def Rec.image (r : Rec) : List W64 :=
  BitVec.ofNat 64 (2 ^ 48 * r.code + 2 ^ 40 * r.words + r.time) :: BitVec.ofNat 64 r.seq
    :: BitVec.ofNat 64 (2 ^ 52 * r.tenant + (if r.audit then 2 ^ 51 else 0) + 2 ^ 40 * r.unit) :: r.body

/-- Words of a list of records. -/
def recWords (rs : List Rec) : Nat := (rs.map Rec.words).sum

/-- SEQ of the next record to enter the ring (R425, LOG_SEQ). -/
def Log.nextSeq (l : Log) : Nat := 2 ^ 40 * (l.seqEpoch % 2 ^ 24) + l.seqCount % 2 ^ 40

/-- Priority order of R438 applies; before step 1 of LAUNCH, LOG_STATUS.PRIORITY reads its reset value 0. Log 37, DESIGN CHOICE. -/
def State.logPriority (s : State) : Bool :=
  (decide (s.glb.mode = .launch) && decide (s.pwr.launch ≠ .notBegun)) || decide (s.glb.mode = .halt)
    || (decide (s.glb.mode = .drydock)
      && (s.rng.raw || s.wharf.loop.isSome || s.cph.diag.enable || s.hsh.diag.enable || s.bgn.diag.enable
        || s.lkm.tbl.any fun p => opGroup p.2.b.opcode == 0x0F && p.2.dispatched))

/-- The class of a record in the priority order of R438. -/
def Rec.rank (r : Rec) : Nat := if r.audit then 0 else if 0x10 ≤ r.code ∧ r.code ≤ 0xFF then 1 else 2

/-- The record that leaves the ingress queue next (R437, R438). -/
def State.nextRec (s : State) : Option Rec :=
  if s.logPriority then
    (s.log.ingress.find? fun r => r.rank == 0).or
      ((s.log.ingress.find? fun r => r.rank == 1).or (s.log.ingress.find? fun r => r.rank == 2))
  else s.log.ingress.head?

/-- Room for `n` words in the ring (R430): the oldest whole records are overwritten; audit-critical records not yet copied never
are. Answers the ring that is left and the non-audit records lost before their copy. -/
def makeRoom (n nextCopy : Nat) : Nat → List Rec → Option (List Rec × Nat)
  | 0, rs => if recWords rs + n ≤ 131072 then some (rs, 0) else none
  | fuel + 1, rs =>
    if recWords rs + n ≤ 131072 then some (rs, 0)
    else match rs with
      | [] => none
      | r :: rest =>
        if nextCopy ≤ r.seq then
          if r.audit then none
          else (makeRoom n nextCopy fuel rest).map fun p => (p.1, p.2 + 1)
        else makeRoom n nextCopy fuel rest

/-- An audit-critical record has been written: OUTSTANDING, and AUDIT_SPACE when it first passes the threshold (R432). -/
def State.countAudit (s : State) (n : Nat) : State :=
  let before := s.log.outstanding
  let bound := s.log.threshold * s.log.limit
  let s := { s with log := { s.log with outstanding := before + n } }
  if 100 * before ≤ bound ∧ bound < 100 * (before + n) then s.setInt intAudit else s

/-- LOG_RECORD_ENTER (R425, R430, R438): the next record takes its SEQ and enters the ring. -/
def execLogRecordEnter (s : State) : Host.Outcome State Fault Refusal :=
  .next <|
    match s.nextRec with
    | none => s
    | some r =>
      match makeRoom r.words s.log.nextCopy s.log.ring.length s.log.ring with
      | none => s
      | some (ring, lost) =>
        let r' := { r with seq := s.log.nextSeq }
        let s := { s with log := { s.log with
          ingress := s.log.ingress.erase r
          ring := ring ++ [r']
          seqCount := s.log.seqCount + 1
          lostRing := satAdd 16 s.log.lostRing lost } }
        if r.audit then s.countAudit r.words else s

/-- Room for `n` words in the archive of `cap` words (R430): non-audit and acknowledged records go, oldest first. Answers what is
left and how many non-audit records went. Log 37, DESIGN CHOICE. -/
def archiveRoom (n cap ackTo : Nat) : Nat → List Rec → Option (List Rec × Nat)
  | 0, rs => if recWords rs + n ≤ cap then some (rs, 0) else none
  | fuel + 1, rs =>
    if recWords rs + n ≤ cap then some (rs, 0)
    else match rs.find? fun r => !r.audit || decide (r.seq < ackTo) with
      | none => none
      | some r => (archiveRoom n cap ackTo fuel (rs.erase r)).map fun p => (p.1, p.2 + if r.audit then 0 else 1)

/-- A record's words are written to the archive in DRAM (R424, R430). -/
def State.archiveLines (s : State) (r : Rec) (d : DramReturn) : State :=
  match s.cfg.mem with
  | none => s
  | some m => s.unitPut m.archKd (m.archBase + 64 * (Config.archivePlace r.seq % (m.archSize / 64))) (r.image.map fun w => word w .pub) d

/-- ARCHIVE_COPY (R430, R432): the next record in SEQ order is copied to the DRAM archive. An audit-critical record that finds it
full stops admission and waits; a non-audit one is lost there. Its words are PUBLIC. Log 63, DESIGN CHOICE. -/
def execArchiveCopy (d : DramReturn) (s : State) : Host.Outcome State Fault Refusal :=
  .next <|
    if s.slu.ready = false ∨ s.slu.stopped = true then s
    else match s.log.ring.find? fun r => s.log.nextCopy ≤ r.seq with
      | none => s
      | some r =>
        match archiveRoom r.words s.log.archCap s.log.ackTo s.log.archive.length s.log.archive with
        | some (kept, lost) =>
          let s := s.archiveLines r d
          { s with log := { s.log with
            archive := kept ++ [r]
            nextCopy := r.seq + 1
            lostArchive := satAdd 32 s.log.lostArchive lost } }
        | none =>
          if r.audit then { s with log := { s.log with auditStop := true } }
          else { s with log := { s.log with nextCopy := r.seq + 1, lostArchive := satAdd 32 s.log.lostArchive 1 } }

/-- RATE_WINDOW_REFILL (R428, R429): at the first tick of a 1 ms window. -/
def execRateWindowRefill (s : State) : Host.Outcome State Fault Refusal := .next s.refillDue

/-! ### Reading through the window (R435, R436) -/

/-- The number of an access path that has a cursor (R435). -/
def cursorPath : Path → Option Nat
  | .pf => some 0
  | .smbus => some 1
  | .spi => some 2
  | .debug => some 3
  | .vf _ => none

/-- SEQ of the oldest record in the ring; with an empty ring, of the next to come. -/
def Log.oldest (l : Log) : Nat := (l.ring.head?.map (·.seq)).getD l.nextSeq

/-- The record stream from a cursor on (R435). -/
def Log.stream (l : Log) (seq off : Nat) : List W64 :=
  ((l.ring.filter fun r => decide (seq ≤ r.seq)).flatMap Rec.image).drop off

/-- A copy of up to 64 words into a path's window (R435). -/
def Cursor.copy (c : Cursor) (l : Log) : Cursor := { c with win := (l.stream c.seq c.off).take 64 }

/-- A cursor whose record has been overwritten moves to the oldest record and sets SKIPPED (R435). -/
def Cursor.overwritten (c : Cursor) (l : Log) : Bool := decide (c.seq < l.oldest)

/-- A position `n` words on in the ring's record stream: SEQ and offset (R436). -/
def advanceBy (next : Nat) : List Rec → Nat → Nat → Nat × Nat
  | [], _, _ => (next, 0)
  | r :: rs, off, n => if off + n < r.words then (r.seq, off + n) else advanceBy next rs 0 (off + n - r.words)

/-- The cursor of a path; at the first read it is set to the oldest record, which copies words into the window (R435). -/
def State.cursorAt (s : State) (p : Nat) : Cursor := (Tbl.find p s.log.cursors).getD (Cursor.copy { seq := s.log.oldest } s.log)

/-- Replace the cursor of a path. -/
def State.setCursor (s : State) (p : Nat) (c : Cursor) : State :=
  { s with log := { s.log with cursors := Tbl.put p c s.log.cursors } }

/-- What a read of LOG_NEXT does to a cursor (R436). -/
def Cursor.next (c : Cursor) (l : Log) : Cursor :=
  if c.overwritten l then
    Cursor.copy { c with seq := l.oldest, off := 0, skipped := true, advanced := 0 } l
  else
    let n := c.win.length
    let p := advanceBy l.nextSeq (l.ring.filter fun r => decide (c.seq ≤ r.seq)) c.off n
    Cursor.copy { c with seq := p.1, off := p.2, advanced := n } l

/-- The offset of LOG_NEXT in the register space (R21, LOG + 0x0030). -/
def logNextAddr : Nat := 0xF0030

/-- LOG_CURSOR_SEEK (R436): a PF write sets the cursor to the record with that SEQ or the next retained after it. Where LOG takes
no writes it is discarded (R22). -/
def execLogCursorSeek (v : W64) (s : State) : Host.Outcome State Fault Refusal :=
  .next <|
    if s.glb.mode = .service ∨ s.glb.mode = .drydock then
      let seq := ((s.log.ring.find? fun r => decide (v.toNat ≤ r.seq)).map (·.seq)).getD s.log.nextSeq
      s.setCursor 0 (Cursor.copy { s.cursorAt 0 with seq := seq, off := 0 } s.log)
    else s.refused 0xF 0xF0020 0

/-- A read of LOG_NEXT by a path (R436): ADVANCED, and the cursor advanced with a new copy taken. -/
def State.logNext (s : State) (path : Path) : W64 × State :=
  match cursorPath path with
  | none => (0, s)
  | some p =>
    let c := (s.cursorAt p).next s.log
    (BitVec.ofNat 64 c.advanced, s.setCursor p c)

/-- LOG_NEXT_READ (R436): the cursor advances by AVAIL words and a new copy is taken; ADVANCED is returned. A path that cannot
read LOG reads zero. -/
def execLogNextRead (path : Path) (s : State) : Host.Outcome State Fault Refusal :=
  .next <|
    if s.answers path = false then s
    else if s.reads path 0xF then (s.logNext path).2.emit (.regData path logNextAddr (s.logNext path).1)
    else s.emit (.regData path logNextAddr 0)

end Sys2Proof.Machine
end

