-- ==== Sys2Proof/Machine/Lanes.lean ====
section
/-! DEFINITION. Cipher lanes and the KDU (08_cipher_lanes_and_hash.md R201 to R221): contexts, key slots, block commands, nonces,
the checkers, held buffers and spares. A crew core's commands reach its context; entry 96 is the diagnostic registers'. -/

namespace Sys2Proof.Machine

/-! ### Status codes (R210) -/

/-- OK. -/
abbrev uOk : Nat := 0
/-- MATCH_FAIL. -/
abbrev uMatchFail : Nat := 1
/-- REFUSED. -/
abbrev uRefused : Nat := 2
/-- EXHAUSTED. -/
abbrev uExhausted : Nat := 3
/-- UNKNOWN. -/
abbrev uUnknown : Nat := 4
/-- DAMAGED. -/
abbrev uDamaged : Nat := 5
/-- POISONED. -/
abbrev uPoisoned : Nat := 6
/-- FAULT. -/
abbrev uFault : Nat := 7
/-- OFFLINE. -/
abbrev uOffline : Nat := 8

/-- The barge status of a unit's status code (R210). -/
def unitStatus : Nat → Nat
  | 1 => stVerifyFail
  | 2 | 3 => stKeyUsage
  | 4 => stKeyUnknown
  | 5 => stKeyDamaged
  | 6 => stPoisoned
  | 7 => stLaneFault
  | 8 => stCargoOffline
  | _ => stDone

/-- A status word (R210). -/
def statusWord (code : Nat) : TWord := word (BitVec.ofNat 64 code) .pub

/-- The answer of a unit to a command: the state, the output words, and the status code, none while it waits; `again`: the command has not
begun and is tried again. -/
structure Answer where
  st : State
  out : List TWord := []
  code : Option Nat := none
  again : Bool := false

/-- A command refused or answered with a status alone. -/
def State.answer (s : State) (code : Nat) : Answer := { st := s, code := some code }

/-! ### Keys in slots (R203, R209, R213, R226) -/

/-- TDES, by the slot's kind. -/
def KSlot.isTdes (k : KSlot) : Bool :=
  match k.kind with
  | .loaded l | .owned _ l => l.alg == chr "T"
  | .test wk => decide (wk ≤ 1)

/-- Key length in bytes. -/
def KSlot.len (k : KSlot) : Nat :=
  match k.kind with
  | .loaded l | .owned _ l => l.size
  | .test wk => if wk = 0 ∨ wk = 2 then 16 else if wk = 4 then 32 else 24

/-- The key. -/
def KSlot.bytes (k : KSlot) : Bytes := slice 0 k.len k.key

/-- Block length in bytes. -/
def KSlot.block (k : KSlot) : Nat := if k.isTdes then 8 else 16

/-- The key that a derivation profile enciphers with (R213): with the variant of ANSI X9.24-1 for the right half that profiles 3 and 8 write
under a TDES key. Log 64, PRESUMED. -/
def KSlot.variantFor (k : KSlot) (profile part : Nat) : KSlot :=
  if k.isTdes && (profile == 3 || profile == 8) && decide (part = 1) then
    { k with key := xorBytes k.key (List.replicate 4 0xC0 ++ zeros 4 ++ List.replicate 4 0xC0 ++ zeros 20) }
  else k

/-- One block enciphered, SUB choosing single DES with a half of the key (R208). -/
def KSlot.enc (k : KSlot) (sub : Nat) (b : Bytes) : Bytes :=
  if k.isTdes then
    if sub = 1 then Config.desEnc (slice 0 8 k.key) b
    else if sub = 2 then Config.desEnc (slice 8 8 k.key) b
    else Config.tdesEnc k.bytes b
  else Config.aesEnc k.bytes b

/-- One block deciphered. -/
def KSlot.dec (k : KSlot) (sub : Nat) (b : Bytes) : Bytes :=
  if k.isTdes then
    if sub = 1 then Config.desDec (slice 0 8 k.key) b
    else if sub = 2 then Config.desDec (slice 8 8 k.key) b
    else Config.tdesDec k.bytes b
  else Config.aesDec k.bytes b

/-- The key check value of a slot (R150, ZKEY with PROFILE 0xF). -/
def KSlot.kcv (k : KSlot) : Bytes :=
  if k.isTdes then (fixLen 8 (Config.tdesEnc k.bytes (zeros 8))).take 3
  else (fixLen 16 (Config.cmac k.bytes (zeros 16))).take 5

/-- Cycles of a block (R220): issue interval. -/
def KSlot.cycles (k : KSlot) (sub : Nat) : Nat :=
  if k.isTdes then (if sub = 0 then 16 else 6) else if k.len = 16 then 10 else if k.len = 24 then 12 else 14

/-! ### Permissions (R212, R213) -/

/-- The uses that R212 permits or refuses. -/
inductive LaneUse where
  | enc
  | dec
  | zkey
  | stream
  | open_
  | source
  | part
  deriving DecidableEq, Repr

/-- A label's usage is one of some. -/
def KLabel.usedAs (l : KLabel) (us : List String) : Bool := us.any fun u => Sys2Proof.Machine.usage u == l.usage

/-- The permissions of a loaded key (R212); `stream`: NONCE, KSTREAM and TAG; `open_`: KSTREAM_D and TAGCHK; `part`: DEC into a key
part. -/
def loadedMay (l : KLabel) (u : LaneUse) (sub : Nat) : Bool :=
  let plain := decide (sub = 0) || (decide (sub ≤ 2) && l.alg == chr "T" && l.size == 16 && l.usedAs ["M3", "C0"])
  let data := l.usedAs ["D0", "50"]
  let kek := l.usedAs ["K0", "K1"]
  plain && (
    if l.mode = chr "B" then
      match u with
      | .enc | .dec => true
      | .zkey | .stream | .open_ => data
      | .source | .part => kek
    else if l.mode = chr "E" then
      match u with
      | .enc => true
      | .zkey | .stream => data
      | .source => kek
      | _ => false
    else if l.mode = chr "D" then
      match u with
      | .dec => true
      | .zkey | .open_ => l.usedAs ["D0"]
      | .part => kek
      | _ => false
    else if l.mode = chr "C" ∨ l.mode = chr "G" ∨ l.mode = chr "V" then
      match u with
      | .enc => true
      | .dec => l.usedAs ["M3", "C0"] && decide (sub = 2)
      | .zkey => l.usedAs ["M6"]
      | _ => false
    else false)

/-- What the profile 7 child of a card key acts as (R213). -/
def sessionLabel (l : KLabel) : KLabel :=
  if l.usage = usage "E1" then { l with usage := usage "D0", mode := chr "E" }
  else { l with usage := if l.alg = chr "T" then usage "M3" else usage "M6", mode := chr "C" }

/-- The permissions of a slot (R212, R213): SUB other than 0 only where R212 allows it. A TEST key permits every cipher command (R226),
single DES where it is a two-key TDES key, and installs no key, for keys enter a diagnostic context only by LOADT. Log 41, DEDUCED. -/
def KSlot.may (k : KSlot) (u : LaneUse) (sub : Nat) : Bool :=
  match k.kind with
  | .loaded l => loadedMay l u sub
  | .owned p l =>
    if p = 0 then decide (sub = 0) && (decide (u = .enc) || decide (u = .zkey))
    else if p = 2 ∨ p = 5 ∨ p = 7 then loadedMay l u sub
    else if p = 6 then
      if l.usage = usage "E4" then decide (sub = 0) && decide (u = .enc) else loadedMay (sessionLabel l) u sub
    else if p = 9 then decide (sub = 0) && (decide (u = .zkey) || decide (u = .stream) || decide (u = .open_))
    else false
  | .test wk => decide (u ≠ .part) && (decide (sub = 0) || (decide (wk = 0) && decide (sub ≤ 2)))

/-- ZKEY with PROFILE 0xF is permitted on every slot (R212), with the SUB that the slot takes. -/
def KSlot.mayCheck (k : KSlot) (sub : Nat) : Bool :=
  decide (sub = 0) || (decide (sub ≤ 2) && k.isTdes && decide (k.len = 16) &&
    match k.kind with
    | .loaded l | .owned _ l => l.usedAs ["M3", "C0"]
    | .test _ => true)

/-- What the working key of a DUKPT profile acts as (R213): a PIN key of mode B, or a MAC key of mode C. -/
def dukptLabel (l : KLabel) (pin : Bool) : KLabel :=
  { l with usage := if pin then usage "P0" else if l.alg = chr "T" then usage "M3" else usage "M6"
           mode := if pin then chr "B" else chr "C" }

/-- The kind of the child that profile `p` derives from a parent slot with the input given (R213); none: the parent does not match
the profile. -/
def derived (parent : KSlot) (p : Nat) (input : Bytes) : Option SlotKind :=
  match p, parent.kind with
  | 1, .loaded l =>
    if l.alg = chr "A" ∧ l.usedAs ["B0", "B1"] = true then some (.owned 1 { l with mode := chr "X" }) else none
  | 1, .owned 1 l => some (.owned 1 l)
  | 2, .owned 1 l =>
    let c := Config.dukptChild input
    let wk := c.2 % 5
    some (.owned 2 (dukptLabel { l with alg := if wk ≤ 1 then chr "T" else chr "A"
                                        size := if wk = 0 ∨ wk = 2 then 16 else if wk = 4 then 32 else 24 } c.1))
  | 3, .loaded l =>
    if l.alg = chr "T" ∧ l.usage = usage "B0" then
      some (.owned 3 { l with usage := usage "B1", mode := chr "X" })
    else none
  | 4, .owned 3 l | 4, .owned 4 l => some (.owned 4 l)
  | 5, .owned 3 l | 5, .owned 4 l => some (.owned 5 (dukptLabel l (Config.dukptChild input).1))
  | 6, .loaded l => if l.usedAs ["E0", "E1", "E2", "E4"] then some (.owned 6 l) else none
  | 7, .owned 6 l => if l.usedAs ["E0", "E1", "E2"] then some (.owned 7 (sessionLabel l)) else none
  | 8, .loaded l => if l.usage = usage "B0" then some (.owned 8 { l with usage := usage "B1" }) else none
  | _, _ => none

/-- The slot is context-owned. -/
def KSlot.owned (k : KSlot) : Bool :=
  match k.kind with
  | .loaded _ => false
  | _ => true

/-- The handle a loaded slot holds. -/
def KSlot.handle (k : KSlot) : Option Nat :=
  match k.kind with
  | .loaded l => some l.handle
  | _ => none

/-! ### Lanes in service and contexts (R201, R202, R218, R219) -/

/-- In service: ACTIVE or DRAINING (CPH_STATUS.IN_SERVICE). -/
def Lane.serves (l : Lane) : Bool := decide (l.st = .active) || decide (l.st = .draining)

/-- All lane numbers. -/
def laneNumbers : List Nat := List.range 68

/-- In-service lanes of a group. -/
def State.lanesOf (s : State) (g : Nat) : List Nat :=
  laneNumbers.filter fun n => (s.laneAt n).serves && decide ((s.laneAt n).group = g)

/-- The contexts open on a lane, with their cores. -/
def State.ctxsOn (s : State) (n : Nat) : List (Nat × LaneCtx) :=
  s.cores.filterMap fun p => match p.2.lane with
    | some c => if c.lane = n then some (p.1, c) else none
    | none => none

/-- The lane slots that open contexts hold on a lane. -/
def State.heldSlots (s : State) (n : Nat) : List Nat := (s.ctxsOn n).flatMap fun p => p.2.slots.map Prod.snd

/-- Lane group g is dedicated (ENGINE record). -/
def State.laneDedicated (s : State) (g : Nat) : Bool := (tget {} g s.cfg.laneGroups).dedicated

/-- The dedicated groups of a tenant (R176, R218): its TENANT record applies once it is ACTIVE (R142). -/
def State.ownGroups (s : State) (t : Nat) : List Nat :=
  (List.range 8).filter fun g =>
    s.laneDedicated g && decide ((s.tenantAt t).st = .active)
      && ((Tbl.find t s.cfg.tenants).map fun c => c.laneMask.getLsbD g).getD false

/-- The groups that are not dedicated. -/
def State.sharedGroups (s : State) : List Nat := (List.range 8).filter fun g => !s.laneDedicated g

/-- The groups a tenant may use, none where OPEN returns FAULT (R218, R219). -/
def State.laneGroupsFor (s : State) (t : Nat) : Option (List Nat) :=
  let own := s.ownGroups t
  let has (g : Nat) : Bool := !(s.lanesOf g).isEmpty
  let groups :=
    if own = [] then some s.sharedGroups
    else if own.any has then some own
    else if own.any fun g => (tget {} g s.cfg.laneGroups).strict then none
    else some s.sharedGroups
  match groups with
  | some gs => if gs.any has then some gs else none
  | none => none

/-- The power domain of a lane (R375): spare 64 + k lies in PD(12 + 2k). -/
def laneDomain (n : Nat) : Nat := if n < 64 then 12 + n / 8 else 12 + 2 * (n - 64)

/-- A lane that may take a new context for a tenant (R202, R218, R369, R375). -/
def State.laneQualifies (s : State) (gs : List Nat) (n : Nat) : Bool :=
  let l := s.laneAt n
  decide (l.st = .active) && gs.contains l.group && decide ((s.ctxsOn n).length < 2)
    && decide (s.now < l.tested + 1000000000) && !s.pwr.stopped.contains (0x18 + l.group)
    && decide ((s.domAt (laneDomain n)).st = .on)

/-- A lane's slots hold a handle. -/
def State.laneHolds (s : State) (n h : Nat) : Bool :=
  (s.laneAt n).slots.any fun p => decide (p.2.handle = some h) && !p.2.dead

/-- Blocks queued on a lane: those that wait in the command FIFOs of its contexts (R202). -/
def State.queuedBlocks (s : State) (n : Nat) : Nat :=
  ((s.ctxsOn n).map fun p => (s.coreAt p.1).laneIn.countP fun u => [2, 3, 4, 6, 7, 8, 9].contains u.op).sum

/-- The allocator's choice (R202): a lane that holds the hint; failing that, the fewest open contexts, then the fewest queued blocks, then
the lower number. -/
def State.laneChoice (s : State) (gs : List Nat) (hint : Nat) : Option Nat :=
  let qs := laneNumbers.filter (s.laneQualifies gs)
  let load (n : Nat) : Nat × Nat := ((s.ctxsOn n).length, s.queuedBlocks n)
  let pool := if qs.any fun n => s.laneHolds n hint then qs.filter fun n => s.laneHolds n hint else qs
  pool.foldl (fun (best : Option Nat) n =>
    match best with
    | none => some n
    | some m => if (load n).1 < (load m).1 ∨ ((load n).1 = (load m).1 ∧ (load n).2 < (load m).2) then some n else best) none

/-- Replace the lane context of a core. -/
def State.setCtx (s : State) (k : Nat) (c : LaneCtx) : State := s.setCore k { s.coreAt k with lane := some c }

/-- A lane context's answer enters the output FIFO (R208); FAULT words are counted (CPH_MISMATCH.FAULTS). -/
def State.laneSay (s : State) (k : Nat) (out : List TWord) (code : Nat) : State :=
  let c := s.coreAt k
  let s := s.setCore k { c with laneOut := c.laneOut ++ out ++ [statusWord code] }
  if code = uFault then { s with cph := { s.cph with faults := s.cph.faults + 1 } } else s

/-- An OPEN waits no more. -/
def State.openEnds (s : State) (w : Nat × Nat × Nat) : State :=
  { s with cph := { s.cph with waiting := s.cph.waiting.erase w } }

/-- Waiting OPENs take lanes as they come free, in their order (R202); one whose tenant has no group left that it may use ends in FAULT
(R219). -/
def State.grantLanes (s : State) : State :=
  s.cph.waiting.foldl (fun (s : State) (w : Nat × Nat × Nat) =>
    match s.laneGroupsFor w.2.1 with
    | none => (s.openEnds w).laneSay w.1 [] uFault
    | some gs =>
      match s.laneChoice gs w.2.2 with
      | none => s
      | some n => ((s.setCtx w.1 { lane := n, tenant := w.2.1 }).openEnds w).laneSay w.1 [] uOk) s

/-- A diagnostic context opens on a lane whose contexts have closed (R226, CPH_DIAG_CTL). -/
def State.diagLane (s : State) : State :=
  if s.cph.diag.opening ∧ s.ctxsOn s.cph.diag.sel = [] then
    let l := s.laneAt s.cph.diag.sel
    let s := s.setLane s.cph.diag.sel { l with st := .diag, slots := [] }
    let s := s.setCtx 96 { lane := s.cph.diag.sel, tenant := 0, diag := true }
    { s with cph := { s.cph with diag := { s.cph.diag with opening := false } } }
  else s

/-- The end of a core's lane context (R217, R221): owned slots zeroed, loaded ones stay cached, DEAD ones no context holds are
zeroed, the held buffer is zeroed, unread output is discarded. -/
def State.closeLane (s : State) (k : Nat) : State :=
  match (s.coreAt k).lane with
  | none => { s with cph := { s.cph with waiting := s.cph.waiting.filter fun w => w.1 != k } }
  | some ctx =>
    let c := s.coreAt k
    let s := s.setCore k { c with
      lane := none
      laneOut := []
      held := []
      heldSt := if c.heldSt = .closed then .closed else .zeroing }
    let rest := s.heldSlots ctx.lane
    let l := s.laneAt ctx.lane
    let mine := ctx.slots.map Prod.snd
    let s := s.setLane ctx.lane { l with
      slots := l.slots.filter fun p => !(mine.contains p.1 && (p.2.owned || (p.2.dead && !rest.contains p.1))) }
    (s.idleNow (laneDomain ctx.lane)).diagLane.grantLanes

/-- A barge that ends leaves its lane context (R57, R221): commands that have not begun are dropped with what was not read, and the context
acts as for CLOSE at the end of the command in progress. -/
def State.endLane (s : State) (k : Nat) : State :=
  let s := s.setCore k { s.coreAt k with laneIn := [], laneOut := [] }
  match (s.coreAt k).lane with
  | some c => if c.waiting ∨ c.nonceWaits.isSome then s.setCtx k { c with closing := true } else s.closeLane k
  | none => s.closeLane k

/-- The command in progress of a context whose barge has ended has ended. -/
def State.settleLane (s : State) (k : Nat) : State :=
  match (s.coreAt k).lane with
  | some c => if c.closing ∧ c.waiting = false ∧ c.nonceWaits = none then s.closeLane k else s
  | none => s

/-- Every slot that holds a loaded key of a test, or a context-owned key of a tenant of a test, becomes DEAD; those no open context holds
are zeroed at once (R204). A load whose step 1 came before fills a DEAD slot (R156). -/
def State.killSlots (s : State) (p : KLabel → Bool) (owner : Nat → Bool := fun _ => false) : State :=
  let hit (k : KSlot) : Bool := match k.kind with
    | .loaded l => p l
    | _ => owner k.tenant
  { s with
    cph := { s.cph with lanes := s.cph.lanes.map fun x =>
      let held := s.heldSlots x.1
      (x.1, { x.2 with slots := (x.2.slots.filter fun y => !(hit y.2 && !held.contains y.1)).map fun y =>
        (y.1, if hit y.2 then { y.2 with dead := true } else y.2) }) }
    hsh := { s.hsh with queue := s.hsh.queue.map fun q =>
      if (q.read.map fun r => p r.label).getD false then { q with dead := true } else q } }

/-! ### The KDU (R205 to R207) -/

/-- A KDU pair that is free starts each waiting request in arrival order: its step 1 reads the mooring (R205, R178). -/
def kduStartAll : Nat → State → State
  | 0, s => s
  | fuel + 1, s =>
    if s.hsh.pairs ≤ s.hsh.queue.countP KduReq.started then s
    else match s.hsh.queue.find? fun q => !q.started with
      | none => s
      | some q =>
        let m := match q.dest with
          | .storeSlot _ _ => none
          | _ => s.mooringOf q.handle q.idx
        let q' := { q with started := true, read := m.map fun p => p.2.krec }
        let s := { s with hsh := { s.hsh with queue := s.hsh.queue.map fun x => if x = q then q' else x } }
        let s := match m with
          | none => s
          | some p =>
            { s.bankAccess p.1 with
              mor := { (s.bankAccess p.1).mor with moorings := Tbl.put p.1 { p.2 with recency := s.now } s.mor.moorings } }
        kduStartAll fuel s

/-- A request joins the KDU's queue (R205). -/
def State.kduAsk (s : State) (q : KduReq) : State :=
  kduStartAll 4 { s with hsh := { s.hsh with queue := s.hsh.queue ++ [q] } }

/-- The slots of a lane a context may take: free ones first, else the least recently used that no open context holds (R203). -/
def State.slotFor (s : State) (n : Nat) : Option Nat :=
  let l := s.laneAt n
  let held := s.heldSlots n
  match (List.range 16).find? fun i => (Tbl.find i l.slots).isNone && !held.contains i with
  | some i => some i
  | none =>
    ((l.slots.filter fun p => !held.contains p.1).foldl (fun (acc : Option (Nat × KSlot)) p =>
      match acc with
      | none => some p
      | some q => if p.2.used < q.2.used then some p else acc) none).map (·.1)

/-- The lane slot a context's slot number names. -/
def State.ctxSlot (s : State) (c : LaneCtx) (i : Nat) : Option (Nat × KSlot) :=
  match Tbl.find i c.slots with
  | none => none
  | some p => (Tbl.find p (s.laneAt c.lane).slots).map fun k => (p, k)

/-- Put a slot's content. -/
def State.putSlot (s : State) (n p : Nat) (k : KSlot) : State :=
  let l := s.laneAt n
  s.setLane n { l with slots := Tbl.put p k l.slots }

/-- Free a slot of a lane. -/
def State.dropSlot (s : State) (n p : Nat) : State :=
  let l := s.laneAt n
  s.setLane n { l with slots := Tbl.del p l.slots }

/-- A context lets go of its slot `i` (FREE, R209): an owned one is zeroed, and a DEAD one that no other context holds. -/
def State.freeSlot (s : State) (k : Nat) (c : LaneCtx) (i : Nat) : State :=
  match Tbl.find i c.slots with
  | none => s
  | some p =>
    let s := s.setCtx k { c with slots := Tbl.del i c.slots }
    match Tbl.find p (s.laneAt c.lane).slots with
    | none => s
    | some x =>
      if x.owned || (x.dead && !(s.heldSlots c.lane).contains p) then s.dropSlot c.lane p else s

/-- Engine busy cycles of the telemetry window (TEL_ENGINE). Log 16, DESIGN CHOICE. -/
def State.engineBusy (s : State) (e cycles : Nat) : State :=
  { s with lkm := { s.lkm with engBusy := Tbl.put e (tget 0 e s.lkm.engBusy + cycles) s.lkm.engBusy } }

/-! ### The checkers (R215, R216) -/

/-- A mismatch counts against the lane that produced it (R216). -/
def State.laneMismatch (s : State) (n : Nat) : State :=
  let l := s.laneAt n
  let win := satAdd 8 l.mismatchWin 1
  let s := s.setLane n { l with
    mismatchWin := win
    st := if s.cph.laneLimit < win ∧ l.st = .active then .draining else l.st }
  let s := { s with cph := { s.cph with mismatches := s.cph.mismatches + 1, deviceWin := s.cph.deviceWin + 1 } }
  if s.cph.alarmLimit < s.cph.deviceWin ∧ s.cph.raisedWin = false then
    ({ s with cph := { s.cph with raisedWin := true } }).alarmEvent 22
  else s

/-- The lane a mismatching block is retried on (R215). -/
def State.retryLane (s : State) (n t : Nat) : Option Nat :=
  let g := (s.laneAt n).group
  let same := (s.lanesOf g).filter (· ≠ n)
  let others := ((s.laneGroupsFor t).getD []).flatMap fun h => if h = g then [] else s.lanesOf h
  (same.find? (n < ·)).or (same.head?.or ((laneNumbers.filter fun m => others.contains m).head?))

/-- The check of a block: whether it ends in FAULT (R215). 0: it passes; 1: a mismatch, and the retry passes; 2: the retry is a mismatch of
the other lane; more: the key-bus copy to the other lane fails. Log 15, DESIGN CHOICE. -/
def State.checkBlock (s : State) (n t mism : Nat) : State × Bool :=
  if mism = 0 then (s, false)
  else
    let s1 := s.laneMismatch n
    match s1.retryLane n t with
    | none => (s1, true)
    | some m => if mism = 1 then (s1, false) else (if mism = 2 then s1.laneMismatch m else s1, true)

/-! ### Command words (R208) -/

/-- SLOT. -/
def cSlot (c : W64) : Nat := wbits 59 56 c
/-- SLOT2. -/
def cSlot2 (c : W64) : Nat := wbits 55 52 c
/-- SUB. -/
def cSub (c : W64) : Nat := wbits 51 50 c
/-- SRC. -/
def cSrc (c : W64) : Nat := wbits 49 48 c
/-- DST. -/
def cDst (c : W64) : Nat := wbits 47 46 c
/-- PART. -/
def cPart (c : W64) : Nat := wbits 45 44 c
/-- PROFILE. -/
def cProfile (c : W64) : Nat := wbits 43 40 c
/-- PARITY. -/
def cParity (c : W64) : Bool := wbit 39 c
/-- CMP. -/
def cCmp (c : W64) : Bool := wbit 38 c
/-- CMP_LEN. -/
def cCmpLen (c : W64) : Nat := wbits 37 33 c
/-- NMODE: GCM. -/
def cGcm (c : W64) : Bool := wbit 32 c
/-- BLKIDX. -/
def cIdx (c : W64) : Nat := wbits 31 0 c

/-- Data words as delivered by the command FIFO (R27). -/
def delivered (ws : List TWord) : List TWord := ws.map TWord.delivered

/-- The n data words that a command takes, as delivered: a word that is not there is read from an empty FIFO, a not-valid word (R27, R28,
R437). -/
def taken (n : Nat) (ws : List TWord) : List TWord := (delivered ws).take n ++ List.replicate (n - ws.length) notValid

/-- The data words of a command that takes 1 to 4 (R209). -/
def takenAny (ws : List TWord) : List TWord := taken (max 1 (min 4 ws.length)) ws

/-- The bytes of data words i to i + n − 1. -/
def dataBytes (ws : List TWord) (i n : Nat) : Bytes := fixLen (8 * n) (wordsBytes ((ws.drop i).take n))

/-! ### Destinations (R209, R213) -/

/-- The key field after a write of bytes at an 8-byte part (DST 1 and 2, PARITY). -/
def writePart (key : Bytes) (part : Nat) (bs : Bytes) (xor parity : Bool) : Bytes :=
  let old := slice (8 * part) bs.length key
  let v := if xor then xorBytes bs old else bs
  slice 0 32 (splice (8 * part) (if parity then v.map oddParity else v) key)

/-- Write bytes to context slot `t` as a derived or put key of a kind (R213): a fresh slot is taken where the context holds none
of that number; one that holds anything else refuses. -/
def State.writeKey (s : State) (k t : Nat) (kind : SlotKind) (cls : SecClass) (dst part : Nat) (parity : Bool)
    (bs : Bytes) : Answer :=
  match (s.coreAt k).lane with
  | none => { st := s }
  | some c =>
    let same (x y : SlotKind) : Bool := match x, y with
      | .owned p _, .owned q _ => p == q
      | _, _ => false
    let grown (x : SlotKind) : SlotKind := match x, kind with
      | .owned 9 l, .owned 9 m => .owned 9 { l with size := max l.size m.size }
      | y, _ => y
    let apply (x : KSlot) : KSlot :=
      if dst = 3 then { x with aux := bs.take 12, counter := 0, used := s.now }
      else { x with kind := grown x.kind, key := writePart x.key part bs (decide (dst = 2)) parity, used := s.now }
    match s.ctxSlot c t with
    | some (p, x) => if same x.kind kind then (s.putSlot c.lane p (apply x)).answer uOk else s.answer uRefused
    | none =>
      if 8 ≤ c.slots.length then s.answer uRefused
      else match s.slotFor c.lane with
        | none => s.answer uRefused
        | some p =>
          let s := s.setCtx k { c with slots := Tbl.put t p c.slots }
          let x : KSlot := ⟨kind, c.tenant, zeros 32, false, s.now, zeros 12, 0, cls⟩
          (s.putSlot c.lane p (apply x)).answer uOk

/-! ### Nonces (R181, R214) -/

/-- The device nonce prefix (CPH_NONCE_PREFIX). -/
def State.noncePrefix (s : State) : Nat := s.root.noncePrefix.read.toNat

/-- The counter from which on a mooring is exhausted (R181). -/
def nonceEnd : Nat := 0xFFFFFFFFFFFF0000

/-- The nonce register is set and its two words are output (R214). -/
def State.giveNonce (s : State) (k slot : Nat) (gcm : Bool) (nonce : Bytes) : Answer :=
  match (s.coreAt k).lane with
  | none => { st := s }
  | some c =>
    let s := s.setCtx k { c with
      nonce := some nonce, nonceSlot := slot, gcm := gcm, lastIdx := if gcm then 1 else 0, tagged := false
      nonceWaits := none }
    { st := s, out := wordsOf nonce .pub, code := some uOk }

/-- Take the value N of a handle's mooring counter (R181): it advances, and LEASED clears at a multiple of 65,536. -/
def State.takeCounter (s : State) (m : Nat) (x : Mooring) : State :=
  let n := x.krec.nonceCtr + 1
  let s := s.bankAccess m
  { s with mor := { s.mor with
    moorings := Tbl.put m
      { x with krec := { x.krec with nonceCtr := n }, leased := x.leased && decide (n % 65536 ≠ 0) } s.mor.moorings } }

/-- A slot of a context is used now (R203). -/
def State.touchSlot (s : State) (c : LaneCtx) (i : Nat) : State :=
  match s.ctxSlot c i with
  | none => s
  | some (p, x) => s.putSlot c.lane p { x with used := s.now }

/-- A block on a slot of a context: the slot is used and its lane is busy (R203, R220). -/
def State.laneWork (s : State) (c : LaneCtx) (i cycles : Nat) : State := (s.touchSlot c i).engineBusy c.lane cycles

/-- NONCE for a slot (R214): from the mooring counter of a loaded D0 or 50 key, waiting while LEASED is clear; from the record
counter of a profile 9 slot, no other derived slot having a counter; prefix 0 and a slot counter for a TEST key (R226); UNKNOWN for a
DEAD slot (R204). Log 41, DEDUCED. -/
def State.nonceFor (s : State) (k i sub : Nat) (gcm : Bool) : Answer :=
  match (s.coreAt k).lane with
  | none => { st := s }
  | some c =>
    match s.ctxSlot c i with
    | none => s.answer uRefused
    | some (p, x) =>
      if x.may .stream sub = false then s.answer uRefused
      else if x.dead then s.answer uUnknown
      else match x.kind with
        | .loaded l =>
          match s.mooringOf l.handle 0 with
            | none => s.answer uUnknown
            | some (m, mr) =>
              if nonceEnd ≤ mr.krec.nonceCtr then s.answer uExhausted
              else if mr.leased then
                ((s.takeCounter m mr).touchSlot c i).giveNonce k i gcm (toBE 4 s.noncePrefix ++ toBE 8 mr.krec.nonceCtr)
              else { st := s.setCtx k { c with nonceWaits := some (i, gcm) } }
        | .owned q _ =>
          if q ≠ 9 then s.answer uRefused
          else if x.counter = 2 ^ 64 - 1 then s.answer uExhausted
          else (s.putSlot c.lane p { x with counter := x.counter + 1 }).giveNonce k i gcm
            (xorBytes (fixLen 12 x.aux) (zeros 4 ++ toBE 8 x.counter))
        | .test _ =>
          (s.putSlot c.lane p { x with counter := x.counter + 1 }).giveNonce k i gcm (zeros 4 ++ toBE 8 x.counter)

/-! ### The block commands (R209 to R217) -/

/-- OPEN (R202, R219). -/
def State.cmdOpen (s : State) (k : Nat) (data : List TWord) : Answer :=
  let ws := taken 2 data
  let tenant := le 0 2 (dataBytes ws 0 1) % 4096
  let hint := le 0 8 (dataBytes ws 1 1)
  if (s.coreAt k).lane.isSome then s.answer uRefused
  else if anyBad ws then s.answer uPoisoned
  else match s.laneGroupsFor tenant with
    | none => s.answer uFault
    | some gs =>
      match s.laneChoice gs hint with
      | some n => (s.setCtx k { lane := n, tenant := tenant }).answer uOk
      | none =>
        if s.cph.waiting.any fun w => w.1 == k then { st := s }
        else { st := { s with cph := { s.cph with waiting := s.cph.waiting ++ [(k, tenant, hint)] } } }

/-- LOAD (R203): a hit in the lane, or a KDU load into a slot taken for it. -/
def State.cmdLoad (s : State) (k : Nat) (c : LaneCtx) (i : Nat) (data : List TWord) : Answer :=
  let ws := taken 1 data
  let h := le 0 8 (dataBytes ws 0 1)
  if c.diag then s.answer uRefused
  else if anyBad ws then s.answer uPoisoned
  else if handleTenant h ≠ c.tenant then s.answer uUnknown
  else
    let s := s.freeSlot k c i
    match (s.coreAt k).lane with
    | none => { st := s }
    | some c =>
      if 8 ≤ c.slots.length then s.answer uRefused
      else match (s.laneAt c.lane).slots.find? fun p => decide (p.2.handle = some h) && !p.2.dead && p.2.tenant == c.tenant with
        | some (p, x) =>
          let s := s.setCtx k { c with slots := Tbl.put i p c.slots }
          (s.putSlot c.lane p { x with used := s.now }).answer uOk
        | none =>
          match s.slotFor c.lane with
          | none => s.answer uRefused
          | some p =>
            let s := (s.dropSlot c.lane p).setCtx k { c with slots := Tbl.put i p c.slots, waiting := true }
            { st := s.kduAsk ⟨k, .laneSlot p, h, 0, false, none, false⟩ }

/-- ENC and DEC (R209): the source block, the permission of R212 and R213, the check, and the destination; `label` comes with the first part
of a key that DEC installs. A CMP_LEN that is none of 1 to 16, or that passes the block, is refused. Log 41, DEDUCED. -/
def State.cmdBlock (s : State) (k : Nat) (c : LaneCtx) (u : UnitCmd) (dec : Bool) : Answer :=
  let cmd := u.cmd
  match s.ctxSlot c (cSlot cmd) with
  | none => s.answer uRefused
  | some (_, slot) =>
    let n := slot.block
    let x := if dec || decide (cDst cmd = 0) then slot else slot.variantFor (cProfile cmd) (cPart cmd)
    let t := s.ctxSlot c (cSlot2 cmd)
    let fromT := match t with
      | some (_, y) => slice (8 * cPart cmd) n y.key
      | none => zeros n
    let words := if cSrc cmd = 1 then 0 else n / 8
    let cmp := cCmp cmd && decide (cDst cmd = 0)
    let ws := taken (words + if cmp then ceilDiv (cCmpLen cmd) 8 else 0) u.data
    let given := (dataBytes ws 0 words).take n
    let input := if cSrc cmd = 0 then given else if cSrc cmd = 1 then fromT else xorBytes given fromT
    let refs := ws.drop words
    -- the permission to use the slot at all, the source, and the destination
    let sourceOk := cSrc cmd = 0 ∨ (t.isSome = true ∧ x.may .source (cSub cmd) = true
      ∧ (match t with
        | some (_, y) => match y.kind with
          | .owned 8 _ => (match x.kind with
            | .loaded l => l.usage == usage "K1"
            | _ => false)
          | _ => true
        | none => false) = true)
    let install := dec && decide (cDst cmd ≠ 0) && decide (cProfile cmd = 0) && x.may .part (cSub cmd)
    let label := taken 4 u.label
    let child : Option SlotKind :=
      if cDst cmd = 0 then none
      else if install then some (.owned 0 (labelOfBytes (dataBytes label 0 4)))
      else if dec then none
      else if cSub cmd = 0 ∨ (cProfile cmd = 4 ∧ cSub cmd ≤ 2) then derived x (cProfile cmd) input
      else none
    let useOk := if cDst cmd = 0 then x.may (if dec then .dec else .enc) (cSub cmd) else child.isSome
    if useOk = false ∨ ¬ sourceOk ∨ (n = 16 ∧ cPart cmd % 2 = 1 ∧ (cDst cmd ≠ 0 ∨ cSrc cmd ≠ 0))
        ∨ (cmp = true ∧ (cCmpLen cmd = 0 ∨ n < cCmpLen cmd)) then s.answer uRefused
    else
      let bad := anyBad (ws.take words) || (install && t.isNone && anyBad label)
      let y := if dec then x.dec (cSub cmd) input else x.enc (cSub cmd) input
      let out := fixLen n y
      let chk := s.checkBlock c.lane c.tenant u.mism
      let s := (if cSrc cmd = 0 then chk.1 else chk.1.touchSlot c (cSlot2 cmd)).laneWork c (cSlot cmd) (x.cycles (cSub cmd))
      if chk.2 then s.answer uFault
      else if cDst cmd ≠ 0 then
        if bad then s.answer uPoisoned
        else match child with
          | none => s.answer uRefused
          | some kind =>
            let cls := match kind with
              | .owned 0 l => classOfCode l.dclass
              | _ => .secret
            s.writeKey k (cSlot2 cmd) kind cls (cDst cmd) (cPart cmd) (cParity cmd) out
      else if cmp then
        if bad || anyBad refs then s.answer uPoisoned
        else s.answer (if out.take (cCmpLen cmd) = (dataBytes ws words (n / 8)).take (cCmpLen cmd) then uOk else uMatchFail)
      else
        let test := match x.kind with
          | .test _ => true
          | _ => false
        let part : SecClass := if cSrc cmd = 0 then .pub else .secret
        let cls := if dec && !test then (x.dclass.max (classOf (ws.take words))).max part else .pub
        { st := s, out := wordsOf out cls bad, code := some (if bad then uPoisoned else uOk) }

/-- ZKEY (R150, R209, R211, R212). -/
def State.cmdZkey (s : State) (c : LaneCtx) (cmd : W64) (mism : Nat) : Answer :=
  match s.ctxSlot c (cSlot cmd) with
  | none => s.answer uRefused
  | some (_, x) =>
    let check := decide (cProfile cmd = 0xF)
    if (if check then x.mayCheck (cSub cmd) else x.may .zkey (cSub cmd)) = false then s.answer uRefused
    else
      let chk := s.checkBlock c.lane c.tenant mism
      let s := chk.1.laneWork c (cSlot cmd) (x.cycles (cSub cmd))
      let test := match x.kind with
        | .test _ => true
        | _ => false
      if chk.2 then s.answer uFault
      else if check then { st := s, out := wordsOf x.kcv .pub, code := some uOk }
      else { st := s, out := wordsOf (fixLen x.block (x.enc (cSub cmd) (zeros x.block))) (if test then .pub else .secret)
             code := some uOk }

/-- KSTREAM (R214). -/
def State.cmdKstream (s : State) (k : Nat) (c : LaneCtx) (cmd : W64) (data : List TWord) (mism : Nat) : Answer :=
  let ws := taken 2 data
  match s.ctxSlot c (cSlot cmd), c.nonce with
  | some (_, x), some nonce =>
    if x.may .stream (cSub cmd) = false ∨ x.isTdes = true ∨ c.nonceSlot ≠ cSlot cmd ∨ cIdx cmd ≤ c.lastIdx then s.answer uRefused
    else
      let chk := s.checkBlock c.lane c.tenant mism
      let s := (chk.1.setCtx k { c with lastIdx := cIdx cmd }).laneWork c (cSlot cmd) (x.cycles 0)
      if chk.2 then s.answer uFault
      else
        let bad := anyBad ws
        let out := xorBytes (dataBytes ws 0 2) (x.enc 0 (fixLen 12 nonce ++ toBE 4 (cIdx cmd)))
        { st := s, out := wordsOf out .pub bad, code := some (if bad then uPoisoned else uOk) }
  | _, _ => s.answer uRefused

/-- KSTREAM_D (R211, R217): into the held buffer after HOLD, up to 8,192 words. -/
def State.cmdKstreamD (s : State) (k : Nat) (c : LaneCtx) (cmd : W64) (data : List TWord) (mism : Nat) : Answer :=
  let ws := taken 4 data
  match s.ctxSlot c (cSlot cmd) with
  | none => s.answer uRefused
  | some (_, x) =>
    let full := c.holding && decide (8192 < (s.coreAt k).held.length + 2)
    if x.may .open_ (cSub cmd) = false ∨ x.isTdes = true ∨ full = true then s.answer uRefused
    else
      let chk := s.checkBlock c.lane c.tenant mism
      let s := chk.1.laneWork c (cSlot cmd) (x.cycles 0)
      if chk.2 then s.answer uFault
      else
        let bad := anyBad ws
        let out := xorBytes (dataBytes ws 2 2) (x.enc 0 (dataBytes ws 0 2))
        let code := if bad then uPoisoned else uOk
        if c.holding then
          let core := s.coreAt k
          (s.setCore k { core with held := core.held ++ wordsOf out .held bad }).answer code
        else
          let test := match x.kind with
            | .test _ => true
            | _ => false
          { st := s, out := wordsOf out (if test then .pub else x.dclass.max (classOf ws)) bad, code := some code }

/-- TAG (R209, R214): in GCM mode, once under a nonce. -/
def State.cmdTag (s : State) (k : Nat) (c : LaneCtx) (cmd : W64) (data : List TWord) (mism : Nat) : Answer :=
  let ws := taken 2 data
  match s.ctxSlot c (cSlot cmd), c.nonce with
  | some (_, x), some nonce =>
    if x.may .stream (cSub cmd) = false ∨ x.isTdes = true ∨ c.nonceSlot ≠ cSlot cmd ∨ c.gcm = false ∨ c.tagged = true then
      s.answer uRefused
    else
      let chk := s.checkBlock c.lane c.tenant mism
      let s := (chk.1.setCtx k { c with tagged := true }).laneWork c (cSlot cmd) (x.cycles 0 + 2)
      if chk.2 then s.answer uFault
      else
        let bad := anyBad ws
        let out := xorBytes (dataBytes ws 0 2) (x.enc 0 (fixLen 12 nonce ++ toBE 4 1))
        { st := s, out := wordsOf out .pub bad, code := some (if bad then uPoisoned else uOk) }
  | _, _ => s.answer uRefused

/-- TAGCHK (R217): a match releases the held buffer with the slot's DCLASS, a mismatch zeroes it; the context points at the buffer no more.
Log 41, DEDUCED. -/
def State.cmdTagchk (s : State) (k : Nat) (c : LaneCtx) (cmd : W64) (data : List TWord) (mism : Nat) : Answer :=
  let ws := taken 4 data
  match s.ctxSlot c (cSlot cmd) with
  | none => s.answer uRefused
  | some (_, x) =>
    if x.may .open_ (cSub cmd) = false ∨ x.isTdes = true then s.answer uRefused
    else
      let chk := s.checkBlock c.lane c.tenant mism
      let s := chk.1.laneWork c (cSlot cmd) (x.cycles 0 + 2)
      if chk.2 then s.answer uFault
      else if anyBad ws then s.answer uPoisoned
      else
        let core := { s.coreAt k with lane := some { c with holding := false } }
        if fixLen 16 (x.enc 0 (dataBytes ws 0 2)) = dataBytes ws 2 2 then
          (if c.holding then s.setCore k { core with heldSt := .released x.dclass } else s).answer uOk
        else
          (if c.holding then s.setCore k { core with heldSt := .zeroing, held := [] } else s).answer uMatchFail

/-- STORE (R207): the context-owned key of profile 0 in t is wrapped under a label of the context's tenant. Log 41, DEDUCED. -/
def State.cmdStore (s : State) (k : Nat) (c : LaneCtx) (cmd : W64) (data : List TWord) : Answer :=
  let ws := taken 4 data
  let label := labelOfBytes (dataBytes ws 0 4)
  match s.ctxSlot c (cSlot2 cmd) with
  | none => s.answer uRefused
  | some (p, x) =>
    let own := match x.kind with
      | .owned 0 _ => true
      | _ => false
    if c.diag || !own || handleTenant label.handle != c.tenant then s.answer uRefused
    else if anyBad ws then s.answer uPoisoned
    else { st := (s.setCtx k { c with waiting := true }).kduAsk ⟨k, .storeSlot p label, label.handle, 0, false, none, false⟩ }

/-- HOLD (R217): waits while the buffer is being zeroed. -/
def State.cmdHold (s : State) (k : Nat) (c : LaneCtx) : Answer :=
  if c.diag then s.answer uRefused
  else
    let core := s.coreAt k
    if core.heldSt = .zeroing then { st := s.setCtx k { c with holdWaits := true } }
    else (s.setCore k { core with lane := some { c with holding := true }, heldSt := .holding, held := [] }).answer uOk

/-- PUT (R213): an installed key's parts under a label given with the first, a TLS traffic key, whose size is the reach of its parts, and
IV, or the variant of a TDES DUKPT key. Log 65, DESIGN CHOICE. -/
def State.cmdPut (s : State) (k : Nat) (c : LaneCtx) (u : UnitCmd) : Answer :=
  let cmd := u.cmd
  let ws := takenAny u.data
  if c.diag then s.answer uRefused
  else if anyBad ws then s.answer uPoisoned
  else if cProfile cmd = 9 then
    let n := ws.length
    let size := if cDst cmd ≠ 3 ∧ 2 < cPart cmd + n then 32 else 16
    let label : KLabel := ⟨usage "D0", chr "A", chr "B", chr "N", size, 0, 0, 0, 0, 0, 1⟩
    s.writeKey k (cSlot2 cmd) (.owned 9 label) .pub (cDst cmd) (cPart cmd) (cParity cmd) (dataBytes ws 0 n)
  else if cProfile cmd = 5 then
    match s.ctxSlot c (cSlot cmd) with
    | none => s.answer uRefused
    | some (_, x) =>
      let v := dataBytes ws 0 2
      match derived x 5 v with
      | none => s.answer uRefused
      | some kind => s.writeKey k (cSlot2 cmd) kind .secret 1 0 (cParity cmd) (xorBytes v (slice 0 16 x.key))
  else if cProfile cmd = 0 then
    let given := taken 4 u.label
    let label := labelOfBytes (dataBytes given 0 4)
    if (s.ctxSlot c (cSlot2 cmd)).isNone && anyBad given then s.answer uPoisoned
    else s.writeKey k (cSlot2 cmd) (.owned 0 label) (classOfCode label.dclass) (max 1 (cDst cmd)) (cPart cmd) (cParity cmd)
      (dataBytes ws 0 ws.length)
  else s.answer uRefused

/-- LOADT (R209, R226): a TEST key, in a diagnostic context only; a type that R106 does not list is refused. Log 41, DEDUCED. -/
def State.cmdLoadt (s : State) (k : Nat) (c : LaneCtx) (cmd : W64) (data : List TWord) : Answer :=
  let n := if cProfile cmd = 0 ∨ cProfile cmd = 2 then 2 else if cProfile cmd = 4 then 4 else 3
  let ws := taken n data
  if c.diag = false ∨ 4 < cProfile cmd then s.answer uRefused
  else if anyBad ws then s.answer uPoisoned
  else
    let s := s.freeSlot k c (cSlot cmd)
    match (s.coreAt k).lane with
    | none => { st := s }
    | some c =>
      if 8 ≤ c.slots.length then s.answer uRefused
      else match s.slotFor c.lane with
        | none => s.answer uRefused
        | some p =>
          let s := s.setCtx k { c with slots := Tbl.put (cSlot cmd) p c.slots }
          (s.putSlot c.lane p ⟨.test (cProfile cmd), 0, fixLen 32 (dataBytes ws 0 ws.length), false, s.now, [], 0, .pub⟩).answer
            uOk

/-- One lane command of a context by its OP (R209). A core without a context has only OPEN. Log 41, DEDUCED. -/
def State.laneRun (s : State) (k : Nat) (u : UnitCmd) : Answer :=
  let cmd := u.cmd
  match (s.coreAt k).lane with
  | none => if u.op = 0 ∧ k ≠ 96 then s.cmdOpen k u.data else s.answer uRefused
  | some c =>
    if c.diag = true ∧ (u.op = 0 ∨ u.op = 1 ∨ u.op = 10 ∨ u.op = 12 ∨ u.op = 13) then s.answer uRefused
    else match u.op with
      | 0 => s.answer uRefused
      | 1 => s.cmdLoad k c (cSlot cmd) u.data
      | 2 => s.cmdBlock k c u false
      | 3 => s.cmdBlock k c u true
      | 4 => s.cmdZkey c cmd u.mism
      | 5 => s.nonceFor k (cSlot cmd) (cSub cmd) (cGcm cmd)
      | 6 => s.cmdKstream k c cmd u.data u.mism
      | 7 => s.cmdKstreamD k c cmd u.data u.mism
      | 8 => s.cmdTag k c cmd u.data u.mism
      | 9 => s.cmdTagchk k c cmd u.data u.mism
      | 10 => s.cmdStore k c cmd u.data
      | 11 => (s.freeSlot k c (cSlot2 cmd)).answer uOk
      | 12 => s.cmdHold k c
      | 13 => s.cmdPut k c u
      | 14 => s.cmdLoadt k c cmd u.data
      | _ => (s.closeLane k).answer uOk

/-- A core's lane commands wait: its barge is aborted (R221), its OPEN waits for a lane, a LOAD, STORE, NONCE or HOLD is in progress, or the
context closes. -/
def State.laneBlocked (s : State) (k : Nat) : Bool :=
  (s.coreAt k).aborted.isSome || match (s.coreAt k).lane with
    | none => s.cph.waiting.any fun w => w.1 == k
    | some c => c.waiting || c.holdWaits || c.nonceWaits.isSome || c.closing

/-- A command runs: its output words and status word enter the context's output FIFO (R208). -/
def State.laneIssue (s : State) (k : Nat) (u : UnitCmd) : State :=
  let a := s.laneRun k u
  match a.code with
  | some code => a.st.laneSay k a.out code
  | none => a.st

/-- At most so many commands of a core's lane FIFO run, in their order, until one waits (R208). -/
def laneDrain : Nat → Nat → State → State
  | 0, _, s => s
  | n + 1, k, s =>
    if s.laneBlocked k then s
    else match (s.coreAt k).laneIn with
      | [] => s
      | u :: us => laneDrain n k ((s.setCore k { s.coreAt k with laneIn := us }).laneIssue k u)

/-- The commands in a core's lane FIFO run until one waits. -/
def State.drainLane (s : State) (k : Nat) : State := laneDrain (s.coreAt k).laneIn.length k s

/-- A crew core's lane command runs at once, or enters the command FIFO behind what waits there (R208). -/
def State.laneCommand (s : State) (k : Nat) (u : UnitCmd) : State :=
  if s.laneBlocked k = false ∧ (s.coreAt k).laneIn = [] then s.laneIssue k u
  else (s.setCore k { s.coreAt k with laneIn := (s.coreAt k).laneIn ++ [u] }).drainLane k

/-- LANE_OPEN (R202). -/
def execLaneOpen (core : Nat) (cmd : W64) (data : List TWord) (s : State) : Host.Outcome State Fault Refusal :=
  .next (s.laneCommand core ⟨0, cmd, data, [], 0⟩)

/-- LANE_LOAD (R203). -/
def execLaneLoad (core : Nat) (cmd : W64) (data : List TWord) (s : State) : Host.Outcome State Fault Refusal :=
  .next (s.laneCommand core ⟨1, cmd, data, [], 0⟩)

/-- ENC (R209, R215). Log 16, DESIGN CHOICE. -/
def execEnc (core : Nat) (cmd : W64) (data : List TWord) (mism : Nat) (s : State) : Host.Outcome State Fault Refusal :=
  .next (s.laneCommand core ⟨2, cmd, data, [], mism⟩)

/-- DEC (R209, R215). -/
def execDec (core : Nat) (cmd : W64) (data label : List TWord) (mism : Nat) (s : State) : Host.Outcome State Fault Refusal :=
  .next (s.laneCommand core ⟨3, cmd, data, label, mism⟩)

/-- ZKEY (R150, R209). -/
def execZkey (core : Nat) (cmd : W64) (data : List TWord) (mism : Nat) (s : State) : Host.Outcome State Fault Refusal :=
  .next (s.laneCommand core ⟨4, cmd, data, [], mism⟩)

/-- NONCE (R214). -/
def execNonce (core : Nat) (cmd : W64) (data : List TWord) (s : State) : Host.Outcome State Fault Refusal :=
  .next (s.laneCommand core ⟨5, cmd, data, [], 0⟩)

/-- KSTREAM (R214). -/
def execKstream (core : Nat) (cmd : W64) (data : List TWord) (mism : Nat) (s : State) : Host.Outcome State Fault Refusal :=
  .next (s.laneCommand core ⟨6, cmd, data, [], mism⟩)

/-- KSTREAM_D (R211, R217). -/
def execKstreamD (core : Nat) (cmd : W64) (data : List TWord) (mism : Nat) (s : State) : Host.Outcome State Fault Refusal :=
  .next (s.laneCommand core ⟨7, cmd, data, [], mism⟩)

/-- TAG (R209). -/
def execTag (core : Nat) (cmd : W64) (data : List TWord) (mism : Nat) (s : State) : Host.Outcome State Fault Refusal :=
  .next (s.laneCommand core ⟨8, cmd, data, [], mism⟩)

/-- TAGCHK (R217). -/
def execTagchk (core : Nat) (cmd : W64) (data : List TWord) (mism : Nat) (s : State) : Host.Outcome State Fault Refusal :=
  .next (s.laneCommand core ⟨9, cmd, data, [], mism⟩)

/-- STORE (R207). -/
def execStore (core : Nat) (cmd : W64) (data : List TWord) (s : State) : Host.Outcome State Fault Refusal :=
  .next (s.laneCommand core ⟨10, cmd, data, [], 0⟩)

/-- FREE (R209). -/
def execFree (core : Nat) (cmd : W64) (data : List TWord) (s : State) : Host.Outcome State Fault Refusal :=
  .next (s.laneCommand core ⟨11, cmd, data, [], 0⟩)

/-- HOLD (R217). -/
def execHold (core : Nat) (cmd : W64) (data : List TWord) (s : State) : Host.Outcome State Fault Refusal :=
  .next (s.laneCommand core ⟨12, cmd, data, [], 0⟩)

/-- PUT (R213). -/
def execPut (core : Nat) (cmd : W64) (data label : List TWord) (s : State) : Host.Outcome State Fault Refusal :=
  .next (s.laneCommand core ⟨13, cmd, data, label, 0⟩)

/-- LOADT (R209). -/
def execLoadt (core : Nat) (cmd : W64) (data : List TWord) (s : State) : Host.Outcome State Fault Refusal :=
  .next (s.laneCommand core ⟨14, cmd, data, [], 0⟩)

/-- LANE_CLOSE (R221). -/
def execLaneClose (core : Nat) (cmd : W64) (data : List TWord) (s : State) : Host.Outcome State Fault Refusal :=
  .next (s.laneCommand core ⟨15, cmd, data, [], 0⟩)

/-- HELD_BUFFER_ZEROED (R217): the buffer is closed and a HOLD that waited proceeds. -/
def execHeldBufferZeroed (core : Nat) (s : State) : Host.Outcome State Fault Refusal :=
  let c := s.coreAt core
  .next <|
    if c.heldSt ≠ .zeroing then s
    else match c.lane with
      | some x =>
        if x.holdWaits then
          ((s.setCore core { c with lane := some { x with holdWaits := false, holding := true }, heldSt := .holding, held := [] }
            ).laneSay core [] uOk).drainLane core
        else s.setCore core { c with heldSt := .closed, held := [] }
      | none => s.setCore core { c with heldSt := .closed, held := [] }

/-! ### Windows, self-tests and spares (R216, R218, R219) -/

/-- MISMATCH_WINDOW_END (R216, R234): lane, tile and device counts restart; once for each window of WINDOW_MS. -/
def execMismatchWindowEnd (s : State) : Host.Outcome State Fault Refusal :=
  let w := s.now / (100000 * max 1 s.cph.windowMs)
  .next <|
    if s.cph.window < w then
      { s with
        cph := { s.cph with
          window := w, deviceWin := 0, raisedWin := false
          lanes := s.cph.lanes.map fun p => (p.1, { p.2 with mismatchWin := 0 }) }
        bgn := { s.bgn with tiles := s.bgn.tiles.map fun p => (p.1, { p.2 with mismatchWin := 0 }) } }
    else s

/-- The lowest-numbered remaining spare lane. -/
def State.spareLane (s : State) : Option Nat := laneNumbers.find? fun n => decide ((s.laneAt n).st = .spare)

/-- A lane is retired: its slots are zeroed (R218). -/
def State.laneOut (s : State) (n : Nat) : State :=
  let s := s.setLane n { s.laneAt n with st := .retired, slots := [] }
  { s with cph := { s.cph with retired := (s.cph.retired + 1) % 256 } }

/-- The lowest remaining spare joins a group with empty slots; with none left the group shrinks, and where a dedicated group has no lane
any more its tenants use the shared groups: policy overrides, which are logged (R218, R219). -/
def State.laneSpare (s : State) (n g : Nat) : State :=
  match s.spareLane with
  | some m => s.setLane m { s.laneAt m with st := .active, group := g, slots := [], tested := s.now }
  | none =>
    let s := s.logEvent .power 8 n g
    if s.laneDedicated g && !(tget {} g s.cfg.laneGroups).strict && (s.lanesOf g).isEmpty then s.logEvent .power 10 n g else s

/-- Retire a lane (R218, R219): a spare takes its place, the next one where the lowest fails its self-check. Log 15, DESIGN CHOICE. -/
def State.retireLane (s : State) (n : Nat) (sparePass : Bool) : State :=
  let g := (s.laneAt n).group
  let s := s.laneOut n
  let s := match s.spareLane with
    | some m => if sparePass then s else s.laneOut m
    | none => s
  (((s.laneSpare n g).setInt intSpare).logEvent .interface 8 n g).grantLanes

/-- LANE_SELFTEST (R218): an idle lane runs its known-answer test; a failure retires it. -/
def execLaneSelftest (lane : Nat) (pass sparePass : Bool) (s : State) : Host.Outcome State Fault Refusal :=
  let l := s.laneAt lane
  .next <|
    if l.serves = true ∧ s.ctxsOn lane = [] then
      if pass then (s.setLane lane { l with tested := s.now }).grantLanes else s.retireLane lane sparePass
    else s

/-- LANE_DRAIN_RETIRE (R218): a DRAINING lane is retired once its contexts have closed. -/
def execLaneDrainRetire (lane : Nat) (sparePass : Bool) (s : State) : Host.Outcome State Fault Refusal :=
  .next <| if (s.laneAt lane).st = .draining ∧ s.ctxsOn lane = [] then s.retireLane lane sparePass else s

/-! ### Diagnostic registers of the lanes (R226, CPH_DIAG) -/

/-- The four data words of a block of diagnostic registers, taken as PUBLIC. -/
def DiagRegs.words (d : DiagRegs) : List TWord := (List.range 4).map fun i => word (tget 0 i d.data) .pub

/-- The output registers after a command: word i, zero where it has none. -/
def diagOut (ws : List TWord) : Tbl W64 :=
  [(0, egressData (ws.headD notValid)), (1, egressData ((ws.drop 1).headD notValid))]

/-- CPH_DIAG_ENABLE (R226): 1 takes the lane once its contexts close, 0 closes the context and returns the lane to its previous
state. Outside DRYDOCK the write is discarded and logged (R22); a write of ENABLE = 1 that names no lane, or one already diagnostic, is
discarded whole. Log 66, DESIGN CHOICE. -/
def execCphDiagEnable (v : W64) (s : State) : Host.Outcome State Fault Refusal :=
  .next <|
    if s.glb.mode ≠ .drydock then s.refused 0x4 0x40800 0
    else
      let d := s.cph.diag
      if wbit 0 v then
        if d.enable then s
        else
          let lane := wbits 14 8 v
          if 68 ≤ lane ∨ (s.laneAt lane).st = .diag then s
          else
            let l := s.laneAt lane
            let s := s.setLane lane { l with st := if l.st = .active then .draining else l.st, before := l.st }
            ({ s with cph := { s.cph with diag := { d with sel := lane, enable := true, opening := true } } }).diagLane
      else
        let l := s.laneAt d.sel
        if d.enable then
          let s := s.closeLane 96
          let l' := s.laneAt d.sel
          let s := s.setLane d.sel { l' with st := l.before, slots := if d.opening then l'.slots else [] }
          { s with cph := { s.cph with diag := { d with enable := false, opening := false } } }
        else { s with cph := { s.cph with diag := { d with sel := wbits 14 8 v } } }

/-- CPH_DIAG_CMD (R226): one lane command of the diagnostic context, REFUSED once a CLOSE has ended it; discarded while BUSY, and with no
context opened. Log 28. -/
def execCphDiagCmd (v : W64) (mism : Nat) (s : State) : Host.Outcome State Fault Refusal :=
  .next <|
    if s.glb.mode ≠ .drydock then s.refused 0x4 0x40808 0
    else if s.cph.diag.busy ∨ s.cph.diag.enable = false ∨ s.cph.diag.opening = true then s
    else
      let a := s.laneRun 96 ⟨wbits 63 60 v, v, s.cph.diag.words, [], mism⟩
      let s := a.st
      let s := if a.code = some uFault then { s with cph := { s.cph with faults := s.cph.faults + 1 } } else s
      { s with cph := { s.cph with diag := { s.cph.diag with out := diagOut a.out, code := a.code.getD 0 } } }

end Sys2Proof.Machine
end

