-- ==== Sys2Proof/Machine/Hashes.lean ====
section
/-! DEFINITION. Hash engines (08_cipher_lanes_and_hash.md R222 to R226) and bignum tiles (09_bignum_engine_and_asymmetric.md R227 to
R237), with the end of a KDU load or STORE that delivers to a lane, an engine or a tile (R206, R207). -/

namespace Sys2Proof.Machine

/-! ### Hash engines (R222 to R225) -/

/-- ALG of INIT. -/
def hAlg (c : W64) : Nat := wbits 59 56 c
/-- HMAC of INIT. -/
def hHmac (c : W64) : Bool := wbit 55 c
/-- N: bytes of ABSORB, SQUEEZE and CMP. -/
def hN (c : W64) : Nat := wbits 47 32 c
/-- OUTLEN of INIT. -/
def hOutLen (c : W64) : Nat := wbits 31 0 c

/-- A general Keccak engine. -/
def isKeccak (e : Nat) : Bool := decide (e < 32)
/-- A SHA-2 engine. -/
def isSha2 (e : Nat) : Bool := decide (40 ≤ e) && decide (e < 56)
/-- A KDU engine. -/
def isKduEngine (e : Nat) : Bool := decide (32 ≤ e) && decide (e < 40)

/-- The hash group of an engine (R222). -/
def engGroup (e : Nat) : Nat := if e < 32 then e / 8 else if e < 40 then 4 else (e - 40) / 4

/-- The TEL_ENGINE index of an engine. -/
def engIndex (e : Nat) : Nat := if e < 40 then 68 + e else 108 + (e - 40)

/-- An algorithm runs on an engine (R222). -/
def algOn (alg e : Nat) : Bool :=
  if alg ≤ 2 then isSha2 e else decide (4 ≤ alg) && decide (alg ≤ 13) && isKeccak e

/-- HMAC is a construction over the SHA-2 and SHA-3 functions (R222). -/
def hmacAlg (alg : Nat) : Bool := decide (alg ≤ 7)

/-- Output length of an algorithm, OUTLEN for SHAKE, cSHAKE and KMAC (R134, R223). -/
def hashOut (alg outLen : Nat) : Nat :=
  match alg with
  | 0 => 32
  | 1 => 48
  | 2 => 64
  | 4 => 28
  | 5 => 32
  | 6 => 48
  | 7 => 64
  | _ => outLen

/-- Block or rate of an algorithm in bytes (R127, R135, R224). -/
def hashRate (alg : Nat) : Nat :=
  match alg with
  | 0 => 64
  | 1 | 2 => 128
  | 4 => 144
  | 5 | 9 | 11 | 13 => 136
  | 6 => 104
  | 7 => 72
  | _ => 168

/-- Cycles of one block (R224). -/
def hashBlockCycles (alg : Nat) : Nat := if alg = 0 then 64 else if alg ≤ 2 then 80 else 27

/-- An engine answers its core (R223). -/
def State.hashSay (s : State) (k : Nat) (out : List TWord) (code : Nat) : State :=
  let c := s.coreAt k
  s.setCore k { c with hashOut := c.hashOut ++ out ++ [statusWord code] }

/-- A diagnostic context opens on an engine that no barge holds any more (R226). -/
def State.diagEngine (s : State) : State :=
  let d := s.hsh.diag
  let g := s.engAt d.sel
  if d.opening ∧ g.holder = none then
    let s := s.setEng d.sel { g with st := .diag, holder := some 96 }
    let s := s.setCore 96 { s.coreAt 96 with eng := some d.sel }
    { s with hsh := { s.hsh with diag := { d with opening := false } } }
  else s

/-- A core lets go of its hash engine: state and key register are zeroed (R223, R225). -/
def State.releaseEng (s : State) (k : Nat) : State :=
  match (s.coreAt k).eng with
  | none => s
  | some e =>
    let g := s.engAt e
    let s := s.setEng e { st := g.st, before := g.before }
    let s := s.setCore k { s.coreAt k with eng := none }
    (s.idleNow (20 + engGroup e)).diagEngine

/-- A barge that ends gives up its hash engine, at the end of a KEY in progress (R57, R206, R222). -/
def State.endEng (s : State) (k : Nat) : State :=
  let s := s.setCore k { s.coreAt k with hashIn := [], hashOut := [] }
  match (s.coreAt k).eng with
  | some e => if (s.engAt e).waiting then s.setEng e { s.engAt e with closing := true } else s.releaseEng k
  | none => s

/-- The KEY in progress of an engine whose barge has ended has ended. -/
def State.settleEng (s : State) (k : Nat) : State :=
  match (s.coreAt k).eng with
  | some e => if (s.engAt e).closing && !(s.engAt e).waiting then s.releaseEng k else s
  | none => s

/-- Engines a computation may take: in service, free and powered (R222, R375). -/
def State.freeEngines (s : State) (alg : Nat) : List Nat :=
  (List.range 56).filter fun e =>
    let g := s.engAt e
    algOn alg e && decide (g.st = .active) && g.holder.isNone && decide ((s.domAt (20 + engGroup e)).st = .on)

/-- A computation starts on engine e. -/
def Eng.start (g : Eng) (k alg : Nat) (hmac : Bool) (outLen : Nat) : Eng :=
  { st := g.st, before := g.before, key := g.key, holder := some k, alg := some (alg, hmac), outLen := outLen }

/-- INIT (R223): on the engine the core holds where it runs the algorithm, else on a free one; which is open (log 20). With none
free it waits. -/
def State.cmdInit (s : State) (k : Nat) (cmd : W64) : Answer :=
  let alg := hAlg cmd
  if ((List.range 56).any (algOn alg)) = false ∨ (hHmac cmd = true ∧ hmacAlg alg = false) then s.answer uRefused
  else
    let go (s : State) (e : Nat) : Answer :=
      let s := s.setEng e ((s.engAt e).start k alg (hHmac cmd) (hOutLen cmd))
      ((s.setCore k { s.coreAt k with eng := some e }).engineBusy (engIndex e) 2).answer uOk
    let held := (s.coreAt k).eng.filter fun e => algOn alg e
    match held with
    | some e => go s e
    | none =>
      if ((s.coreAt k).eng.map fun e => decide ((s.engAt e).st = .diag)).getD false then s.answer uRefused
      else
        let s := s.releaseEng k
        let es := s.freeEngines alg
        let pick := if es.length ≤ 1 then (0, s) else s.freshNat
        match es[pick.1 % es.length]? with
        | some e => go pick.2 e
        | none => { st := s, again := true }

/-- ABSORB (R223, R225). Log 41, DEDUCED. -/
def State.cmdAbsorb (s : State) (e : Nat) (cmd : W64) (data : List TWord) : Answer :=
  let g := s.engAt e
  let ws := taken (ceilDiv (hN cmd) 8) data
  match g.alg with
  | none => s.answer uRefused
  | some (alg, _) =>
    if g.final ∨ hN cmd = 0 ∨ 168 < hN cmd then s.answer uRefused
    else
      let msg := g.msg ++ slice 0 (hN cmd) (wordsBytes ws)
      let bad := anyBad ws
      let blocks := msg.length / hashRate alg - g.msg.length / hashRate alg
      let s := s.setEng e { g with msg := msg, cls := g.cls.max (classOf ws), poison := g.poison || bad }
      (s.engineBusy (engIndex e) (blocks * hashBlockCycles alg)).answer (if bad then uPoisoned else uOk)

/-- Whether the computation needs the key register (R223). -/
def keyed (alg : Nat) (hmac : Bool) : Bool := hmac || decide (12 ≤ alg)

/-- FINAL (R223, R224). -/
def State.cmdFinal (s : State) (e : Nat) : Answer :=
  let g := s.engAt e
  match g.alg with
  | none => s.answer uRefused
  | some (alg, hmac) =>
    if g.final ∨ (keyed alg hmac = true ∧ g.key = none) then s.answer uRefused
    else
      let extra := if hmac then 3 else 0
      ((s.setEng e { g with final := true }).engineBusy (engIndex e) ((1 + extra) * hashBlockCycles alg)).answer
        (if g.poison then uPoisoned else uOk)

/-- The output of a computation from byte i on (R223). -/
def Eng.output (g : Eng) (i n : Nat) : Bytes :=
  match g.alg with
  | none => zeros n
  | some (alg, hmac) =>
    slice i n (Config.engineHash alg hmac (g.key.getD []) g.msg (hashOut alg g.outLen))

/-- The class of the output (R225). -/
def Eng.outClass (g : Eng) : SecClass :=
  match g.alg with
  | some (alg, hmac) => if keyed alg hmac then g.cls.max .secret else g.cls
  | none => g.cls

/-- SQUEEZE (R223): the engine is free again after the last output. Log 41, DEDUCED. -/
def State.cmdSqueeze (s : State) (k e : Nat) (cmd : W64) : Answer :=
  let g := s.engAt e
  match g.alg with
  | none => s.answer uRefused
  | some (alg, _) =>
    let total := hashOut alg g.outLen
    if g.final = false ∨ hN cmd = 0 ∨ 168 < hN cmd ∨ total < g.squeezed + hN cmd then s.answer uRefused
    else
      let out := wordsOf (g.output g.squeezed (hN cmd)) g.outClass g.poison
      let done := g.squeezed + hN cmd
      let blocks := (done - 1) / hashRate alg - (g.squeezed - 1) / hashRate alg
      let s := (s.setEng e { g with squeezed := done }).engineBusy (engIndex e) (blocks * hashBlockCycles alg)
      { st := if done = total ∧ g.st ≠ .diag then s.releaseEng k else s
        out := out, code := some (if g.poison then uPoisoned else uOk) }

/-- CMP (R223): the leading N bytes of the output against reference words; only a status leaves. -/
def State.cmdCmp (s : State) (k e : Nat) (cmd : W64) (data : List TWord) : Answer :=
  let g := s.engAt e
  let ws := taken (ceilDiv (hN cmd) 8) data
  match g.alg with
  | none => s.answer uRefused
  | some (alg, _) =>
    if g.final = false ∨ hN cmd = 0 ∨ 64 < hN cmd ∨ hashOut alg g.outLen < hN cmd then s.answer uRefused
    else
      let bad := g.poison || anyBad ws
      let eq := decide (g.output 0 (hN cmd) = slice 0 (hN cmd) (wordsBytes ws))
      let s := s.engineBusy (engIndex e) 4
      let s := if g.st = .diag then s else s.releaseEng k
      s.answer (if bad then uPoisoned else if eq then uOk else uMatchFail)

/-- RESET (R223). -/
def State.cmdHashReset (s : State) (e : Nat) : Answer :=
  let g := s.engAt e
  (s.setEng e { st := g.st, before := g.before, holder := g.holder }).answer uOk

/-- KEY (R207, R223). -/
def State.cmdHashKey (s : State) (k e : Nat) (data : List TWord) : Answer :=
  let ws := taken 1 data
  if (s.engAt e).st = .diag then s.answer uRefused
  else if anyBad ws then s.answer uPoisoned
  else
    let s := s.setEng e { s.engAt e with waiting := true }
    { st := s.kduAsk ⟨k, .engine, le 0 8 (dataBytes ws 0 1), 0, false, none, false⟩ }

/-- One command of a core's hash engine by its OP (R223). A core without an engine has only INIT. Log 41, DEDUCED. -/
def State.hashRun (s : State) (k : Nat) (u : UnitCmd) : Answer :=
  match (s.coreAt k).eng with
  | none => if u.op = 1 ∧ k ≠ 96 then s.cmdInit k u.cmd else s.answer uRefused
  | some e =>
    match u.op with
    | 1 => s.cmdInit k u.cmd
    | 2 => s.cmdAbsorb e u.cmd u.data
    | 3 => s.cmdHashKey k e u.data
    | 4 => s.cmdFinal e
    | 5 => s.cmdSqueeze k e u.cmd
    | 6 => s.cmdCmp k e u.cmd u.data
    | 7 => s.cmdHashReset e
    | _ => s.answer uRefused

/-- A core's hash commands wait: its barge is aborted (R221), or a KEY is in progress. -/
def State.hashBlocked (s : State) (k : Nat) : Bool :=
  (s.coreAt k).aborted.isSome || match (s.coreAt k).eng with
    | none => false
    | some e => (s.engAt e).waiting || (s.engAt e).closing

/-- A hash command runs with its answer; an INIT that finds no engine free stays first in line (R222). -/
def State.hashIssue (s : State) (k : Nat) (u : UnitCmd) : State :=
  let a := s.hashRun k u
  if a.again then a.st.setCore k { a.st.coreAt k with hashIn := u :: (a.st.coreAt k).hashIn }
  else match a.code with
    | some code => a.st.hashSay k a.out code
    | none => a.st

/-- At most so many commands that wait for a core's hash engine run, in their order, until one waits (R223). -/
def hashDrain : Nat → Nat → State → State
  | 0, _, s => s
  | n + 1, k, s =>
    if s.hashBlocked k then s
    else match (s.coreAt k).hashIn with
      | [] => s
      | u :: us =>
        let t := (s.setCore k { s.coreAt k with hashIn := us }).hashIssue k u
        if us.length < (t.coreAt k).hashIn.length then t else hashDrain n k t

/-- The commands that wait for a core's hash engine run until one waits. -/
def State.drainHash (s : State) (k : Nat) : State := hashDrain (s.coreAt k).hashIn.length k s

/-- A crew core's hash-engine command runs at once, or behind what waits (R223). -/
def State.hashCommand (s : State) (k : Nat) (u : UnitCmd) : State :=
  if s.hashBlocked k = false ∧ (s.coreAt k).hashIn = [] then s.hashIssue k u
  else (s.setCore k { s.coreAt k with hashIn := (s.coreAt k).hashIn ++ [u] }).drainHash k

/-- INIT (R223). -/
def execInit (core : Nat) (cmd : W64) (data : List TWord) (s : State) : Host.Outcome State Fault Refusal :=
  .next (s.hashCommand core ⟨1, cmd, data, [], 0⟩)

/-- ABSORB (R223). -/
def execAbsorb (core : Nat) (cmd : W64) (data : List TWord) (s : State) : Host.Outcome State Fault Refusal :=
  .next (s.hashCommand core ⟨2, cmd, data, [], 0⟩)

/-- KEY (R223). -/
def execHashKey (core : Nat) (cmd : W64) (data : List TWord) (s : State) : Host.Outcome State Fault Refusal :=
  .next (s.hashCommand core ⟨3, cmd, data, [], 0⟩)

/-- FINAL (R223). -/
def execFinal (core : Nat) (cmd : W64) (data : List TWord) (s : State) : Host.Outcome State Fault Refusal :=
  .next (s.hashCommand core ⟨4, cmd, data, [], 0⟩)

/-- SQUEEZE (R223). Log 16, DESIGN CHOICE. -/
def execSqueeze (core : Nat) (cmd : W64) (data : List TWord) (s : State) : Host.Outcome State Fault Refusal :=
  .next (s.hashCommand core ⟨5, cmd, data, [], 0⟩)

/-- CMP (R223). -/
def execCmp (core : Nat) (cmd : W64) (data : List TWord) (s : State) : Host.Outcome State Fault Refusal :=
  .next (s.hashCommand core ⟨6, cmd, data, [], 0⟩)

/-- RESET (R223). -/
def execHashReset (core : Nat) (cmd : W64) (data : List TWord) (s : State) : Host.Outcome State Fault Refusal :=
  .next (s.hashCommand core ⟨7, cmd, data, [], 0⟩)

/-- A hash engine that fails its known-answer test while no barge holds it is retired; of a KDU pair both engines, while a pair is idle
(R205, R218). -/
def State.hashFails (s : State) (engine : Nat) : State :=
  let g := s.engAt engine
  if g.st ≠ .active ∨ g.holder.isSome then s
  else if isKduEngine engine then
    if s.hsh.pairs ≤ s.hsh.queue.countP KduReq.started then s
    else
      let lo := engine - engine % 2
      let s := (s.setEng lo { s.engAt lo with st := .retired }).setEng (lo + 1) { s.engAt (lo + 1) with st := .retired }
      (({ s with hsh := { s.hsh with pairs := s.hsh.pairs - 1 } }).setInt intSpare).logEvent .interface 9 engine 4
  else ((s.setEng engine { g with st := .retired }).setInt intSpare).logEvent .interface 9 engine (engGroup engine)

/-- HASH_SELFTEST (R225): an idle engine's self-check; a failing one is retired with no spare, a failing KDU engine with its
pair. -/
def execHashSelftest (engine : Nat) (pass : Bool) (s : State) : Host.Outcome State Fault Refusal :=
  .next (if pass then s else s.hashFails engine)

/-- HSH_DIAG_ENABLE (R226). A write of ENABLE = 1 that names no engine of R226, or one already diagnostic, is discarded whole: the spec says
what such a unit does to a barge, and not to the register. Log 66, DESIGN CHOICE. -/
def execHshDiagEnable (v : W64) (s : State) : Host.Outcome State Fault Refusal :=
  .next <|
    if s.glb.mode ≠ .drydock then s.refused 0x5 0x50800 0
    else
      let d := s.hsh.diag
      if wbit 0 v then
        let e := wbits 14 8 v
        let g := s.engAt e
        if d.enable ∨ (isKeccak e || isSha2 e) = false ∨ g.st = .diag then s
        else
          let s := s.setEng e { g with before := g.st, st := if g.st = .active then .draining else g.st }
          ({ s with hsh := { s.hsh with diag := { d with sel := e, enable := true, opening := true } } }).diagEngine
      else
        let g := s.engAt d.sel
        let s := if d.enable then
            let s := s.setCore 96 { s.coreAt 96 with eng := none, hashOut := [] }
            s.setEng d.sel (if d.opening then { g with st := g.before } else { st := g.before })
          else s
        { s with hsh := { s.hsh with diag := { d with sel := if d.enable then d.sel else wbits 14 8 v, enable := false, opening := false } } }

/-- HSH_DIAG_CMD (R226). -/
def execHshDiagCmd (v : W64) (s : State) : Host.Outcome State Fault Refusal :=
  .next <|
    if s.glb.mode ≠ .drydock then s.refused 0x5 0x50808 0
    else if s.hsh.diag.busy ∨ (s.coreAt 96).eng = none then s
    else
      let a := s.hashRun 96 ⟨wbits 63 60 v, v, s.hsh.diag.words, [], 0⟩
      let s := a.st
      { s with hsh := { s.hsh with diag := { s.hsh.diag with out := diagOut a.out, code := a.code.getD 0 } } }

/-! ### Tiles: jobs and windows (R227 to R237) -/

/-- OFF. -/
def tOff (c : W64) : Nat := wbits 59 52 c
/-- N. -/
def tN (c : W64) : Nat := wbits 51 44 c
/-- M: m − 1, or the size code of JOPEN. -/
def tM (c : W64) : Nat := wbits 43 42 c
/-- MODE. -/
def tMode (c : W64) : Bool := wbit 41 c
/-- A. -/
def tA (c : W64) : Nat := wbits 40 28 c
/-- B. -/
def tB (c : W64) : Nat := wbits 27 15 c
/-- D. -/
def tD (c : W64) : Nat := wbits 14 2 c
/-- SHIFT. -/
def tShift (c : W64) : Bool := wbit 1 c

/-- Tile numbers. -/
def tileNumbers : List Nat := List.range 26

/-- In service: ACTIVE or DRAINING. -/
def Tile.serves (t : Tile) : Bool := decide (t.st = .active) || decide (t.st = .draining)

/-- The power domain of a tile (R375): the spares 24 and 25 share those of tiles 0 and 16. -/
def tileDomain (n : Nat) : Nat := if n = 24 then 25 else if n = 25 then 41 else 25 + n

/-- Jobs on a tile. -/
def State.jobsOn (s : State) (n : Nat) : List Job :=
  s.cores.filterMap fun p => match p.2.tile with
    | some j => if j.tile = n then some j else none
    | none => none

/-- Window w of a tile is held by a job or being cleared. -/
def State.windowTaken (s : State) (n w : Nat) : Bool :=
  ((s.jobsOn n).any fun j => decide (j.base ≤ w) && decide (w < j.base + j.size))
    || ((s.tileAt n).clearing.any fun r => decide (r.1 ≤ w) && decide (w < r.1 + r.2))

/-- The lowest free aligned place for `size` windows on a tile. -/
def State.windowsFor (s : State) (n size : Nat) : Option Nat :=
  ((List.range (8 / size)).map (· * size)).find? fun b => (List.range size).all fun i => !s.windowTaken n (b + i)

/-- Tile group g is dedicated (ENGINE record). -/
def State.tileDedicated (s : State) (g : Nat) : Bool := (tget {} g s.cfg.tileGroups).dedicated

/-- In-service tiles of a group. -/
def State.tilesOf (s : State) (g : Nat) : List Nat :=
  tileNumbers.filter fun n => (s.tileAt n).serves && decide ((s.tileAt n).group = g)

/-- The tile groups a tenant may use, none where JOPEN returns FAULT (R218, R219, R237): its TENANT record applies once it is ACTIVE
(R142). -/
def State.tileGroupsFor (s : State) (t : Nat) : Option (List Nat) :=
  let own := (List.range 3).filter fun g =>
    s.tileDedicated g && decide ((s.tenantAt t).st = .active) && ((Tbl.find t s.cfg.tenants).map fun c => c.tileMask.getLsbD g).getD false
  let shared := (List.range 3).filter fun g => !s.tileDedicated g
  let has (g : Nat) : Bool := !(s.tilesOf g).isEmpty
  let groups :=
    if own = [] then some shared
    else if own.any has then some own
    else if own.any fun g => (tget {} g s.cfg.tileGroups).strict then none
    else some shared
  match groups with
  | some gs => if gs.any has then some gs else none
  | none => none

/-- The allocator's choice: the tile with the fewest jobs, the lower number among equals (R228). -/
def State.tileChoice (s : State) (gs : List Nat) (size : Nat) : Option (Nat × Nat) :=
  let ok := tileNumbers.filter fun n =>
    let t := s.tileAt n
    decide (t.st = .active) && gs.contains t.group && decide (s.now < t.tested + 1000000000)
      && !s.pwr.stopped.contains (0x20 + t.group) && decide ((s.domAt (tileDomain n)).st = .on)
      && (s.windowsFor n size).isSome
  let best := ok.foldl (fun (acc : Option Nat) n =>
    match acc with
    | none => some n
    | some m => if (s.jobsOn n).length < (s.jobsOn m).length then some n else acc) none
  best.bind fun n => (s.windowsFor n size).map fun b => (n, b)

/-- A tile answers its core (R230). -/
def State.tileSay (s : State) (k : Nat) (out : List TWord) (code : Nat) : State :=
  let c := s.coreAt k
  let s := s.setCore k { c with tileOut := c.tileOut ++ out ++ [statusWord code] }
  if code = uFault then { s with bgn := { s.bgn with faults := s.bgn.faults + 1 } } else s

/-- Replace a core's job. -/
def State.setJob (s : State) (k : Nat) (j : Job) : State := s.setCore k { s.coreAt k with tile := some j }

/-- A JOPEN waits no more. -/
def State.jopenEnds (s : State) (w : Nat × Nat × Nat) : State :=
  { s with bgn := { s.bgn with waiting := s.bgn.waiting.erase w } }

/-- Waiting JOPENs take windows as they come free (R228); one whose tenant has no group left that it may use ends in FAULT (R219, R237). -/
def State.grantTiles (s : State) : State :=
  s.bgn.waiting.foldl (fun (s : State) (w : Nat × Nat × Nat) =>
    match s.tileGroupsFor w.2.1 with
    | none => (s.jopenEnds w).tileSay w.1 [] uFault
    | some gs =>
      match s.tileChoice gs (2 ^ w.2.2) with
      | none => s
      | some (n, b) =>
        ((s.setJob w.1 { tile := n, base := b, size := 2 ^ w.2.2, tenant := w.2.1 }).jopenEnds w).tileSay w.1 [] uOk) s

/-- A diagnostic job opens on a tile without jobs or clearing windows (R226, R254). -/
def State.diagTile (s : State) : State :=
  let d := s.bgn.diag
  let t := s.tileAt d.sel
  if d.opening ∧ s.jobsOn d.sel = [] ∧ t.clearing = [] then
    let s := s.setTile d.sel { t with st := .diag }
    let s := s.setJob 96 { tile := d.sel, base := 0, size := 8, diag := true }
    { s with bgn := { s.bgn with diag := { d with opening := false } } }
  else s

/-- A job ends: its windows are cleared, unread output is discarded (R235, R236). -/
def State.closeJob (s : State) (k : Nat) : State :=
  match (s.coreAt k).tile with
  | none => { s with bgn := { s.bgn with waiting := s.bgn.waiting.filter fun w => w.1 != k } }
  | some j =>
    let s := s.setCore k { s.coreAt k with tile := none, tileOut := [], lastJob := some (j.tile, j.base, j.size) }
    let t := s.tileAt j.tile
    (s.setTile j.tile { t with clearing := t.clearing ++ [(j.base, j.size)] }).idleNow (tileDomain j.tile)

/-- A barge that ends leaves its job (R235): commands that have not begun are dropped, and the job stops at the end of a KEYIN in
progress. -/
def State.endJob (s : State) (k : Nat) : State :=
  let s := s.setCore k { s.coreAt k with tileIn := [], tileOut := [] }
  match (s.coreAt k).tile with
  | some j => if j.waiting then s.setJob k { j with closing := true } else s.closeJob k
  | none => s.closeJob k

/-- The KEYIN in progress of a job whose barge has ended has ended. -/
def State.settleJob (s : State) (k : Nat) : State :=
  match (s.coreAt k).tile with
  | some j => if j.closing && !j.waiting then s.closeJob k else s
  | none => s

/-- A mismatch counts against a tile (R234, R237). -/
def State.tileMismatch (s : State) (n times : Nat) : State :=
  let t := s.tileAt n
  let win := satAdd 8 t.mismatchWin times
  let s := s.setTile n { t with
    mismatchWin := win
    st := if s.bgn.tileLimit < win ∧ t.st = .active then .draining else t.st }
  let s := { s with
    bgn := { s.bgn with mismatches := s.bgn.mismatches + BitVec.ofNat 32 times }
    cph := { s.cph with deviceWin := s.cph.deviceWin + times } }
  if s.cph.alarmLimit < s.cph.deviceWin ∧ s.cph.raisedWin = false then
    ({ s with cph := { s.cph with raisedWin := true } }).alarmEvent 22
  else s

/-! ### Tile commands (R230 to R234) -/

/-- Words A to A + n − 1 of a job; an unlisted word is not-valid. -/
def Job.read (j : Job) (a n : Nat) : List TWord := (List.range n).map fun i => tget notValid (a + i) j.words

/-- Write words from an address of a job. -/
def Job.write (j : Job) (a : Nat) : List TWord → Job
  | [] => j
  | w :: ws => Job.write { j with words := Tbl.put a w j.words } (a + 1) ws

/-- Words a to a + n − 1 lie in the job. -/
def Job.has (j : Job) (a n : Nat) : Bool := decide (a + n ≤ 1024 * j.size)

/-- The number that limbs spell, lowest first. -/
def limbs : List TWord → Nat
  | [] => 0
  | w :: ws => w.data.toNat + 2 ^ 64 * limbs ws

/-- Coefficient k of words: coefficient 2i in bits 31:0 of word i. -/
def coeff (ws : List TWord) (k : Nat) : Nat :=
  let w := ((ws.drop (k / 2)).headD notValid).data
  if k % 2 = 0 then wbits 31 0 w else wbits 63 32 w

/-- A command with its residue check: with one mismatch it is repeated, with two it ends in FAULT and the job is stopped and
cleared (R234). Log 15, DESIGN CHOICE. -/
def State.checked (s : State) (k : Nat) (j : Job) (mism : Nat) (ok : State → Answer) : Answer :=
  if mism = 0 then ok s
  else if mism = 1 then ok (s.tileMismatch j.tile 1)
  else ((s.tileMismatch j.tile 2).closeJob k).answer uFault

/-- A command's cycles on its tile. -/
def State.tileBusy (s : State) (n cycles : Nat) : State := s.engineBusy (124 + n) cycles

/-- MAC (R231 to R233). Log 41, DEDUCED. -/
def State.cmdMac (s : State) (k : Nat) (j : Job) (cmd : W64) (mism : Nat) : Answer :=
  let n := tN cmd
  let m := tM cmd + 1
  if n = 0 ∨ 160 < n ∨ j.has (tA cmd) n = false ∨ j.has (tB cmd) m = false ∨ 168 < tOff cmd + n + m ∨ j.macp ≠ some false then
    s.answer uRefused
  else
    let a := j.read (tA cmd) n
    let b := j.read (tB cmd) m
    s.checked k j mism fun s =>
      let j' := { j with
        acc := (j.acc + limbs a * limbs b * 2 ^ (64 * tOff cmd)) % 2 ^ 10752
        cls := j.cls.max ((classOf a).max (classOf b))
        poison := j.poison || anyBad a || anyBad b }
      ((s.setJob k j').tileBusy j.tile ((ceilDiv (n * m) 8 + 6) * (if mism = 0 then 1 else 2))).answer
        (if j'.poison then uPoisoned else uOk)

/-- MACP (R231 to R233). -/
def State.cmdMacp (s : State) (k : Nat) (j : Job) (cmd : W64) (mism : Nat) : Answer :=
  let n := tN cmd
  let m := if tMode cmd then n else tM cmd + 1
  if n = 0 ∨ 160 < n ∨ j.has (tA cmd) n = false ∨ j.has (tB cmd) m = false ∨ 336 < tOff cmd + 2 * n ∨ j.macp ≠ some true then
    s.answer uRefused
  else
    let a := j.read (tA cmd) n
    let b := j.read (tB cmd) m
    s.checked k j mism fun s =>
      let lane (t : Tbl Nat) (i : Nat) : Tbl Nat :=
        let jdx := if tMode cmd then i else i % (2 * m)
        Tbl.put (tOff cmd + i) ((tget 0 (tOff cmd + i) t + coeff a i * coeff b jdx) % 2 ^ 64) t
      let j' := { j with
        lanes := (List.range (2 * n)).foldl lane j.lanes
        cls := j.cls.max ((classOf a).max (classOf b))
        poison := j.poison || anyBad a || anyBad b }
      ((s.setJob k j').tileBusy j.tile ((ceilDiv n 8 + 6) * (if mism = 0 then 1 else 2))).answer
        (if j'.poison then uPoisoned else uOk)

/-- RDACC (R231 to R233). -/
def State.cmdRdacc (s : State) (k : Nat) (j : Job) (cmd : W64) (mism : Nat) : Answer :=
  let c := tN cmd
  let off := tOff cmd
  let bound := if j.macp = some true then 336 else 168
  if c = 0 ∨ (j.macp = some false ∧ 168 < c) ∨ j.has (tD cmd) c = false ∨ bound < off + c ∨ j.macp = none
      ∨ (j.macp = some true ∧ tShift cmd = true) then
    s.answer uRefused
  else
    s.checked k j mism fun s =>
      let vals := (List.range c).map fun i =>
        if j.macp = some true then tget 0 (off + i) j.lanes else j.acc / 2 ^ (64 * (off + i)) % 2 ^ 64
      let j' := (j.write (tD cmd) (vals.map fun v => word (BitVec.ofNat 64 v) j.cls j.poison))
      let j' := { j' with acc := if tShift cmd then j.acc / 2 ^ (64 * (off + c)) else j.acc }
      ((s.setJob k j').tileBusy j.tile ((c + 8) * (if mism = 0 then 1 else 2))).answer (if j.poison then uPoisoned else uOk)

/-- CLR (R231). -/
def State.cmdClr (s : State) (k : Nat) (j : Job) (cmd : W64) : Answer :=
  ((s.setJob k { j with acc := 0, lanes := [], cls := .pub, poison := false, macp := some (tMode cmd) }).tileBusy j.tile 4).answer
    uOk

/-- JOPEN (R228, R237). -/
def State.cmdJopen (s : State) (k : Nat) (cmd : W64) (data : List TWord) : Answer :=
  let ws := taken 1 data
  let tenant := le 0 2 (dataBytes ws 0 1) % 4096
  if anyBad ws then s.answer uPoisoned
  else match s.tileGroupsFor tenant with
    | none => s.answer uFault
    | some gs =>
      match s.tileChoice gs (2 ^ tM cmd) with
      | some (n, b) => (s.setJob k { tile := n, base := b, size := 2 ^ tM cmd, tenant := tenant }).answer uOk
      | none =>
        if s.bgn.waiting.any fun w => w.1 == k then { st := s }
        else { st := { s with bgn := { s.bgn with waiting := s.bgn.waiting ++ [(k, tenant, tM cmd)] } } }

/-- KEYIN (R207, R231). -/
def State.cmdKeyin (s : State) (k : Nat) (j : Job) (cmd : W64) (data : List TWord) : Answer :=
  let ws := taken 2 data
  if j.diag ∨ j.has (tA cmd) 4 = false then s.answer uRefused
  else if anyBad ws then s.answer uPoisoned
  else
    { st := (s.setJob k { j with waiting := true }).kduAsk
        ⟨k, .tileWords (tA cmd), le 0 8 (dataBytes ws 0 1), le 0 8 (dataBytes ws 1 1), false, none, false⟩ }

/-- WPUT (R231); a diagnostic job's words are PUBLIC (R254). -/
def State.cmdWput (s : State) (k : Nat) (j : Job) (cmd : W64) (data : List TWord) : Answer :=
  let n := tN cmd
  let ws := taken n data
  if n = 0 ∨ 4 < n ∨ j.has (tA cmd) n = false then s.answer uRefused
  else
    let ws := if j.diag then ws.map fun w => { w with cls := .pub } else ws
    ((s.setJob k (j.write (tA cmd) ws)).tileBusy j.tile (2 + n)).answer uOk

/-- WGET (R231). -/
def State.cmdWget (s : State) (j : Job) (cmd : W64) : Answer :=
  let n := tN cmd
  if n = 0 ∨ j.has (tA cmd) n = false then s.answer uRefused
  else { st := s.tileBusy j.tile (2 + n), out := j.read (tA cmd) n, code := some uOk }

/-- A command of a core that has no job (R236): a read of the windows that its last job held, while they are cleared, gives not-valid words;
every other command is refused. Log 41, DEDUCED. -/
def State.afterJob (s : State) (k : Nat) (u : UnitCmd) : Answer :=
  match (s.coreAt k).lastJob with
  | some (n, b, size) =>
    if u.op = 12 ∧ 0 < tN u.cmd ∧ tA u.cmd + tN u.cmd ≤ 1024 * size ∧ (s.tileAt n).clearing.contains (b, size) then
      { st := s.tileBusy n (2 + tN u.cmd), out := List.replicate (tN u.cmd) notValid, code := some uOk }
    else s.answer uRefused
  | none => s.answer uRefused

/-- One tile command of a core by its OP (R231). A core without a job opens one with JOPEN; it holds at most one. -/
def State.tileRun (s : State) (k : Nat) (u : UnitCmd) : Answer :=
  let cmd := u.cmd
  match (s.coreAt k).tile with
  | none => if u.op = 8 ∧ k ≠ 96 then s.cmdJopen k cmd u.data else s.afterJob k u
  | some j =>
    match u.op with
    | 1 => s.cmdMac k j cmd u.mism
    | 2 => s.cmdMacp k j cmd u.mism
    | 3 => s.cmdRdacc k j cmd u.mism
    | 4 => s.cmdClr k j cmd
    | 9 => ((s.closeJob k).tileBusy j.tile 2).answer uOk
    | 10 => s.cmdKeyin k j cmd u.data
    | 11 => s.cmdWput k j cmd u.data
    | 12 => s.cmdWget j cmd
    | _ => s.answer uRefused

/-- A core's tile commands wait: its barge is aborted (R235), its JOPEN waits, or a KEYIN is in progress. -/
def State.tileBlocked (s : State) (k : Nat) : Bool :=
  (s.coreAt k).aborted.isSome || match (s.coreAt k).tile with
    | none => s.bgn.waiting.any fun w => w.1 == k
    | some j => j.waiting || j.closing

/-- A tile command runs with its answer (R230). -/
def State.tileIssue (s : State) (k : Nat) (u : UnitCmd) : State :=
  let a := s.tileRun k u
  match a.code with
  | some code => a.st.tileSay k a.out code
  | none => a.st

/-- At most so many commands that wait for a core's job run, in issue order, until one waits (R229). -/
def tileDrain : Nat → Nat → State → State
  | 0, _, s => s
  | n + 1, k, s =>
    if s.tileBlocked k then s
    else match (s.coreAt k).tileIn with
      | [] => s
      | u :: us => tileDrain n k ((s.setCore k { s.coreAt k with tileIn := us }).tileIssue k u)

/-- The commands that wait for a core's job run until one waits. -/
def State.drainTile (s : State) (k : Nat) : State := tileDrain (s.coreAt k).tileIn.length k s

/-- A crew core's tile command runs at once, or behind what waits (R229). -/
def State.tileCommand (s : State) (k : Nat) (u : UnitCmd) : State :=
  if s.tileBlocked k = false ∧ (s.coreAt k).tileIn = [] then s.tileIssue k u
  else (s.setCore k { s.coreAt k with tileIn := (s.coreAt k).tileIn ++ [u] }).drainTile k

/-- Every command that waits for a unit which waits no more runs. -/
def State.runUnits (s : State) : State :=
  (s.cores.map Prod.fst).foldl (fun (s : State) k => ((s.drainLane k).drainHash k).drainTile k) s

/-- MAC (R231). -/
def execMac (core : Nat) (cmd : W64) (data : List TWord) (mism : Nat) (s : State) : Host.Outcome State Fault Refusal :=
  .next (s.tileCommand core ⟨1, cmd, data, [], mism⟩)

/-- MACP (R231). -/
def execMacp (core : Nat) (cmd : W64) (data : List TWord) (mism : Nat) (s : State) : Host.Outcome State Fault Refusal :=
  .next (s.tileCommand core ⟨2, cmd, data, [], mism⟩)

/-- RDACC (R231). -/
def execRdacc (core : Nat) (cmd : W64) (data : List TWord) (mism : Nat) (s : State) : Host.Outcome State Fault Refusal :=
  .next (s.tileCommand core ⟨3, cmd, data, [], mism⟩)

/-- CLR (R231). -/
def execClr (core : Nat) (cmd : W64) (data : List TWord) (s : State) : Host.Outcome State Fault Refusal :=
  .next (s.tileCommand core ⟨4, cmd, data, [], 0⟩)

/-- JOPEN (R228). -/
def execJopen (core : Nat) (cmd : W64) (data : List TWord) (s : State) : Host.Outcome State Fault Refusal :=
  .next (s.tileCommand core ⟨8, cmd, data, [], 0⟩)

/-- JCLOSE (R236). -/
def execJclose (core : Nat) (cmd : W64) (data : List TWord) (s : State) : Host.Outcome State Fault Refusal :=
  .next (s.tileCommand core ⟨9, cmd, data, [], 0⟩)

/-- KEYIN (R231). -/
def execKeyin (core : Nat) (cmd : W64) (data : List TWord) (s : State) : Host.Outcome State Fault Refusal :=
  .next (s.tileCommand core ⟨10, cmd, data, [], 0⟩)

/-- WPUT (R231). -/
def execWput (core : Nat) (cmd : W64) (data : List TWord) (s : State) : Host.Outcome State Fault Refusal :=
  .next (s.tileCommand core ⟨11, cmd, data, [], 0⟩)

/-- WGET (R231). -/
def execWget (core : Nat) (cmd : W64) (data : List TWord) (s : State) : Host.Outcome State Fault Refusal :=
  .next (s.tileCommand core ⟨12, cmd, data, [], 0⟩)

/-- A tile is retired (R237). -/
def State.tileOut (s : State) (n : Nat) : State :=
  let s := s.setTile n { s.tileAt n with st := .retired }
  { s with bgn := { s.bgn with retired := (s.bgn.retired + 1) % 256 } }

/-- The lowest-numbered remaining spare tile. -/
def State.spareTile (s : State) : Option Nat := tileNumbers.find? fun m => decide ((s.tileAt m).st = .spare)

/-- The lowest remaining spare tile joins a group; with none left the group shrinks, and where a dedicated group has no tile any more its
tenants use the shared groups: policy overrides, which are logged (R218, R219, R237). -/
def State.tileSpare (s : State) (n g : Nat) : State :=
  match s.spareTile with
  | some m => s.setTile m { s.tileAt m with st := .active, group := g, clearing := [], tested := s.now }
  | none =>
    let s := s.logEvent .power 9 n g
    if s.tileDedicated g && !(tget {} g s.cfg.tileGroups).strict && (s.tilesOf g).isEmpty then s.logEvent .power 11 n g else s

/-- Retire a tile (R218, R219, R237): a spare takes its place, the next one where the lowest fails its self-check. Log 15,
DESIGN CHOICE. -/
def State.retireTile (s : State) (n : Nat) (sparePass : Bool) : State :=
  let g := (s.tileAt n).group
  let s := s.tileOut n
  let s := match s.spareTile with
    | some m => if sparePass then s else s.tileOut m
    | none => s
  (((s.tileSpare n g).setInt intSpare).logEvent .interface 10 n g).grantTiles

/-- JOB_CLEAR_DONE (R236): the windows become free. -/
def execJobClearDone (tile base : Nat) (s : State) : Host.Outcome State Fault Refusal :=
  let t := s.tileAt tile
  .next <|
    match t.clearing.find? fun r => r.1 == base with
    | none => s
    | some r => (((s.setTile tile { t with clearing := t.clearing.erase r }).diagTile).grantTiles).runUnits

/-- TILE_SELFTEST (R237): a tile without jobs runs its self-check; a failing or a drained one is retired, but not one whose windows are
cleared for a diagnostic job. -/
def execTileSelftest (tile : Nat) (pass sparePass : Bool) (s : State) : Host.Outcome State Fault Refusal :=
  let t := s.tileAt tile
  .next <|
    if t.serves = false ∨ s.jobsOn tile ≠ [] ∨ (s.bgn.diag.opening = true ∧ s.bgn.diag.sel = tile) then s
    else if pass = true ∧ t.st = .active then (s.setTile tile { t with tested := s.now }).grantTiles
    else s.retireTile tile sparePass

/-- BGN_DIAG_ENABLE (R254). A write of ENABLE = 1 that names no tile, or one already diagnostic, is discarded whole. Log 66, DESIGN CHOICE. -/
def execBgnDiagEnable (v : W64) (s : State) : Host.Outcome State Fault Refusal :=
  .next <|
    if s.glb.mode ≠ .drydock then s.refused 0x6 0x60800 0
    else
      let d := s.bgn.diag
      if wbit 0 v then
        let n := wbits 14 8 v
        let t := s.tileAt n
        if d.enable ∨ 26 ≤ n ∨ t.st = .diag then s
        else
          let s := s.setTile n { t with before := t.st, st := if t.st = .active then .draining else t.st }
          ({ s with bgn := { s.bgn with diag := { d with sel := n, enable := true, opening := true } } }).diagTile
      else
        let s := if d.enable then
            let s := s.closeJob 96
            let t := s.tileAt d.sel
            s.setTile d.sel { t with st := t.before }
          else s
        { s with bgn := { s.bgn with diag := { d with sel := if d.enable then d.sel else wbits 14 8 v, enable := false, opening := false } } }

/-- BGN_DIAG_CMD (R254): one command of the diagnostic job; discarded while BUSY, and with no job opened. Log 28. -/
def execBgnDiagCmd (v : W64) (mism : Nat) (s : State) : Host.Outcome State Fault Refusal :=
  .next <|
    if s.glb.mode ≠ .drydock then s.refused 0x6 0x60808 0
    else if s.bgn.diag.busy ∨ s.bgn.diag.enable = false ∨ s.bgn.diag.opening = true then s
    else
      let a := s.tileRun 96 ⟨wbits 63 60 v, v, s.bgn.diag.words, [], mism⟩
      let s := a.st
      let s := if a.code = some uFault then { s with bgn := { s.bgn with faults := s.bgn.faults + 1 } } else s
      { s with bgn := { s.bgn with diag := { s.bgn.diag with out := diagOut a.out, code := a.code.getD 0 } } }

/-! ### The end of a KDU load or STORE (R206, R207) -/

/-- Links of the public part of a serialisation (R244). -/
def publicLinks (alg size : Nat) : Nat :=
  if alg = chr "R" then size + 1
  else if alg = chr "E" then (match size with
    | 1 => 2
    | 2 => 3
    | 3 => 5
    | 4 | 6 => 1
    | _ => 2)
  else 0

/-- A delivery suits the label's ALG and, in an engine, its usage (R207, R223). -/
def State.kduSuits (s : State) (q : KduReq) (l : KLabel) : Bool :=
  match q.dest with
  | .laneSlot _ => l.alg == chr "T" || l.alg == chr "A"
  | .tileWords _ => [chr "R", chr "E", chr "M", chr "Q"].contains l.alg
  | .engine =>
    match ((s.coreAt q.who).eng.bind fun e => (s.engAt e).alg) with
    | some (alg, hmac) =>
      if hmac then l.alg == chr "H" && l.usage == usage "M7"
      else decide (12 ≤ alg) && l.alg == chr "K" && l.usage == usage "51"
    | none => false
  | .storeSlot _ _ => true

/-- How a load ends (R206, R207): a status code and the key field. -/
def State.kduResult (s : State) (q : KduReq) (disagree : Nat) (poisoned : Bool) : Nat × Bytes :=
  if s.hsh.pairs = 0 then (uFault, [])
  else match q.dest with
    | .storeSlot _ _ => if 2 ≤ disagree ∨ (disagree = 1 ∧ s.hsh.pairs = 1) then (uFault, []) else (uOk, [])
    | _ =>
      match q.read with
      | none => (uUnknown, [])
      | some r =>
        if poisoned then (uPoisoned, [])
        else if 2 ≤ disagree ∨ (disagree = 1 ∧ s.hsh.pairs = 1) then (uFault, [])
        else match s.openRec r with
          | none => (uDamaged, [])
          | some f => if s.kduSuits q r.label then (uOk, f) else (uRefused, [])

/-- A load reads the mooring (R136, R178): USES, LAST_USE, its recency and its bank's accesses. Log 41, DEDUCED. -/
def State.countUse (s : State) (h idx : Nat) : State :=
  match s.mooringOf h idx with
  | none => s
  | some (m, x) =>
    let r := { x.krec with uses := satAdd 32 x.krec.uses 1, lastUse := (s.calendarNow.getD 0) % 2 ^ 32 }
    let s := s.bankAccess m
    { s with mor := { s.mor with moorings := Tbl.put m { x with krec := r, recency := s.now } s.mor.moorings } }

/-- Delivery to a lane slot: the slot holds the key under its label; a failed load leaves it free (R203, R206). A key deleted, or whose
tenant's GEN advanced, since step 1 leaves the slot DEAD (R156, R204). -/
def State.deliverLane (s : State) (q : KduReq) (p code : Nat) (f : Bytes) : State :=
  match (s.coreAt q.who).lane, q.read with
  | some c, some r =>
    if code = uOk then
      let x : KSlot := ⟨.loaded r.label, c.tenant, f, q.dead, s.now, zeros 12, 0, classOfCode r.label.dclass⟩
      ((s.putSlot c.lane p x).setCtx q.who { c with waiting := false }).laneSay q.who [] code
    else (s.setCtx q.who { c with waiting := false, slots := c.slots.filter fun y => y.2 != p }).laneSay q.who [] code
  | some c, none =>
    (s.setCtx q.who { c with waiting := false, slots := c.slots.filter fun y => y.2 != p }).laneSay q.who [] code
  | none, _ => s

/-- STORE: the wrapped mooring joins the barge's commit (R207). -/
def State.deliverStore (s : State) (q : KduReq) (p : Nat) (label : KLabel) (code : Nat) : State :=
  match (s.coreAt q.who).lane with
  | none => s
  | some c =>
    let s := s.setCtx q.who { c with waiting := false }
    let s := match Tbl.find p (s.laneAt c.lane).slots with
      | some x =>
        if code = uOk ∧ c.closing = false then
          let k := s.coreAt q.who
          s.setCore q.who { k with stored := k.stored ++ [s.newRec label x.key] }
        else s
      | none => s
    s.laneSay q.who [] code

/-- Delivery to an engine's key register (R223). -/
def State.deliverEngine (s : State) (q : KduReq) (code : Nat) (f : Bytes) : State :=
  match (s.coreAt q.who).eng with
  | none => s
  | some e =>
    let g := s.engAt e
    let size := (q.read.map fun r => r.label.size).getD 32
    let s := s.setEng e { g with waiting := false, key := if code = uOk then some (slice 0 size f) else g.key }
    (s.engineBusy (engIndex e) 2).hashSay q.who [] code

/-- Delivery of a chain link to four job words: public links PUBLIC, private ones SECRET (R233, R244). -/
def State.deliverTile (s : State) (q : KduReq) (a code : Nat) (f : Bytes) : State :=
  match (s.coreAt q.who).tile with
  | none => s
  | some j =>
    let cls := match q.read with
      | some r => if q.idx < publicLinks r.label.alg r.label.size then SecClass.pub else SecClass.secret
      | none => SecClass.secret
    let j := { j with waiting := false }
    (s.setJob q.who (if code = uOk then j.write a (wordsOf f cls) else j)).tileSay q.who [] code

/-- The request a pair finishes next: the oldest started one; with no pair left, the oldest. -/
def State.kduHead (s : State) : Option KduReq :=
  if s.hsh.pairs = 0 then s.hsh.queue.head? else s.hsh.queue.find? KduReq.started

/-- KDU pairs in service (R225). -/
def State.kduPairs (s : State) : List Nat := (List.range 4).filter fun p => decide ((s.engAt (32 + 2 * p)).st = .active)

/-- KDU_LOAD_DONE (R205 to R207, R225): the oldest load ends with its status; the pair takes the next request, and what waited for the
load goes on. Which pair ran it is open (log 20). Log 15, DESIGN CHOICE. Log 41. -/
def execKduLoadDone (disagree : Nat) (poisoned : Bool) (s : State) : Host.Outcome State Fault Refusal :=
  .next <|
    match s.kduHead with
    | none => s
    | some q =>
      let res := s.kduResult q disagree poisoned
      let pick := s.freshNat
      let ps := s.kduPairs
      let s := match ps[pick.1 % ps.length]? with
        | some p => (pick.2.engineBusy (100 + 2 * p) 533).engineBusy (101 + 2 * p) 533
        | none => pick.2
      let s := { s with hsh := { s.hsh with
        queue := s.hsh.queue.erase q
        loads := s.hsh.loads + 1
        damaged := if res.1 = uDamaged then satAdd 32 s.hsh.damaged 1 else s.hsh.damaged
        mismatch := satAdd 32 s.hsh.mismatch (min disagree 2) } }
      let s := if res.1 = uOk then s.countUse q.handle q.idx else s
      let s := match q.dest with
        | .laneSlot p => s.deliverLane q p res.1 res.2
        | .storeSlot p l => s.deliverStore q p l res.1
        | .engine => s.deliverEngine q res.1 res.2
        | .tileWords a => s.deliverTile q a res.1 res.2
      (kduStartAll 4 (((s.settleLane q.who).settleEng q.who).settleJob q.who)).runUnits

end Sys2Proof.Machine
end

