-- ==== Sys2Proof/Machine/Moorings.lean ====
section
/-! DEFINITION. Moorings and paging (07_moorings_and_cargo.md R169 to R186): tugs, returns of page-ins, dropped and moved moorings,
drives and the sectors they return (R288, R289), and the pending pin table (R177). -/

namespace Sys2Proof.Machine

/-! ### Page-ins (R171 to R178, R182) -/

/-- The lines of a handle's set that step 1 of R172 reads: the tag line and the record lines of its links, as (offset, lines). -/
def State.cacheSpans (s : State) (m : MemCfg) (h : Nat) : List (Nat × Nat) :=
  let base := m.cacheBase + 1600 * s.cacheSet h
  (base, 1) :: (s.mor.cache.filter fun x => x.krec.label.handle == h).map fun x => (base + 64 + 96 * x.way, 2)

/-- The DRAM offset of a record's slot in the volatile hold (R185, R193): the layout's buckets and overflow sectors from its base. -/
def State.holdSlot (s : State) (m : MemCfg) (h idx : Nat) : Nat :=
  let slot := Config.storeSlot h idx
  m.holdBase + 4096 * (s.pageLba h (slot / 42) - s.bucketsBase) + 96 * (slot % 42)

/-- The lines that hold a handle's records in the volatile hold, which step 2 of R172 reads (R193). -/
def State.holdSpans (s : State) (m : MemCfg) (h : Nat) : List (Nat × Nat) :=
  let n := match Tbl.find h s.mor.store with
    | some (.key ls) => ls.length
    | some .tombstone => 1
    | none => 0
  (List.range n).map fun i => (s.holdSlot m h i, ceilDiv (s.holdSlot m h i % 64 + 96) 64)

/-- The lines of some spans are read and verified in order. -/
def readSpans (kd : Nat) (r : DramReturn) : List (Nat × Nat) → State → DramGot × State
  | [], s => (.good, s)
  | (off, n) :: rest, s =>
    match State.unitRead kd r n off s with
    | (.good, s) => readSpans kd r rest s
    | bad => bad

/-- Step 1 of R172: the cargo-cache lines of a handle are read; verified where no MEMORY record is loaded. -/
def State.cacheRead (s : State) (h : Nat) (r : DramReturn) : DramGot × State :=
  match s.cfg.mem with
  | none => (.good, s)
  | some m => readSpans m.cacheKd r (s.cacheSpans m h) s

/-- Step 2 of R172 from the volatile hold (R193): its written lines are read. -/
def State.holdRead (s : State) (h : Nat) (r : DramReturn) : DramGot × State :=
  match s.cfg.mem with
  | none => (.good, s)
  | some m => readSpans m.holdKd r (s.holdSpans m h) s

/-- A page-in whose cached copy is no source goes on at step 2 (R172, R175): from a drive it reads the bucket sector. -/
def State.pageMiss (s : State) (h : Nat) : State :=
  let s := { s with mor := { s.mor with cache := dropCached h s.mor.cache } }
  if s.driveStore then s.readSector h 0 (s.bucketLba h) none none else s

/-- The head record of cached links passes step 4 of R172. -/
def headOk (h : Nat) (ls : List (KRec × Bool)) : Bool :=
  match ls with
  | (r, _) :: _ => recChecks h r
  | [] => false

/-- A page-in at its lookup (R172): the cargo cache's record where its lines verify and it passes step 4, else the store's. An uncorrectable
line is no source of the record (R175). Log 63, DEDUCED. -/
def State.pageLookup (s : State) (h : Nat) (r : DramReturn) : State :=
  match s.cachedLinks h with
  | some ls =>
    match s.cacheRead h r with
    | (.broken, s) => s
    | (.poisoned, s) => s.pageMiss h
    | (.good, s) =>
      if headOk h ls then ({ s with mor := { s.mor with pageCache := s.mor.pageCache + 1 } }).pageInstall h ls else s.pageMiss h
  | none =>
    if s.volatileStore then
      match s.holdRead h r with
      | (.broken, s) => s
      | (.poisoned, s) => ({ s with mor := { s.mor with pageStore := s.mor.pageStore + 1 } }).pageDamaged h
      | (.good, s) => ({ s with mor := { s.mor with pageStore := s.mor.pageStore + 1 } }).pageFromStore h
    else if s.driveStore then s.readSector h 0 (s.bucketLba h) none none
    else s

/-- PAGE_IN_RETURN (R172, R173, R175): the page-in returns from the cargo cache, from the volatile hold, or with what the store holds once
all the sectors of its chain have been read; an OFFLINE store, or a STOPPED cargo port, lets no page-in return that reaches step 2.
Log 63. -/
def execPageInReturn (handle : Nat) (r : DramReturn) (s : State) : Host.Outcome State Fault Refusal :=
  .next <|
    match s.mor.pageIns.find? fun p => p.handle == handle with
    | none => s
    | some p =>
      match p.stage with
      | .lookup => s.pageLookup handle r
      | .read spoiled =>
        if s.pwr.stopped.contains 0x2B then s
        else
          let s := { s with mor := { s.mor with pageStore := s.mor.pageStore + 1 } }
          if spoiled then s.pageDamaged handle else s.pageFromStore handle
      | _ => s

/-- MOORING_WAIT_RETRY (R178): tried again at each release of a lock. -/
def execMooringWaitRetry (handle : Nat) (s : State) : Host.Outcome State Fault Refusal :=
  .next <|
    match s.mor.pageIns.find? fun p => p.handle == handle with
    | some ⟨_, .mooringWait, _⟩ =>
      match (s.cachedLinks handle).or ((s.storeLinks handle).map fun ls => ls.map fun r => (r, false)) with
      | some ls => s.pageInstall handle ls
      | none => s.pageReturn handle .absent
    | _ => s

/-- CACHE_FILL_RETRY (R182): the fill proceeds when a page-in of its set has returned. -/
def execCacheFillRetry (handle : Nat) (s : State) : Host.Outcome State Fault Refusal :=
  .next <|
    match s.mor.pageIns.find? fun p => p.handle == handle with
    | some ⟨_, .cacheWait, _⟩ => s.pageFromStore handle
    | _ => s

/-- Drop every mooring of a handle. -/
def State.dropMoorings (s : State) (h : Nat) : State :=
  { s with mor := { s.mor with moorings := s.mor.moorings.filter fun p => decide (p.2.krec.label.handle ≠ h) } }

/-- MOORING_ECC_ERROR (R175): the key leaves the moorings; where its counter had gone past the cached copy, that copy goes too, so
that the next page-in takes the durable lease end (R181). Log 40, DEDUCED. -/
def execMooringEccError (m : Nat) (s : State) : Host.Outcome State Fault Refusal :=
  .next <|
    match Tbl.find m s.mor.moorings with
    | none => s
    | some x =>
      let h := x.krec.label.handle
      let head := ((s.mooringOf h 0).map (·.2)).getD x
      let stale := match s.cached h 0 with
        | some c => head.leased || c.krec.nonceCtr != head.krec.nonceCtr
        | none => false
      let s := s.dropMoorings h
      let s := { s with mor := { s.mor with
        cache := if stale then dropCached h s.mor.cache else s.mor.cache
        eccRefetch := satAdd 16 s.mor.eccRefetch 1 } }
      s.logEvent .interface 11 m h

/-- MOORING_MOVE (R179): to a free mooring of a bank of lower pressure, unless a key load reads it. -/
def execMooringMove (m bank : Nat) (s : State) : Host.Outcome State Fault Refusal :=
  .next <|
    match Tbl.find m s.mor.moorings, s.freeIn bank with
    | some x, some n =>
      if tget 0 bank s.mor.bankLast < tget 0 (bankOf m) s.mor.bankLast ∧ s.loading x.krec.label = false then
        let s := (s.bankAccess m).bankAccess n
        { s with mor := { s.mor with moorings := Tbl.put n x (Tbl.del m s.mor.moorings) } }
      else s
    | _, _ => s

/-! ### Tugs and host buffers (R40, R169, R386, R387) -/

/-- A page-in goes to another tug of its group, or waits for one (R169). -/
def State.retug (s : State) (h : Nat) : State :=
  let set (f : PageIn → PageIn) : State :=
    { s with mor := { s.mor with pageIns := s.mor.pageIns.map fun q => if q.handle = h then f q else q } }
  match s.freeTug 12 4 with
  | some t => set fun q => { q with tug := some t }
  | none => set fun q => { q with stage := .waitTug, tug := none }

/-- A tug leaves its group (R169): its transfers go to other tugs. -/
def State.loseTug (s : State) (tug : Nat) : State :=
  let s := { s with
    mor := { s.mor with tugsOut := s.mor.tugsOut ++ [tug] }
    cores := s.cores.map fun (p : Nat × Core) => (p.1, if p.2.tug = some tug then { p.2 with tug := none } else p.2) }
  (s.mor.pageIns.filter fun p => decide (p.tug = some tug)).foldl (fun (s : State) (p : PageIn) => s.retug p.handle) s

/-- TUG_SELFCHECK_FAIL (R169). Log 15, DESIGN CHOICE. -/
def execTugSelfcheckFail (tug : Nat) (s : State) : Host.Outcome State Fault Refusal :=
  .next <|
    if s.wharf.pcieUp = false ∧ s.glb.mode = .sentry then s
    else if s.mor.tugsOut.contains tug then s
    else ((s.loseTug tug).setInt intSpare).logEvent .interface 12 tug 0

/-- The tug that carries the host-buffer transfer of core k (R169): the one it went to, or where none was free then, one that is free
now. -/
def State.hostTug (s : State) (k : Nat) : Option Nat := (s.coreAt k).tug.or (s.freeTug 0 12)

/-- Commits wait for a group write; the 8 µs run from the tick in which the first of them was gathered (R189). -/
def State.regather (s : State) (cs : List Commit) : State :=
  { s with mor := { s.mor with gathered := cs, gatherFrom := cs.head?.map Commit.joined } }

/-- The commits not yet begun lose those of a barge, and the words they reserved (R432). -/
def State.dropCommit (s : State) (i : Nat) : State :=
  let gone := (s.mor.gathered.filter fun c => decide (c.barge = some i)).map Commit.logWords
  { s with
    log := { s.log with reserved := s.log.reserved - gone.sum }
    brv := { s.brv with awaiting := s.brv.awaiting.filter fun p => decide (p.1.barge ≠ some i) } }
  |>.regather (s.mor.gathered.filter fun c => decide (c.barge ≠ some i))

/-- A barge on a core ends with a status without output; a commit of it that has not begun is dropped. -/
def State.failOn (s : State) (k i status : Nat) : State := (s.dropCommit i).stopJob k status

/-- TUG_TRANSFER_DONE of a read: the input buffer's bytes reach the core (R40, R386). -/
def State.tugRead (s : State) (k i : Nat) (e : Entry) (r : XferReturn) : State :=
  let fn := (s.ringCfg e.ring).func
  let c := s.coreAt k
  match s.hostTug k with
  | none => s
  | some t =>
    match s.gateCheck (96 + t) .read (hostAddr e.b.inAddr) e.b.inLen [] with
    | some bad => (s.refuse (96 + t) .read bad).failOn k i stBadPointer
    | none =>
      if s.wharf.bme.contains fn = false ∨ s.wharf.pcieUp = false then s.failOn k i stBadPointer
      else
        let s := s.emit (.hostRead fn e.b.inAddr e.b.inLen)
        match r with
        | .ok bs => s.setCore k { c with input := some (fixLen e.b.inLen bs), tug := none }
        | .error =>
          ({ s with wharf := { s.wharf with timeouts := satAdd 16 s.wharf.timeouts 1 } }).failOn k i stBadPointer
        | .poisoned =>
          ({ s with wharf := { s.wharf with poisoned := satAdd 16 s.wharf.poisoned 1 } }).failOn k i stPoisoned

/-- TUG_TRANSFER_DONE of a write: the output bytes leave for the output buffer; for a ring under FLR they are discarded (R387). -/
def State.tugWrite (s : State) (k i : Nat) (e : Entry) (out : Bytes) : State :=
  let fn := (s.ringCfg e.ring).func
  let c := s.coreAt k
  match s.hostTug k with
  | none => s
  | some t =>
    match s.gateCheck (96 + t) .write (hostAddr e.b.outAddr) out.length (wordsOf out .pub) with
    | some bad => (s.refuse (96 + t) .write bad).failOn k i stBadPointer
    | none =>
      if (s.ringAt e.ring).flr then s.setCore k { c with written := true, tug := none }
      else if s.wharf.bme.contains fn = false ∨ s.wharf.pcieUp = false then s.failOn k i stBadPointer
      else (s.setCore k { c with written := true, tug := none }).emit (.hostWrite fn e.b.outAddr out)

/-- TUG_TRANSFER_DONE (R40, R386, R387): for the barge of a PCIe ring on a core, its input read or its output write.
Log 17, DESIGN CHOICE. -/
def execTugTransferDone (core : Nat) (write : Bool) (r : XferReturn) (s : State) : Host.Outcome State Fault Refusal :=
  .next <|
    let c := s.coreAt core
    match c.job.bind fun i => (s.entryAt i).map fun e => (i, e) with
    | none => s
    | some (i, e) =>
      if e.b.buf = false ∨ e.origin.isSome = true ∨ (s.ringCfg e.ring).transport ≠ 0 then s
      else if write then
        match c.res with
        | some o =>
          match o.out with
          | some out => if c.written then s else s.tugWrite core i e out
          | none => s
        | none => s
      else if c.input.isSome ∨ c.res.isSome ∨ e.b.inLen = 0 then s
      else s.tugRead core i e r

/-! ### Drives (R186, R388) -/

/-- A state change of the store is logged (R186). -/
def State.setStore (s : State) (st : StoreState) : State :=
  if s.mor.storeSt = st then s
  else ({ s with mor := { s.mor with storeSt := st } }).logEvent .interface 13 s.mor.storeSt.code st.code

/-- A device withdraws (R408): it stops admission and fails the barges it holds for forwarding; the members are told. -/
def State.withdraw (s : State) : State :=
  let s := { s with brv := { s.brv with st := .withdrawn } }
  let s := (List.range 64).foldl (fun (s : State) d =>
    if s.isMember d ∧ d ≠ s.index then s.sendTo 0x04 0 d [BitVec.ofNat 8 s.index, 1] else s) s
  ((s.lkm.tbl.filter fun x => match x.2.ph with
    | .forwarded _ => true
    | .queued _ => x.2.origin.isNone && (match s.runsAt x.2.tenant x.2.b x.2.input with
      | .device _ => true
      | _ => false)
    | _ => false).map Prod.fst).foldl (fun (s : State) (i : Nat) => s.failBarge i stDeviceLost) s

/-- A commit fails: its barge ends with a status, the contexts that wait for its lease with a unit status. A commit that a replica holds
already makes the device withdraw, and its barge ends DEVICE_LOST (R414). -/
def State.failCommit (s : State) (c : Commit) (status unit : Nat) : State :=
  let s := { s with log := { s.log with reserved := s.log.reserved - c.logWords } }
  match c.barge with
  | some i =>
    let s := if c.replicated then s.withdraw else s
    match s.entryAt i with
    | some e =>
      let s := s.setEntry i { e with committing := false }
      match e.ph with
      | .running k => s.stopJob k (if c.replicated then stDeviceLost else status)
      | _ => s
    | none => s
  | none =>
    s.cores.foldl (fun (s : State) p =>
      match p.2.lane with
      | none => s
      | some x =>
        match x.nonceWaits.bind fun w => s.ctxSlot x w.1 with
        | none => s
        | some (_, sl) =>
          if c.changes.any fun ch => match ch with
              | .lease h _ => decide (sl.handle = some h)
              | _ => false then
            (((s.setCtx p.1 { x with nonceWaits := none }).laneSay p.1 [] unit).settleLane p.1).drainLane p.1
          else s) s

/-- A commit that the store cannot take fails CARGO_OFFLINE (R181, R192). -/
def State.offlineCommit (s : State) (c : Commit) : State := s.failCommit c stCargoOffline uOffline

/-- The store goes OFFLINE: no drive remains (R186, R192). Commits gathered and in flight fail; what of those in flight reached a drive, a
later LAUNCH finds in the journal. -/
def State.storeOffline (s : State) : State :=
  let cs := s.mor.flight ++ s.mor.gathered
  let s := { s with mor := { s.mor with
    journal := s.mor.journal ++ s.mor.flight, flight := [], gathered := [], gatherFrom := none, awaiting := 0, rebuildFrom := none } }
  cs.foldl (fun (s : State) c => s.offlineCommit c) (s.setStore .offline)

/-- A drive is dropped (R186): the store degrades, or goes OFFLINE with the last one. Its acknowledgement is no longer waited
for, and the reads outstanding on it go to the other drive. -/
def State.dropDrive (s : State) (d : Nat) : State :=
  let x := s.drive d
  if x.inService = false ∧ s.mor.storeSt ≠ .rebuilding then s
  else
    let s := s.setDrive d { x with inService := false, fails := 0 }
    let s := { s with mor := { s.mor with
      awaiting := s.mor.awaiting &&& ~~~(BitVec.ofNat 2 (2 ^ d)), rebuildFrom := none } }
    if s.driveStore = false then s
    else if s.drivesIn = [] then s.storeOffline.reissueReads d
    else (s.setStore .degraded).reissueReads d

/-- A failed command of a drive; the second in a row drops it (R186). The reads outstanding on it are issued again, of a mirror on the other
drive. -/
def State.driveCommandFailed (s : State) (d : Nat) : State :=
  let x := s.drive d
  if 1 ≤ x.fails then s.dropDrive d else (s.setDrive d { x with fails := x.fails + 1 }).reissueReads d

/-- The link of a seated drive trains (R388): at generation 3 or 4 up to the IFACE limit; which, the spec leaves open (log 20).
Log 54, DESIGN CHOICE. -/
def State.cargoTrains (s : State) (d : Nat) : State :=
  let n := s.freshNat
  let top := (s.cfg.iface.map (·.cargoGen)).getD 3
  let g := 3 + n.1 % (top - 2)
  let s := n.2
  if d = 0 then { s with wharf := { s.wharf with genA := g } } else { s with wharf := { s.wharf with genB := g } }

/-- DRIVE_FAIL (R186): a drive leaves the link or has failed a command twice. -/
def execDriveFail (drive : Nat) (s : State) : Host.Outcome State Fault Refusal := .next (s.dropDrive drive)

/-- NVME_COMMAND_TIMEOUT (R388): the command is aborted and counts as failed. -/
def execNvmeCommandTimeout (drive : Nat) (s : State) : Host.Outcome State Fault Refusal :=
  .next <|
    if (s.drive drive).inService then
      let s := { s with wharf := { s.wharf with cmdTimeouts := satAdd 32 s.wharf.cmdTimeouts 1 } }
      (s.emit (.nvme drive 3 0 0)).driveCommandFailed drive
    else s

/-- Sectors of a level of the generation tree (R290): level 1 covers the layout's sectors, each higher one 512 sectors of the level
below. -/
def genLevels (n : Nat) : Nat → List Nat
  | 0 => []
  | fuel + 1 => let m := ceilDiv n 512
    if m ≤ 1 then [1] else m :: genLevels m fuel

/-- Sectors of the store layout: the buckets and overflow sectors end it but for the generation area (R184, R290). -/
def State.layoutEnd (s : State) : Nat := s.bucketsBase + s.bucketCount + s.bucketCount / 8

/-- The LBA of the first generation sector of a level, from 1 (R290). -/
def State.genBase (s : State) (level : Nat) : Nat := s.layoutEnd + ((genLevels s.layoutEnd 8).take (level - 1)).sum

/-- The LBA of root copy A or B (R290): the root of the generation tree is the one sector of its top level, kept twice. -/
def State.rootLba (s : State) (b : Bool) : Nat := s.layoutEnd + (genLevels s.layoutEnd 8).sum - 1 + (if b then 1 else 0)

/-- Sectors of the whole layout with its generation area. -/
def State.storeSectors (s : State) : Nat := s.rootLba true + 1

/-- The KIND of an LBA's area (R184, R288). -/
def State.sectorKind (s : State) (lba : Nat) : Nat :=
  let outs := 262146 + 2 ^ (s.cfg.mem.map (·.outcomeLog)).getD 0
  if lba < 2 then 1
  else if lba < 262146 then 2
  else if lba < outs then 3
  else if lba < s.bucketsBase then 4
  else if lba < s.bucketsBase + s.bucketCount then 5
  else if lba < s.layoutEnd then 6
  else 7

/-- The GEN of an LBA (R290): formatting has written every sector in checkpoint 1; journal LBAs are entered as 0. -/
def State.genOf (s : State) (lba : Nat) : Nat := if s.sectorKind lba = 2 then 0 else tget 1 lba s.mor.gens

/-- The drives a store write goes to (R186): those in service, and the replacement while the store is REBUILDING. -/
def State.writeDrives (s : State) : List Nat :=
  [0, 1].filter fun d => (s.drive d).inService || (s.mor.storeSt == .rebuilding && (s.drive d).present)

/-- REBUILD_COMPLETE (R186, R287): every sector has been read from the healthy drive and written, encrypted anew, to the replacement, which is
in service from now on. Log 40, DEDUCED. -/
def execRebuildComplete (s : State) : Host.Outcome State Fault Refusal :=
  .next <|
    if s.mor.storeSt = .rebuilding then
      let n := s.storeSectors
      let copy := (s.drivesIn.map fun d => Emit.nvme d 0 0 n)
        ++ ((s.writeDrives.filter fun d => !(s.drive d).inService).map fun d => Emit.nvme d 1 0 n)
      let s := { s with
        mor := { s.mor with
          rebuildFrom := none
          driveA := { s.mor.driveA with inService := s.mor.driveA.inService || s.mor.driveA.present }
          driveB := { s.mor.driveB with inService := s.mor.driveB.inService || s.mor.driveB.present } }
        slu := { s.slu with
          sectorReads := s.slu.sectorReads + BitVec.ofNat 32 n, sectorWrites := s.slu.sectorWrites + BitVec.ofNat 32 n } }
      (s.emits copy).setStore .online
    else s

/-- The cargo key set of a sector of a drive: the new one below the progress LBA of a version migration (R287, R323). -/
def State.sectorKeys (s : State) (d lba : Nat) : Bytes :=
  match s.root.crNew with
  | some c => if lba < s.migrated then cargoKeys c (s.drive d).nguid d else (s.drive d).keys.getD []
  | none => (s.drive d).keys.getD []

/-- The TAG of a sector (R288): LBA, metadata bytes 16 to 63, ciphertext. -/
def sectorTag (keys : Bytes) (lba gen kind : Nat) (rest cipher : Bytes) : Bytes :=
  Config.kmac256 (slice 64 32 keys) (toLE 8 lba ++ (toLE 8 gen ++ toLE 1 kind ++ fixLen 39 rest) ++ fixLen 4096 cipher) 128
    (ascii "LT7200-SECTOR")

/-- A sector of a drive verifies but for its GEN (R288, R289): its TAG, the KIND of its area, and metadata bytes 25 to 63 zero. -/
def State.sectorGood (s : State) (d lba : Nat) (cipher tag : Bytes) (gen kind : Nat) (rest : Bytes) : Bool :=
  decide (sectorTag (s.sectorKeys d lba) lba gen kind rest cipher = fixLen 16 tag) && kind == s.sectorKind lba && allZero (fixLen 39 rest)

/-- A sector that a drive returned verifies with some GEN and its area's KIND (R289): its plaintext's ciphertext and the GEN. -/
def State.verified (s : State) (d lba : Nat) : SectorReturn → Option (Bytes × Nat)
  | .sector cipher tag gen kind rest => if s.sectorGood d lba cipher tag gen kind rest then some (cipher, gen) else none
  | .commandError => none

/-- The plaintext of a sector (R287): one XTS data unit, numbered by the LBA. -/
def State.sectorPlain (s : State) (d lba : Nat) (cipher : Bytes) : Bytes :=
  Config.xtsDec (slice 0 64 (s.sectorKeys d lba)) lba (fixLen 4096 cipher)

/-- The records in the used slots of a bucket or overflow sector (R185). -/
def sectorRecs (plain : Bytes) : List KRec :=
  ((List.range 42).filter fun i => bitOf i (le 4048 6 plain)).map fun i => recOfBytes (slice (96 * i) 96 plain)

/-- The overflow LBA of a bucket or overflow sector; 0: none (R185). -/
def sectorNext (plain : Bytes) : Nat := le 4040 8 plain

/-- A slot is a tombstone: its label holds only HANDLE and every other byte is zero (R185). -/
def KRec.isTombstone (r : KRec) : Bool := allZero (r.bytes.take 8 ++ r.bytes.drop 16)

/-- A commit since the last checkpoint changes a handle's records: its bucket is older than the store's content (R189). -/
def State.uncheckpointed (s : State) (h : Nat) : Bool :=
  s.mor.journal.any fun c => c.changes.any fun ch => match ch with
    | .put (r :: _) => r.label.handle == h
    | .delete g => g == h
    | _ => false

/-- A sector holds a head record of a handle that fails step 4 of R172. -/
def State.spoils (s : State) (h : Nat) (plain : Bytes) : Bool :=
  !s.uncheckpointed h
    && (sectorRecs plain).any fun r => r.label.handle == h && r.label.chainIdx == 0 && !r.isTombstone && !recChecks h r

/-- A sector of a page-in is released (R172, R175, R289): a record that fails in it is read again from the other drive of a mirror, where
that has not failed too; else the chain's next sector is read, or its sectors are all read. -/
def State.takeSector (s : State) (h n drive : Nat) (lba : Nat) (tried : Option Nat) (plain : Bytes) : State :=
  let s := { s with slu := { s.slu with sectorReads := s.slu.sectorReads + 1 } }
  if s.spoils h plain then
    if tried = none ∧ 2 ≤ s.drivesIn.length then s.readSector h n lba (some drive) (some drive)
    else s.setStage h (.read true)
  else if sectorNext plain = 0 then s.setStage h (.read false)
  else s.readSector h (n + 1) (sectorNext plain) none tried

/-- SECTOR_READ_DONE (R186, R283, R288, R289): a page-in's sector is released once TAG, KIND and GEN verify; a failure is an
INTEGRITY event; a command error counts against the drive and the sector is read again, from the other drive of a mirror.
Log 13, DESIGN CHOICE. -/
def execSectorReadDone (handle drive lba : Nat) (r : SectorReturn) (s : State) : Host.Outcome State Fault Refusal :=
  .next <|
    match s.mor.pageIns.find? fun p => p.handle == handle with
    | some ⟨_, .reading n at_ on tried, _⟩ =>
      if at_ ≠ lba ∨ on ≠ drive ∨ (s.drive drive).inService = false ∨ s.driveStore = false ∨ s.slu.stopped = true then s
      else match r with
        | .commandError => s.driveCommandFailed drive
        | .sector cipher tag gen kind rest =>
          let s := s.setDrive drive { s.drive drive with fails := 0 }
          if s.sectorGood drive lba cipher tag gen kind rest = false then s.integrity 2 2 lba 0
          else if gen ≠ s.genOf lba then s.integrity 4 2 lba 0
          else s.takeSector handle n drive lba tried (s.sectorPlain drive lba cipher)
    | _ => s

/-! ### The pending pin table (R177) -/

/-- Edit the pending pin table; discarded unless the pin-table function is STOPPED with its pending copy open. -/
def State.editPins (s : State) (f : List Nat → List Nat) : State :=
  match s.pwr.pend with
  | some (fn, m) =>
    if fn = 0x3B ∧ s.pwr.stopped.contains 0x3B = true then
      { s with pwr := { s.pwr with pend := some (fn, { m with pins := f m.pins }) } }
    else s
  | none => s

/-- PIN_ADD (R177). -/
def execPinAdd (s : State) : Host.Outcome State Fault Refusal :=
  let h := s.mor.pinHandle.toNat
  .next (s.editPins fun ps => if ps.contains h then ps else ps ++ [h])

/-- PIN_REMOVE (R177). -/
def execPinRemove (s : State) : Host.Outcome State Fault Refusal :=
  .next (s.editPins fun ps => ps.filter fun x => x != s.mor.pinHandle.toNat)

end Sys2Proof.Machine
end

