-- ==== Sys2Proof/Machine/Commits.lean ====
section
/-! DEFINITION. Commits (02_barges_and_rings.md R60; 07_moorings_and_cargo.md R181, R189 to R193): what a change does, replication to
other devices (17_broviry_cluster.md R407, R414), the journal's group writes and the volatile hold, leases, and checkpoints
(11_inline_memory_encryption.md R290). -/

namespace Sys2Proof.Machine

/-! ### The size of a commit and the store's limits (R184, R189, R191) -/

/-- Bytes of a change in its commit (R189). -/
def Change.bytes : Change → Nat
  | .put ls => 96 * ls.length
  | .delete _ => 96
  | .tenant _ _ => 32
  | .officer _ _ => 128
  | .lease _ _ => 96
  | .discardPermits _ => 0
  | .discardOfficerPermits _ => 0
  | .ackLog _ => 0
  | .calendar _ _ => 0

/-- Whole journal sectors of a commit (R189). -/
def commitSectors (cs : List Change) (logWords : Nat) : Nat := ceilDiv (64 + (cs.map Change.bytes).sum + 8 * logWords) 4096

/-- Commits built and without their commit tick (MOR_JOURNAL.PENDING). -/
def State.pendingCommits (s : State) : List Commit := s.mor.gathered ++ s.mor.flight ++ s.brv.awaiting.map Prod.fst

/-- Records and tombstones a store entry takes. -/
def StoreEntry.size : StoreEntry → Nat
  | .key ls => ls.length
  | .tombstone => 1

/-- Records and tombstones that changes add. -/
def Change.adds : Change → Nat
  | .put ls => ls.length
  | _ => 0

/-- Records and tombstones the store holds or is about to (R184). -/
def State.storeCount (s : State) : Nat :=
  (s.mor.store.map fun p => p.2.size).sum + (s.pendingCommits.map fun c => (c.changes.map Change.adds).sum).sum

/-- n more records fit below 32 × 2^b (R184). -/
def State.storeRoom (s : State) (n : Nat) : Bool := decide (s.storeCount + n ≤ 32 * s.bucketCount)

/-- Outcome entries that may not be overwritten: the current epoch and the two before it (R191). -/
def State.retained (s : State) : Nat := s.mor.outcomes.countP fun o => decide (s.pwr.epoch ≤ o.epoch + 2)

/-- Entries of the outcome area (R184). -/
def State.outcomeCap (s : State) : Nat := 128 * 2 ^ (s.cfg.mem.map (·.outcomeLog)).getD 0

/-- The outcome area has room for one more commit beside those on their way and that of a migration that has begun (R191). -/
def State.outcomeRoom (s : State) : Bool :=
  decide (s.retained + s.pendingCommits.length + (if s.kwm.migration.isSome then 1 else 0) < s.outcomeCap)

/-- Keys of a tenant in the cargo levels, with those about to be added (KEY_QUOTA). -/
def State.keyCount (s : State) (t : Nat) : Nat :=
  (s.mor.store.countP fun p => handleTenant p.1 == t && match p.2 with
    | .key _ => true
    | .tombstone => false)
    + (s.pendingCommits.map fun c => c.changes.countP fun ch => match ch with
      | .put (r :: _) => handleTenant r.label.handle == t
      | _ => false).sum

/-- KEY_QUOTA leaves room for n more keys of a tenant (R142). -/
def State.quotaRoom (s : State) (t n : Nat) : Bool :=
  decide ((s.tenantAt t).keyQuota = 0) || decide (s.keyCount t + n ≤ (s.tenantAt t).keyQuota)

/-! ### Sealing for another device (R407, R414); the layout of a sealed commit is the model's (log 21) -/

/-- One change as bytes, with key fields opened. Log 21, DESIGN CHOICE. -/
def State.changeBytes (s : State) : Change → Bytes
  | .put ls => toLE 1 1 ++ toLE 2 ls.length ++ ls.flatMap fun r =>
      r.label.bytes ++ fixLen 32 ((s.openRec r).getD []) ++ toLE 8 r.nonceCtr
  | .delete h => toLE 1 2 ++ toLE 8 h
  | .tenant t e => toLE 1 3 ++ toLE 2 t
      ++ toLE 1 (match e.st with
        | .free => 0
        | .active => 1
        | .deleting => 2)
      ++ toLE 4 e.gen ++ toLE 1 ((if e.f4Downgrade then 1 else 0) + (if e.exportS then 2 else 0) + (if e.deviceAdmin then 4 else 0))
      ++ toLE 4 e.keyQuota
  | .officer n o => toLE 1 4 ++ toLE 2 n ++ toLE 2 o.tenant ++ toLE 1 o.roles.toNat ++ fixLen 57 o.key
      ++ toLE 1 (match o.st with
        | .free => 0
        | .active => 1
        | .revoked => 2)
  | .lease h x => toLE 1 5 ++ toLE 8 h ++ toLE 8 x
  | .discardPermits t => toLE 1 6 ++ toLE 2 t
  | .discardOfficerPermits n => toLE 1 7 ++ toLE 2 n
  | .ackLog _ => []
  | .calendar b k => toLE 1 8 ++ toLE 4 b ++ toLE 8 k

/-- A commit as bytes: its header of R60 with the identification its acknowledgement returns, then its changes. Log 21, DESIGN CHOICE. -/
def State.commitBytes (s : State) (c : Commit) : Bytes :=
  toLE 8 c.number ++ toLE 8 c.epoch ++ toLE 1 c.head ++ toLE 2 c.ring ++ toLE 4 c.seq ++ toLE 2 c.opcode ++ toLE 8 c.handle
    ++ toLE 8 c.time ++ toLE 2 c.tenant ++ c.changes.flatMap s.changeBytes

/-- A key record as a replica reads it from a sealed commit: its label, key field and S, wrapped under its own root (R407). -/
def State.recOf (s : State) (bs : Bytes) : KRec :=
  { s.newRec (labelOfBytes (bs.take 32)) (slice 32 32 bs) with nonceCtr := le 64 8 bs }

/-- The changes that bytes spell, at most `fuel` of them. -/
def State.changesOf (s : State) : Nat → Bytes → List Change
  | 0, _ => []
  | fuel + 1, bs =>
    match le 0 1 bs with
    | 1 =>
      let n := le 1 2 bs
      .put ((List.range n).map fun i => s.recOf (slice (3 + 72 * i) 72 bs)) :: s.changesOf fuel (bs.drop (3 + 72 * n))
    | 2 => .delete (le 1 8 bs) :: s.changesOf fuel (bs.drop 9)
    | 3 =>
      let st := match le 3 1 bs with
        | 0 => TenantState.free
        | 1 => TenantState.active
        | _ => TenantState.deleting
      let f := le 8 1 bs
      .tenant (le 1 2 bs) { st := st, gen := le 4 4 bs, f4Downgrade := bitOf 0 f, exportS := bitOf 1 f,
                            deviceAdmin := bitOf 2 f, keyQuota := le 9 4 bs } :: s.changesOf fuel (bs.drop 13)
    | 4 =>
      let st := match le 63 1 bs with
        | 0 => OfficerState.free
        | 1 => OfficerState.active
        | _ => OfficerState.revoked
      .officer (le 1 2 bs) ⟨le 3 2 bs, BitVec.ofNat 8 (le 5 1 bs), slice 6 57 bs, st⟩ :: s.changesOf fuel (bs.drop 64)
    | 5 => .lease (le 1 8 bs) (le 9 8 bs) :: s.changesOf fuel (bs.drop 17)
    | 6 => .discardPermits (le 1 2 bs) :: s.changesOf fuel (bs.drop 3)
    | 7 => .discardOfficerPermits (le 1 2 bs) :: s.changesOf fuel (bs.drop 3)
    | 8 => .calendar (le 1 4 bs) (le 5 8 bs) :: s.changesOf fuel (bs.drop 13)
    | _ => []

/-- The commit that opened bytes hold (R414). -/
def State.commitOf (s : State) (bs : Bytes) : Commit where
  number := le 0 8 bs
  epoch := le 8 8 bs
  head := le 16 1 bs
  ring := le 17 2 bs
  seq := le 19 4 bs
  opcode := le 23 2 bs
  handle := le 25 8 bs
  time := le 33 8 bs
  tenant := le 41 2 bs
  barge := none
  changes := s.changesOf bs.length (bs.drop 43)
  sectors := commitSectors (s.changesOf bs.length (bs.drop 43)) 7
  logWords := 0
  replicated := false
  ack := none
  joined := 0

/-- Seal bytes for device `d` under the pair key (R407): nonce, ciphertext, tag; the pair counter advances. Log 21, DESIGN CHOICE. -/
def State.sealFor (s : State) (d : Nat) (bs : Bytes) : Bytes × State :=
  let n := tget 0 d s.brv.pairCtr
  let nonce := toBE 4 s.noncePrefix ++ toBE 8 n
  let key := tget [] d s.brv.pairs
  let ct := Config.gcmEnc key nonce [] bs
  (nonce ++ ct ++ Config.gcmTag key nonce [] ct,
    { s with brv := { s.brv with pairCtr := Tbl.put d ((n + 1) % 2 ^ 64) s.brv.pairCtr } })

/-- Open a sealed record from device `d` (R407); none: the tag fails. Log 21, DESIGN CHOICE. -/
def State.unseal (s : State) (d : Nat) (bs : Bytes) : Option Bytes :=
  let key := tget [] d s.brv.pairs
  let n := bs.length - 28
  let ct := slice 12 n bs
  let nonce := slice 0 12 bs
  if bs.length < 28 ∨ key = [] then none
  else if Config.gcmTag key nonce [] ct = slice (12 + n) 16 bs then some (Config.gcmDec key nonce [] ct) else none

/-- The devices that must hold a commit before this one commits it (R414, R411, R418): the replica of its keys' bucket, with the
founding device that is in resync; for a table change, every other member. -/
def State.replicasOf (s : State) (c : Commit) : List Nat :=
  match s.cfg.cluster with
  | none => []
  | some cl =>
    let others := (List.range 64).filter fun d => s.isMember d && d != cl.index
    let ofHandle (h : Nat) : List Nat :=
      let b := s.bucketAt (bucketOf h)
      let founding := bucketOf h % s.clusterN
      (if b.replica ≠ 0xFF then [b.replica] else [])
        ++ (if b.st = .resync then [founding, (founding + 1) % s.clusterN] else [])
    ((c.changes.flatMap fun ch => match ch with
      | .put (r :: _) => ofHandle r.label.handle
      | .put [] => []
      | .delete h => ofHandle h
      | .tenant _ _ | .officer _ _ | .discardPermits _ | .discardOfficerPermits _ | .calendar _ _ => others
      | .lease _ _ | .ackLog _ => []).dedup).filter fun d => s.isMember d && d != cl.index

/-! ### Gathering and submitting (R60, R189, R192, R414) -/

/-- A commit joins those gathered for the next group write (R189). -/
def State.gather (s : State) (c : Commit) : State :=
  s.regather (s.mor.gathered ++ [{ c with joined := s.now }])

/-- The store takes commits (R188, R192). -/
def State.storeUp (s : State) : Bool := s.driveStore || s.volatileStore

/-- Submit a commit: to its replicas first in a cluster, else to the journal; with the store OFFLINE it fails (R192). A commit on a
bucket without a replica counts in BRV_REPL.DEGRADED. -/
def State.submitCommit (s : State) (c : Commit) : State :=
  if s.storeUp = false then s.offlineCommit c
  else
    match s.replicasOf c with
    | [] =>
      let degraded := s.cfg.cluster.isSome && c.changes.any fun ch => match ch with
        | .put _ => true
        | .delete _ => true
        | _ => false
      let s := if degraded then { s with brv := { s.brv with degradedCount := satAdd 16 s.brv.degradedCount 1 } } else s
      s.gather c
    | ds =>
      let c := { c with number := s.brv.replNext }
      let bs := s.commitBytes c
      let s := { s with brv := { s.brv with
        replNext := s.brv.replNext + 1, awaiting := s.brv.awaiting ++ ds.map fun d => (c, d) } }
      let s := match c.barge.bind fun i => (s.entryAt i).map fun e => (i, e) with
        | some (i, e) => s.setEntry i { e with committing := true }
        | none => s
      ds.foldl (fun (s : State) d =>
        let r := s.sealFor d bs
        r.2.sendTo 0x20 1 d r.1) s

/-- The commit of a barge with its changes (R60, R189), its device time the tick of its submission; a forwarded barge's entry is keyed by
its head (R414). Log 61, DESIGN CHOICE. -/
def State.commitFor (s : State) (i : Nat) (e : Entry) (changes : List Change) : Commit where
  number := 0
  epoch := (e.origin.map (·.epoch)).getD s.pwr.epoch
  head := (e.origin.map (·.head)).getD s.index
  ring := (e.origin.map (·.ring)).getD e.ring
  seq := e.b.seq
  opcode := e.b.opcode
  handle := (bargeHandles e.b).headD 0
  time := s.now
  tenant := e.tenant
  barge := some i
  changes := changes
  sectors := commitSectors changes 7
  logWords := 7
  replicated := false
  ack := none
  joined := 0

/-! ### The commit tick (R60, R189, R191, R204) -/

/-- A commit's audit-critical record (R426). -/
def State.logCommit (s : State) (c : Commit) : State :=
  let s := { s with log := { s.log with reserved := s.log.reserved - c.logWords } }
  s.logRec .commit 0 c.tenant 0xFF
    [BitVec.ofNat 64 c.epoch, BitVec.ofNat 64 (2 ^ 32 * c.ring + c.seq), BitVec.ofNat 64 c.opcode, BitVec.ofNat 64 c.handle]

/-- Keys of a tenant leave the moorings, the cargo cache and the lane slots: its GEN has advanced (R142, R156, R204). -/
def State.dropTenantKeys (s : State) (t : Nat) : State :=
  let s := { s with mor := { s.mor with
    moorings := s.mor.moorings.filter fun p => handleTenant p.2.krec.label.handle != t
    cache := s.mor.cache.filter fun r => handleTenant r.krec.label.handle != t } }
  s.killSlots (fun l => handleTenant l.handle == t) fun owner => owner == t

/-- Audit-critical words written and not acknowledged (R432): those of the archive and of the ring past its copy. -/
def Log.unacked (l : Log) : Nat :=
  recWords (l.archive.filter fun r => r.audit && decide (l.ackTo ≤ r.seq))
    + recWords (l.ring.filter fun r => r.audit && decide (l.ackTo ≤ r.seq) && decide (l.nextCopy ≤ r.seq))

/-- Lodged permits are discarded (R143, R166, R167): their numbers have been lodged in the epoch (R162). -/
def State.dropPermits (s : State) (p : Nat × Permit → Bool) : State :=
  { s with adm := { s.adm with
    permits := s.adm.permits.filter fun x => !p x
    spent := s.adm.spent ++ (s.adm.permits.filter p).map fun x => (x.1, x.2.no) } }

/-- One change is applied in the commit tick (R189): records to the store, the cargo cache and the moorings. -/
def State.applyChange (s : State) : Change → State
  | .put [] => s
  | .put (r :: rs) =>
    let h := r.label.handle
    let s := { s with mor := { s.mor with
      store := Tbl.put h (.key (r :: rs)) s.mor.store, cache := dropCached h s.mor.cache } }
    let s := (s.cacheFillAll (r :: rs)).getD s
    if s.pinned h then s.startPageIns [h] else s
  | .delete h =>
    let s := { s with mor := { s.mor with
      store := Tbl.put h .tombstone s.mor.store
      cache := dropCached h s.mor.cache
      moorings := s.mor.moorings.filter fun p => decide (p.2.krec.label.handle ≠ h) } }
    s.killSlots fun l => l.handle == h
  | .tenant t e =>
    let gen := (s.tenantAt t).gen
    let s := { s with adm := { s.adm with tenants := Tbl.put t e s.adm.tenants } }
    let s := s.logRec .debug 4 t 0xFF [BitVec.ofNat 64 t]
    if e.gen ≠ gen then s.dropTenantKeys t else s
  | .officer n o =>
    ({ s with adm := { s.adm with officers := Tbl.put n o s.adm.officers } }).logRec .debug 5 o.tenant 0xFF [BitVec.ofNat 64 n]
  | .lease h e =>
    let s := match Tbl.find h s.mor.store with
      | some (.key (r :: rs)) =>
        { s with mor := { s.mor with store := Tbl.put h (.key ({ r with nonceCtr := e } :: rs)) s.mor.store } }
      | _ => s
    match s.mooringOf h 0 with
    | some (m, x) =>
      let s := { s with mor := { s.mor with moorings := Tbl.put m { x with leased := true } s.mor.moorings } }
      match s.cached h 0 with
      | some y => s.cachePut { y with krec := { y.krec with nonceCtr := x.krec.nonceCtr }, leased := true }
      | none => s
    | none => s
  | .discardPermits t => s.dropPermits fun p => p.1 == t
  | .discardOfficerPermits n => s.dropPermits fun p => p.2.officerA == n || p.2.officerB == n
  | .calendar b k => { s with adm := { s.adm with calendar := some (b, k) } }
  | .ackLog q =>
    let l := { s.log with ackTo := max s.log.ackTo (q + 1), auditStop := false }
    { s with log := { l with outstanding := l.unacked } }

/-- The waiting nonce requests on a handle are issued (R181). -/
def State.issueLeased (s : State) (h : Nat) : State :=
  (s.cores.map Prod.fst).foldl (fun (s : State) k =>
    match (s.coreAt k).lane with
    | none => s
    | some x =>
      match x.nonceWaits with
      | none => s
      | some (i, gcm) =>
        match s.ctxSlot x i with
        | some (_, sl) =>
          if sl.handle = some h then
            let a := (s.setCtx k { x with nonceWaits := none }).nonceFor k i 0 gcm
            match a.code with
            | some code => ((a.st.laneSay k a.out code).settleLane k).drainLane k
            | none => a.st
          else s
        | none => s) s

/-- The outcome entry of a commit (R60, R191). -/
def Commit.outcome (c : Commit) : OutcomeEntry := ⟨c.head, c.epoch, c.ring, c.seq, c.opcode, c.time⟩

/-- An outcome entry is written (R191): behind the others, or where the area is full in place of the first that need not be kept. -/
def State.addOutcome (s : State) (o : OutcomeEntry) : State :=
  let os := s.mor.outcomes
  let i := if os.length < s.outcomeCap then os.length else (os.findIdx? fun x => x.epoch + 2 < s.pwr.epoch).getD os.length
  { s with mor := { s.mor with outcomes := if i < os.length then os.set i o else os ++ [o] } }

/-- A commit has its commit tick (R60, R189, R291): but for a lease or a resync record (opcode 0) with its outcome entry and its
record; a commit for another device is acknowledged to it (R414). The keel register names commits of the drives' store, not of the
volatile hold. Log 40, DEDUCED. -/
def State.commitNow (s : State) (c : Commit) : State :=
  let s := c.changes.foldl (fun (s : State) ch => s.applyChange ch) s
  let s := { s with mor := { s.mor with
    lastCommit := c.number
    keelReg := if s.volatileStore then s.mor.keelReg else { s.mor.keelReg with lastCommit := c.number } } }
  let s := if c.opcode = 0 then s else (s.addOutcome c.outcome).logCommit c
  let s := match c.ack with
    | some (d, n) => s.sendTo 0x21 2 d (toLE 8 n)
    | none => s
  let s := c.changes.foldl (fun (s : State) ch => match ch with
    | .lease h _ => s.issueLeased h
    | _ => s) s
  match c.barge.bind fun i => (s.entryAt i).map fun e => (i, e) with
  | some (i, e) => s.setEntry i { e with committing := false, committed := true }
  | none => s

/-! ### Group writes (R189) and the volatile hold (R193) -/

/-- Commits taken from the front of a list: at most `n`, in the journal sectors left. -/
def takeCommits : Nat → Nat → List Commit → List Commit
  | 0, _, _ => []
  | _, _, [] => []
  | n + 1, room, c :: cs => if c.sectors ≤ room then c :: takeCommits n (room - c.sectors) cs else []

/-- Commit numbers from `n` on. -/
def numberFrom : Nat → List Commit → List Commit
  | _, [] => []
  | n, c :: cs => { c with number := n } :: numberFrom (n + 1) cs

/-- The barges of commits that begin are committing (R57, R192). -/
def State.beginCommits (s : State) (cs : List Commit) : State :=
  cs.foldl (fun (s : State) c =>
    match c.barge.bind fun i => (s.entryAt i).map fun e => (i, e) with
    | some (i, e) => s.setEntry i { e with committing := true }
    | none => s) s

/-- A gathered commit whose barge was aborted before it began is dropped (R57). -/
def State.stillWanted (s : State) (c : Commit) : Bool :=
  match c.barge.bind s.entryAt with
  | some e => match e.ph with
    | .running k => (s.coreAt k).aborted.isNone || c.replicated
    | _ => true
  | none => true

/-- The gathered commits of aborted barges are dropped, and the words they reserved are free again (R57, R432). -/
def State.dropUnwanted (s : State) : State :=
  let gone := s.mor.gathered.filter fun c => !s.stillWanted c
  { s with log := { s.log with reserved := s.log.reserved - (gone.map Commit.logWords).sum } }.regather
    (s.mor.gathered.filter s.stillWanted)

/-- The writes of n sectors of the journal ring from its sector `pos` (R184): two ranges where they pass its end. -/
def journalWrites (d pos n : Nat) : List Emit :=
  if pos + n ≤ 262144 then [.nvme d 1 (2 + pos) n] else [.nvme d 1 (2 + pos) (262144 - pos), .nvme d 1 2 (pos + n - 262144)]

/-- Gathered commits whose words arrive poisoned are not written and fail DATA_POISONED (R289). -/
def State.failPoisoned (s : State) (poisoned : List Nat) : State :=
  let at_ := s.mor.gathered.zipIdx
  (at_.filter fun p => poisoned.contains p.2).foldl (fun (s : State) p => s.failCommit p.1 stPoisoned uPoisoned)
    (s.regather ((at_.filter fun p => !poisoned.contains p.2).map Prod.fst))

/-- GROUP_WRITE_START (R169, R189, R289): at 16 commits or 8 µs after the first, with no group write in flight, a tug of 12 to 15 free and
room in the journal. `poisoned`: the places among the commits gathered of those with poisoned words. -/
def execGroupWriteStart (poisoned : List Nat) (s : State) : Host.Outcome State Fault Refusal :=
  .next <|
    let s := s.dropUnwanted
    let due := decide (16 ≤ s.mor.gathered.length) || (match s.mor.gatherFrom with
      | some t => decide (t + 800 ≤ s.now)
      | none => false)
    if s.driveStore = false ∨ s.mor.flight ≠ [] ∨ due = false ∨ s.pwr.stopped.contains 0x2B = true ∨ s.freeTug 12 4 = none then s
    else
      let s := s.failPoisoned poisoned
      match takeCommits 16 (262144 - s.mor.fill) s.mor.gathered with
      | [] => s
      | cs =>
        let cs' := numberFrom (s.mor.lastCommit + 1) cs
        let sectors := (cs.map (·.sectors)).sum
        let rest := s.mor.gathered.drop cs.length
        let pos := s.mor.journalPos
        let s := { s.regather rest with mor := { (s.regather rest).mor with
          flight := cs'
          fill := s.mor.fill + sectors
          journalPos := (s.mor.journalPos + sectors) % 262144
          awaiting := (s.drivesIn.foldl (fun (m : BitVec 2) d => m ||| BitVec.ofNat 2 (2 ^ d)) 0) } }
        (s.beginCommits cs').emits (s.writeDrives.flatMap fun d => journalWrites d pos sectors)

/-- The group write is acknowledged by every drive: each commit has its commit tick, in number order (R189). -/
def State.groupDone (s : State) : State :=
  let cs := s.mor.flight
  let s := { s with
    mor := { s.mor with flight := [], awaiting := 0, journal := s.mor.journal ++ cs }
    slu := { s.slu with sectorWrites := s.slu.sectorWrites + BitVec.ofNat 32 (cs.map (·.sectors)).sum } }
  cs.foldl (fun (s : State) c => s.commitNow c) s

/-- COMMIT_TICK (R189): one drive acknowledges the group write. -/
def execCommitTick (drive : Nat) (s : State) : Host.Outcome State Fault Refusal :=
  .next <|
    let left := s.mor.awaiting &&& ~~~(BitVec.ofNat 2 (2 ^ drive))
    if s.mor.flight = [] ∨ (s.drive drive).inService = false then s
    else
      let s := s.setDrive drive { s.drive drive with fails := 0 }
      let s := { s with mor := { s.mor with awaiting := left } }
      if left = 0 then s.groupDone else s

/-- The records a change writes into the hold's buckets, with their chain indices (R185, R193). -/
def State.holdRecs (s : State) : Change → List (Nat × Nat × Bytes)
  | .put ls => ls.map fun r => (r.label.handle, r.label.chainIdx, r.bytes)
  | .delete h => [(h, 0, zeros 8 ++ toLE 8 h ++ zeros 80)]
  | .lease h e => match Tbl.find h s.mor.store with
    | some (.key (r :: _)) => [(h, 0, { r with nonceCtr := e }.bytes)]
    | _ => []
  | _ => []

/-- The DRAM write of a commit to the volatile hold (R193): its records' lines pass the SLU as CONFIDENTIAL words. -/
def State.holdWrite (s : State) (c : Commit) (r : DramReturn) : State :=
  match s.cfg.mem with
  | none => s
  | some m => (c.changes.flatMap s.holdRecs).foldl (fun (s : State) x =>
      s.unitPut m.holdKd (s.holdSlot m x.1 x.2.1) (wordsOf x.2.2 .confidential) r) s

/-- VOLATILE_COMMIT_DONE (R193): the oldest commit, written alone; its commit tick comes once the SLU has accepted its last line.
Log 63, DESIGN CHOICE. -/
def execVolatileCommitDone (r : DramReturn) (s : State) : Host.Outcome State Fault Refusal :=
  .next <|
    let s := s.dropUnwanted
    if s.volatileStore = false then s
    else match s.mor.gathered with
      | [] => s
      | c :: rest =>
        let s := (s.regather rest).holdWrite c r
        if s.slu.stopped then s else s.commitNow { c with number := s.mor.lastCommit + 1 }

/-! ### Leases (R181) -/

/-- A lease commit of a handle is built and has no commit tick yet. -/
def State.leasePending (s : State) (h : Nat) : Bool :=
  s.pendingCommits.any fun c => c.changes.any fun ch => match ch with
    | .lease g _ => g == h
    | _ => false

/-- A new lease end for a handle's counter N goes to the journal (R181). -/
def State.askLease (s : State) (h n : Nat) : State :=
  s.gather ⟨0, s.pwr.epoch, s.index, 0, 0, 0, h, s.now, handleTenant h, none, [.lease h ((n / 65536 + 1) * 65536)], 1, 0, false, none, 0⟩

/-- LEASE_COMMIT (R181): the waiting nonce request of a core commits a new lease end, or is answered at once. -/
def execLeaseCommit (core : Nat) (s : State) : Host.Outcome State Fault Refusal :=
  .next <|
    match (s.coreAt core).lane with
    | none => s
    | some x =>
      match x.nonceWaits with
      | none => s
      | some (i, gcm) =>
        let drop := s.setCtx core { x with nonceWaits := none }
        let say (s : State) (out : List TWord) (code : Nat) : State := ((s.laneSay core out code).settleLane core).drainLane core
        match (s.ctxSlot x i).bind fun p => p.2.handle with
        | none => say drop [] uRefused
        | some h =>
          match s.mooringOf h 0 with
          | none => say drop [] uUnknown
          | some (_, m) =>
            if m.leased then
              let a := drop.nonceFor core i 0 gcm
              match a.code with
              | some code => say a.st a.out code
              | none => a.st
            else if s.storeUp = false then
              say drop [] uOffline
            else if s.leasePending h then s
            else s.askLease h m.krec.nonceCtr

/-! ### Checkpoints (R290) -/

/-- A store table after a record change (R189, R190). -/
def baseChange (t : Tbl StoreEntry) : Change → Tbl StoreEntry
  | .put (r :: rs) => Tbl.put r.label.handle (.key (r :: rs)) t
  | .put [] => t
  | .delete h => Tbl.put h .tombstone t
  | .lease h e =>
    match Tbl.find h t with
    | some (.key (r :: rs)) => Tbl.put h (.key ({ r with nonceCtr := e } :: rs)) t
    | _ => t
  | _ => t

/-- The handles that commits change in the buckets. -/
def changedHandles (cs : List Commit) : List Nat :=
  cs.flatMap fun c => c.changes.filterMap fun ch => match ch with
    | .put (r :: _) => some r.label.handle
    | .delete h => some h
    | .lease h _ => some h
    | _ => none

/-- A store table takes the USES and LAST_USE that the store received for a handle since the last checkpoint (R183). -/
def State.withUses (s : State) (t : Tbl StoreEntry) (h : Nat) : Tbl StoreEntry :=
  match Tbl.find h t, Tbl.find h s.mor.store with
  | some (.key ls), some (.key us) =>
    Tbl.put h (.key (ls.map fun (x : KRec) => match us.find? fun u => u.label.chainIdx == x.label.chainIdx with
      | some u => { x with uses := u.uses, lastUse := u.lastUse }
      | none => x)) t
  | _, _ => t

/-- Sectors of a bucket's chain: the bucket and its overflow sectors, 42 slots each (R185). -/
def State.chainLbas (s : State) (h : Nat) : List Nat :=
  let b := s.storeBucket h
  let n := ((s.mor.store.filter fun p => s.storeBucket p.1 == b).map fun p => p.2.size).sum
  (List.range (max 1 (ceilDiv n 42))).map fun i => s.pageLba h i

/-- CHECKPOINT_START (R290): at a FILL of 131,072 or 10 s after the last; PENDING names the new checkpoint. -/
def execCheckpointStart (s : State) : Host.Outcome State Fault Refusal :=
  .next <|
    let due := decide (131072 ≤ s.mor.fill) || decide (s.mor.ckptAt + 1000000000 ≤ s.now)
    if s.driveStore ∧ s.mor.ckpt = none ∧ due = true then
      { s with mor := { s.mor with
        ckpt := some s.mor.journal.length
        keelReg := { s.mor.keelReg with pending := s.mor.keelReg.rootGen + 1 } } }
    else s

/-- The audit-critical records a checkpoint writes to the cargo log sectors (R430, R431). -/
def State.auditRecords (s : State) : List Rec :=
  (s.log.archive ++ s.log.ring.filter fun r => decide (s.log.nextCopy ≤ r.seq)).filter fun r => r.audit && decide (s.log.ackTo ≤ r.seq)

/-- The outcome sectors that a checkpoint writes: those with an entry of its commits (R184, R191). -/
def State.outcomeLbas (s : State) (done : List Commit) : List Nat :=
  ((s.mor.outcomes.zipIdx.filter fun p => done.any fun c => decide (c.outcome = p.1)).map fun p => 262146 + p.2 / 128).dedup

/-- The logbook archive sectors that a checkpoint writes: as many as its records take, eight bytes a word (R184, R430). -/
def State.archiveLbas (s : State) : List Nat :=
  let n := min (ceilDiv (8 * recWords s.auditRecords) 4096) ((s.cfg.mem.map (·.logSectors)).getD 0)
  (List.range n).map fun i => 262146 + 2 ^ (s.cfg.mem.map (·.outcomeLog)).getD 0 + i

/-- The generation sectors above some LBAs, bottom-up, but for the root (R290): (level, sector). -/
def genSectors : Nat → Nat → List Nat → List (Nat × Nat)
  | 0, _, _ => []
  | fuel + 1, level, xs =>
    let up := ((xs.map fun x => x / 512).dedup)
    up.map (fun x => (level, x)) ++ genSectors fuel (level + 1) up

/-- The generation sectors a checkpoint writes below the root (R290). -/
def State.genLbas (s : State) (lbas : List Nat) : List Nat :=
  (genSectors ((genLevels s.layoutEnd 8).length - 1) 1 lbas).map fun p => s.genBase p.1 + p.2

/-- The sectors a checkpoint of some commits changes (R290): buckets and overflow sectors, outcome and archive sectors. -/
def State.changedLbas (s : State) (done : List Commit) : List Nat :=
  ((changedHandles done ++ s.mor.usesDirty).flatMap s.chainLbas).dedup ++ s.outcomeLbas done ++ s.archiveLbas

/-- A checkpoint of the first n commits of the journal (R290, R430): the changed sectors, the generation sectors bottom-up, the root
copy that ROOT_COPY does not name, the superblock that does not hold the last checkpoint, and a Flush are written; one write of the keel
register makes the checkpoint the current one and frees its journal sectors. -/
def State.checkpointDone (s : State) (n : Nat) : State :=
  let done := s.mor.journal.take n
  let gen := s.mor.keelReg.rootGen + 1
  let super := gen % 2
  let lbas := s.changedLbas done
  let all := lbas ++ s.genLbas (super :: lbas) ++ [s.rootLba (!s.mor.keelReg.rootCopy), super]
  let base := s.mor.usesDirty.foldl s.withUses (done.foldl (fun t c => c.changes.foldl baseChange t) s.mor.base)
  let keel := s.mor.keelReg
  let s := { s with
    mor := { s.mor with
      ckpt := none
      ckptAt := s.now
      journal := s.mor.journal.drop n
      fill := s.mor.fill - (done.map Commit.sectors).sum
      base := base
      usesDirty := []
      gens := all.foldl (fun (t : Tbl Nat) l => Tbl.put l gen t) s.mor.gens
      keelReg := { keel with rootGen := gen, rootCopy := !keel.rootCopy, pending := 0 } }
    log := { s.log with cargo := s.auditRecords }
    slu := { s.slu with sectorWrites := s.slu.sectorWrites + BitVec.ofNat 32 all.length } }
  s.emits (s.writeDrives.flatMap fun d => all.map (fun l => Emit.nvme d 1 l 1) ++ [Emit.nvme d 2 0 0])

/-- CHECKPOINT_COMPLETE (R290). -/
def execCheckpointComplete (s : State) : Host.Outcome State Fault Refusal :=
  .next <|
    match s.mor.ckpt with
    | none => s
    | some n => s.checkpointDone n

end Sys2Proof.Machine
end

