-- ==== Sys2Proof/Machine/Random.lean ====
section
/-! DEFINITION. Random number generation (10_random_generation.md R255 to R267): entropy clusters, seed blocks, DRBGs, the start-up
condition and the raw-sample buffer. RAW_RNG_ON and RAW_RNG_OFF are services (Machine/Drydock.lean). -/

namespace Sys2Proof.Machine

/-- Entropy clusters. -/
def clusterNumbers : List Nat := List.range 16
/-- DRBGs. -/
def drbgNumbers : List Nat := List.range 64

/-- Healthy clusters: those not retired (RNG_STATUS.HEALTHY). -/
def State.healthy (s : State) : Nat := clusterNumbers.countP fun c => decide ((s.clusterAt c).st ≠ .retired)

/-- DRBGs SERVING or DUE (RNG_STATUS.SEEDED). -/
def State.seeded (s : State) : Nat :=
  drbgNumbers.countP fun d => decide ((s.drbgAt d).st = .serving) || decide ((s.drbgAt d).st = .due)

/-! ### Health tests (R256) -/

/-- The raw bits of samples in stream order (R255). -/
def streamBits (bs : Bytes) : List Bool := bs.flatMap fun b => (List.range 8).map fun i => b.getLsbD i

/-- RCT: a run of identical bits as long as the cutoff. -/
def rctFails (cutoff : Nat) : List Bool → Option Bool → Nat → Bool
  | [], _, _ => false
  | b :: bs, last, run =>
    let n := if last = some b then run + 1 else 1
    decide (cutoff ≤ n) || rctFails cutoff bs (some b) n

/-- APT: in a window of 1,024 bits the first bit's value occurs as often as the cutoff. -/
def aptFails (cutoff : Nat) : Nat → List Bool → Bool
  | 0, _ => false
  | fuel + 1, bs =>
    let w := bs.take 1024
    if w.length < 1024 then false
    else decide (cutoff ≤ w.countP fun b => b == w.headD false) || aptFails cutoff fuel (bs.drop 1024)

/-- The 28 pairs of a cluster's oscillators. -/
def oscPairs : List (Nat × Nat) := (List.range 8).flatMap fun j => (List.range j).map fun i => (i, j)

/-- LOCK by frequency: a pair's edge counts differ by 1 or less in 16 consecutive windows. -/
def lockFrequency (ws : List (List Nat)) : Bool :=
  oscPairs.any fun p =>
    let close := ws.map fun w => let a := w.getD p.1 0; let b := w.getD p.2 0; decide (a ≤ b + 1) && decide (b ≤ a + 1)
    (List.range ws.length).any fun i => decide (i + 16 ≤ ws.length) && ((close.drop i).take 16).all id

/-- LOCK by sequence: over 1,024 consecutive samples a pair agrees in more than 640 or fewer than 384 positions. -/
def lockSequence (bs : Bytes) : Bool :=
  (List.range bs.length).any fun i =>
    let w := (bs.drop i).take 1024
    decide (1024 ≤ w.length) && oscPairs.any fun p =>
      let n := w.countP fun b => b.getLsbD p.1 == b.getLsbD p.2
      decide (640 < n) || decide (n < 384)

/-- The tests of R256 that fail on the data given under the cutoffs of RNG_HT_CFG, as cause bits: 0 EDGE, 1 LOCK, 2 RCT, 3 APT. -/
def State.healthCause (s : State) (h : HealthData) : BitVec 4 :=
  let bits := streamBits h.samples
  (if h.windows.any fun w => (List.range 8).any fun i => decide (w.getD i 0 ≤ s.rng.edgeFloor) then 1 else 0)
    ||| (if lockFrequency h.windows || lockSequence h.samples then 2 else 0)
    ||| (if rctFails s.rng.rctCutoff bits none 0 then 4 else 0)
    ||| (if aptFails s.rng.aptCutoff (bits.length / 1024) bits then 8 else 0)

/-! ### Seed blocks (R258 to R261) -/

/-- The DRBG a block of cluster c goes to: the lowest waiting one at home there, else the lowest waiting (R260). -/
def State.blockTarget (s : State) (c : Nat) : Option Nat :=
  let w := drbgNumbers.filter fun d => (s.drbgAt d).waits
  (w.find? fun d => d / 4 == c).or w.head?

/-- A seed block is delivered: its cluster's failure count returns to 0 (R257) and the DRBG is under seeding (R261). -/
def State.deliver (s : State) (c d : Nat) (b : Bytes) : State :=
  let s := s.setCluster c { s.clusterAt c with consec := 0 }
  let s := s.setDrbg d { s.drbgAt d with seeding := some b, waits := false }
  { s with rng := { s.rng with accepted := s.rng.accepted + 1 } }

/-- A block becomes ready in cluster c (R260): delivered to a waiting DRBG, or held, replacing the older of two. After RNG_FATAL and
in raw-sample mode it is discarded (R258, R266). -/
def State.offer (s : State) (c : Nat) (b : Bytes) : State :=
  if s.rng.fatal ∨ s.rng.raw then s
  else match s.blockTarget c with
    | some d => s.deliver c d b
    | none =>
      let x := s.clusterAt c
      s.setCluster c { x with held := if x.held.length < 2 then x.held ++ [b] else x.held.drop 1 ++ [b] }

/-- A DRBG begins to wait: a held block of its home cluster, else of the lowest-numbered cluster that holds one, is delivered
(R260). -/
def State.drbgWaits (s : State) (d : Nat) : State :=
  let s := s.setDrbg d { s.drbgAt d with waits := true }
  let has := clusterNumbers.filter fun c => !(s.clusterAt c).held.isEmpty
  match (has.find? fun c => c == d / 4).or has.head? with
  | none => s
  | some c =>
    let x := s.clusterAt c
    match x.held with
    | [] => s
    | b :: rest => (s.setCluster c { x with held := rest }).deliver c d b

/-- SETTLE_END (R257). -/
def execSettleEnd (cluster : Nat) (s : State) : Host.Outcome State Fault Refusal :=
  let x := s.clusterAt cluster
  .next <| if x.st = .settle then s.setCluster cluster { x with st := .startup } else s

/-- STARTUP_TEST_END (R257): no test fails over 1,024 samples of each oscillator. Log 62. -/
def execStartupTestEnd (cluster : Nat) (h : HealthData) (s : State) : Host.Outcome State Fault Refusal :=
  let x := s.clusterAt cluster
  .next <|
    if x.st = .startup ∧ 1024 ≤ h.samples.length ∧ s.healthCause h = 0 then s.setCluster cluster { x with st := .collect, passed := true } else s

/-- COLLECTION_END (R257, R259): the last 768 samples, on which no test fails, enter the conditioner, whose output is the 512-bit seed
block. Log 62. -/
def execCollectionEnd (cluster : Nat) (h : HealthData) (s : State) : Host.Outcome State Fault Refusal :=
  let x := s.clusterAt cluster
  .next <|
    if x.st = .collect ∧ 768 ≤ h.samples.length ∧ s.healthCause h = 0 then
      s.setCluster cluster { x with cond := x.cond ++ [Config.shake256 (h.samples.drop (h.samples.length - 768)) 64] }
    else s

/-- SEED_BLOCK_READY (R259, R260). -/
def execSeedBlockReady (cluster : Nat) (s : State) : Host.Outcome State Fault Refusal :=
  let x := s.clusterAt cluster
  .next <|
    match x.cond with
    | [] => s
    | b :: rest => (s.setCluster cluster { x with cond := rest }).offer cluster b

/-- RNG_FATAL (R258): every held block is discarded and source 20 is raised. -/
def State.rngFatal (s : State) : State :=
  if s.rng.fatal then s
  else
    let s := { s with rng := { s.rng with
      fatal := true
      clusters := s.rng.clusters.map fun (p : Nat × Cluster) => (p.1, { p.2 with held := [] }) } }
    s.alarmEvent 20

/-- HEALTH_TEST_FAIL (R256 to R258, R266): the tests that fail on the data given are the cause. The collection is discarded, and the third
failure in a row retires the cluster; in raw-sample mode the failure is only counted. Log 62. -/
def execHealthTestFail (cluster : Nat) (h : HealthData) (s : State) : Host.Outcome State Fault Refusal :=
  let x := s.clusterAt cluster
  let counted := { x with fails := satAdd 32 x.fails 1, cause := s.healthCause h }
  .next <|
    if s.healthCause h = 0 then s
    else if x.st = .raw then s.setCluster cluster counted
    else if x.st = .startup ∨ x.st = .collect then
      let s := { s with rng := { s.rng with discarded := s.rng.discarded + 1 } }
      if 3 ≤ x.consec + 1 then
        let s := s.setCluster cluster { counted with consec := 3, st := .retired }
        let s := s.alarmEvent 19
        if s.healthy < 12 then s.rngFatal else s
      else s.setCluster cluster { counted with consec := x.consec + 1, st := .startup }
    else s

/-! ### DRBGs (R261 to R264) -/

/-- The personalisation string of DRBG d (R261). -/
def State.personalisation (s : State) (d : Nat) : Bytes :=
  toLE 2 d ++ zeros 6 ++ toLE 8 s.pwr.epoch ++ toLE 8 s.now ++ zeros 24

/-- DRBG_SEEDED (R261, R262): bits 383:0 of the block instantiate or reseed. -/
def execDrbgSeeded (drbg : Nat) (s : State) : Host.Outcome State Fault Refusal :=
  let d := s.drbgAt drbg
  .next <|
    match d.seeding with
    | none => s
    | some b =>
      let e := slice 0 48 b
      let v := if d.st = .unseeded then Config.drbgInstantiate e (s.personalisation drbg) else Config.drbgReseed d.v e
      s.setDrbg drbg { d with
        st := .serving, v := v, seeding := none, requests := 0, seedings := (d.seedings + 1) % 2 ^ 32, seededAt := s.now
        waits := false }

/-- DRBG_DUE (R262). -/
def execDrbgDue (drbg : Nat) (s : State) : Host.Outcome State Fault Refusal :=
  let d := s.drbgAt drbg
  .next <|
    if d.st = .serving ∧ (65536 ≤ d.requests ∨ d.seededAt + 100000000 ≤ s.now) then
      (s.setDrbg drbg { d with st := .due }).drbgWaits drbg
    else s

/-- DRBG_BLOCKED (R262). -/
def execDrbgBlocked (drbg : Nat) (s : State) : Host.Outcome State Fault Refusal :=
  let d := s.drbgAt drbg
  .next <|
    if d.st = .due ∧ (131072 ≤ d.requests ∨ d.seededAt + 200000000 ≤ s.now) then s.setDrbg drbg { d with st := .blocked }
    else s

/-- How a generate call ends (R263, R266). -/
inductive Draw where
  | bytes (bs : Bytes)
  | again
  | rawBlocked
  deriving DecidableEq, Repr

/-- The home DRBG of a crew core (R263). -/
def homeDrbg (k : Nat) : Nat := k % 64

/-- The DRBG serves requests now (R262, R264): past either limit it is BLOCKED. -/
def State.serves (s : State) (d : Nat) : Bool :=
  s.rng.ready && (decide ((s.drbgAt d).st = .serving) || decide ((s.drbgAt d).st = .due)) && decide ((s.drbgAt d).requests < 131072)
    && decide (s.now < (s.drbgAt d).seededAt + 200000000)

/-- One generate call of n bytes from a core's home DRBG (R261 to R263). -/
def State.draw (s : State) (k n : Nat) : Draw × State :=
  let i := homeDrbg k
  let d := s.drbgAt i
  if d.st = .rawBlocked then (.rawBlocked, s)
  else if s.serves i then
    (.bytes (fixLen n (Config.drbgGenerate d.v n)),
      s.setDrbg i { d with v := Config.drbgNext d.v n, requests := d.requests + 1 })
  else (.again, s)

/-- DRBG_REQUEST (R263): 1 to 65,536 bytes as SECRET words, or a not-valid word at once. -/
def execDrbgRequest (core n : Nat) (s : State) : Host.Outcome State Fault Refusal :=
  .next <|
    if n = 0 ∨ 65536 < n then s
    else
      let r := s.draw core n
      let s := r.2
      match r.1 with
      | .bytes bs => s.setCore core { s.coreAt core with drbg := wordsOf bs .secret }
      | _ => s.setCore core { s.coreAt core with drbg := [notValid] }

/-- RNG_STARTUP_COMPLETE (R264): 12 clusters have passed and all 64 DRBGs are SERVING. -/
def execRngStartupComplete (s : State) : Host.Outcome State Fault Refusal :=
  let passed := clusterNumbers.countP fun c => (s.clusterAt c).passed
  .next <|
    if s.rng.ready = false ∧ 12 ≤ passed ∧ (drbgNumbers.all fun d => decide ((s.drbgAt d).st = .serving)) = true then
      { s with rng := { s.rng with ready := true } }
    else s

/-- The half of the RNG a cluster is in (R255). -/
def clusterHalf (c : Nat) : Nat := c / 8
/-- The half of the RNG a DRBG is in (R255). -/
def drbgHalf (d : Nat) : Nat := d / 32

/-- A half whose power domain is FAILED has no power (R255, R376). -/
def State.rngHalfUp (s : State) (half : Nat) : Bool := decide ((s.domAt (64 + half)).st ≠ .failed)

/-- A cluster without power (R255, R267): its collections and blocks are gone, its retirement record and counters stay. -/
def Cluster.off (x : Cluster) : Cluster :=
  { x with st := if x.st = .retired then .retired else .off, held := [], cond := [], passed := false }

/-- A DRBG that power reaches, or has left: UNSEEDED, with its state zeroed and its counters kept (R262, R267). -/
def Drbg.unseed (d : Drbg) (waits : Bool) : Drbg :=
  { d with st := .unseeded, v := [], requests := 0, seeding := none, waits := waits }

/-- The RNG starts (R264, R267): every healthy cluster enters SETTLE and every DRBG is UNSEEDED and waits, but in a half that has no power.
RNG_RAW_CTL and EMPTY take their reset values; DROPPED, a counter, stays (R7, R267). -/
def State.rngStart (s : State) : State :=
  { s with rng := { s.rng with
    ready := false
    raw := false
    rawBuf := []
    rawCluster := 0
    rawOsc := 0
    rawEmpty := false
    clusters := clusterNumbers.map fun c =>
      let x := (s.clusterAt c).off
      (c, if x.st = .off ∧ s.rngHalfUp (clusterHalf c) = true then { x with st := .settle } else x)
    drbgs := drbgNumbers.map fun d => (d, (s.drbgAt d).unseed (s.rngHalfUp (drbgHalf d))) } }

/-- A half of the RNG loses its power: its states are zeroed (R255, R267, R376). -/
def State.rngHalfOff (s : State) (half : Nat) : State :=
  { s with rng := { s.rng with
    clusters := s.rng.clusters.map fun (p : Nat × Cluster) => if clusterHalf p.1 = half then (p.1, p.2.off) else p
    drbgs := s.rng.drbgs.map fun (p : Nat × Drbg) => if drbgHalf p.1 = half then (p.1, p.2.unseed false) else p } }

/-- The RNG's states are zeroed with both halves' power (R267). -/
def State.rngOff (s : State) : State :=
  let t := (s.rngHalfOff 0).rngHalfOff 1
  { t with rng := { t.rng with ready := false, raw := false, rawBuf := [] } }

/-! ### Raw-sample mode (R266) -/

/-- Raw-sample mode begins: seed blocks discarded, DRBGs RAW_BLOCKED; every counter, DROPPED among them, stays (R266, R267). -/
def State.rawOn (s : State) : State :=
  { s with rng := { s.rng with
    raw := true
    rawBuf := []
    clusters := clusterNumbers.map fun c =>
      let x := s.clusterAt c
      (c, { x with st := if x.st = .retired ∨ x.st = .off then x.st else .raw, held := [], cond := [] })
    drbgs := drbgNumbers.map fun d =>
      (d, { s.drbgAt d with st := .rawBlocked, v := [], requests := 0, seeding := none, waits := false }) } }

/-- RAW_SOURCE_SELECT (R266, RNG_RAW_CTL): discarded outside raw-sample mode. -/
def execRawSourceSelect (v : W64) (s : State) : Host.Outcome State Fault Refusal :=
  .next <|
    if s.rng.raw then
      { s with rng := { s.rng with
        rawCluster := wbits 7 4 v, rawOsc := wbits 3 0 v, rawBuf := [], rawDropped := 0, rawEmpty := false } }
    else s

/-- A read of RNG_RAW_DATA (R266): the oldest word leaves the buffer, or EMPTY is set. -/
def State.takeRaw (s : State) : W64 × State :=
  match s.rng.rawBuf with
  | w :: rest => (w, { s with rng := { s.rng with rawBuf := rest } })
  | [] => (0, { s with rng := { s.rng with rawEmpty := true } })

/-- RAW_DATA_READ (R266, RNG_RAW_DATA). -/
def execRawDataRead (path : Path) (s : State) : Host.Outcome State Fault Refusal :=
  .next <|
    if s.answers path = false then s
    else if s.reads path 0x7 then s.takeRaw.2.emit (.regData path 0x70808 s.takeRaw.1)
    else s.emit (.regData path 0x70808 0)

/-- RAW_BUFFER_FEED (R266): the next 64 raw bits of the selected source; OSC values above 8 select nothing. -/
def execRawBufferFeed (v : W64) (s : State) : Host.Outcome State Fault Refusal :=
  .next <|
    if s.rng.raw = false ∨ 8 < s.rng.rawOsc then s
    else if s.rng.rawBuf.length < 1024 then { s with rng := { s.rng with rawBuf := s.rng.rawBuf ++ [v] } }
    else { s with rng := { s.rng with rawDropped := satAdd 32 s.rng.rawDropped 1 } }

end Sys2Proof.Machine
end

