-- ==== Sys2Proof/Machine/Service.lean ====
section
/-! DEFINITION. How a service runs on its crew core (R37 to R47, R60, R82, R114, R146, R163, R240): its input, its keys, permits,
random data and nonces, and what it leaves for the completion. A command named for an opcode runs that service whole for the
barge its core holds (notes/assumptions/12.md). -/

namespace Sys2Proof.Machine

/-! ### A run and its end -/

/-- A barge on its crew core: the core, the barge-table index, the entry and its input buffer's bytes; what failed in the units it uses, and
the lane and the tile the allocators choose for it. Log 12, DESIGN CHOICE. -/
structure Run where
  core : Nat
  idx : Nat
  e : Entry
  input : Bytes
  hw : Hw
  lane : Nat
  tile : Nat
  deriving DecidableEq, Repr

/-- How a service leaves its core: it waits (for random data or a lease) and runs again, or it has ended with its outcome and,
for a state-changing barge, the changes to commit. Log 12, DESIGN CHOICE. -/
inductive Res where
  | wait
  | ended (o : Outcome) (commit : Option (List Change))
  deriving DecidableEq, Repr

/-- A service. -/
abbrev Service := Run → State → Res × State

/-- The barge of a run. -/
def Run.b (r : Run) : Barge := r.e.b
/-- The tenant of a run. -/
def Run.tenant (r : Run) : Nat := r.e.tenant
/-- Lighter i, 0 to 2: its 64 bytes. -/
def Run.lighter (r : Run) (i : Nat) : Bytes := slice (64 * i) 64 r.e.b.lights

/-- A failure: OUT_LEN 0, zero RESULT (R43). -/
def failed (status : Nat) : Outcome := ⟨status, [], 0, none⟩

/-- DONE with n bytes of RESULT (R43). -/
def answered (result : Bytes) : Outcome := ⟨stDone, result, result.length, none⟩

/-- The output of n bytes fits the barge's buffer. -/
def Run.fits (r : Run) (n : Nat) : Bool := decide (n ≤ r.b.outCap)

/-- DONE with output in the buffer (R43, R44), or BAD_LENGTH with the length needed (R45). -/
def withOutput (r : Run) (out : Bytes) (result : Bytes := []) : Outcome :=
  if out = [] then answered result
  else if r.fits out.length then ⟨stDone, result, out.length, some out⟩ else ⟨stBadLength, [], out.length, none⟩

/-- The service ends with an outcome that commits nothing. -/
def State.gives (s : State) (o : Outcome) : Res × State := (.ended o none, s)

/-- The service fails with a status: nothing committed. -/
def State.fails (s : State) (status : Nat) : Res × State := s.gives (failed status)

/-- An open beyond the sessions the device holds fails with a status that the manual does not give: a free one of the codes (log 22). -/
def State.noSession (s : State) : Res × State := s.freshNat.2.fails (failureCodes.getD (s.freshNat.1 % failureCodes.length) stRange)

/-- The service completes DONE with n bytes of RESULT (R43). -/
def State.doneWith (s : State) (result : Bytes) (commit : Option (List Change) := none) : Res × State :=
  (.ended (answered result) commit, s)

/-- The service completes DONE with output in its buffer (R43, R44), or BAD_LENGTH with the length needed (R45). -/
def State.doneOut (s : State) (r : Run) (out : Bytes) (result : Bytes := []) (commit : Option (List Change) := none) :
    Res × State :=
  (.ended (withOutput r out result) (if r.fits out.length then commit else none), s)

/-- The first check of a list that fails: (it passes, status on failure). -/
def firstFail : List (Bool × Nat) → Option Nat
  | [] => none
  | (ok, st) :: rest => if ok then firstFail rest else some st

/-- A list of checks as they come out where a word is poisoned: the step that reads it fails DATA_POISONED (R82). -/
def Run.reads (r : Run) : List (Bool × Nat) → List (Bool × Nat)
  | [] => []
  | (ok, st) :: cs => if r.hw.poison = some (.step st) then [(false, stPoisoned)] else (ok, st) :: r.reads cs

/-- Run `k` when every check passes, else fail with the first status. -/
def State.checks (s : State) (r : Run) (cs : List (Bool × Nat)) (k : Unit → Res × State) : Res × State :=
  match firstFail (r.reads cs) with
  | some st => s.fails st
  | none => k ()

/-- Crew-core cycles of the service (R86, R79). Log 16, DESIGN CHOICE. -/
def State.spend (s : State) (core cycles : Nat) : State :=
  let c := s.coreAt core
  s.setCore core { c with busy := (c.busy + cycles) % 2 ^ 32 }

/-! ### The audit-space check (R432) -/

/-- The opcodes exempt from the audit-space check (R432). -/
def auditExempt (op : Nat) : Bool := op == 0x0C00 || op == 0x0C01 || (decide (0x0C60 ≤ op) && decide (op ≤ 0x0C63))

/-- A record of n words may be reserved: OUTSTANDING, the words reserved and those of audit-critical records on their way stay
within LIMIT (R432). -/
def State.auditRoom (s : State) (n : Nat) : Bool :=
  decide (s.log.outstanding + s.log.reserved + recWords (s.log.ingress.filter Rec.audit) + n ≤ s.log.limit)

/-- The audit-space check ahead of an effect that a service has before its commit (R146 step 18, R432), with room for its outcome entry
(R191). -/
def State.withAudit (s : State) (r : Run) (k : Unit → Res × State) : Res × State :=
  s.checks r [(s.auditRoom 7, stAuditFull), (s.outcomeRoom, stKeyLimit)] k

/-- The output of a barge goes to a host buffer: its ring is a PCIe ring of this device. -/
def State.hostWritten (s : State) (e : Entry) : Bool := e.origin.isNone && decide ((s.ringCfg e.ring).transport = 0)

/-- The tug that the output of a core's barge goes to a host buffer by (R169); none where it goes to none, or no tug is free yet. -/
def State.outTug (s : State) (core : Nat) (o : Outcome) : Option Nat :=
  match (s.coreAt core).job.bind s.entryAt with
  | some e => if s.hostWritten e && o.out.isSome then s.freeTug 0 12 else none
  | none => none

/-- What is left on a core for its barge's completion (R43); output goes to a tug. -/
def State.leaveAt (s : State) (core : Nat) (o : Outcome) : State :=
  s.setCore core { s.coreAt core with res := some o, tug := s.outTug core o }

/-- A run's outcome, unless the words it puts out are poisoned: then DATA_POISONED (R28, R82). -/
def Run.gave (r : Run) (o : Outcome) : Outcome :=
  if r.hw.poison = some .output ∧ o.status = stDone ∧ (o.out.isSome = true ∨ o.result ≠ []) then failed stPoisoned else o

/-- The words that a service's routine releases through its declassify right (R307): the outcome of a PIN comparison and an offset (R84),
random bytes and HMAC or KMAC values (R115), signatures, public keys, ciphertexts and reports (R233). -/
def Run.releases (r : Run) (o : Outcome) : Nat :=
  let done := decide (o.status = stDone)
  match r.b.opcode with
  | 0x0101 | 0x0102 | 0x0105 | 0x0106 => if done || decide (o.status = stVerifyFail) then 1 else 0
  | 0x0103 => if done then 1 else 0
  | 0x0500 => if done && decide (8 ≤ le 0 1 (r.lighter 0)) then ceilDiv o.outLen 8 else 0
  | 0x0705 | 0x070A | 0x0800 | 0x0801 | 0x0802 | 0x0804 | 0x0900 | 0x0901 | 0x0903 | 0x0A00 | 0x0C52 | 0x0C53 | 0x0C61 | 0x0D00 =>
    if done then ceilDiv o.outLen 8 else 0
  | _ => 0

/-- What a service leaves for its completion (R43): its routine's DECLASS instructions release what needs it, up to eight words each, where the
core's gate grants X and D at their address; else the access is refused (R299, R307). -/
def State.leave (s : State) (r : Run) (o : Outcome) : State :=
  let o := r.gave o
  let n := r.releases o
  if n = 0 then s.leaveAt r.core o
  else match s.gateCheck r.core .declassify r.hw.fetch 4 [] with
    | some b => s.refuse r.core .declassify (r.hw.fetch, b.2)
    | none => ({ s with gte := { s.gte with declass := satAdd 32 s.gte.declass (ceilDiv n 8) } } : State).leaveAt r.core o

/-- A service leaves the outcome as it stands: no poisoned output, and nothing that its routine may not release. -/
def State.stands (s : State) (r : Run) (o : Outcome) : Bool :=
  decide (r.gave o = o) && (decide (r.releases o = 0) || (s.gateCheck r.core .declassify r.hw.fetch 4 []).isNone)

/-- A service ends (R60, R432): a state-changing barge that passed every check reserves its audit record's 7 words and its commit
is submitted; with no room left for its outcome entry it fails KEY_LIMIT (R191). A version migration has passed both checks when it
began. -/
def State.endService (s : State) (r : Run) (o : Outcome) (commit : Option (List Change)) : State :=
  let stored := (s.coreAt r.core).stored.map fun x => Change.put [x]
  match commit, stored with
  | none, [] => s.leave r o
  | _, _ =>
    if o.status ≠ stDone ∨ s.stands r o = false then s.leave r o
    else if !auditExempt r.b.opcode && r.b.opcode != 0x0C75 && !s.auditRoom 7 then s.leave r (failed stAuditFull)
    else if r.b.opcode != 0x0C75 && !s.outcomeRoom then s.leave r (failed stKeyLimit)
    else
      let s := { s with log := { s.log with reserved := s.log.reserved + 7 } }
      (s.leave r o).submitCommit (s.commitFor r.idx r.e (commit.getD [] ++ stored))

/-- The barge leaves its core for another device (R411): its session or permit number is known from its input now. It is on its ready list
again, with the chamber entry its dispatch took (R70). Log 43, DEDUCED. -/
def State.reroute (s : State) (r : Run) : State :=
  let c := s.coreAt r.core
  let s := s.setCore r.core { c with job := none, input := none }
  s.enqueue r.idx { r.e with input := some r.input }

/-! ### Barges sent to other devices (R412, R415) -/

/-- The payload of a forwarded barge frame (R412). -/
def fwdBytes (f : FwdBarge) : Bytes :=
  toLE 1 f.head ++ toLE 8 f.epoch ++ toLE 2 f.ring ++ toLE 8 f.deadline ++ toLE 1 (if f.failExpired then 1 else 0)
    ++ toLE 8 f.pageTimeout ++ toLE 2 f.tenant ++ bytesOfBarge f.barge

/-- A barge of this head with its input leaves for device d (R412): a forwarded barge frame, then data frames. -/
def State.sendBarge (s : State) (d : Nat) (e : Entry) (input : Bytes) : State :=
  let f : FwdBarge := ⟨s.index, s.pwr.epoch, e.ring, e.deadline, e.failExpired, e.pageTimeout, e.tenant, e.b, none⟩
  let s := s.sendTo 0x10 1 d (fwdBytes f)
  if input = [] then s else s.sendTo 0x11 1 d input

/-- The other members of the cluster. -/
def State.otherMembers (s : State) : List Nat := (List.range 64).filter fun d => s.isMember d && d != s.index

/-- A barge that every member answers (R411, R415): at a head its own answer and those of the others are joined once all have come;
elsewhere the own answer stands. -/
def State.askMembers (s : State) (r : Run) (own : Outcome) (join : List Outcome → State → Res × State) : Res × State :=
  if s.isHead = false ∨ r.e.origin.isSome = true then (.ended own none, s)
  else match r.e.asked with
    | some ([], cs) => join (own :: cs.map fun c => ⟨c.status, c.result, c.outLen, none⟩) s
    | some _ => (.wait, s)
    | none =>
      match s.otherMembers with
      | [] => (.ended own none, s)
      | ds =>
        let s := s.setEntry r.idx { r.e with asked := some (ds, []) }
        (.wait, ds.foldl (fun (s : State) d => s.sendBarge d r.e r.input) s)

/-- The run of a core whose barge has opcode `op` and whose input, if it has one, is on chip; none: the command finds no such
barge, or one that has ended, is aborted or waits for its commit, or the device runs no barges. -/
def State.runOf (s : State) (core op : Nat) (hw : Hw) : Option Run :=
  let c := s.coreAt core
  match c.job.bind fun i => (s.entryAt i).map fun e => (i, e) with
  | none => none
  | some (i, e) =>
    let needs := e.b.buf && decide (0 < e.b.inLen)
    if s.serving = false ∨ e.b.opcode ≠ op ∨ c.res.isSome ∨ c.aborted.isSome ∨ (needs = true ∧ c.input = none) then none
    else some ⟨core, i, e, if needs then c.input.getD [] else [], hw,
      ((s.laneGroupsFor e.tenant).bind fun gs => s.laneChoice gs e.b.h0).getD 0,
      (((s.tileGroupsFor e.tenant).bind fun gs => s.tileChoice gs 1).map Prod.fst).getD 0⟩

/-- What fails in the units of a run is counted: the mismatches of its lane (R215, R216) and of its tile (R234), the disagreements of KDU
pairs (R206); it counts though an earlier step ends the run. Log 6, DESIGN CHOICE. -/
def State.noted (s : State) (r : Run) : State :=
  let x := s.checkBlock r.lane r.tenant r.hw.lane
  let s := if x.2 then { x.1 with cph := { x.1.cph with faults := x.1.cph.faults + 1 } } else x.1
  let s := if r.hw.tile = 0 then s else s.tileMismatch r.tile (min r.hw.tile 2)
  if r.hw.kdu = 0 then s else { s with hsh := { s.hsh with mismatch := satAdd 32 s.hsh.mismatch (min r.hw.kdu 2) } }

/-- A command that runs a service (log 12). Log 3, DESIGN CHOICE. -/
def State.serve (s : State) (core op : Nat) (hw : Hw) (svc : Service) : State :=
  match s.runOf core op hw with
  | none => s
  | some r =>
    if r.e.origin.isNone && decide (s.runsAt r.tenant r.b (some r.input) ≠ .here) then s.reroute r
    else
      let x := svc r (s.noted r)
      match x.1 with
      | .wait => x.2
      | .ended o commit => x.2.endService r o commit

/-! ### The end of a barge (R43, R57, R71, R221, R236) -/

/-- The engines of a core are given up, each at the end of its command in progress: its lane context, its tile job and its hash engine. -/
def State.freeUnits (s : State) (core : Nat) : State :=
  let s := (s.endLane core).endJob core
  let s := (s.endEng core).idleNow (core / 8)
  let c := s.coreAt core
  let s := if s.pwr.drydockBy = some core then { s with pwr := { s.pwr with drydockBy := none } } else s
  s.setCore core { c with job := none, input := none, res := none, written := false, aborted := none, claimed := none,
                          drbg := [], stored := [], laneOut := [], hashOut := [], tileOut := [], tug := none,
                          snapshot := none }

/-- The barge of a core has no commit that has not had its commit tick. -/
def State.commitsDone (s : State) (i : Nat) : Bool := s.pendingCommits.all fun c => decide (c.barge ≠ some i)

/-- The completion an outcome gives (R43, R44). -/
def Outcome.comp (o : Outcome) (seq : Nat) : Comp :=
  ⟨seq, o.status, false, false, o.out.isSome, o.outLen, 0, fixLen 16 o.result⟩

/-- Steps 2 and 3 of END_OF_LIFE (R330): T3 is blown and the erase sequence runs. -/
def State.endLife (s : State) : State :=
  (({ s with root := { s.root with t3 := 0xFFFFFFFF } }).logFuse 34).eraseSequence

/-- MOR_ERRORS.OFFLINE counts a barge that fails CARGO_OFFLINE (07_moorings_and_cargo.md, the MOR registers). -/
def State.countOffline (s : State) (status : Nat) : State :=
  if status = stCargoOffline then { s with mor := { s.mor with offline := satAdd 16 s.mor.offline 1 } } else s

/-- An outcome's output waits for the tug that writes it (R43). -/
def State.unwritten (s : State) (c : Core) (e : Entry) (o : Outcome) : Bool := s.hostWritten e && o.out.isSome && !c.written

/-- A barge aborted in this very tick ends in it, and its completion is released in it: the completion stands (R57, R62, R73). -/
def State.outrunsAbort (s : State) (c : Core) (i : Nat) (e : Entry) : Bool :=
  decide (c.aborted = some s.now) && s.commitsDone i
    && (match c.res with
      | some o => !s.unwritten c e o
      | none => false)
    && (match e.flow with
      | some f => s.isOldest i f
      | none => true)

/-- BARGE_FINISH (R43, R57, R71, R330): the barge of a core completes: ABORTED at the end of its command; with its outcome once its
commit tick has come and a PCIe output buffer is written; its units and its core are free. END_OF_LIFE blows T3 and erases before
its completion is released, and HALT follows. In HALT the flush answers for it (R59). -/
def execBargeFinish (core : Nat) (s : State) : Host.Outcome State Fault Refusal :=
  .next <|
    let c := s.coreAt core
    match c.job.bind fun i => (s.entryAt i).map fun e => (i, e) with
    | none => s
    | some (i, e) =>
      if s.glb.mode = .halt then s
      else if c.aborted.isSome = true ∧ e.committing = false ∧ e.committed = false ∧ s.outrunsAbort c i e = false then
        ((s.dropCommit i).freeUnits core).finish i (failComp e.b.seq stAborted) none
      else match c.res with
        | none => s
        | some o =>
          let host := s.hostWritten e
          if s.commitsDone i = false ∨ s.unwritten c e o = true then s
          else
            let last := decide (e.b.opcode = 0x0C78) && decide (o.status = stDone)
            let s := if last then s.endLife else s
            let s := s.countOffline o.status
            let s := (s.freeUnits core).finish i (o.comp e.b.seq) (if host then none else o.out)
            if last then s.enterHalt 8 0 0 else s

/-! ### Keys of a service (R82, R114, R144, R206) -/

/-- Steps 1 and 2 of R82 for one handle: KEY_UNKNOWN or KEY_DAMAGED. -/
def State.keyStatus (s : State) (h : Nat) : Option Nat :=
  match s.mooringOf h 0 with
  | none => some stKeyUnknown
  | some (_, m) =>
    let intact (i : Nat) : Bool := ((s.mooringOf h i).map fun p => (s.openRec p.2.krec).isSome).getD false
    if (List.range (max 1 m.krec.label.chainLen)).all intact then none else some stKeyDamaged

/-- Steps 1 and 2 of R82 for every non-zero handle in position order. -/
def State.keySteps (s : State) (r : Run) : List (Bool × Nat) :=
  r.b.handles.map fun h => ((s.keyStatus h).isNone, (s.keyStatus h).getD stDone)

/-- The label of a resident key. -/
def State.labelOf (s : State) (h : Nat) : KLabel := ((s.mooringOf h 0).map fun p => p.2.krec.label).getD (labelOfBytes [])

/-- The key field of one link of a resident key. -/
def State.linkOf (s : State) (h i : Nat) : Bytes := ((s.mooringOf h i).bind fun p => s.openRec p.2.krec).getD (zeros 32)

/-- The bytes of a resident symmetric key. -/
def State.keyOf (s : State) (h : Nat) : Bytes := slice 0 (s.labelOf h).keyLen (s.linkOf h 0)

/-- The serialisation a chain of links holds (R137, R242). -/
def State.chainOf (s : State) (h : Nat) : Bytes := (List.range (s.labelOf h).chainLen).flatMap fun i => s.linkOf h i

/-- Key loads through the KDU (R136, R206). -/
def State.loadLinks (s : State) (h n : Nat) : State :=
  let s := (List.range n).foldl (fun (s : State) i => s.countUse h i) s
  { s with hsh := { s.hsh with loads := s.hsh.loads + BitVec.ofNat 64 n } }

/-- n loads or STOREs through the KDU of records that no mooring holds (R200, R207, R253). -/
def State.countLoads (s : State) (n : Nat) : State := { s with hsh := { s.hsh with loads := s.hsh.loads + BitVec.ofNat 64 n } }

/-- One load of each of some keys. -/
def State.loadKeys (s : State) (hs : List Nat) : State := hs.foldl (fun (s : State) h => s.loadLinks h 1) s

/-- A label check (step 6 of R82): usage, algorithm, mode of use, and the date window. -/
def State.labelOk (s : State) (h : Nat) (usages : List String) (algs : List (String × List Nat)) (modes : String) : Bool :=
  let l := s.labelOf h
  l.usedAs usages && (algs.any fun a => chr a.1 == l.alg && a.2.contains l.size) && modeIn l.mode modes
    && s.dateOk l.notBefore l.notAfter

/-- The parameter words of a BUF = 0 barge that uses none (R37). -/
def noParams (b : Barge) : Bool := b.p0 == 0 && b.p1 == 0 && b.p2 == 0

/-- TDES key lengths. -/
def tdes : String × List Nat := ("T", [16, 24])
/-- AES key lengths. -/
def aes : String × List Nat := ("A", [16, 24, 32])

/-- The key is TDES. -/
def State.isTdes (s : State) (h : Nat) : Bool := (s.labelOf h).alg == chr "T"

/-- Lanes and the KDU can serve a tenant (R206, R219): else the step that uses the lane ends LANE_FAULT. -/
def State.laneReady (s : State) (t : Nat) : Bool := decide (0 < s.hsh.pairs) && (s.laneGroupsFor t).isSome

/-- The run's key loads come through: no second KDU pair disagrees, and one that does has another to retry on (R206). -/
def State.kduServes (s : State) (r : Run) : Bool :=
  decide (0 < s.hsh.pairs) && (decide (r.hw.kdu = 0) || (decide (r.hw.kdu = 1) && decide (1 < s.hsh.pairs)))

/-- The run's lane and key loads come through: no second mismatch, and a lane to retry a first one on (R82, R206, R215, R219). -/
def State.laneServes (s : State) (r : Run) : Bool :=
  s.laneReady r.tenant && s.kduServes r
    && (decide (r.hw.lane = 0) || (decide (r.hw.lane = 1) && (s.retryLane r.lane r.tenant).isSome))

/-- The step of a service that works on the lanes: LANE_FAULT where they do not serve it (R82, R206, R210, R219). -/
def State.lanes (s : State) (r : Run) : List (Bool × Nat) := [(s.laneServes r, stLaneFault)]

/-- The step of a service that works on a tile, and on a lane where it stores a key; `loads`: it loads a key through the KDU (R206, R210,
R234, R237, R240). -/
def State.tiles (s : State) (r : Run) (loads store : Bool) : List (Bool × Nat) :=
  [((s.tileGroupsFor r.tenant).isSome && decide (r.hw.tile < 2) && (!loads || s.kduServes r) && (!store || s.laneServes r), stLaneFault)]

/-- Go on where the lanes serve, with the keys loaded; else LANE_FAULT. -/
def State.withLane (s : State) (r : Run) (hs : List Nat) (k : State → Res × State) : Res × State :=
  s.checks r (s.lanes r) fun _ => k (s.loadKeys hs)

/-- Go on where a tile, or a lane to store through, serves; else LANE_FAULT. -/
def State.withTile (s : State) (r : Run) (loads store : Bool) (k : Unit → Res × State) : Res × State :=
  s.checks r (s.tiles r loads store) k

/-! ### Block modes -/

/-- One block enciphered under TDES or AES. -/
def blockEnc (isT : Bool) (k b : Bytes) : Bytes := if isT then fixLen 8 (Config.tdesEnc k b) else fixLen 16 (Config.aesEnc k b)

/-- One block deciphered. -/
def blockDec (isT : Bool) (k b : Bytes) : Bytes := if isT then fixLen 8 (Config.tdesDec k b) else fixLen 16 (Config.aesDec k b)

/-- Block length. -/
def blockLen (isT : Bool) : Nat := if isT then 8 else 16

/-- The n-byte blocks of a byte string, the last zero-padded. -/
def blocks (n : Nat) (bs : Bytes) : List Bytes := (List.range (ceilDiv bs.length n)).map fun i => slice (n * i) n bs

/-- CBC encryption of whole blocks. -/
def cbcEnc (isT : Bool) (k : Bytes) : Bytes → List Bytes → Bytes
  | _, [] => []
  | iv, b :: bs =>
    let c := blockEnc isT k (xorBytes b iv)
    c ++ cbcEnc isT k c bs

/-- CBC decryption of whole blocks. -/
def cbcDec (isT : Bool) (k : Bytes) : Bytes → List Bytes → Bytes
  | _, [] => []
  | iv, c :: cs => xorBytes (blockDec isT k c) iv ++ cbcDec isT k c cs

/-- The counter block n steps on: its last 4 bytes as a big-endian number modulo 2^32 (R130). -/
def ctrBlock (b : Bytes) (n : Nat) : Bytes := b.take 12 ++ toBE 4 ((ofBE (slice 12 4 b) + n) % 2 ^ 32)

/-- CTR with AES, in either direction (R130). -/
def ctrMode (k b bs : Bytes) : Bytes :=
  xorBytes bs (fixLen bs.length ((List.range (ceilDiv bs.length 16)).flatMap fun i => blockEnc false k (ctrBlock b i)))

/-- The key check value of a key (R150): 5 bytes. -/
def kcvOf (isT : Bool) (k : Bytes) : Bytes :=
  if isT then (fixLen 8 (Config.tdesEnc k (zeros 8))).take 3 ++ zeros 2 else (fixLen 16 (Config.cmac k (zeros 16))).take 5

/-! ### Random data (R82 step 13, R133, R263) -/

/-- How a draw of a service ends. -/
inductive Drawn where
  | bytes (bs : Bytes)
  | wait
  | none_
  deriving DecidableEq, Repr

/-- One request of n bytes from the core's home DRBG: served, to be asked for again until the deadline tick has passed, or failed
(R62, R263, R266). Log 43, DEDUCED. -/
def State.drawFor (s : State) (r : Run) (n : Nat) : Drawn × State :=
  let d := s.draw r.core n
  match d.1 with
  | .bytes bs => if s.now ≤ r.e.deadline then (.bytes bs, d.2) else (.none_, s)
  | .again => (if s.now ≤ r.e.deadline then .wait else .none_, s)
  | .rawBlocked => (.none_, s)

/-- Random bytes read one by one from 16-byte requests (R91, R97): those left of the last request, requests made, bytes rejected. -/
structure Pool where
  data : Bytes := []
  reqs : Nat := 0
  rejected : Nat := 0
  deriving DecidableEq, Repr

/-- Accepted values from the bytes at hand: the values still wanted, the bytes left and the rejections. -/
def takeValues (accept : Byte → Option Nat) : Nat → Bytes → List Nat × Bytes × Nat
  | 0, bs => ([], bs, 0)
  | _, [] => ([], [], 0)
  | n + 1, b :: bs =>
    match accept b with
    | some v =>
      let x := takeValues accept n bs
      (v :: x.1, x.2)
    | none =>
      let x := takeValues accept (n + 1) bs
      (x.1, x.2.1, x.2.2 + 1)

/-- n accepted values from a pool, with up to `fuel` further requests; none where the DRBG does not serve (wait: true). -/
def State.poolValues (r : Run) (accept : Byte → Option Nat) (n : Nat) : Nat → Pool → State →
    (Option (List Nat × Pool) × Bool) × State
  | fuel, p, s =>
    let x := takeValues accept n p.data
    let p' := { p with data := x.2.1, rejected := p.rejected + x.2.2 }
    if x.1.length = n then ((some (x.1, p'), false), s)
    else match fuel with
      | 0 => ((none, true), s)
      | fuel + 1 =>
        let d := s.drawFor r 16
        match d.1 with
        | .bytes bs =>
          let y := State.poolValues r accept (n - x.1.length) fuel { p' with data := bs, reqs := p.reqs + 1 } d.2
          match y.1.1 with
          | some (vs, q) => ((some (x.1 ++ vs, q), false), y.2)
          | none => y
        | .wait => ((none, true), d.2)
        | .none_ => ((none, false), d.2)

/-- Crew-core cycles that rejections and further requests add (R85, R97). -/
def Pool.cost (p : Pool) : Nat := 40 * p.rejected + 300 * (p.reqs - 1)

/-! ### Hash engines (R126, R135, R222) -/

/-- The computation of n engine cycles takes a free engine, which is open (log 20), and adds to its busy cycles (R79, R135, R222). -/
def State.engineWork (s : State) (alg n : Nat) : State :=
  let es := s.freeEngines alg
  let pick := if es.length ≤ 1 then (0, s) else s.freshNat
  match es[pick.1 % es.length]? with
  | some e => pick.2.engineBusy (engIndex e) n
  | none => s

/-! ### Nonces (R130, R181, R214) -/

/-- How a nonce request of a service ends. -/
inductive NonceRes where
  | nonce (bs : Bytes)
  | wait
  | status (st : Nat)
  deriving DecidableEq, Repr

/-- A nonce from the mooring counter of a key (R130, R181): it waits while a lease is committed. -/
def State.issueNonce (s : State) (h : Nat) : NonceRes × State :=
  match s.mooringOf h 0 with
  | none => (.status stKeyUnknown, s)
  | some (m, x) =>
    if nonceEnd ≤ x.krec.nonceCtr then (.status stKeyUsage, s)
    else if x.leased then (.nonce (toBE 4 s.noncePrefix ++ toBE 8 x.krec.nonceCtr), s.takeCounter m x)
    else if s.storeUp = false then (.status stCargoOffline, s)
    else if s.leasePending h then (.wait, s)
    else (.wait, s.askLease h x.krec.nonceCtr)

/-! ### The quorum table and permits (R161, R163, R164) -/

/-- The default quorum of an action (R164): signers and the role bits; none: no code of the table. -/
def quorumDefault (a : Nat) : Option QuorumEntry :=
  let so : BitVec 8 := 1
  let ca : BitVec 8 := 2
  let cb : BitVec 8 := 4
  let au : BitVec 8 := 8
  let op : BitVec 8 := 16
  match a with
  | 0x0001 | 0x0002 | 0x0003 => some ⟨0, 0, 0⟩
  | 0x0004 | 0x0005 | 0x0007 | 0x0008 | 0x0050 | 0x0051 => some ⟨2, ca, cb⟩
  | 0x0006 => some ⟨2, so, ca⟩
  | 0x0010 | 0x0011 | 0x0012 | 0x0020 | 0x0021 | 0x0052 | 0x0062 | 0x0063 | 0x0065 => some ⟨2, so, so⟩
  | 0x0030 | 0x0061 => some ⟨1, op, 0⟩
  | 0x0040 => some ⟨2, au, so⟩
  | 0x0060 | 0x0064 => some ⟨2, so, op⟩
  | _ => none

/-- A sensitive action (R164). -/
def sensitive (a : Nat) : Bool :=
  match quorumDefault a with
  | some q => q.signers == 2
  | none => false

/-- The quorum entry of an action in the active table (R164). -/
def State.quorumOf (s : State) (a : Nat) : Option QuorumEntry := (Tbl.find a s.cfg.quorum).or (quorumDefault a)

/-- An officer's entry (R159): unlisted, FREE. -/
def State.officerAt (s : State) (n : Nat) : Officer := tget ⟨0, 0, [], .free⟩ n s.adm.officers

/-- An officer is ACTIVE. -/
def State.officerActive (s : State) (n : Nat) : Bool := decide ((s.officerAt n).st = .active)

/-- A permit record of the logbook (R163, R426): lodge 0, use 1, refusal 2. -/
def State.logPermit (s : State) (what tenant no action officerA officerB status : Nat) : State :=
  s.logRec .permit what tenant 0xFF
    [Config.logWord 1 [no, action], Config.logWord 2 [officerA, officerB], BitVec.ofNat 64 status]

/-- What the ARG of a permit must equal, if not zero (R161): the barge's lighters, then its input buffer. -/
def argOf (r : Run) : Bytes := Config.shake256 (r.b.lights ++ r.input) 32

/-- A permit's scope covers every handle a barge names and its target (R161, R163). Log 43, DEDUCED. -/
def Permit.covers (p : Permit) (hs : List Nat) : Bool :=
  if p.scopeKind = 0 then true
  else if p.scopeKind = 1 then hs.all fun h => handleTenant h == bitsOf 59 48 p.scope
  else hs.all (· == p.scope)

/-- A barge on another core than a run's that names the same permit and has not ended: the core, and its entry (R163). -/
def State.rivals (s : State) (r : Run) : List (Nat × Entry) :=
  s.cores.filterMap fun p =>
    match p.2.job.bind s.entryAt with
    | some e =>
      if p.1 ≠ r.core ∧ e.tenant = r.tenant ∧ e.b.permit = r.b.permit ∧ p.2.res.isNone = true then some (p.1, e) else none
    | none => none

/-- A claim made in this tick is not yet sure: a barge admitted earlier may still claim the permit in it (R163). -/
def State.unsure (s : State) (r : Run) : Bool :=
  decide ((s.coreAt r.core).claimed.map Prod.fst = some s.now)
    && (s.rivals r).any fun x => decide (x.2.order < r.e.order) && (s.coreAt x.1).claimed.isNone

/-- The permit that a barge admitted later has claimed in this tick, with its core (R163). -/
def State.outclaimed (s : State) (r : Run) : Option (Nat × Permit) :=
  (s.rivals r).findSome? fun x =>
    match (s.coreAt x.1).claimed with
    | some (t, p) => if t = s.now ∧ p.no = r.b.permit ∧ r.e.order < x.2.order then some (x.1, p) else none
    | none => none

/-- Steps 6 to 8 of R146 (R163): none where the permit's conditions hold, with the claim made; `device` where the action takes only
a device-scope permit. A claim already made by the barge stands. Of two barges that claim one permit in one tick the earlier admitted has it.
Answers the permit used. -/
def State.usePermit (s : State) (r : Run) (action : Nat) (device : Bool := false) : (Option Nat × Option Permit) × State :=
  let q := (s.quorumOf action).getD ⟨0, 0, 0⟩
  let no := r.b.permit
  let c := s.coreAt r.core
  if q.signers = 0 then ((if no = 0 then none else some stBadFormat, none), s)
  else if no = 0 then ((some stPermitMissing, none), s)
  else if c.claimed.isSome then ((none, c.claimed.map Prod.snd), s)
  else
    let refuse (st : Nat) (a b : Nat) : (Option Nat × Option Permit) × State :=
      ((some st, none), s.logPermit 2 r.tenant no action a b st)
    let out := s.outclaimed r
    match (s.adm.permits.find? fun p => p.1 == r.tenant && p.2.no == no).or (out.map fun x => (r.tenant, x.2)) with
    | none => refuse stPermitInvalid 0 0
    | some (t, p) =>
      let ok := decide (p.action = action) && (!device || decide (p.scopeKind = 0)) && p.covers (bargeHandles r.b)
        && (allZero p.arg || decide (p.arg = argOf r)) && s.officerActive p.officerA
        && (decide (p.signers = 1) || s.officerActive p.officerB)
      if ok = false then refuse stPermitInvalid p.officerA p.officerB
      else if s.now < p.notBefore ∨ p.notAfter < s.now then refuse stPermitExpired p.officerA p.officerB
      else
        let s := match out with
          | some x => s.setCore x.1 { s.coreAt x.1 with claimed := none }
          | none => { s with adm := { s.adm with permits := s.adm.permits.erase (t, p), spent := s.adm.spent ++ [(t, no)] } }
        let s := s.setCore r.core { s.coreAt r.core with claimed := some (s.now, p) }
        ((none, some p), s.logPermit 1 r.tenant no action p.officerA p.officerB stDone)

/-- Go on where steps 6 to 8 of R146 pass; a claim that is not yet sure waits for the next tick. Log 69, DESIGN CHOICE. -/
def State.withPermit (s : State) (r : Run) (action : Nat) (k : Option Permit → State → Res × State)
    (device : Bool := false) : Res × State :=
  let u := s.usePermit r action device
  match u.1.1 with
  | some st => u.2.fails st
  | none => if u.2.unsure r then (.wait, u.2) else k u.1.2 u.2

/-- Step 5 of R146: go on where every handle position that the opcode requires is non-zero; the slot holds the handles, so that no word is read
here. -/
def State.withHandles (s : State) (given : Bool) (k : Unit → Res × State) : Res × State := if given then k () else s.fails stBadFormat

/-- The tick of a barge's claim, or now where its action takes no permit (R168). -/
def State.claimTick (s : State) (r : Run) : Nat := ((s.coreAt r.core).claimed.map Prod.fst).getD s.now

end Sys2Proof.Machine
end

