-- ==== Sys2Proof/Machine/Pin.lean ====
section
/-! DEFINITION. PIN, card verification and DUKPT services (04_pin_and_card_services.md R81 to R112): opcode groups 0x01, 0x02 and
0x03. -/

namespace Sys2Proof.Machine

/-! ### Digits and nibbles (R87) -/

/-- The nibbles of a byte string, high nibble first. -/
def nibbles (bs : Bytes) : List Nat := bs.flatMap fun b => [b.toNat / 16, b.toNat % 16]

/-- Bytes of nibbles, high nibble first. Log 33, DEDUCED. -/
def packNibbles : List Nat → Bytes
  | [] => []
  | [a] => [BitVec.ofNat 8 (16 * a)]
  | a :: b :: rest => BitVec.ofNat 8 (16 * a + b) :: packNibbles rest

/-- n digits, then 0xF to the end. -/
def digitsThenF (n : Nat) (ns : List Nat) : Bool := (ns.take n).all (· ≤ 9) && (ns.drop n).all (· == 0xF)

/-- The first n values of 0 to 9 among nibbles, then, in a second scan, of 0xA to 0xF as their value minus 10 (R95). -/
def decimalise (n : Nat) (ns : List Nat) : List Nat :=
  (ns.filter (· ≤ 9) ++ (ns.filter (10 ≤ ·)).map (· - 10)).take n

/-- A number as n decimal digits, most significant first. -/
def decimalDigits : Nat → Nat → List Nat
  | 0, _ => []
  | n + 1, v => decimalDigits n (v / 10) ++ [v % 10]

/-- The 12, or n, rightmost digits without the check digit, left-filled with 0 (R91, R95). -/
def rightmost (n : Nat) (digits : List Nat) : List Nat :=
  let ds := digits.dropLast
  List.replicate (n - ds.length) 0 ++ ds.drop (ds.length - n)

/-! ### PIN blocks (R88, R91) -/

/-- A format of R88. -/
def pinFormat (f : Nat) : Bool := f == 0 || f == 1 || f == 3 || f == 4

/-- A PAN is used by a block of a format. -/
def usesPan (f : Nat) : Bool := f != 1

/-- The PAN field of a format (R91). Log 33, DEDUCED. -/
def panField (f : Nat) (pan : List Nat) : Bytes :=
  if f = 4 then packNibbles (((pan.length - 12) :: pan) ++ List.replicate (31 - pan.length) 0)
  else if f = 1 then zeros 8
  else packNibbles ([0, 0, 0, 0] ++ rightmost 12 pan)

/-- The PIN field a cipher block holds under a key. -/
def pinField (f : Nat) (isT : Bool) (key block : Bytes) (pan : List Nat) : List Nat :=
  let n := blockLen isT
  let d := blockDec isT key (slice 0 n block)
  if f = 4 then nibbles (blockDec isT key (xorBytes d (panField 4 pan))) else nibbles (xorBytes d (panField f pan))

/-- The PIN of a block, if every check of its format passes (R91). -/
def readPin (f : Nat) (field : List Nat) : Option (List Nat) :=
  let ns := field.take 16
  let n := ns.getD 1 0
  let pin := (ns.drop 2).take n
  let fill := ns.drop (2 + n)
  let fillOk :=
    if f = 0 then fill.all (· == 0xF) else if f = 3 then fill.all (0xA ≤ ·) else if f = 4 then fill.all (· == 0xA) else true
  if ns.getD 0 16 = f ∧ 4 ≤ n ∧ n ≤ 12 ∧ pin.all (· ≤ 9) = true ∧ fillOk = true then some pin else none

/-- Random values a block's fill takes for a PIN of n digits, and what each byte gives (R91). Log 33, DEDUCED. -/
def fillNeed (f n : Nat) : Nat := if f = 1 ∨ f = 3 then 14 - n else if f = 4 then 8 else 0

/-- What a random byte gives for a format's fill: format 1 takes one byte for a nibble, its low four bits, where the manual says only "random
nibbles". Log 33, DESIGN CHOICE. -/
def fillByte (f : Nat) (b : Byte) : Option Nat :=
  if f = 3 then (if 252 ≤ b.toNat then none else some (10 + b.toNat % 6)) else if f = 1 then some (b.toNat % 16) else some b.toNat

/-- A cipher block of a PIN under a key, with its random fill (R91). Log 33, DEDUCED. -/
def writePin (f : Nat) (isT : Bool) (key : Bytes) (pin : List Nat) (pan : List Nat) (fill : List Nat) : Bytes :=
  let head := [f, pin.length] ++ pin
  if f = 4 then
    let field := packNibbles (head ++ List.replicate (16 - head.length) 0xA) ++ fill.map (BitVec.ofNat 8)
    blockEnc isT key (xorBytes (blockEnc isT key (fixLen 16 field)) (panField 4 pan))
  else
    let ns := if f = 0 then head ++ List.replicate (16 - head.length) 0xF else head ++ fill
    blockEnc isT key (xorBytes (fixLen 8 (packNibbles ns)) (panField f pan))

/-! ### The PIN lighter (R87 to R89) -/

/-- The PIN lighter's fields. -/
structure PinArgs where
  blockA : Bytes
  blockB : Bytes
  panBytes : Bytes
  inFmt : Nat
  outFmt : Nat
  panLen : Nat
  checkLen : Nat
  pvki : Nat
  ctrl : Nat
  resv : Bytes
  ref : Bytes
  deriving DecidableEq, Repr

/-- The fields of a PIN lighter. -/
def pinArgs (l : Bytes) : PinArgs :=
  let c := le 48 8 l
  { blockA := slice 0 16 l, blockB := slice 16 16 l, panBytes := slice 32 10 l, inFmt := bitsOf 3 0 c, outFmt := bitsOf 7 4 c,
    panLen := bitsOf 12 8 c, checkLen := bitsOf 19 16 c, pvki := bitsOf 26 24 c, ctrl := c, resv := slice 42 6 l,
    ref := slice 56 8 l }

/-- The PAN's digits. -/
def PinArgs.pan (a : PinArgs) : List Nat := (nibbles a.panBytes).take a.panLen

/-- A PAN length of R87. -/
def panLenOk (n : Nat) : Bool := decide (12 ≤ n) && decide (n ≤ 19)

/-- What an opcode of group 0x01 does with its lighter: it reads a block, writes one; takes an offset, a PVV; uses the 3624 method,
the PVV method; changes a PIN. -/
structure PinOp where
  reads : Bool := true
  writes : Bool := false
  refOffset : Bool := false
  refPvv : Bool := false
  m3624 : Bool := false
  mPvv : Bool := false
  change : Bool := false
  checkLen : Bool := true
  deriving DecidableEq, Repr

/-- Step 7 of R82 for the PIN lighter (R87 to R89). A CHECK_LEN outside 4 to 12 leaves REF's digits unchecked, so that step 8 ends the barge.
Log 67, DESIGN CHOICE. -/
def pinFormOk (o : PinOp) (a : PinArgs) (second : Bytes) : Bool :=
  let fmts := (if o.reads then [a.inFmt] else []) ++ (if o.writes then [a.outFmt] else [])
  let usesP := o.mPvv || fmts.any usesPan
  let tdesBlock := a.inFmt ≠ 4
  fmts.all pinFormat
    && (bitsOf 15 13 a.ctrl == 0 && bitsOf 23 20 a.ctrl == 0 && bitsOf 63 27 a.ctrl == 0 && allZero a.resv)
    && (if o.reads then !tdesBlock || allZero (a.blockA.drop 8) else a.inFmt == 0 && allZero a.blockA)
    && (if o.change then !tdesBlock || allZero (a.blockB.drop 8) else allZero a.blockB)
    && (o.writes || a.outFmt == 0)
    && (o.checkLen || a.checkLen == 0) && (o.mPvv || a.pvki == 0)
    && (if usesP then !panLenOk a.panLen || digitsThenF a.panLen (nibbles a.panBytes)
        else a.panLen == 0 && allZero a.panBytes)
    && (if o.refOffset then
          allZero (a.ref.drop 6) && (!(decide (4 ≤ a.checkLen) && decide (a.checkLen ≤ 12))
            || digitsThenF a.checkLen (nibbles (a.ref.take 6)))
        else if o.refPvv then allZero (a.ref.drop 2) && (nibbles (a.ref.take 2)).all (· ≤ 9)
        else allZero a.ref)
    && (!o.m3624 || ((nibbles (second.take 8)).all (· ≤ 9) && allZero (second.drop 16)))

/-- Step 8 of R82 (R88, R94, R95, R97). -/
def pinRangeOk (o : PinOp) (a : PinArgs) : Bool :=
  let fmts := (if o.reads then [a.inFmt] else []) ++ (if o.writes then [a.outFmt] else [])
  let usesP := o.mPvv || fmts.any usesPan
  (!usesP || panLenOk a.panLen)
    && (if o.mPvv then a.checkLen == 4 && decide (1 ≤ a.pvki) && decide (a.pvki ≤ 6)
        else !o.checkLen || (decide (4 ≤ a.checkLen) && decide (a.checkLen ≤ 12)))

/-- Formats pair with keys: 0, 1 and 3 with TDES, 4 with AES (R90). -/
def State.pairOk (s : State) (f h : Nat) : Bool := s.isTdes h == decide (f ≠ 4)

/-! ### Reference values (R94, R95) -/

/-- The IBM 3624 offset of a PIN (R94). -/
def offset3624 (pvk second : Bytes) (pin : List Nat) (checkLen : Nat) : List Nat :=
  let e := nibbles (fixLen 8 (Config.tdesEnc pvk (slice 8 8 second)))
  let table := nibbles (second.take 8)
  (List.range checkLen).map fun i => (pin.getD i 0 + 10 - table.getD (e.getD i 0) 0) % 10

/-- The PVV of a PIN (R95). -/
def pvvOf (pvk : Bytes) (pan : List Nat) (pvki : Nat) (pin : List Nat) : List Nat :=
  let tsp := rightmost 11 pan ++ [pvki] ++ pin.take 4
  decimalise 4 (nibbles (fixLen 8 (Config.tdesEnc pvk (packNibbles tsp))))

/-- An offset in REF's layout. -/
def offsetBytes (ds : List Nat) : Bytes := packNibbles (ds ++ List.replicate (12 - ds.length) 0xF)

/-! ### Group 0x01 (R92 to R99) -/

/-- Steps 1 to 9 of R82 of an opcode of group 0x01 that reads a PIN block under HANDLE0, with the label checks of HANDLE1. -/
def State.pinChecks (s : State) (r : Run) (o : PinOp) (a : PinArgs) (two : Bool) (label0 label1 : Bool) (outKey : Nat) :
    List (Bool × Nat) :=
  s.keySteps r ++
  [(r.b.permit == 0, stBadFormat), (r.b.h0 != 0 && (!two || r.b.h1 != 0), stBadFormat), (label0, stKeyUsage),
    (label1, stKeyUsage), (pinFormOk o a (r.lighter 1), stBadFormat), (pinRangeOk o a, stRange),
    ((!o.reads || s.pairOk a.inFmt r.b.h0) && (!o.writes || s.pairOk a.outFmt outKey), stKeyUsage)]

/-- The P0 label check of HANDLE0 for deciphering. -/
def State.pinKeyOk (s : State) (h : Nat) (modes : String) : Bool := s.labelOk h ["P0"] [tdes, aes] modes

/-- A PIN written in a format under a key of the tenant, its fill drawn first (R91); no PIN: the PIN_BLOCK_ERROR of steps 11 and 12,
which stands before ENTROPY_UNAVAILABLE, though the draw is made. A service that must wait leaves the state `before` it. -/
def State.putPin (s before : State) (r : Run) (f : Nat) (h : Nat) (pin : Option (List Nat)) (pan : List Nat) (pool : Pool)
    (cycles : Nat) : Res × State :=
  let x := s.poolValues r (fillByte f) (fillNeed f (pin.getD [0, 0, 0, 0]).length) 256 pool
  match x.1 with
  | (some (fill, p), _) => (x.2.spend r.core (cycles + p.cost)).gives (match pin with
    | none => failed stPinBlock
    | some pin => answered (writePin f (before.isTdes h) (before.keyOf h) pin pan fill))
  | (none, true) => (.wait, before)
  | (none, false) => x.2.fails (if pin.isNone then stPinBlock else stEntropy)

/-- Whether a translation leaves format 4 without the tenant's leave (R93). -/
def State.downgrades (s : State) (t inFmt outFmt : Nat) : Bool :=
  inFmt == 4 && outFmt != 4 && !(s.tenantAt t).f4Downgrade

/-- The PIN that a block of the barge holds under HANDLE0 (R91). -/
def State.pinIn (s : State) (r : Run) (block : Bytes) : Option (List Nat) :=
  let a := pinArgs (r.lighter 0)
  readPin a.inFmt (pinField a.inFmt (s.isTdes r.b.h0) (s.keyOf r.b.h0) block a.pan)

/-- Steps 1 to 10 of PIN_TRANSLATE (R82, R93). -/
def State.translateChecks (s : State) (r : Run) : List (Bool × Nat) :=
  let a := pinArgs (r.lighter 0)
  s.pinChecks r { writes := true, checkLen := false } a true (s.pinKeyOk r.b.h0 "DB") (s.pinKeyOk r.b.h1 "EB") r.b.h1
    ++ [(!s.downgrades r.tenant a.inFmt a.outFmt, stPolicyDenied)]

/-- Cycles of PIN_TRANSLATE (R85). -/
def translateCycles (t0 t1 : Bool) : Nat := if t0 && t1 then 6400 else if t0 || t1 then 7600 else 8700

/-- PIN_TRANSLATE (R93). -/
def pinTranslateSvc (r : Run) (s : State) : Res × State :=
  let a := pinArgs (r.lighter 0)
  s.checks r (s.translateChecks r) fun _ =>
    s.withLane r [r.b.h0, r.b.h1] fun s' =>
      s'.putPin s r a.outFmt r.b.h1 (s.pinIn r a.blockA) a.pan {} (translateCycles (s.isTdes r.b.h0) (s.isTdes r.b.h1))

/-- PIN_TRANSLATE, opcode 0x0100. -/
def execPinTranslate (core : Nat) (hw : Hw) (s : State) : Host.Outcome State Fault Refusal := .next (s.serve core 0x0100 hw pinTranslateSvc)

/-- Steps 1 to 9 of an opcode that works with a reference value under HANDLE1 (R82, R94 to R96). -/
def State.referenceChecks (s : State) (o : PinOp) (modes : String) (r : Run) : List (Bool × Nat) :=
  s.pinChecks r o (pinArgs (r.lighter 0)) true (s.pinKeyOk r.b.h0 "DB")
    (if o.m3624 then s.labelOk r.b.h1 ["V1"] [tdes] modes else s.labelOk r.b.h1 ["V2"] [("T", [16])] modes) r.b.h1

/-- The offset of a PIN under the verification key HANDLE1, as REF holds it (R94). -/
def State.offsetOf (s : State) (r : Run) (pin : List Nat) : Bytes :=
  offsetBytes (offset3624 (s.keyOf r.b.h1) (r.lighter 1) pin (pinArgs (r.lighter 0)).checkLen)

/-- The PVV of a PIN under the verification key HANDLE1, as REF holds it (R95). -/
def State.pvvFor (s : State) (r : Run) (pin : List Nat) : Bytes :=
  let a := pinArgs (r.lighter 0)
  packNibbles (pvvOf (s.keyOf r.b.h1) a.pan a.pvki pin)

/-- The opcodes that read one block and compare it with, or return, a reference value (R94, R95). -/
def pinReference (o : PinOp) (modes : String) (verify : Bool) (r : Run) (s : State) : Res × State :=
  let a := pinArgs (r.lighter 0)
  s.checks r (s.referenceChecks o modes r) fun _ =>
    s.withLane r [r.b.h0, r.b.h1] fun s' =>
      (s'.spend r.core (if s.isTdes r.b.h0 then 7200 else 7900)).gives (match s.pinIn r a.blockA with
        | none => failed stPinBlock
        | some pin =>
          if o.m3624 then
            if verify then
              if a.checkLen ≤ pin.length ∧ s.offsetOf r pin = a.ref.take 6 then answered [] else failed stVerifyFail
            else if pin.length < a.checkLen then failed stPinBlock
            else answered (s.offsetOf r pin)
          else if verify then (if s.pvvFor r pin = a.ref.take 2 then answered [] else failed stVerifyFail)
          else answered (s.pvvFor r pin))

/-- PIN_VERIFY_3624, opcode 0x0101 (R94). -/
def execPinVerify3624 (core : Nat) (hw : Hw) (s : State) : Host.Outcome State Fault Refusal :=
  .next (s.serve core 0x0101 hw (pinReference { refOffset := true, m3624 := true } "VC" true))

/-- PIN_VERIFY_PVV, opcode 0x0102 (R95). -/
def execPinVerifyPvv (core : Nat) (hw : Hw) (s : State) : Host.Outcome State Fault Refusal :=
  .next (s.serve core 0x0102 hw (pinReference { refPvv := true, mPvv := true } "VC" true))

/-- OFFSET_GENERATE, opcode 0x0103 (R94). -/
def execOffsetGenerate (core : Nat) (hw : Hw) (s : State) : Host.Outcome State Fault Refusal :=
  .next (s.serve core 0x0103 hw (pinReference { m3624 := true } "GC" false))

/-- PVV_GENERATE, opcode 0x0104 (R95). -/
def execPvvGenerate (core : Nat) (hw : Hw) (s : State) : Host.Outcome State Fault Refusal :=
  .next (s.serve core 0x0104 hw (pinReference { mPvv := true } "GC" false))

/-- The PIN change opcodes (R96). -/
def pinChange (o : PinOp) (r : Run) (s : State) : Res × State :=
  let a := pinArgs (r.lighter 0)
  s.checks r (s.referenceChecks o "C" r) fun _ =>
    s.withLane r [r.b.h0, r.b.h1] fun s' =>
      (s'.spend r.core (if s.isTdes r.b.h0 then 11800 else 13200)).gives (match s.pinIn r a.blockA, s.pinIn r a.blockB with
        | some old, some new =>
          if o.m3624 then
            if new.length < a.checkLen then failed stPinBlock
            else if a.checkLen ≤ old.length ∧ s.offsetOf r old = a.ref.take 6 then answered (s.offsetOf r new)
            else failed stVerifyFail
          else if s.pvvFor r old = a.ref.take 2 then answered (s.pvvFor r new)
          else failed stVerifyFail
        | _, _ => failed stPinBlock)

/-- PIN_CHANGE_3624, opcode 0x0105 (R96). -/
def execPinChange3624 (core : Nat) (hw : Hw) (s : State) : Host.Outcome State Fault Refusal :=
  .next (s.serve core 0x0105 hw (pinChange { refOffset := true, m3624 := true, change := true }))

/-- PIN_CHANGE_PVV, opcode 0x0106 (R96). -/
def execPinChangePvv (core : Nat) (hw : Hw) (s : State) : Host.Outcome State Fault Refusal :=
  .next (s.serve core 0x0106 hw (pinChange { refPvv := true, mPvv := true, change := true }))

/-- Steps 1 to 9 of PIN_GENERATE (R82, R97). -/
def State.pinGenerateChecks (s : State) (r : Run) : List (Bool × Nat) :=
  s.pinChecks r { reads := false, writes := true } (pinArgs (r.lighter 0)) false (s.pinKeyOk r.b.h0 "EB") true r.b.h0

/-- What a random byte gives for a PIN digit (R97). -/
def pinDigit (b : Byte) : Option Nat := if 250 ≤ b.toNat then none else some (b.toNat % 10)

/-- PIN_GENERATE (R97). The digits and the fill take their bytes from one row of 16-byte requests. Log 33, DESIGN CHOICE. -/
def pinGenerateSvc (r : Run) (s : State) : Res × State :=
  let a := pinArgs (r.lighter 0)
  s.checks r (s.pinGenerateChecks r) fun _ =>
    s.withLane r [r.b.h0] fun s' =>
      let x := s'.poolValues r pinDigit a.checkLen 256 {}
      match x.1 with
      | (some (pin, p), _) => x.2.putPin s r a.outFmt r.b.h0 (some pin) a.pan p (if s.isTdes r.b.h0 then 5200 else 6100)
      | (none, true) => (.wait, s)
      | (none, false) => x.2.fails stEntropy

/-- PIN_GENERATE, opcode 0x0107. -/
def execPinGenerate (core : Nat) (hw : Hw) (s : State) : Host.Outcome State Fault Refusal := .next (s.serve core 0x0107 hw pinGenerateSvc)

/-- Steps 1 to 9 of PIN_MAILER (R82, R98). -/
def State.mailerChecks (s : State) (r : Run) : List (Bool × Nat) :=
  s.pinChecks r { checkLen := false } (pinArgs (r.lighter 0)) true (s.pinKeyOk r.b.h0 "DB")
    (s.labelOk r.b.h1 ["50"] [("A", [32])] "EB") 0

/-- The mailer record of a PIN (R98): the nonce, then the PIN length, its ASCII digits and lighter 2 under GCM, and the tag. -/
def State.mailerRecord (s : State) (r : Run) (pin : List Nat) (nonce : Bytes) : Bytes :=
  let plain := BitVec.ofNat 8 pin.length :: fixLen 12 (pin.map fun d => BitVec.ofNat 8 (0x30 + d)) ++ zeros 3 ++ r.lighter 1
  let k := s.keyOf r.b.h1
  let aad := toLE 8 r.b.h1
  let ct := fixLen 80 (Config.gcmEnc k nonce aad plain)
  nonce ++ ct ++ fixLen 16 (Config.gcmTag k nonce aad ct)

/-- PIN_MAILER (R98). -/
def pinMailerSvc (r : Run) (s : State) : Res × State :=
  let a := pinArgs (r.lighter 0)
  s.checks r (s.mailerChecks r) fun _ =>
    s.checks r (s.lanes r) fun _ => match s.pinIn r a.blockA with
      | none =>
        ((s.loadKeys [r.b.h0, r.b.h1]).spend r.core (if s.isTdes r.b.h0 then 10400 else 11100)).fails stPinBlock
      | some pin =>
        let n := s.issueNonce r.b.h1
        match n.1 with
        | .wait => (.wait, n.2)
        | .status st => (n.2.loadKeys [r.b.h0, r.b.h1]).fails st
        | .nonce nonce =>
          ((n.2.loadKeys [r.b.h0, r.b.h1]).spend r.core (if s.isTdes r.b.h0 then 10400 else 11100)).gives
            (withOutput r (s.mailerRecord r pin nonce))

/-- PIN_MAILER, opcode 0x0108. -/
def execPinMailer (core : Nat) (hw : Hw) (s : State) : Host.Outcome State Fault Refusal := .next (s.serve core 0x0108 hw pinMailerSvc)

/-! ### Group 0x02 (R100 to R105) -/

/-- The CVV of a card lighter's data under a CVK (R103): 3 digits. -/
def cvvOf (cvk : Bytes) (pan expiry svc : List Nat) : List Nat :=
  let ds := pan ++ expiry ++ svc
  let v := Config.mac3 cvk 0 (packNibbles (ds ++ List.replicate (32 - ds.length) 0))
  decimalise 3 (nibbles (fixLen 8 v))

/-- Steps 1 to 8 of CVV_GENERATE and CVV_VERIFY (R82, R100, R102). -/
def State.cvvChecks (s : State) (verify : Bool) (r : Run) : List (Bool × Nat) :=
  let l := r.lighter 0
  let panLen := le 10 1 l
  let variant := le 11 1 l
  let expiry := nibbles (slice 12 2 l)
  let svc := nibbles (slice 14 2 l)
  let value := nibbles (slice 16 2 l)
  let form := (!panLenOk panLen || digitsThenF panLen (nibbles (slice 0 10 l))) && expiry.all (· ≤ 9)
    && (if variant = 0 then digitsThenF 3 svc else if variant ≤ 2 then allZero (slice 14 2 l) else true)
    && (if verify then digitsThenF 3 value else allZero (slice 16 2 l)) && allZero (l.drop 18)
  s.keySteps r ++ [(r.b.permit == 0, stBadFormat), (r.b.h0 != 0, stBadFormat),
    (s.labelOk r.b.h0 ["C0"] [("T", [16])] (if verify then "VC" else "GC"), stKeyUsage), (form, stBadFormat),
    (panLenOk panLen && decide (variant ≤ 2), stRange)]

/-- The service code a CVV takes (R103): the card's, 000 for a CVV2, 999 for an iCVV. -/
def serviceCode (l : Bytes) : List Nat :=
  let variant := le 11 1 l
  if variant = 0 then (nibbles (slice 14 2 l)).take 3 else if variant = 1 then [0, 0, 0] else [9, 9, 9]

/-- The CVV of a card lighter under HANDLE0 (R103), with its filler nibble. -/
def State.cvvFor (s : State) (r : Run) : Bytes :=
  let l := r.lighter 0
  packNibbles (cvvOf (s.keyOf r.b.h0) ((nibbles (slice 0 10 l)).take (le 10 1 l)) (nibbles (slice 12 2 l)) (serviceCode l) ++ [0xF])

/-- CVV_GENERATE and CVV_VERIFY (R100, R102, R103). -/
def cvvSvc (verify : Bool) (r : Run) (s : State) : Res × State :=
  s.checks r (s.cvvChecks verify r) fun _ =>
    s.withLane r [r.b.h0] fun s' =>
      (s'.spend r.core 5700).gives
        (if verify then (if s.cvvFor r = slice 16 2 (r.lighter 0) then answered [] else failed stVerifyFail) else answered (s.cvvFor r))

/-- CVV_GENERATE, opcode 0x0200. -/
def execCvvGenerate (core : Nat) (hw : Hw) (s : State) : Host.Outcome State Fault Refusal := .next (s.serve core 0x0200 hw (cvvSvc false))

/-- CVV_VERIFY, opcode 0x0201. -/
def execCvvVerify (core : Nat) (hw : Hw) (s : State) : Host.Outcome State Fault Refusal := .next (s.serve core 0x0201 hw (cvvSvc true))

/-- The 16 digits that derive a card key (R117, steps 1 and 2), as 8 bytes. -/
def cardDivisor (pan psn : List Nat) (optionB : Bool) : Bytes :=
  let ds := pan ++ psn
  if optionB && decide (16 < pan.length) then
    let x := packNibbles (if ds.length % 2 = 1 then 0 :: ds else ds)
    packNibbles (decimalise 16 (nibbles (fixLen 20 (Config.sha1 x))))
  else packNibbles (List.replicate (16 - ds.length) 0 ++ ds.drop (ds.length - 16))

/-- The card key of an issuer master key (R117, step 3). -/
def cardKey (isT : Bool) (imk y : Bytes) : Bytes :=
  let y' := y.map fun b => b ^^^ 0xFF
  if isT then (blockEnc true imk y ++ blockEnc true imk y').map oddParity else blockEnc false imk (y ++ y')

/-- Steps 1 to 8 of CVC3_VERIFY (R82, R101, R102). An NDIGITS outside 3 to 5 leaves the CVC3 field unchecked, so that step 8 ends the barge.
Log 67, DESIGN CHOICE. -/
def State.cvc3Checks (s : State) (r : Run) : List (Bool × Nat) :=
  let l := r.lighter 0
  let panLen := le 10 1 l
  let nd := le 13 1 l
  let ndOk := decide (3 ≤ nd) && decide (nd ≤ 5)
  let form := (!panLenOk panLen || digitsThenF panLen (nibbles (slice 0 10 l))) && (nibbles (slice 11 1 l)).all (· ≤ 9)
    && (!ndOk || digitsThenF nd (nibbles (slice 22 3 l))) && allZero (l.drop 25)
  s.keySteps r ++ [(r.b.permit == 0, stBadFormat), (r.b.h0 != 0, stBadFormat),
    (s.labelOk r.b.h0 ["E4"] [("T", [16])] "X", stKeyUsage), (form, stBadFormat),
    (panLenOk panLen && ndOk && decide (le 12 1 l ≤ 1), stRange)]

/-- The CVC3 digits of a card lighter under HANDLE0 (R104). -/
def State.cvc3For (s : State) (r : Run) : List Nat :=
  let l := r.lighter 0
  let nd := le 13 1 l
  let div := cardDivisor ((nibbles (slice 0 10 l)).take (le 10 1 l)) (nibbles (slice 11 1 l)) (le 12 1 l == 1)
  let v := ofBE (slice 6 2 (blockEnc true (cardKey true (s.keyOf r.b.h0) div) (slice 14 8 l)))
  decimalDigits nd (v % 10 ^ nd)

/-- CVC3_VERIFY (R101, R102, R104). -/
def cvc3Svc (r : Run) (s : State) : Res × State :=
  let l := r.lighter 0
  s.checks r (s.cvc3Checks r) fun _ =>
    s.withLane r [r.b.h0] fun s' =>
      (s'.spend r.core 9400).gives
        (if s.cvc3For r = (nibbles (slice 22 3 l)).take (le 13 1 l) then answered [] else failed stVerifyFail)

/-- CVC3_VERIFY, opcode 0x0202. -/
def execCvc3Verify (core : Nat) (hw : Hw) (s : State) : Host.Outcome State Fault Refusal := .next (s.serve core 0x0202 hw cvc3Svc)

/-! ### Group 0x03 (R106 to R112) -/

/-- The label check of a BDK (R107, R108): two-key TDES or AES. -/
def State.bdkOk (s : State) (h : Nat) : Bool := s.labelOk h ["B0"] [("T", [16]), aes] "X"

/-- The KSN as the scheme writes it. -/
def ksnOf (isT : Bool) (l : Bytes) : Bytes := slice 32 (if isT then 10 else 12) l

/-- The transaction counter of a KSN (R108). -/
def ksnCounter (isT : Bool) (l : Bytes) : Nat := if isT then ofBE (slice 39 3 l) % 2 ^ 21 else ofBE (slice 40 4 l)

/-- The block size b of R109 of a key. -/
def dukptBlocks (isT : Bool) (size : Nat) : Nat := if !isT && decide (16 < size) then 2 else 1

/-- b of a working key type. -/
def wkBlocks (wk : Nat) : Nat := if wk = 0 ∨ wk = 2 then 1 else 2

/-- A TDES working key type. -/
def wkTdes (wk : Nat) : Bool := decide (wk ≤ 1)

/-- The values that R108 and R109 bound: the counter, and the working key type against the BDK. A type above 4 is out of range too. Log 67,
DESIGN CHOICE. -/
def dukptRange (isT : Bool) (size wk counter : Nat) : Bool :=
  decide (counter ≠ 0) && decide (wk ≤ 4)
    && (if isT then decide (ones 21 counter ≤ 10) && decide (wk = 0)
        else decide (ones 32 counter ≤ 16) && !(wk == 3 && decide (size < 24)) && !(wk == 4 && decide (size < 32)))

/-- Derivation cycles (R109, R112). -/
def dukptCycles (isT : Bool) (size wk counter : Nat) : Nat :=
  if isT then 1100 * (1 + ones 21 counter)
  else 900 * (dukptBlocks false size * (1 + ones 32 counter) + wkBlocks wk)

/-- The KSN field's form (R106). -/
def ksnForm (isT : Bool) (l : Bytes) : Bool := allZero (slice 44 4 l) && (!isT || allZero (slice 42 2 l))

/-- Steps 1 to 10 of DUKPT_PIN_TRANSLATE (R82, R106 to R110). -/
def State.dukptPinChecks (s : State) (r : Run) : List (Bool × Nat) :=
  let l := r.lighter 0
  let isT := s.isTdes r.b.h0
  let panLen := le 26 1 l
  let wk := le 27 1 l
  let inF := le 28 1 l
  let outF := le 29 1 l
  let usesP := usesPan inF || usesPan outF
  let form := pinFormat inF && pinFormat outF && (decide (4 < wk) || (wkTdes wk == decide (inF ≠ 4)))
    && (inF == 4 || allZero (slice 8 8 l)) && allZero (slice 30 2 l) && ksnForm isT l && allZero (slice 48 16 l)
    && (if usesP then !panLenOk panLen || digitsThenF panLen (nibbles (slice 16 10 l))
        else panLen == 0 && allZero (slice 16 10 l))
  s.keySteps r ++ [(r.b.permit == 0, stBadFormat), (r.b.h0 != 0 && r.b.h1 != 0, stBadFormat),
    (s.bdkOk r.b.h0, stKeyUsage), (s.pinKeyOk r.b.h1 "EB", stKeyUsage), (form, stBadFormat),
    ((!usesP || panLenOk panLen) && dukptRange isT (s.labelOf r.b.h0).size wk (ksnCounter isT l), stRange),
    (s.pairOk outF r.b.h1, stKeyUsage), (!s.downgrades r.tenant inF outF, stPolicyDenied)]

/-- A working key that HANDLE0 gives for the barge's KSN (R109, R110). -/
def State.dukptWorking (s : State) (r : Run) (purpose : Nat) : Bytes :=
  Config.dukptKey (s.keyOf r.b.h0) (ksnOf (s.isTdes r.b.h0) (r.lighter 0)) (le 27 1 (r.lighter 0)) purpose

/-- The derivation cycles of the barge's working key (R112). -/
def State.dukptCost (s : State) (r : Run) : Nat :=
  let isT := s.isTdes r.b.h0
  dukptCycles isT (s.labelOf r.b.h0).size (le 27 1 (r.lighter 0)) (ksnCounter isT (r.lighter 0))

/-- The PAN digits of a DUKPT lighter. -/
def dukptPan (l : Bytes) : List Nat := (nibbles (slice 16 10 l)).take (le 26 1 l)

/-- The PIN of a DUKPT lighter's block (R91, R110). -/
def State.dukptPin (s : State) (r : Run) : Option (List Nat) :=
  let l := r.lighter 0
  readPin (le 28 1 l) (pinField (le 28 1 l) (wkTdes (le 27 1 l)) (s.dukptWorking r 0x1000) (slice 0 16 l) (dukptPan l))

/-- DUKPT_PIN_TRANSLATE (R106 to R110). -/
def dukptPinSvc (r : Run) (s : State) : Res × State :=
  let l := r.lighter 0
  s.checks r (s.dukptPinChecks r) fun _ =>
    s.withLane r [r.b.h0, r.b.h1] fun s' =>
      s'.putPin s r (le 29 1 l) r.b.h1 (s.dukptPin r) (dukptPan l) {} ((if s.isTdes r.b.h0 then 7500 else 9000) + s.dukptCost r)

/-- DUKPT_PIN_TRANSLATE, opcode 0x0301. -/
def execDukptPinTranslate (core : Nat) (hw : Hw) (s : State) : Host.Outcome State Fault Refusal := .next (s.serve core 0x0301 hw dukptPinSvc)

/-- Steps 1 to 8 of DUKPT_MAC_VERIFY (R82, R106 to R110). A MAC_LEN above 16 leaves the rest of the MAC field unchecked, so that step 8 ends
the barge. Log 67, DESIGN CHOICE. -/
def State.dukptMacChecks (s : State) (r : Run) : List (Bool × Nat) :=
  let l := r.lighter 0
  let isT := s.isTdes r.b.h0
  let macLen := le 28 1 l
  let sel := le 29 1 l
  let pad := le 30 1 l
  let form := allZero (slice 0 27 l) && allZero (slice 31 1 l) && ksnForm isT l
    && (decide (16 < macLen) || allZero (l.drop (48 + macLen)))
  let range := dukptRange isT (s.labelOf r.b.h0).size (le 27 1 l) (ksnCounter isT l)
    && (if isT then decide (sel ≤ 1) && decide (4 ≤ macLen) && decide (macLen ≤ 8) && (pad == 1 || pad == 2)
        else decide (sel ≤ 2) && decide (4 ≤ macLen) && decide (macLen ≤ 16) && pad == 0)
  s.keySteps r ++ [(r.b.permit == 0, stBadFormat), (r.b.h0 != 0, stBadFormat), (s.bdkOk r.b.h0, stKeyUsage),
    (form, stBadFormat), (range, stRange)]

/-- The MAC of the barge's message under its DUKPT working key, by the scheme of the BDK (R110). Log 34, DEDUCED. -/
def State.dukptMac (s : State) (r : Run) : Bytes :=
  let l := r.lighter 0
  let key := s.dukptWorking r (0x2000 + le 29 1 l)
  slice 0 (le 28 1 l) (if s.isTdes r.b.h0 then Config.mac3 key (le 30 1 l) r.input else Config.cmac key r.input)

/-- DUKPT_MAC_VERIFY (R106 to R110). -/
def dukptMacSvc (r : Run) (s : State) : Res × State :=
  let l := r.lighter 0
  let isT := s.isTdes r.b.h0
  let n := r.input.length
  s.checks r (s.dukptMacChecks r) fun _ =>
    s.withLane r [r.b.h0] fun s' =>
      (s'.spend r.core ((if isT then 6500 else 8000) + s.dukptCost r + if isT then 90 * ceilDiv n 8 else 60 * ceilDiv n 16)).gives
        (if s.dukptMac r = slice 48 (le 28 1 l) l then answered [] else failed stVerifyFail)

/-- DUKPT_MAC_VERIFY, opcode 0x0302. -/
def execDukptMacVerify (core : Nat) (hw : Hw) (s : State) : Host.Outcome State Fault Refusal := .next (s.serve core 0x0302 hw dukptMacSvc)

/-! ### Key blocks (R151 to R153) -/

/-- The version character an export writes (R153): VERSION, or the default of the KBPK's algorithm. -/
def blockVersion (v : Nat) (kbpkTdes : Bool) : Nat := if v ≠ 0 then v else if kbpkTdes then chr "B" else chr "D"

/-- A version character pairs with the KBPK: D with AES, B and C with TDES (R151). -/
def versionPairs (v : Nat) (kbpkTdes : Bool) : Bool := if kbpkTdes then v == chr "B" || v == chr "C" else v == chr "D"

/-- The strength of R152 in steps: a protected key's need. -/
def strengthNeed (alg size : Nat) : Nat :=
  if alg = chr "T" then (if size = 16 then 0 else 1) else if alg = chr "A" then (if size = 16 then 1 else if size = 24 then 2 else 3)
  else 3

/-- What a protecting key offers (R152). -/
def strengthOf (alg size : Nat) : Nat :=
  if alg = chr "T" then (if size = 16 then 0 else 1) else if size = 16 then 1 else if size = 24 then 2 else 3

/-- A protecting key is at least as strong as the protected key (R152). -/
def strongEnough (alg size : Nat) (kek : KLabel) : Bool := decide (strengthNeed alg size ≤ strengthOf kek.alg kek.size)

/-- The header fields of a key block (R153): USAGE, ALG, MODE, EXPORT. -/
def blockHeader (usage alg mode export_ : Nat) : Bytes := toLE 2 usage ++ toLE 1 alg ++ toLE 1 mode ++ toLE 1 export_

/-- A hexadecimal character. -/
def hexChar (n : Nat) : Byte := BitVec.ofNat 8 (if n < 10 then 0x30 + n else 0x37 + n)

/-- The hexadecimal characters of a byte string. -/
def hexText (bs : Bytes) : Bytes := (nibbles bs).map hexChar

/-- The bytes of a cipher block in a key block of a version. -/
def versionBlock (version : Nat) : Nat := if version = chr "D" then 16 else 8

/-- The bytes of the MAC in a key block of a version. Log 68, PRESUMED. -/
def versionMac (version : Nat) : Nat := if version = chr "D" then 16 else if version = chr "C" then 4 else 8

/-- An optional block: its name, its length in characters, its content. Log 68, PRESUMED. -/
def optBlock (name : String) (content : Bytes) : Bytes := ascii name ++ hexText (toLE 1 (4 + content.length)) ++ content

/-- The check value of the protection key, the content of KP. Log 68, PRESUMED. -/
def kbpkCheck (isT : Bool) (kbpk : Bytes) : Bytes :=
  if isT then ascii "00" ++ hexText ((kcvOf true kbpk).take 3) else ascii "01" ++ hexText (kcvOf false kbpk)

/-- The optional blocks that an export writes (R151, R153): KP and TS on request, and PB always, which fills the header to whole cipher
blocks. Log 68, PRESUMED. -/
def optBlocks (kbpk : Bytes) (version opt cal : Nat) (padding : Bytes) : Bytes :=
  let asked := (if bitOf 0 opt then optBlock "KP" (kbpkCheck (version != chr "D") kbpk) else [])
    ++ (if bitOf 1 opt then optBlock "TS" (Config.timeStamp cal) else [])
  let b := versionBlock version
  asked ++ optBlock "PB" (fixLen ((b - (20 + asked.length) % b) % b) (hexText padding))

/-- A key block is written (R151, R153): the header with its optional blocks, then the enciphered key and the MAC. Log 68, PRESUMED. -/
def keyBlock (kbpk : Bytes) (version opt cal : Nat) (header key padding : Bytes) : Bytes :=
  let b := versionBlock version
  let opts := optBlocks kbpk version opt cal padding
  let sealed := 2 * (ceilDiv (2 + key.length) b * b + versionMac version)
  let digits (n v : Nat) : Bytes := (decimalDigits n v).map fun d => BitVec.ofNat 8 (0x30 + d)
  let count := 1 + (if bitOf 0 opt then 1 else 0) + (if bitOf 1 opt then 1 else 0)
  let head := toLE 1 version ++ digits 4 (16 + opts.length + sealed) ++ header.take 4 ++ ascii "00" ++ header.drop 4 ++ digits 2 count
    ++ ascii "00" ++ opts
  head ++ fixLen sealed (Config.keyBlockSeal kbpk head key padding)

/-- Steps 1 to 9 of DUKPT_INITIAL_KEY_EXPORT (R82, R106 to R108, R111). -/
def State.dukptExportChecks (s : State) (r : Run) : List (Bool × Nat) :=
  let l := r.lighter 0
  let isT := s.isTdes r.b.h0
  let lab := s.labelOf r.b.h0
  s.keySteps r ++ [(r.b.permit == 0, stBadFormat), (r.b.h0 != 0 && r.b.h1 != 0, stBadFormat),
    (s.bdkOk r.b.h0, stKeyUsage), (s.labelOk r.b.h1 ["K1"] [tdes, aes] "EB", stKeyUsage),
    (allZero (slice 0 32 l) && ksnForm isT l && allZero (slice 48 16 l), stBadFormat),
    (ksnCounter isT l == 0, stRange), (strongEnough lab.alg lab.size (s.labelOf r.b.h1), stKeyUsage)]

/-- The initial key of a KSN under HANDLE0 (R111). -/
def State.dukptInitial (s : State) (r : Run) : Bytes :=
  fixLen (s.labelOf r.b.h0).size (Config.dukptKey (s.keyOf r.b.h0) (ksnOf (s.isTdes r.b.h0) (r.lighter 0)) 255 0)

/-- The key block of an initial key under HANDLE1 (R111, R153), with the mode and exportability of the BDK's label, whichever that is. Log
34, DESIGN CHOICE. -/
def State.dukptBlock (s : State) (r : Run) (pad : Bytes) : Bytes :=
  let lab := s.labelOf r.b.h0
  keyBlock (s.keyOf r.b.h1) (blockVersion 0 (s.isTdes r.b.h1)) 1 0 (blockHeader (usage "B1") lab.alg lab.mode lab.exportability)
    (s.dukptInitial r) pad

/-- DUKPT_INITIAL_KEY_EXPORT (R106 to R108, R111). -/
def dukptExportSvc (r : Run) (s : State) : Res × State :=
  let isT := s.isTdes r.b.h0
  s.checks r (s.dukptExportChecks r) fun _ =>
    s.checks r (s.lanes r) fun _ =>
      let d := s.drawFor r 32
      match d.1 with
      | .wait => (.wait, d.2)
      | .none_ => d.2.fails stEntropy
      | .bytes pad =>
        ((d.2.loadKeys [r.b.h0, r.b.h1]).spend r.core (if isT then 17200 else 16000 + 900 * dukptBlocks false (s.labelOf r.b.h0).size)).gives
          (withOutput r (s.dukptBlock r pad) (kcvOf isT (s.dukptInitial r)))

/-- DUKPT_INITIAL_KEY_EXPORT, opcode 0x0300. -/
def execDukptInitialKeyExport (core : Nat) (hw : Hw) (s : State) : Host.Outcome State Fault Refusal :=
  .next (s.serve core 0x0300 hw dukptExportSvc)

end Sys2Proof.Machine
end

