-- ==== Sys2Proof/Machine/Data.lean ====
section
/-! DEFINITION. EMV, MAC, data cipher, random and hash services (05_emv_mac_and_data_services.md R113 to R135): opcode groups 0x04,
0x05, 0x06, 0x0A and 0x0B. -/

namespace Sys2Proof.Machine

/-! ### Group 0x04: EMV (R117 to R123) -/

/-- The EMV lighter's fields (R119). -/
structure EmvArgs where
  panBytes : Bytes
  panLen : Nat
  psn : Bytes
  deriv : Nat
  skd : Nat
  atc : Bytes
  arqc : Bytes
  method : Nat
  dPad : Nat
  dataLen : Nat
  macLen : Nat
  arc : Bytes
  csu : Bytes
  padLen : Nat
  padData : Bytes
  deriving DecidableEq, Repr

/-- The fields of an EMV lighter. -/
def emvArgs (l : Bytes) : EmvArgs :=
  { panBytes := slice 0 10 l, panLen := le 10 1 l, psn := slice 11 1 l, deriv := le 12 1 l, skd := le 13 1 l, atc := slice 14 2 l,
    arqc := slice 16 8 l, method := le 24 1 l, dPad := le 25 1 l, dataLen := le 26 1 l, macLen := le 27 1 l, arc := slice 28 2 l,
    csu := slice 32 4 l, padLen := le 36 1 l, padData := slice 40 8 l }

/-- Card key of an EMV lighter under an issuer master key (R117). -/
def EmvArgs.cardKey (a : EmvArgs) (isT : Bool) (imk : Bytes) : Bytes :=
  Machine.cardKey isT imk (cardDivisor ((nibbles a.panBytes).take a.panLen) (nibbles a.psn) (a.deriv == 1))

/-- The session key of a card key with a diversifier (R118). -/
def sessionKey (isT : Bool) (ck div : Bytes) : Bytes :=
  if isT then (blockEnc true ck (splice 2 [0xF0] div) ++ blockEnc true ck (splice 2 [0x0F] div)).map oddParity
  else blockEnc false ck (div ++ zeros 8)

/-- The key of a lighter's session (R118): the card key itself with SKD 1. -/
def EmvArgs.session (a : EmvArgs) (isT : Bool) (imk div : Bytes) : Bytes :=
  let ck := a.cardKey isT imk
  if a.skd = 1 then ck else sessionKey isT ck div

/-- Steps 1 to 6 of R114 for an opcode with one key and PERMIT 0. -/
def State.dataSteps (s : State) (r : Run) (label : Bool) : List (Bool × Nat) :=
  s.keySteps r ++ [(r.b.permit == 0, stBadFormat), (r.b.h0 != 0, stBadFormat), (label, stKeyUsage)]

/-- What every EMV opcode's lighter must meet at step 7, the fields of the opcode apart (R119). -/
def EmvArgs.formOk (a : EmvArgs) (l : Bytes) : Bool :=
  (!panLenOk a.panLen || digitsThenF a.panLen (nibbles a.panBytes)) && (nibbles a.psn).all (· ≤ 9)
    && allZero (slice 30 2 l) && allZero (slice 37 3 l) && allZero (slice 48 16 l)

/-- What every EMV opcode's lighter must meet at step 8. -/
def EmvArgs.rangeOk (a : EmvArgs) : Bool := panLenOk a.panLen && decide (a.deriv ≤ 1) && decide (a.skd ≤ 1)

/-- The padding field pairs with the key (R119): 0 for AES; 1 or 2 for TDES. -/
def EmvArgs.padOk (a : EmvArgs) (isT : Bool) : Bool := if isT then a.dPad == 1 || a.dPad == 2 else true

/-- Cycles that option B adds where it applies (R123). -/
def EmvArgs.optionB (a : EmvArgs) : Nat := if a.deriv = 1 ∧ 16 < a.panLen then 2400 else 0

/-- Blocks of L bytes of padded data (R123): with TDES under a method, with AES whole blocks, at least one. -/
def paddedBlocks (isT : Bool) (pad n : Nat) : Nat :=
  if isT then (if pad = 1 then max 1 (ceilDiv n 8) else n / 8 + 1) else max 1 (ceilDiv n 16)

/-- The MAC of a message under TDES algorithm 3 or AES-CMAC, leftmost 8 bytes (R121). -/
def emvMac (isT : Bool) (k : Bytes) (pad : Nat) (m : Bytes) : Bytes :=
  slice 0 8 (if isT then Config.mac3 k pad m else Config.cmac k m)

/-- The ARPC (R121). -/
def EmvArgs.arpc (a : EmvArgs) (isT : Bool) (sk : Bytes) : Bytes :=
  if a.method = 1 then
    if isT then blockEnc true sk (xorBytes a.arqc (a.arc ++ zeros 6))
    else slice 0 8 (blockEnc false sk (a.arqc ++ a.arc ++ zeros 6))
  else slice 0 4 (emvMac isT sk 2 (a.arqc ++ a.csu ++ a.padData.take a.padLen))

/-- Steps 1 to 9 of ARQC_VERIFY and ARQC_VERIFY_ARPC (R114, R119, R120). A field that must be zero fails at step 7, a value outside a list of
values at step 8. Log 67, DESIGN CHOICE. -/
def State.arqcChecks (s : State) (arpc : Bool) (r : Run) : List (Bool × Nat) :=
  let l := r.lighter 0
  let a := emvArgs l
  let isT := s.isTdes r.b.h0
  let form := noParams r.b && a.formOk l && (isT || a.dPad == 0) && a.macLen == 0 && (arpc || a.method == 0)
    && (a.method == 1 || allZero a.arc)
    && (if a.method = 2 then decide (8 < a.padLen) || allZero (a.padData.drop a.padLen)
        else allZero a.csu && a.padLen == 0 && allZero a.padData)
    && (decide (128 < a.dataLen) || allZero ((r.lighter 1 ++ r.lighter 2).drop a.dataLen))
  let range := a.rangeOk && a.padOk isT && decide (1 ≤ a.dataLen) && decide (a.dataLen ≤ 128)
    && (!arpc || a.method == 1 || a.method == 2) && (a.method != 2 || decide (a.padLen ≤ 8))
  s.dataSteps r (s.labelOk r.b.h0 ["E0"] [tdes, aes] "X") ++ [(form, stBadFormat), (range, stRange),
    ((s.labelOf r.b.h0).size == 16, stKeyUsage)]

/-- The session key of an EMV lighter under HANDLE0 with a diversifier (R117, R118). -/
def State.emvKey (s : State) (r : Run) (div : Bytes) : Bytes :=
  (emvArgs (r.lighter 0)).session (s.isTdes r.b.h0) (s.keyOf r.b.h0) div

/-- Cycles of ARQC_VERIFY and ARQC_VERIFY_ARPC (R123). -/
def EmvArgs.arqcCycles (a : EmvArgs) (arpc isT : Bool) : Nat :=
  let n := paddedBlocks isT a.dPad a.dataLen
  let m := paddedBlocks isT 2 (12 + a.padLen)
  let base := if arpc then (if a.method = 1 then (if isT then 17600 else 16600) else if isT then 17900 else 16900)
    else if isT then 16900 else 16000
  base + (if isT then 90 else 60) * (n + if a.method = 2 then m else 0) + a.optionB

/-- The ARQC that the card's data give under its session key (R121). -/
def State.arqcOf (s : State) (r : Run) : Bytes :=
  let a := emvArgs (r.lighter 0)
  emvMac (s.isTdes r.b.h0) (s.emvKey r (a.atc ++ zeros 6)) a.dPad ((r.lighter 1 ++ r.lighter 2).take a.dataLen)

/-- ARQC_VERIFY and ARQC_VERIFY_ARPC (R119 to R121). -/
def arqcSvc (arpc : Bool) (r : Run) (s : State) : Res × State :=
  let a := emvArgs (r.lighter 0)
  let isT := s.isTdes r.b.h0
  s.checks r (s.arqcChecks arpc r) fun _ =>
    s.withLane r [r.b.h0] fun s' =>
      (s'.spend r.core (a.arqcCycles arpc isT)).gives
        (if s.arqcOf r = a.arqc then answered (if arpc then a.arpc isT (s.emvKey r (a.atc ++ zeros 6)) else [])
         else failed stVerifyFail)

/-- ARQC_VERIFY, opcode 0x0400. -/
def execArqcVerify (core : Nat) (hw : Hw) (s : State) : Host.Outcome State Fault Refusal := .next (s.serve core 0x0400 hw (arqcSvc false))

/-- ARQC_VERIFY_ARPC, opcode 0x0401. -/
def execArqcVerifyArpc (core : Nat) (hw : Hw) (s : State) : Host.Outcome State Fault Refusal := .next (s.serve core 0x0401 hw (arqcSvc true))

/-- The lighter fields the script opcodes do not use are zero (R119, R120, R122). Log 43, DEDUCED. -/
def EmvArgs.scriptForm (a : EmvArgs) : Bool :=
  allZero a.atc && a.method == 0 && a.dPad == 0 && a.dataLen == 0 && allZero a.arc && allZero a.csu && a.padLen == 0
    && allZero a.padData

/-- Steps 1 to 9 of SCRIPT_MAC and SCRIPT_ENCRYPT (R114, R119, R122). -/
def State.scriptChecks (s : State) (mac : Bool) (r : Run) : List (Bool × Nat) :=
  let l := r.lighter 0
  let a := emvArgs l
  let form := a.formOk l && a.scriptForm && (mac || a.macLen == 0)
  let range := a.rangeOk && (!mac || (decide (4 ≤ a.macLen) && decide (a.macLen ≤ 8)))
  s.dataSteps r (s.labelOk r.b.h0 [if mac then "E2" else "E1"] [tdes, aes] "X") ++ [(form, stBadFormat),
    (range, stRange), ((s.labelOf r.b.h0).size == 16, stKeyUsage)]

/-- Cycles of the script opcodes for n blocks (R123). -/
def EmvArgs.scriptCycles (a : EmvArgs) (isT : Bool) (n : Nat) : Nat := (if isT then 16000 + 90 * n else 15000 + 60 * n) + a.optionB

/-- The MAC of a script under its session key (R122). -/
def State.scriptMac (s : State) (r : Run) : Bytes :=
  let a := emvArgs (r.lighter 0)
  slice 0 a.macLen (emvMac (s.isTdes r.b.h0) (s.emvKey r a.arqc) 2 r.input)

/-- Length of an enciphered script: 0x80 and zeros to whole blocks (R122). -/
def scriptLen (isT : Bool) (n : Nat) : Nat := ceilDiv (n + 1) (blockLen isT) * blockLen isT

/-- An enciphered script (R122). -/
def State.scriptOut (s : State) (r : Run) : Bytes :=
  let isT := s.isTdes r.b.h0
  let b := blockLen isT
  cbcEnc isT (s.emvKey r (emvArgs (r.lighter 0)).arqc) (zeros b) (blocks b (fixLen (scriptLen isT r.input.length) (r.input ++ [0x80])))

/-- SCRIPT_MAC and SCRIPT_ENCRYPT (R122). -/
def scriptSvc (mac : Bool) (r : Run) (s : State) : Res × State :=
  let a := emvArgs (r.lighter 0)
  let isT := s.isTdes r.b.h0
  let n := r.input.length
  let outLen := scriptLen isT n
  s.checks r (s.scriptChecks mac r) fun _ =>
    if mac = false ∧ r.fits outLen = false then s.doneOut r (zeros outLen)
    else s.withLane r [r.b.h0] fun s' =>
      (s'.spend r.core (a.scriptCycles isT (if mac then paddedBlocks isT 2 n else outLen / blockLen isT))).gives
        (if mac then answered (s.scriptMac r) else withOutput r (s.scriptOut r))

/-- SCRIPT_MAC, opcode 0x0402. -/
def execScriptMac (core : Nat) (hw : Hw) (s : State) : Host.Outcome State Fault Refusal := .next (s.serve core 0x0402 hw (scriptSvc true))

/-- SCRIPT_ENCRYPT, opcode 0x0403. -/
def execScriptEncrypt (core : Nat) (hw : Hw) (s : State) : Host.Outcome State Fault Refusal := .next (s.serve core 0x0403 hw (scriptSvc false))

/-! ### Group 0x05: MAC (R124 to R127) -/

/-- A row of R125: usage, algorithm with sizes, least and greatest MAC_LEN. -/
def macRow (alg : Nat) : Option (String × List (String × List Nat) × Nat × Nat) :=
  let h : List (String × List Nat) := [("H", (List.range 17).map (· + 16))]
  match alg with
  | 1 => some ("M1", [tdes], 4, 8)
  | 3 => some ("M3", [("T", [16])], 4, 8)
  | 5 => some ("M6", [aes], 4, 16)
  | 8 | 11 => some ("M7", h, 10, 32)
  | 9 | 12 => some ("M7", h, 10, 48)
  | 10 | 13 => some ("M7", h, 10, 64)
  | 14 | 15 => some ("51", [("K", [32])], 8, 64)
  | _ => none

/-- A MAC of R125: algorithm, key, padding method, customisation string, length, message. -/
def macOf (alg : Nat) (k : Bytes) (pad : Nat) (cust : Bytes) (n : Nat) (m : Bytes) : Bytes :=
  slice 0 n (match alg with
    | 1 => Config.mac1 k pad m
    | 3 => Config.mac3 k pad m
    | 5 => Config.cmac k m
    | 14 => Config.kmac128 k m (8 * n) cust
    | 15 => Config.kmac256 k m (8 * n) cust
    | _ => Config.hmac alg k m)

/-- Crew-core cycles of group 0x05 (R127). -/
def macCycles (alg pad n : Nat) : Nat :=
  match alg with
  | 1 | 3 => 5400 + 90 * (if pad = 2 then ceilDiv (n + 1) 8 else ceilDiv n 8)
  | 5 => 5200 + 60 * ceilDiv n 16
  | 8 => 4500 + 64 * (ceilDiv (n + 9) 64 + 3)
  | 9 | 10 => 4500 + 80 * (ceilDiv (n + 17) 128 + 3)
  | 11 => 4500 + 27 * (ceilDiv (n + 1) 136 + 3)
  | 12 => 4500 + 27 * (ceilDiv (n + 1) 104 + 3)
  | 13 => 4500 + 27 * (ceilDiv (n + 1) 72 + 3)
  | 14 => 4500 + 27 * (ceilDiv (n + 3) 168 + 2)
  | _ => 4500 + 27 * (ceilDiv (n + 3) 136 + 2)

/-- The engine algorithm of an HMAC or KMAC (R125). -/
def macEngine (alg : Nat) : Nat := if alg ≤ 10 then alg - 8 else if alg ≤ 13 then alg - 6 else alg - 2

/-- Steps 1 to 8 of MAC_GENERATE and MAC_VERIFY (R114, R124 to R126). An ALG outside the table skips the label check and that of PAD, which
the table gives. Log 67, DESIGN CHOICE. -/
def State.macChecks (s : State) (verify : Bool) (r : Run) : List (Bool × Nat) :=
  let l := r.lighter 0
  let alg := le 0 1 l
  let pad := le 1 1 l
  let macLen := le 2 1 l
  let sLen := le 3 1 l
  let iso := alg == 1 || alg == 3
  let kmac := alg == 14 || alg == 15
  let row := macRow alg
  let usageOk := match row with
    | some (u, algs, _, _) => s.labelOk r.b.h0 [u] algs (if verify then "CV" else "CG")
    | none => true
  let form := allZero (slice 4 4 l) && (iso || row.isNone || pad == 0) && (kmac || (sLen == 0 && allZero (slice 8 32 l)))
    && (decide (32 < sLen) || allZero (slice (8 + sLen) (32 - sLen) l)) && allZero (l.drop 40)
    && (!verify || decide (64 < macLen) || allZero ((r.lighter 1).drop macLen))
  let range := match row with
    | some (_, _, lo, hi) => decide (lo ≤ macLen) && decide (macLen ≤ hi) && (!iso || pad == 1 || pad == 2) && decide (sLen ≤ 32)
    | none => false
  s.dataSteps r usageOk ++ [(form, stBadFormat), (range, stRange)]

/-- The MAC of the barge's message under HANDLE0 (R125, R126). -/
def State.macFor (s : State) (r : Run) : Bytes :=
  let l := r.lighter 0
  macOf (le 0 1 l) (s.keyOf r.b.h0) (le 1 1 l) (slice 8 (le 3 1 l) l) (le 2 1 l) r.input

/-- The step of a MAC that works on its units (R206, R210, R215): the KDU serves it, and but for HMAC and KMAC the lanes. -/
def State.macUnits (s : State) (r : Run) : List (Bool × Nat) :=
  if 8 ≤ le 0 1 (r.lighter 0) then [(s.kduServes r, stLaneFault)] else s.lanes r

/-- An HMAC or KMAC waits for a free engine that runs it (R222). -/
def State.macWaits (s : State) (r : Run) : Bool :=
  let alg := le 0 1 (r.lighter 0)
  decide (8 ≤ alg) && (s.freeEngines (macEngine alg)).isEmpty

/-- The work of a MAC: its key is loaded, and an HMAC or KMAC takes its engine (R126, R127). -/
def State.macWork (s : State) (r : Run) : State :=
  let alg := le 0 1 (r.lighter 0)
  let n := macCycles alg (le 1 1 (r.lighter 0)) r.input.length
  let s := (s.loadKeys [r.b.h0]).spend r.core n
  if 8 ≤ alg then s.engineWork (macEngine alg) (n - 4500) else s

/-- MAC_GENERATE and MAC_VERIFY (R124 to R126). -/
def macSvc (verify : Bool) (r : Run) (s : State) : Res × State :=
  let macLen := le 2 1 (r.lighter 0)
  s.checks r (s.macChecks verify r) fun _ =>
    if verify = false ∧ 16 < macLen ∧ r.fits macLen = false then s.doneOut r (zeros macLen)
    else if s.macWaits r then (.wait, s)
    else s.checks r (s.macUnits r) fun _ =>
      (s.macWork r).gives
        (if verify then (if s.macFor r = slice 0 macLen (r.lighter 1) then answered [] else failed stVerifyFail)
         else if macLen ≤ 16 then answered (s.macFor r)
         else withOutput r (s.macFor r))

/-- MAC_GENERATE, opcode 0x0500. -/
def execMacGenerate (core : Nat) (hw : Hw) (s : State) : Host.Outcome State Fault Refusal := .next (s.serve core 0x0500 hw (macSvc false))

/-- MAC_VERIFY, opcode 0x0501. -/
def execMacVerify (core : Nat) (hw : Hw) (s : State) : Host.Outcome State Fault Refusal := .next (s.serve core 0x0501 hw (macSvc true))

/-! ### Group 0x06: data cipher (R128 to R132) -/

/-- Steps 7 of R114 for the cipher lighter (R128, R129). -/
def cipherForm (enc isT : Bool) (l : Bytes) : Bool :=
  let mode := le 0 1 l
  let ivUsed := if mode = 1 then blockLen isT else if mode = 2 ∧ enc = false then 16 else if mode = 3 ∧ enc = false then 12 else 0
  allZero (slice 1 3 l) && allZero (l.drop 40)
    && (decide (3 < mode) || ((mode == 3 || le 4 4 l == 0) && allZero (slice (8 + ivUsed) (16 - ivUsed) l)
      && ((mode == 3 && !enc) || allZero (slice 24 16 l))))

/-- Step 10 of R114 (R129): the input length fits the mode. -/
def cipherLenOk (enc isT : Bool) (mode aad n : Nat) : Bool :=
  if mode ≤ 1 then n % blockLen isT == 0
  else if mode = 3 then decide (aad ≤ n) && (enc || decide (n - aad ≤ 65536))
  else true

/-- Crew-core cycles of group 0x06 (R132). -/
def cipherCycles (enc isT : Bool) (mode aad p : Nat) : Nat :=
  let b := ceilDiv p (blockLen isT)
  if mode = 3 then 6000 + 40 * (ceilDiv aad 16 + b)
  else if mode = 2 then 5200 + 16 * b
  else if mode = 1 ∧ enc = true then 5000 + (if isT then 90 else 60) * b
  else 5000 + (if isT then 40 else 16) * b

/-- ECB and CBC in either direction, and CTR and GCM decryption's plaintext; the nonce of an encryption is given (R129 to R131). -/
def cipherOut (enc isT : Bool) (k l nonce data : Bytes) : Bytes :=
  let mode := le 0 1 l
  let b := blockLen isT
  let aad := data.take (le 4 4 l)
  let body := data.drop (le 4 4 l)
  match mode with
  | 0 => (blocks b data).flatMap fun x => if enc then blockEnc isT k x else blockDec isT k x
  | 1 => if enc then cbcEnc isT k (slice 8 b l) (blocks b data) else cbcDec isT k (slice 8 b l) (blocks b data)
  | 2 => ctrMode k (if enc then nonce ++ [0, 0, 0, 1] else slice 8 16 l) data
  | _ =>
    if enc then
      let ct := fixLen body.length (Config.gcmEnc k nonce aad body)
      ct ++ fixLen 16 (Config.gcmTag k nonce aad ct)
    else fixLen body.length (Config.gcmDec k (slice 8 12 l) aad body)

/-- Steps 1 to 10 of ENCRYPT and DECRYPT (R114, R128, R129). -/
def State.cipherChecks (s : State) (enc : Bool) (r : Run) : List (Bool × Nat) :=
  let l := r.lighter 0
  let mode := le 0 1 l
  let aad := le 4 4 l
  let isT := s.isTdes r.b.h0
  let label := s.labelOk r.b.h0 ["D0"] [tdes, aes] (if enc then "EB" else "DB") && (enc || (s.labelOf r.b.h0).dclass == 0)
  s.dataSteps r label ++ [(cipherForm enc isT l, stBadFormat), (decide (mode ≤ 3) && decide (aad ≤ 65536), stRange),
    (decide (mode < 2) || !isT, stKeyUsage), (cipherLenOk enc isT mode aad r.input.length, stBadLength)]

/-- Bytes of output of ENCRYPT and DECRYPT (R129, R131). -/
def cipherLen (enc : Bool) (r : Run) : Nat :=
  let l := r.lighter 0
  r.input.length - le 4 4 l + if le 0 1 l = 3 ∧ enc = true then 16 else 0

/-- Cycles of the barge's ENCRYPT or DECRYPT (R132). -/
def State.cipherCost (s : State) (enc : Bool) (r : Run) : Nat :=
  let l := r.lighter 0
  cipherCycles enc (s.isTdes r.b.h0) (le 0 1 l) (le 4 4 l) (r.input.length - le 4 4 l)

/-- What ENCRYPT or DECRYPT answers with a nonce (R129 to R131): a GCM tag that does not verify fails, else the output and the nonce. -/
def State.cipherAnswer (s : State) (enc : Bool) (r : Run) (nonce : Bytes) : Outcome :=
  let l := r.lighter 0
  let aad := le 4 4 l
  let k := s.keyOf r.b.h0
  if le 0 1 l = 3 ∧ enc = false ∧ fixLen 16 (Config.gcmTag k (slice 8 12 l) (r.input.take aad) (r.input.drop aad)) ≠ slice 24 16 l
  then failed stVerifyFail
  else withOutput r (cipherOut enc (s.isTdes r.b.h0) k l nonce r.input) nonce

/-- A GCM decryption writes its plaintext to the core's held buffer (R131). -/
def usesHeld (enc : Bool) (r : Run) : Bool := !enc && le 0 1 (r.lighter 0) == 3

/-- The held buffer after a service that used it: its words are released or not, and the end of the context zeroes them (R131, R217). -/
def State.heldAfter (s : State) (core : Nat) (used : Bool) : State :=
  if used then s.setCore core { s.coreAt core with heldSt := .zeroing, held := [] } else s

/-- ENCRYPT and DECRYPT (R128 to R131); a GCM decryption waits while the held buffer is zeroed (R217). -/
def cipherSvc (enc : Bool) (r : Run) (s : State) : Res × State :=
  s.checks r (s.cipherChecks enc r) fun _ =>
    if r.fits (cipherLen enc r) = false then s.doneOut r (zeros (cipherLen enc r))
    else if usesHeld enc r && decide ((s.coreAt r.core).heldSt = .zeroing) then (.wait, s)
    else s.checks r (s.lanes r) fun _ =>
      let x := if enc && decide (2 ≤ le 0 1 (r.lighter 0)) then s.issueNonce r.b.h0 else (.nonce [], s)
      match x.1 with
      | .wait => (.wait, x.2)
      | .status st => (x.2.loadKeys [r.b.h0]).fails st
      | .nonce nonce =>
        (((x.2.loadKeys [r.b.h0]).spend r.core (s.cipherCost enc r)).heldAfter r.core (usesHeld enc r)).gives (s.cipherAnswer enc r nonce)

/-- ENCRYPT, opcode 0x0600. -/
def execEncrypt (core : Nat) (hw : Hw) (s : State) : Host.Outcome State Fault Refusal := .next (s.serve core 0x0600 hw (cipherSvc true))

/-- DECRYPT, opcode 0x0601. -/
def execDecrypt (core : Nat) (hw : Hw) (s : State) : Host.Outcome State Fault Refusal := .next (s.serve core 0x0601 hw (cipherSvc false))

/-! ### Groups 0x0A and 0x0B (R133 to R135) -/

/-- Bytes that RANDOM_BYTES asks for (R133). -/
def randomLen (b : Barge) : Nat := if b.buf then b.outCap else wbits 4 0 b.p0

/-- The checks of RANDOM_BYTES (R114, R133). -/
def State.randomChecks (s : State) (r : Run) : List (Bool × Nat) :=
  let n := randomLen r.b
  s.keySteps r ++ [(r.b.permit == 0, stBadFormat), (r.b.buf || (wbits 63 5 r.b.p0 == 0 && r.b.p1 == 0 && r.b.p2 == 0), stBadFormat),
    (r.b.buf || (decide (1 ≤ n) && decide (n ≤ 16)), stRange)]

/-- RANDOM_BYTES (R133). -/
def randomSvc (r : Run) (s : State) : Res × State :=
  let n := randomLen r.b
  s.checks r (s.randomChecks r) fun _ =>
    let d := s.drawFor r n
    match d.1 with
    | .wait => (.wait, s)
    | .none_ => d.2.fails stEntropy
    | .bytes bs => (d.2.spend r.core (3000 + 20 * ceilDiv n 16)).gives (if r.b.buf then withOutput r bs else answered bs)

/-- RANDOM_BYTES, opcode 0x0A00. -/
def execRandomBytes (core : Nat) (hw : Hw) (s : State) : Host.Outcome State Fault Refusal := .next (s.serve core 0x0A00 hw randomSvc)

/-- Engine cycles of HASH (R135). -/
def hashCycles (alg n d nsLen : Nat) : Nat :=
  let q := hashRate alg
  match alg with
  | 0 => 64 * ceilDiv (n + 9) 64
  | 1 | 2 => 80 * ceilDiv (n + 17) 128
  | 10 | 11 => 27 * (ceilDiv (n + 1) q + ceilDiv d q) + (if q < nsLen + 6 then 27 else 0)
  | _ => 27 * (ceilDiv (n + 1) q + ceilDiv d q - 1)

/-- Digest bytes a hash lighter asks for (R134). -/
def hashLen (l : Bytes) : Nat := if 8 ≤ le 0 1 l ∧ le 2 2 l = 0 then 65536 else le 2 2 l

/-- The checks of HASH (R114, R134). -/
def State.hashChecks (s : State) (r : Run) : List (Bool × Nat) :=
  let l := r.lighter 0
  let alg := le 0 1 l
  let nLen := le 4 1 l
  let sLen := le 5 1 l
  let cshake := alg == 10 || alg == 11
  let form := allZero (slice 1 1 l) && allZero (slice 6 2 l)
    && (cshake || (nLen == 0 && sLen == 0 && allZero (l.drop 8)))
    && (decide (24 < nLen) || allZero (slice (8 + nLen) (24 - nLen) l))
    && (decide (32 < sLen) || allZero (slice (32 + sLen) (32 - sLen) l))
  let range := decide (alg ≤ 11) && alg != 3 && (decide (8 ≤ alg) || le 2 2 l == hashOut alg 0) && decide (nLen ≤ 24)
    && decide (sLen ≤ 32)
  s.keySteps r ++ [(r.b.permit == 0, stBadFormat), (form, stBadFormat), (range, stRange)]

/-- The algorithm a hash lighter asks for: cSHAKE with no name and no customisation string is SHAKE (R134). -/
def hashAlg (l : Bytes) : Nat := if 10 ≤ le 0 1 l ∧ le 4 1 l = 0 ∧ le 5 1 l = 0 then le 0 1 l - 2 else le 0 1 l

/-- The digest of the barge's message (R134). -/
def hashFor (r : Run) : Bytes :=
  let l := r.lighter 0
  fixLen (hashLen l) (Config.hash (hashAlg l) (slice 8 (le 4 1 l) l) (slice 32 (le 5 1 l) l) r.input (hashLen l))

/-- HASH (R134, R135): it waits for a free engine. -/
def hashSvc (r : Run) (s : State) : Res × State :=
  let l := r.lighter 0
  let d := hashLen l
  s.checks r (s.hashChecks r) fun _ =>
    if 16 < d ∧ r.fits d = false then s.doneOut r (zeros d)
    else if (s.freeEngines (le 0 1 l)).isEmpty then (.wait, s)
    else
      let n := hashCycles (le 0 1 l) r.input.length d (le 4 1 l + le 5 1 l)
      ((s.spend r.core (3500 + n)).engineWork (le 0 1 l) n).gives (if d ≤ 16 then answered (hashFor r) else withOutput r (hashFor r))

/-- HASH, opcode 0x0B00. -/
def execHash (core : Nat) (hw : Hw) (s : State) : Host.Outcome State Fault Refusal := .next (s.serve core 0x0B00 hw hashSvc)

end Sys2Proof.Machine
end

