-- ==== Sys2Proof/Machine/KeyMgmt.lean ====
section
/-! DEFINITION. Key management (06_key_model_and_permits.md R146 to R158): opcode group 0x07. -/

namespace Sys2Proof.Machine

/-! ### The new-label lighter (R148) -/

/-- The new-label lighter's fields: TARGET and TEMPLATE. -/
structure NewLabel where
  target : Nat
  template : Bytes
  deriving DecidableEq, Repr

/-- The fields of a new-label lighter. -/
def newLabel (l : Bytes) : NewLabel := ⟨le 0 8 l, slice 8 32 l⟩

/-- The label a template gives a target (R148). -/
def NewLabel.label (n : NewLabel) : KLabel :=
  { labelOfBytes n.template with handle := n.target, chainIdx := 0, chainLen := 1 }

/-- Encodings of a template and its target at step 10 (R137, R148); the bytes of `fixed` must be zero. -/
def NewLabel.formOk (n : NewLabel) (fixed : List Nat) : Bool :=
  (fixed.all fun i => le i 1 n.template == 0) && decide (le 6 1 n.template < 4) && le 7 1 n.template == 0
    && allZero (slice 8 8 n.template) && allZero (slice 24 8 n.template) && handleForm n.target

/-- TARGET names a key of the tenant (R141, R148). -/
def NewLabel.targetOk (n : NewLabel) (t : Nat) : Bool := decide (handleTenant n.target = t) && handleNames n.target

/-- The usages of group 0x07 (R147): D1, K3, S0, S1 and 52 are none of its. -/
def groupSeven (l : KLabel) : Bool := rowAccepted l && !(l.usedAs ["D1", "K3", "S0", "S1", "52"])

/-- Handles that commits not yet ticked put. -/
def State.pendingPuts (s : State) : List Nat :=
  s.pendingCommits.flatMap fun c => c.changes.filterMap fun ch => match ch with
    | .put (r :: _) => some r.label.handle
    | _ => none

/-- The target handle is unused in its tenant (R141, step 15 of R146). -/
def State.unused (s : State) (h : Nat) : Bool := (Tbl.find h s.mor.store).isNone && !s.pendingPuts.contains h

/-- Versions of a handle's key number that exist or are about to (R141). -/
def State.versions (s : State) (h : Nat) : Nat :=
  let same (x : Nat) : Bool := handleTenant x == handleTenant h && handleKey x == handleKey h
  (s.mor.store.countP fun p => same p.1 && match p.2 with
    | .key _ => true
    | .tombstone => false) + s.pendingPuts.countP same

/-- Step 16 of R146 for a key of n moorings: versions, KEY_QUOTA and store space. -/
def State.keyRoom (s : State) (h n : Nat) : Bool :=
  decide (s.versions h < 4) && s.quotaRoom (handleTenant h) 1 && s.storeRoom n && s.outcomeRoom

/-- Steps 15 and 16 of R146. -/
def State.placeSteps (s : State) (h n : Nat) : List (Bool × Nat) :=
  [(s.unused h, stKeyExists), (s.keyRoom h n, stKeyLimit)]

/-- A new symmetric key as the change that stores it. -/
def State.putKey (s : State) (l : KLabel) (key : Bytes) : Change := .put [s.newRec l key]

/-- The check value of a key, where R150 defines one. -/
def checkValue (l : KLabel) (key : Bytes) : Bytes :=
  if l.alg = chr "T" then kcvOf true key else if l.alg = chr "A" then kcvOf false key else []

/-- PERMIT 0 for an opcode whose action is None (step 6 of R146). -/
def noPermit (r : Run) : Bool × Nat := (r.b.permit == 0, stBadFormat)

/-! ### KEY_GENERATE and KEY_CHECK_VALUE (R149, R150) -/

/-- The label a barge's new-label lighter gives. -/
def labelAsked (r : Run) : KLabel := (newLabel (r.lighter 0)).label

/-- Steps 9 to 16 of KEY_GENERATE (R146, R148, R149). -/
def State.keyGenerateChecks (s : State) (r : Run) : List (Bool × Nat) :=
  let n := newLabel (r.lighter 0)
  let l := n.label
  [(groupSeven l, stKeyUsage),
    (noParams r.b && n.formOk [] && modeIn l.exportability "ESN" && allZero ((r.lighter 0).drop 40), stBadFormat),
    (n.targetOk r.tenant, stKeyUnknown)] ++ s.placeSteps n.target 1

/-- A key of random bytes under a label: a TDES key has odd parity (R149). -/
def keyFrom (l : KLabel) (bs : Bytes) : Bytes := if l.alg = chr "T" then bs.map oddParity else bs

/-- KEY_GENERATE (R148, R149). -/
def keyGenerateSvc (r : Run) (s : State) : Res × State :=
  let l := labelAsked r
  s.checks r (s.keySteps r) fun _ => s.withPermit r 0x0001 fun _ s =>
    s.checks r (s.keyGenerateChecks r) fun _ => s.checks r (s.lanes r) fun _ =>
        let d := s.drawFor r l.size
        match d.1 with
        | .wait => (.wait, s)
        | .none_ => d.2.fails stEntropy
        | .bytes bs => ((d.2.spend r.core 9500).countLoads 1).doneWith (checkValue l (keyFrom l bs)) (some [s.putKey l (keyFrom l bs)])

/-- KEY_GENERATE, opcode 0x0700. -/
def execKeyGenerate (core : Nat) (hw : Hw) (s : State) : Host.Outcome State Fault Refusal := .next (s.serve core 0x0700 hw keyGenerateSvc)

/-- Steps 1 to 10 of KEY_CHECK_VALUE (R146, R150). -/
def State.keyCheckChecks (s : State) (r : Run) : List (Bool × Nat) :=
  let l := s.labelOf r.b.h0
  s.keySteps r ++ [(r.b.h0 != 0, stBadFormat), noPermit r,
    ((l.alg == chr "T" || l.alg == chr "A") && s.dateOk l.notBefore l.notAfter, stKeyUsage), (noParams r.b, stBadFormat)]

/-- KEY_CHECK_VALUE (R150). -/
def keyCheckSvc (r : Run) (s : State) : Res × State :=
  s.checks r (s.keyCheckChecks r) fun _ => s.withLane r [r.b.h0] fun s' =>
    (s'.spend r.core 4800).gives (answered (checkValue (s.labelOf r.b.h0) (s.keyOf r.b.h0)))

/-- KEY_CHECK_VALUE, opcode 0x0704. -/
def execKeyCheckValue (core : Nat) (hw : Hw) (s : State) : Host.Outcome State Fault Refusal := .next (s.serve core 0x0704 hw keyCheckSvc)

/-! ### Key blocks (R151 to R154) -/

/-- The header of a key block as R151 reads it. -/
structure BlockHead where
  version : Nat
  usage : Nat
  alg : Nat
  mode : Nat
  exportability : Nat
  size : Nat
  deriving DecidableEq, Repr

/-- The number that characters spell to a base; none where one is no digit of it. -/
def readDigits (base : Nat) (bs : Bytes) : Option Nat :=
  bs.foldl (fun (acc : Option Nat) b =>
    let d := if 0x30 ≤ b.toNat ∧ b.toNat ≤ 0x39 then b.toNat - 0x30 else if 0x41 ≤ b.toNat ∧ b.toNat ≤ 0x46 then b.toNat - 0x37 else base
    if d < base then acc.map (base * · + d) else none) (some 0)

/-- The length of the optional block at the head of some characters: two hexadecimal digits, or after 00 an extended length. Log 68,
PRESUMED. -/
def optLength (bs : Bytes) : Option Nat :=
  match readDigits 16 (slice 2 2 bs) with
  | some 0 => (readDigits 16 (slice 4 2 bs)).bind fun k => (readDigits 16 (slice 6 k bs)).bind fun n => if 6 + k ≤ n then some n else none
  | some n => if 4 ≤ n then some n else none
  | none => none

/-- What follows n optional blocks (R151): KS, KV, KP, TS and PB are accepted, no other. -/
def afterOpts : Nat → Bytes → Option Bytes
  | 0, bs => some bs
  | n + 1, bs =>
    match optLength bs with
    | some len =>
      if (["KS", "KV", "KP", "TS", "PB"].any fun x => ascii x == bs.take 2) && decide (len ≤ bs.length) then afterOpts n (bs.drop len)
      else none
    | none => none

/-- A letter or a decimal digit. -/
def alnum (b : Byte) : Bool :=
  let n := b.toNat
  (decide (0x30 ≤ n) && decide (n ≤ 0x39)) || (decide (0x41 ≤ n) && decide (n ≤ 0x5A)) || (decide (0x61 ≤ n) && decide (n ≤ 0x7A))

/-- The form of a key block is accepted (R151): its version, its length field, the form of its key version number, its optional blocks, and
as many hexadecimal characters as whole cipher blocks and a MAC take. Log 68, PRESUMED. -/
def blockForm (bs : Bytes) : Bool :=
  let v := le 0 1 bs
  let b := versionBlock v
  [chr "B", chr "C", chr "D"].contains v && decide (16 ≤ bs.length) && decide (bs.length ≤ 4096)
    && readDigits 10 (slice 1 4 bs) == some bs.length && (slice 9 2 bs).all alnum && slice 14 2 bs == ascii "00"
    && (match (readDigits 10 (slice 12 2 bs)).bind fun n => afterOpts n (bs.drop 16) with
      | some rest =>
        let n := rest.length - 2 * versionMac v
        (bs.length - rest.length) % b == 0 && decide (2 * b ≤ n) && n % (2 * b) == 0 && rest.all fun x => (readDigits 16 [x]).isSome
      | none => false)

/-- The header of a block, where its form is accepted (R151). Log 68, PRESUMED. -/
def blockHead (bs : Bytes) : Option BlockHead :=
  if blockForm bs then some ⟨le 0 1 bs, le 5 2 bs, le 7 1 bs, le 8 1 bs, le 11 1 bs, Config.keyBlockSize bs⟩ else none

/-- The label a block's key takes from its header (R152, R153). -/
def BlockHead.label (b : BlockHead) : KLabel :=
  { labelOfBytes [] with usage := b.usage, alg := b.alg, mode := b.mode, exportability := b.exportability, size := b.size }

/-- The order E, S, N of exportability (R148). -/
def exportRank (c : Nat) : Nat := if c = chr "E" then 0 else if c = chr "S" then 1 else 2

/-- The lower of a block's exportability and a template's, where the template gives one (R148). -/
def lowerExport (block template : Nat) : Nat :=
  if template = 0 then block else if exportRank block ≤ exportRank template then template else block

/-- The label of an imported key: the header's fields under the template (R148). -/
def NewLabel.imported (n : NewLabel) (b : KLabel) : KLabel :=
  { n.label with usage := b.usage, alg := b.alg, mode := b.mode, size := b.size
                 exportability := lowerExport b.exportability (le 4 1 n.template) }

/-- Encodings of an import's template (R148): bytes 0 to 3 and 5 zero, byte 4 zero or E, S or N. -/
def NewLabel.importForm (n : NewLabel) : Bool :=
  n.formOk [0, 1, 2, 3, 5] && (le 4 1 n.template == 0 || modeIn (le 4 1 n.template) "ESN")

/-- The label fields that a key block's header gives, those of no key where its form is not accepted (R151). -/
def headLabel (bs : Bytes) : KLabel := ((blockHead bs).map BlockHead.label).getD (labelOfBytes [])

/-- A key block's version character, 0 where its form is not accepted. -/
def headVersion (bs : Bytes) : Nat := ((blockHead bs).map (·.version)).getD 0

/-- The label of the key that a barge imports (R148). -/
def importLabel (r : Run) : KLabel := (newLabel (r.lighter 0)).imported (headLabel r.input)

/-- Steps 9 to 13 of KEY_IMPORT (R146, R148, R151, R152). -/
def State.keyImportChecks (s : State) (r : Run) : List (Bool × Nat) :=
  let n := newLabel (r.lighter 0)
  let some? := (blockHead r.input).isSome
  let hl := headLabel r.input
  [(s.labelOk r.b.h0 ["K1"] [tdes, aes] "DB", stKeyUsage), (!some? || groupSeven hl, stKeyUsage),
    (some? && modeIn hl.exportability "ESN" && n.importForm && allZero ((r.lighter 0).drop 40), stBadFormat),
    (n.targetOk r.tenant, stKeyUnknown),
    (versionPairs (headVersion r.input) (s.isTdes r.b.h0) && strongEnough hl.alg hl.size (s.labelOf r.b.h0), stKeyUsage)]

/-- The key a block holds under the protecting key HANDLE0 (R151). -/
def State.keyInBlock (s : State) (r : Run) (size : Nat) : Bytes := fixLen size (Config.keyBlockKey (s.keyOf r.b.h0) r.input)

/-- Steps 14 to 16 of KEY_IMPORT: the block's MAC verifies, and the key has its place. -/
def State.keyImportPlace (s : State) (r : Run) : List (Bool × Nat) :=
  (Config.keyBlockMacOk (s.keyOf r.b.h0) r.input, stVerifyFail) :: s.placeSteps (newLabel (r.lighter 0)).target 1

/-- KEY_IMPORT (R148, R151, R152). -/
def keyImportSvc (r : Run) (s : State) : Res × State :=
  let l := importLabel r
  s.checks r (s.keySteps r) fun _ => s.withHandles (r.b.h0 != 0) fun _ => s.withPermit r 0x0002 fun _ s =>
    s.checks r (s.keyImportChecks r) fun _ =>
      s.withLane r [r.b.h0] fun s' =>
        let s' := s'.spend r.core (14000 + 60 * ceilDiv r.input.length 16)
        s'.checks r (s.keyImportPlace r) fun _ =>
          (s'.countLoads 1).doneWith (checkValue l (s.keyInBlock r l.size)) (some [s.putKey l (s.keyInBlock r l.size)])

/-- KEY_IMPORT, opcode 0x0701. -/
def execKeyImport (core : Nat) (hw : Hw) (s : State) : Host.Outcome State Fault Refusal := .next (s.serve core 0x0701 hw keyImportSvc)

/-- The action of an export by the exported key's EXPORT (R147). -/
def exportAction (c : Nat) : Nat := if c = chr "S" then 0x0004 else 0x0003

/-- The lighter of KEY_EXPORT and KEY_TRANSLATE is well encoded (R153): VERSION and OPT. -/
def exportForm (l : Bytes) : Bool :=
  ([0, chr "B", chr "C", chr "D"].contains (le 0 1 l)) && decide (le 1 1 l < 4) && allZero (l.drop 2)

/-- TS can be written (R153): the calendar is set. Log 34, DEDUCED. -/
def State.exportRange (s : State) (l : Bytes) : Bool := !bitOf 1 (le 1 1 l) || s.calendarNow.isSome

/-- The block of a key under a header and a protecting key, its padding given (R153). Log 34, DEDUCED. -/
def State.wrapAsBlock (s : State) (r : Run) (kek : Nat) (hl : KLabel) (key pad : Bytes) : Bytes :=
  let l := r.lighter 0
  keyBlock (s.keyOf kek) (blockVersion (le 0 1 l) (s.isTdes kek)) (le 1 1 l) (s.calendarNow.getD 0)
    (blockHeader hl.usage hl.alg hl.mode hl.exportability) key pad

/-- A key under a header is written as a block under a protecting key (R153), its padding drawn. Log 34, DEDUCED. -/
def State.writeBlock (s before : State) (r : Run) (kek : Nat) (hl : KLabel) (key : Bytes) (cycles : Nat → Nat) : Res × State :=
  let d := s.drawFor r 32
  match d.1 with
  | .wait => (.wait, before)
  | .none_ => d.2.fails stEntropy
  | .bytes pad =>
    let out := before.wrapAsBlock r kek hl key pad
    (d.2.spend r.core (cycles out.length)).gives (withOutput r out)

/-- Steps 9 to 14 of KEY_EXPORT (R139, R146, R153). -/
def State.keyExportChecks (s : State) (r : Run) : List (Bool × Nat) :=
  let l := r.lighter 0
  let key := s.labelOf r.b.h0
  let kt := s.isTdes r.b.h1
  [(groupSeven key && key.exportability != chr "N" && s.dateOk key.notBefore key.notAfter, stKeyUsage),
    (s.labelOk r.b.h1 ["K1"] [tdes, aes] "EB", stKeyUsage), (exportForm l, stBadFormat), (s.exportRange l, stRange),
    (versionPairs (blockVersion (le 0 1 l) kt) kt && strongEnough key.alg key.size (s.labelOf r.b.h1), stKeyUsage),
    (key.exportability != chr "S" || (s.tenantAt r.tenant).exportS, stPolicyDenied)]

/-- KEY_EXPORT (R139, R153). -/
def keyExportSvc (r : Run) (s : State) : Res × State :=
  let key := s.labelOf r.b.h0
  s.checks r (s.keySteps r) fun _ => s.withHandles (r.b.h0 != 0 && r.b.h1 != 0) fun _ =>
    s.withPermit r (exportAction key.exportability) fun _ s =>
      s.checks r (s.keyExportChecks r) fun _ =>
        s.withLane r [r.b.h0, r.b.h1] fun s' => s'.writeBlock s r r.b.h1 key (s.keyOf r.b.h0) fun c => 14000 + 60 * ceilDiv c 16

/-- KEY_EXPORT, opcode 0x0702. -/
def execKeyExport (core : Nat) (hw : Hw) (s : State) : Host.Outcome State Fault Refusal := .next (s.serve core 0x0702 hw keyExportSvc)

/-- Steps 9 to 14 of KEY_TRANSLATE (R146, R154). -/
def State.keyTranslateChecks (s : State) (r : Run) : List (Bool × Nat) :=
  let l := r.lighter 0
  let some? := (blockHead r.input).isSome
  let hl := headLabel r.input
  let kt := s.isTdes r.b.h1
  let strong (kek : Nat) : Bool := strongEnough hl.alg hl.size (s.labelOf kek)
  [(s.labelOk r.b.h0 ["K1"] [tdes, aes] "DB", stKeyUsage), (s.labelOk r.b.h1 ["K1"] [tdes, aes] "EB", stKeyUsage),
    (!some? || (groupSeven hl && hl.exportability != chr "N"), stKeyUsage),
    (some? && modeIn hl.exportability "ES" && exportForm l, stBadFormat), (s.exportRange l, stRange),
    (versionPairs (headVersion r.input) (s.isTdes r.b.h0) && strong r.b.h0
      && versionPairs (blockVersion (le 0 1 l) kt) kt && strong r.b.h1, stKeyUsage),
    (hl.exportability != chr "S" || (s.tenantAt r.tenant).exportS, stPolicyDenied)]

/-- KEY_TRANSLATE (R154). -/
def keyTranslateSvc (r : Run) (s : State) : Res × State :=
  let hl := headLabel r.input
  s.checks r (s.keySteps r) fun _ => s.withHandles (r.b.h0 != 0 && r.b.h1 != 0) fun _ =>
    s.withPermit r (exportAction hl.exportability) fun _ s =>
      s.checks r (s.keyTranslateChecks r) fun _ =>
        s.withLane r [r.b.h0, r.b.h1] fun s' =>
          if Config.keyBlockMacOk (s.keyOf r.b.h0) r.input = false then s'.fails stVerifyFail
          else s'.writeBlock s r r.b.h1 hl (s.keyInBlock r hl.size) fun c => 24000 + 120 * ceilDiv c 16

/-- KEY_TRANSLATE, opcode 0x0703. -/
def execKeyTranslate (core : Nat) (hw : Hw) (s : State) : Host.Outcome State Fault Refusal := .next (s.serve core 0x0703 hw keyTranslateSvc)

/-! ### Component entry (R155) -/

/-- The number of a session of this device: its index in bits 31:26 of a counter (R411). -/
def State.sessionNumber (s : State) (n : Nat) : Nat := 2 ^ 26 * s.index + n % 2 ^ 26

/-- An open component session of a tenant: its permit's NOT_AFTER has not passed (R155). -/
def State.compSession (s : State) (t number : Nat) : Option CompSession :=
  s.adm.comps.find? fun c => c.number == number && c.tenant == t && decide (s.now ≤ c.notAfter)

/-- Replace the component sessions. -/
def State.setComps (s : State) (cs : List CompSession) : State := { s with adm := { s.adm with comps := cs } }

/-- Steps 9 to 16 of COMPONENT_OPEN (R146, R148, R155). -/
def State.componentOpenChecks (s : State) (r : Run) : List (Bool × Nat) :=
  let n := newLabel (r.lighter 0)
  let l := n.label
  let count := le 0 1 r.input
  [(groupSeven l && (l.alg == chr "T" || l.alg == chr "A"), stKeyUsage),
    (n.formOk [] && modeIn l.exportability "ESN" && allZero ((r.lighter 0).drop 40) && allZero (r.input.drop 1), stBadFormat),
    (n.targetOk r.tenant, stKeyUnknown), (count == 2 || count == 3, stRange)] ++ s.placeSteps n.target 1

/-- The session that COMPONENT_OPEN opens under a permit with a fresh X448 key (R155). -/
def State.newComponents (s : State) (r : Run) (p : Option Permit) (x : Bytes) : CompSession :=
  ⟨s.sessionNumber s.adm.compNext, r.tenant, labelAsked r, (p.map (·.officerA)).getD 0xFFFF, (p.map (·.officerB)).getD 0xFFFF,
    (p.map (·.notAfter)).getD (2 ^ 64 - 1), le 0 1 r.input, [], x⟩

/-- A component session joins the open ones, under the next number. -/
def State.addComponents (s : State) (c : CompSession) : State :=
  { s with adm := { s.adm with comps := s.adm.comps ++ [c], compNext := s.adm.compNext + 1 } }

/-- COMPONENT_OPEN (R148, R155). The device holds 16 sessions; the status of a seventeenth is not given (log 22). -/
def componentOpenSvc (r : Run) (s : State) : Res × State :=
  s.checks r (s.keySteps r) fun _ => s.withPermit r 0x0005 fun p s =>
    s.checks r (s.componentOpenChecks r) fun _ => s.withTile r false false fun _ =>
      if 16 ≤ s.adm.comps.countP (fun c => decide (s.now ≤ c.notAfter)) then s.noSession
      else if r.fits 56 = false then s.doneOut r (zeros 56)
      else
        let d := s.drawFor r 56
        match d.1 with
        | .wait => (.wait, s)
        | .none_ => d.2.fails stEntropy
        | .bytes x =>
          let c := s.newComponents r p x
          ((d.2.spend r.core (12000 + Config.variableCycles 0x0705 0 [])).addComponents c).gives
            (withOutput r (fixLen 56 (Config.x448Public x)) (toLE 4 c.number))

/-- COMPONENT_OPEN, opcode 0x0705. -/
def execComponentOpen (core : Nat) (hw : Hw) (s : State) : Host.Outcome State Fault Refusal := .next (s.serve core 0x0705 hw componentOpenSvc)

/-- The session a component names. -/
def State.componentFor (s : State) (r : Run) : Option CompSession := s.compSession r.tenant (le 0 4 r.input)

/-- The checks of COMPONENT_ADD (R146, R155): the next component of an open session, signed by the officer whose turn it is. -/
def State.componentAddChecks (s : State) (r : Run) : List (Bool × Nat) :=
  let i := r.input
  let k := le 4 1 i
  let sess := s.componentFor r
  let next := (sess.map fun c => decide (k = c.comps.length + 1) && decide (k ≤ c.count)).getD false
  let mine := (sess.map fun c => if k % 2 = 1 then c.officerA else c.officerB).getD 0xFFFF
  let other := (sess.map fun c => if k % 2 = 1 then c.officerB else c.officerA).getD 0xFFFF
  let signedBy (n : Nat) : Bool :=
    Config.ed448Verify (s.officerAt n).key (ascii "LT7200 component") (i.take 112) (slice 112 114 i)
  s.keySteps r ++ [noPermit r, (allZero (slice 5 3 i), stBadFormat), (sess.isSome && next, stRange),
    (signedBy mine || !signedBy other, stRange), (signedBy mine, stVerifyFail)]

/-- The key of one component of a session (R155). -/
def CompSession.wrapKey (c : CompSession) (i : Bytes) : Bytes :=
  Config.kmac256 (Config.x448 c.x448 (slice 8 56 i)) (i.take 4 ++ slice 4 1 i) 256 (ascii "LT7200-COMPONENT")

/-- A component as it came: none where its tag does not verify (R155). -/
def CompSession.openPart (c : CompSession) (i : Bytes) : Option Bytes :=
  let key := c.wrapKey i
  let ct := slice 64 32 i
  if fixLen 16 (Config.gcmTag key (zeros 12) [] ct) ≠ slice 96 16 i then none
  else some (slice 0 c.label.size (Config.gcmDec key (zeros 12) [] ct))

/-- A component joins its session. -/
def State.addPart (s : State) (no : Nat) (part : Bytes) : State :=
  s.setComps (s.adm.comps.map fun (x : CompSession) => if x.number = no then { x with comps := x.comps ++ [part] } else x)

/-- Cycles of COMPONENT_ADD (R158, R253): an X448 agreement and an Ed448 verification. -/
def componentCycles : Nat := 12000 + 130000 + 242000

/-- COMPONENT_ADD (R155). -/
def componentAddSvc (r : Run) (s : State) : Res × State :=
  s.checks r (s.componentAddChecks r) fun _ =>
    match s.componentFor r with
    | none => s.fails stRange
    | some c => s.checks r (s.lanes r) fun _ => s.withTile r false false fun _ =>
        let s := s.spend r.core componentCycles
        match c.openPart r.input with
        | none => s.fails stVerifyFail
        | some part => (s.addPart c.number part).gives (answered (checkValue c.label part))

/-- COMPONENT_ADD, opcode 0x0706. -/
def execComponentAdd (core : Nat) (hw : Hw) (s : State) : Host.Outcome State Fault Refusal := .next (s.serve core 0x0706 hw componentAddSvc)

/-- The session that COMPONENT_CLOSE names. -/
def State.componentToClose (s : State) (r : Run) : Option CompSession := s.compSession r.tenant (wbits 31 0 r.b.p0)

/-- The checks of COMPONENT_CLOSE (R146, R155): an open session with all its components, and a place for the key. -/
def State.componentCloseChecks (s : State) (r : Run) : List (Bool × Nat) :=
  let sess := s.componentToClose r
  s.keySteps r ++ [noPermit r, (wbits 63 32 r.b.p0 == 0 && r.b.p1 == 0 && r.b.p2 == 0, stBadFormat),
      ((sess.map fun c => decide (c.comps.length = c.count)).getD false, stRange)]
    ++ s.placeSteps ((sess.map (·.label.handle)).getD 0) 1

/-- The key of a session: the exclusive-OR of its components (R155). -/
def CompSession.key (c : CompSession) : Bytes := keyFrom c.label (c.comps.foldl xorBytes (zeros c.label.size))

/-- COMPONENT_CLOSE (R155). -/
def componentCloseSvc (r : Run) (s : State) : Res × State :=
  s.checks r (s.componentCloseChecks r) fun _ =>
    match s.componentToClose r with
    | none => s.fails stRange
    | some c => s.checks r (s.lanes r) fun _ =>
        let s' := s.spend r.core 12000
        ((s'.setComps (s.adm.comps.filter fun y => y.number != c.number)).countLoads 1).doneWith (checkValue c.label c.key)
          (some [s.putKey c.label c.key])

/-- COMPONENT_CLOSE, opcode 0x0707. -/
def execComponentClose (core : Nat) (hw : Hw) (s : State) : Host.Outcome State Fault Refusal := .next (s.serve core 0x0707 hw componentCloseSvc)

/-- COMPONENT_SESSION_EXPIRE (R155): after the NOT_AFTER of its permit the session ends and its components are gone. -/
def execComponentSessionExpire (session : Nat) (s : State) : Host.Outcome State Fault Refusal :=
  .next (s.setComps (s.adm.comps.filter fun c => !(c.number == session && decide (c.notAfter < s.now))))

/-! ### KEY_DELETE (R156) -/

/-- Steps 9 to 16 of KEY_DELETE (R146, R156): a key of any usage, within its date window. -/
def State.keyDeleteChecks (s : State) (r : Run) : List (Bool × Nat) :=
  let l := s.labelOf r.b.h0
  [(s.dateOk l.notBefore l.notAfter, stKeyUsage), (noParams r.b, stBadFormat), (s.outcomeRoom, stKeyLimit)]

/-- KEY_DELETE (R156). -/
def keyDeleteSvc (r : Run) (s : State) : Res × State :=
  s.checks r (s.keySteps r) fun _ => s.withHandles (r.b.h0 != 0) fun _ => s.withPermit r 0x0006 fun _ s =>
    s.checks r (s.keyDeleteChecks r) fun _ =>
      (s.spend r.core 6000).doneWith [] (some [.delete r.b.h0])

/-- KEY_DELETE, opcode 0x0708. -/
def execKeyDelete (core : Nat) (hw : Hw) (s : State) : Host.Outcome State Fault Refusal := .next (s.serve core 0x0708 hw keyDeleteSvc)

/-! ### TR-34 (R157) -/

/-- ALG and SIZE of RSA keys. -/
def rsaKeys : String × List Nat := ("R", (List.range 25).map (· + 8))
/-- ALG and SIZE of curve keys for signing. -/
def edKeys : String × List Nat := ("E", [1, 2, 3, 4, 5])
/-- ALG and SIZE of ML-DSA keys. -/
def dsaKeys : String × List Nat := ("Q", [1, 2])

/-- The token's and the certificate's lengths of a TR-34 import lighter. -/
def tr34Lens (r : Run) : Nat × Nat := (le 40 4 (r.lighter 0), le 44 4 (r.lighter 0))

/-- Steps 9 to 13 of TR34_IMPORT (R146, R148, R157). -/
def State.tr34ImportChecks (s : State) (r : Run) : List (Bool × Nat) :=
  let n := newLabel (r.lighter 0)
  let m := tr34Lens r
  [(s.labelOk r.b.h0 ["D1"] [rsaKeys] "DB", stKeyUsage), (s.labelOk r.b.h1 ["S1"] [rsaKeys, edKeys] "VS", stKeyUsage),
    (n.importForm && allZero ((r.lighter 0).drop 48), stBadFormat), (n.targetOk r.tenant, stKeyUnknown),
    (decide (1 ≤ m.1) && decide (m.1 ≤ 8192) && decide (1 ≤ m.2) && decide (m.1 + m.2 = r.input.length), stRange)]

/-- A certificate holds under a root key at the device's calendar date (R157). -/
def State.tr34Trusts (s : State) (root : Nat) (cert : Bytes) : Bool :=
  match s.calendarNow with
  | some cal => Config.tr34CertOk (s.chainOf root) cert cal
  | none => false

/-- The label and the key of a TR-34 token: none where its certificate or a signature fails (R157). -/
def State.tr34Key (s : State) (r : Run) : Option (KLabel × Bytes) :=
  let m := tr34Lens r
  let token := r.input.take m.1
  let cert := slice m.1 m.2 r.input
  (if s.tr34Trusts r.b.h1 cert && Config.tr34TokenOk cert token then Config.tr34Open (s.chainOf r.b.h0) token else none).map
    fun x =>
      let hl : KLabel := { labelOfBytes [] with
        usage := x.1, alg := x.2.1, mode := x.2.2.1, exportability := x.2.2.2.1, size := x.2.2.2.2.length }
      ((newLabel (r.lighter 0)).imported hl, x.2.2.2.2)

/-- What the key of a token must meet (R157), and its place. -/
def State.tr34Place (s : State) (r : Run) (l : KLabel) : List (Bool × Nat) :=
  (groupSeven l && l.usedAs ["K0", "K1"] && modeIn l.exportability "ESN", stKeyUsage)
    :: s.placeSteps (newLabel (r.lighter 0)).target 1

/-- The loads of every link of two keys. -/
def State.loadChains (s : State) (a b : Nat) : State :=
  (s.loadLinks a (s.labelOf a).chainLen).loadLinks b (s.labelOf b).chainLen

/-- TR34_IMPORT (R148, R157). -/
def tr34ImportSvc (r : Run) (s : State) : Res × State :=
  s.checks r (s.keySteps r) fun _ => s.withHandles (r.b.h0 != 0 && r.b.h1 != 0) fun _ => s.withPermit r 0x0007 fun _ s =>
    s.checks r (s.tr34ImportChecks r) fun _ => s.withTile r true true fun _ =>
      let s' := (s.loadChains r.b.h0 r.b.h1).spend r.core (12000 + Config.variableCycles 0x0709 0 [])
      match s.tr34Key r with
      | none => s'.fails stVerifyFail
      | some (l, key) => s'.checks r (s.tr34Place r l) fun _ =>
          (s'.countLoads 1).doneWith (checkValue l key) (some [s.putKey l key])

/-- TR34_IMPORT, opcode 0x0709. -/
def execTr34Import (core : Nat) (hw : Hw) (s : State) : Host.Outcome State Fault Refusal := .next (s.serve core 0x0709 hw tr34ImportSvc)

/-- Steps 9 to 14 of TR34_EXPORT (R139, R146, R157). -/
def State.tr34ExportChecks (s : State) (r : Run) : List (Bool × Nat) :=
  let key := s.labelOf r.b.h0
  [(key.usedAs ["K1"] && groupSeven key && key.exportability != chr "N" && s.dateOk key.notBefore key.notAfter, stKeyUsage),
    (s.labelOk r.b.h1 ["S0"] [rsaKeys, edKeys, dsaKeys] "SN", stKeyUsage),
    (s.labelOk r.b.h2 ["S1"] [rsaKeys, edKeys] "VS", stKeyUsage),
    (key.exportability != chr "S" || (s.tenantAt r.tenant).exportS, stPolicyDenied)]

/-- The token that exports HANDLE0, signed with HANDLE1, to the certificate in the input buffer (R157). -/
def State.tr34Token (s : State) (r : Run) (rnd : Bytes) : Bytes :=
  Config.tr34Token (s.keyOf r.b.h0) (s.labelOf r.b.h0).bytes (s.chainOf r.b.h1) r.input rnd

/-- TR34_EXPORT (R157), under the action R147 gives it by the exported key's EXPORT (log 23). -/
def tr34ExportSvc (r : Run) (s : State) : Res × State :=
  s.checks r (s.keySteps r) fun _ => s.withHandles (r.b.h0 != 0 && r.b.h1 != 0 && r.b.h2 != 0) fun _ =>
    s.withPermit r (exportAction (s.labelOf r.b.h0).exportability) fun _ s =>
      s.checks r (s.tr34ExportChecks r) fun _ => s.withTile r true true fun _ =>
        let s' := (s.loadKeys [r.b.h0]).loadChains r.b.h1 r.b.h2
        let s' := s'.spend r.core (12000 + Config.variableCycles 0x070A 0 [])
        if s.tr34Trusts r.b.h2 r.input = false then s'.fails stVerifyFail
        else
          let d := s'.drawFor r 64
          match d.1 with
          | .wait => (.wait, s)
          | .none_ => d.2.fails stEntropy
          | .bytes rnd => d.2.gives (withOutput r (s.tr34Token r rnd))

/-- TR34_EXPORT, opcode 0x070A. -/
def execTr34Export (core : Nat) (hw : Hw) (s : State) : Host.Outcome State Fault Refusal := .next (s.serve core 0x070A hw tr34ExportSvc)

end Sys2Proof.Machine
end

