-- ==== Sys2Proof/Machine/Admin.lean ====
section
/-! DEFINITION. Permits, tenants, officers, the calendar and journal queries (06_key_model_and_permits.md R159 to R168;
02_barges_and_rings.md R61): opcodes 0x0C00 to 0x0C40. -/

namespace Sys2Proof.Machine

/-! ### Permits (R161, R162) -/

/-- The fields of a permit's 316 bytes (R161). -/
def permitOf (b : Bytes) : Permit :=
  { no := le 0 4 b, action := le 4 2 b, scopeKind := le 6 1 b, signers := le 7 1 b, scope := le 8 8 b, notBefore := le 16 8 b
    notAfter := le 24 8 b, epoch := le 32 8 b, device := slice 40 8 b, officerA := le 48 2 b, officerB := le 50 2 b
    arg := slice 56 32 b }

/-- The tenant of a permit's scope, the device tenant for device scope (R161). -/
def Permit.scopeTenant (p : Permit) : Nat := if p.scopeKind = 0 then 0 else handleTenant p.scope

/-- Check 1 of R162: encodings and the scope of the ring's tenant. -/
def Permit.formOk (p : Permit) (b : Bytes) (t : Nat) : Bool :=
  p.no != 0 && (quorumDefault p.action).isSome && decide (p.scopeKind ≤ 2) && (p.signers == 1 || p.signers == 2)
    && allZero (slice 52 4 b) && (p.signers == 2 || (p.officerB == 0xFFFF && allZero (slice 202 114 b)))
    && (if p.scopeKind = 0 then p.scope == 0 && t == 0
        else if p.scopeKind = 1 then p.scope == 2 ^ 48 * handleTenant p.scope && handleTenant p.scope == t
        else handleForm p.scope && handleTenant p.scope == t)

/-- Whose officers sign for a tenant (R143). -/
def State.signerTenant (s : State) (t : Nat) : Nat := if (s.tenantAt t).deviceAdmin then 0 else t

/-- An officer is ACTIVE and of a tenant. -/
def State.officerOf (s : State) (n t : Nat) : Bool := s.officerActive n && decide ((s.officerAt n).tenant = t)

/-- An officer has one of the roles a quorum entry asks for (R164). -/
def State.hasRole (s : State) (n : Nat) (roles : BitVec 8) : Bool := roles == 0 || (s.officerAt n).roles &&& roles != 0

/-- Bytes 0 to 7 of SHAKE256 of this device's DevID public key (R161). -/
def State.deviceField (s : State) : Bytes := slice 0 8 (Config.shake256 s.devIdKey 32)

/-- Checks 1 to 4 of R162. -/
def State.lodgeChecks (s : State) (t : Nat) (b : Bytes) : List (Bool × Nat) :=
  let p := permitOf b
  let who := s.signerTenant p.scopeTenant
  let known := (s.adm.permits.any fun x => x.1 == t && x.2.no == p.no) || s.adm.spent.contains (t, p.no)
  let q := (s.quorumOf p.action).getD ⟨0, 0, 0⟩
  [(p.formOk b t, stRange),
    (p.epoch == s.pwr.epoch && p.device == s.deviceField && !known && decide (s.now ≤ p.notAfter), stPermitInvalid),
    (s.officerOf p.officerA who && (p.signers == 1 || (s.officerOf p.officerB who && p.officerA != p.officerB)), stPermitInvalid),
    (q.signers != 0 && q.signers == p.signers && s.hasRole p.officerA q.roleA
      && (p.signers == 1 || s.hasRole p.officerB q.roleB), stPermitInvalid)]

/-- Check 6 of R162. -/
def State.permitSigned (s : State) (b : Bytes) : Bool :=
  let p := permitOf b
  let by_ (n i : Nat) : Bool := Config.ed448Verify (s.officerAt n).key (ascii "LT7200 permit") (b.take 88) (slice i 114 b)
  by_ p.officerA 88 && (p.signers == 1 || by_ p.officerB 202)

/-- PERMIT_LODGE (R162): the checks in order; the fifth counts the lodge in its 1 ms window. Every outcome is logged (R163). -/
def permitLodgeSvc (r : Run) (s : State) : Res × State :=
  let p := permitOf r.input
  let refused (s : State) (st : Nat) : Res × State :=
    (s.logPermit 2 r.tenant p.no p.action p.officerA p.officerB st).fails st
  s.checks r [noPermit r] fun _ =>
    match firstFail (r.reads (s.lodgeChecks r.tenant r.input)) with
    | some st => refused s st
    | none =>
      let w := s.now / 100000
      let n := if s.adm.lodges.1 = w then s.adm.lodges.2 else 0
      if 20 ≤ n then refused s stPermitRate
      else
        let s := { s with adm := { s.adm with lodges := (w, n + 1) } }
        let mine : Nat := s.adm.permits.countP fun x => x.1 == r.tenant
        if s.permitSigned r.input = false then refused s stPermitInvalid
        else if 4096 ≤ s.adm.permits.length ∨ 64 ≤ mine then refused s stPermitTableFull
        else
          let s := { s with adm := { s.adm with permits := s.adm.permits ++ [(r.tenant, p)] } }
          (s.logPermit 0 r.tenant p.no p.action p.officerA p.officerB stDone).doneWith []

/-- PERMIT_LODGE, opcode 0x0C00. -/
def execPermitLodge (core : Nat) (hw : Hw) (s : State) : Host.Outcome State Fault Refusal := .next (s.serve core 0x0C00 hw permitLodgeSvc)

/-- What R162 does with a number to withdraw on this device: the outcome and the state after. -/
def State.withdrawHere (s : State) (t no : Nat) : Outcome × State :=
  if s.adm.spent.contains (t, no) then (⟨stPermitInvalid, [], 0, none⟩, s)
  else
    let lodged := s.adm.permits.any fun x => x.1 == t && x.2.no == no
    let s := { s with adm := { s.adm with
      permits := s.adm.permits.filter fun x => !(x.1 == t && x.2.no == no)
      spent := s.adm.spent ++ [(t, no)] } }
    (⟨stDone, [if lodged then 1 else 0], 1, none⟩, s)

/-- The answers of every member to a PERMIT_WITHDRAW (R411). -/
def joinWithdraw (os : List Outcome) (s : State) : Res × State :=
  if os.all fun o => decide (o.status = stPermitInvalid) then s.fails stPermitInvalid
  else s.doneWith [if os.any fun o => decide (o.status = stDone) && le 0 1 o.result == 1 then 1 else 0]

/-- PERMIT_WITHDRAW (R162, R411). The head keeps its own answer while the others are asked. -/
def permitWithdrawSvc (r : Run) (s : State) : Res × State :=
  let no := wbits 31 0 r.b.p0
  s.checks r [noPermit r, (no != 0 && wbits 63 32 r.b.p0 == 0 && r.b.p1 == 0 && r.b.p2 == 0, stRange)] fun _ =>
    match r.e.asked with
    | some ([], cs) => joinWithdraw (cs.map fun c => ⟨c.status, c.result, c.outLen, none⟩) s
    | some _ => (.wait, s)
    | none =>
      let x := s.withdrawHere r.tenant no
      if s.isHead = false ∨ r.e.origin.isSome = true ∨ s.otherMembers = [] then (.ended x.1 none, x.2)
      else
        let s := x.2.setEntry r.idx { r.e with asked := some (s.otherMembers, [x.1.comp r.b.seq]) }
        (.wait, s.otherMembers.foldl (fun (s : State) d => s.sendBarge d r.e []) s)

/-- PERMIT_WITHDRAW, opcode 0x0C01. -/
def execPermitWithdraw (core : Nat) (hw : Hw) (s : State) : Host.Outcome State Fault Refusal := .next (s.serve core 0x0C01 hw permitWithdrawSvc)

/-! ### The officer and tenant tables (R142, R143, R159, R160, R166, R167) -/

/-- An officer enrolment record (R160). -/
structure Enrolment where
  tenant : Nat
  roles : Nat
  key : Bytes
  deriving DecidableEq, Repr

/-- The fields of an enrolment record. -/
def enrolment (b : Bytes) : Enrolment := ⟨le 0 2 b, le 2 1 b, slice 4 57 b⟩

/-- Reserved bytes and bits of an enrolment record are zero. -/
def enrolForm (b : Bytes) : Bool := le 3 1 b == 0 && allZero (slice 61 3 b) && decide (le 2 1 b < 32)

/-- The new officer's signature verifies (R160). -/
def enrolSigned (b : Bytes) : Bool := Config.ed448Verify (slice 4 57 b) (ascii "LT7200 enrol") (b.take 64) (slice 64 114 b)

/-- The officer a record enrols. -/
def Enrolment.officer (e : Enrolment) : Officer := ⟨e.tenant, BitVec.ofNat 8 e.roles, e.key, .active⟩

/-- SECURITY_OFFICER among an officer's roles. -/
def Officer.security (o : Officer) : Bool := o.roles.getLsbD 0

/-- An officer's entry as commits not yet ticked will leave it. -/
def State.officerSoon (s : State) (n : Nat) : Officer :=
  ((s.pendingCommits.flatMap (·.changes)).filterMap fun ch => match ch with
    | .officer m o => if m = n then some o else none
    | _ => none).getLast?.getD (s.officerAt n)

/-- Officer numbers. -/
def officerNumbers : List Nat := List.range 512

/-- FREE officer entries, lowest first (R167). -/
def State.freeOfficers (s : State) : List Nat := officerNumbers.filter fun n => decide ((s.officerSoon n).st = .free)

/-- ACTIVE SECURITY_OFFICER entries of a tenant. -/
def State.securityOfficers (s : State) (t : Nat) : List Nat :=
  officerNumbers.filter fun n => let o := s.officerSoon n; decide (o.st = .active) && o.tenant == t && o.security

/-- The tenant lighter (R166): tenant, flags, KEY_QUOTA. -/
def tenantForm (l : Bytes) : Bool := decide (le 2 1 l < 4) && le 3 1 l == 0 && allZero (l.drop 8)

/-- A tenant's entry with a lighter's flags and quota. -/
def Tenant.withLighter (x : Tenant) (l : Bytes) : Tenant :=
  { x with f4Downgrade := bitOf 0 (le 2 1 l), exportS := bitOf 1 (le 2 1 l), keyQuota := le 4 4 l }

/-- Steps 10 and 11 of the tenant opcodes (R166). -/
def tenantSteps (r : Run) : List (Bool × Nat) :=
  let l := r.lighter 0
  [(tenantForm l, stBadFormat), (decide (1 ≤ le 0 2 l) && decide (le 0 2 l ≤ 4095), stRange)]

/-- Steps that the tenant opcodes share, their permit claimed. -/
def State.tenantOp (s : State) (r : Run) (action : Nat) (k : Nat → State → Res × State) : Res × State :=
  s.checks r (s.keySteps r) fun _ => s.withPermit r action (device := true) fun _ s =>
    s.checks r (tenantSteps r) fun _ => k (le 0 2 (r.lighter 0)) s

/-- GEN one on. -/
def Tenant.nextGen (x : Tenant) : Nat := (x.gen + 1) % 2 ^ 32

/-- The enrolment records of a TENANT_CREATE. -/
def tenantRecs (r : Run) : List Bytes := (List.range (r.input.length / 178)).map fun i => slice (178 * i) 178 r.input

/-- The other checks of TENANT_CREATE for a tenant (R143, R166). -/
def State.tenantCreateChecks (s : State) (r : Run) (t : Nat) : List (Bool × Nat) :=
  let n := r.input.length
  let recs := tenantRecs r
  [(n == 0 || n == 356, stBadLength), (recs.all enrolForm, stBadFormat),
    (decide ((s.tenantAt t).st = .free) && recs.all fun b => (enrolment b).tenant == t && bitOf 0 (enrolment b).roles, stRange),
    (recs.all enrolSigned, stVerifyFail), (n == 0 || decide (2 ≤ s.freeOfficers.length), stKeyLimit), (s.outcomeRoom, stKeyLimit)]

/-- What TENANT_CREATE commits (R166): the tenant's entry, and its officers in the lowest FREE entries. -/
def State.tenantCreation (s : State) (r : Run) (t : Nat) : List Change :=
  let x := s.tenantAt t
  .tenant t { x.withLighter (r.lighter 0) with st := .active, gen := x.nextGen, deviceAdmin := r.input.length == 0 }
    :: List.zipWith (fun b no => Change.officer no (enrolment b).officer) (tenantRecs r) s.freeOfficers

/-- TENANT_CREATE (R143, R166). -/
def tenantCreateSvc (r : Run) (s : State) : Res × State :=
  s.tenantOp r 0x0010 fun t s =>
    s.checks r (s.tenantCreateChecks r t) fun _ => s.doneWith [] (some (s.tenantCreation r t))

/-- TENANT_CREATE, opcode 0x0C10. -/
def execTenantCreate (core : Nat) (hw : Hw) (s : State) : Host.Outcome State Fault Refusal := .next (s.serve core 0x0C10 hw tenantCreateSvc)

/-- The other checks of TENANT_POLICY for a tenant (R166). -/
def State.tenantPolicyChecks (s : State) (r : Run) (t : Nat) : List (Bool × Nat) :=
  let q := le 4 4 (r.lighter 0)
  [(decide ((s.tenantAt t).st = .active), stRange), (q == 0 || decide (s.keyCount t ≤ q), stKeyLimit), (s.outcomeRoom, stKeyLimit)]

/-- TENANT_POLICY (R166). -/
def tenantPolicySvc (r : Run) (s : State) : Res × State :=
  s.tenantOp r 0x0011 fun t s =>
    s.checks r (s.tenantPolicyChecks r t) fun _ => s.doneWith [] (some [.tenant t ((s.tenantAt t).withLighter (r.lighter 0))])

/-- TENANT_POLICY, opcode 0x0C11. -/
def execTenantPolicy (core : Nat) (hw : Hw) (s : State) : Host.Outcome State Fault Refusal := .next (s.serve core 0x0C11 hw tenantPolicySvc)

/-- The other checks of TENANT_DELETE for a tenant (R166). -/
def State.tenantDeleteChecks (s : State) (t : Nat) : List (Bool × Nat) :=
  [(decide ((s.tenantAt t).st = .active), stRange), (s.outcomeRoom, stKeyLimit)]

/-- What TENANT_DELETE commits (R166): the tenant is DELETING with its GEN one on, its permits are gone and its officers revoked. -/
def State.tenantDeletion (s : State) (t : Nat) : List Change :=
  let x := s.tenantAt t
  let mine := officerNumbers.filter fun n => let o := s.officerSoon n; decide (o.st = .active) && o.tenant == t
  .tenant t { x with st := .deleting, gen := x.nextGen } :: .discardPermits t
    :: mine.map fun n => Change.officer n { s.officerSoon n with st := .revoked }

/-- TENANT_DELETE (R166). -/
def tenantDeleteSvc (r : Run) (s : State) : Res × State :=
  s.tenantOp r 0x0012 fun t s => s.checks r (s.tenantDeleteChecks t) fun _ => s.doneWith [] (some (s.tenantDeletion t))

/-- TENANT_DELETE, opcode 0x0C12. -/
def execTenantDelete (core : Nat) (hw : Hw) (s : State) : Host.Outcome State Fault Refusal := .next (s.serve core 0x0C12 hw tenantDeleteSvc)

/-- A change concerns no key of a tenant. -/
def Change.spares (t : Nat) : Change → Bool
  | .put (r :: _) => handleTenant r.label.handle != t
  | .delete h | .lease h _ => handleTenant h != t
  | _ => true

/-- TENANT_RECLAIM_DONE (R166): nothing of a DELETING tenant is left in the store, and the tenant is FREE. -/
def execTenantReclaimDone (tenant : Nat) (s : State) : Host.Outcome State Fault Refusal :=
  .next <|
    let x := s.tenantAt tenant
    if x.st = .deleting then
      { s with
        adm := { s.adm with tenants := Tbl.put tenant { x with st := .free } s.adm.tenants }
        mor := { s.mor with
          store := s.mor.store.filter fun p => handleTenant p.1 != tenant
          base := s.mor.base.filter fun p => handleTenant p.1 != tenant
          journal := s.mor.journal.map fun (c : Commit) => { c with changes := c.changes.filter (Change.spares tenant) } } }
    else s

/-- The checks of OFFICER_ENROL (R160, R167): of the ring's tenant; on a device-tenant ring, of any ACTIVE tenant (log 24). -/
def State.enrolChecks (s : State) (r : Run) : List (Bool × Nat) :=
  let b := r.input
  let e := enrolment b
  [(enrolForm b, stBadFormat),
    ((e.tenant == r.tenant || r.tenant == 0) && decide (e.tenant < 4096) && decide ((s.tenantAt e.tenant).st = .active), stRange),
    (enrolSigned b, stVerifyFail), (!s.freeOfficers.isEmpty, stKeyLimit), (s.outcomeRoom, stKeyLimit)]

/-- What OFFICER_ENROL commits (R143, R167): the officer in the lowest FREE entry; the second SECURITY_OFFICER of a tenant under the
device administrators ends their administration. -/
def State.enrolment (s : State) (r : Run) : List Change :=
  let e := Machine.enrolment r.input
  let x := s.tenantAt e.tenant
  let second := x.deviceAdmin && e.officer.security && decide (1 ≤ (s.securityOfficers e.tenant).length)
  .officer (s.freeOfficers.headD 0) e.officer
    :: if second then [.tenant e.tenant { x with deviceAdmin := false }, .discardPermits e.tenant] else []

/-- OFFICER_ENROL (R143, R160, R167). -/
def officerEnrolSvc (r : Run) (s : State) : Res × State :=
  s.checks r (s.keySteps r) fun _ => s.withPermit r 0x0020 fun _ s =>
    s.checks r (s.enrolChecks r) fun _ => s.doneWith (toLE 2 (s.freeOfficers.headD 0)) (some (s.enrolment r))

/-- OFFICER_ENROL, opcode 0x0C20. -/
def execOfficerEnrol (core : Nat) (hw : Hw) (s : State) : Host.Outcome State Fault Refusal := .next (s.serve core 0x0C20 hw officerEnrolSvc)

/-- The officer an OFFICER_REVOKE names. -/
def revoked (r : Run) : Nat := wbits 8 0 r.b.p0

/-- The checks of OFFICER_REVOKE with its permit (R167). Log 24, DEDUCED. -/
def State.revokeChecks (s : State) (r : Run) (p : Option Permit) : List (Bool × Nat) :=
  let n := revoked r
  let o := s.officerSoon n
  let self := match p with
    | some p => p.officerA == n || (p.signers == 2 && p.officerB == n)
    | none => false
  let left := ((s.securityOfficers o.tenant).filter (· != n)).length
  [(wbits 63 9 r.b.p0 == 0 && r.b.p1 == 0 && r.b.p2 == 0, stBadFormat),
    (decide (o.st = .active) && (o.tenant == r.tenant || r.tenant == 0), stRange),
    (!self && ((s.tenantAt o.tenant).deviceAdmin || decide (2 ≤ left)), stPolicyDenied), (s.outcomeRoom, stKeyLimit)]

/-- OFFICER_REVOKE (R167). -/
def officerRevokeSvc (r : Run) (s : State) : Res × State :=
  s.checks r (s.keySteps r) fun _ => s.withPermit r 0x0021 fun p s =>
    s.checks r (s.revokeChecks r p) fun _ =>
      s.doneWith [] (some [.officer (revoked r) { s.officerSoon (revoked r) with st := .revoked }, .discardOfficerPermits (revoked r)])

/-- OFFICER_REVOKE, opcode 0x0C21. -/
def execOfficerRevoke (core : Nat) (hw : Hw) (s : State) : Host.Outcome State Fault Refusal := .next (s.serve core 0x0C21 hw officerRevokeSvc)

/-! ### The calendar and journal queries (R61, R168) -/

/-- The calendar at a tick (R140). -/
def State.calendarAt (s : State) (t : Nat) : Option Nat := s.adm.calendar.map fun p => p.1 + (t - p.2) / 100000000

/-- The checks of CALENDAR_SET against the calendar at its claim (R168). -/
def calendarChecks (r : Run) (prev : Option Nat) : List (Bool × Nat) :=
  [(wbits 63 32 r.b.p0 == 0 && r.b.p1 == 0 && r.b.p2 == 0, stBadFormat),
    ((prev.map fun p => decide (p ≤ wbits 31 0 r.b.p0 + 300)).getD true, stRange)]

/-- CALENDAR_SET (R168); in a cluster every member takes the setting (R411). -/
def calendarSetSvc (r : Run) (s : State) : Res × State :=
  let v := wbits 31 0 r.b.p0
  s.checks r (s.keySteps r) fun _ => s.withPermit r 0x0030 fun _ s =>
    let t := s.claimTick r
    let prev := s.calendarAt t
    s.checks r (calendarChecks r prev) fun _ =>
      if s.cfg.cluster.isSome then s.doneWith (toLE 4 (prev.getD 0)) (some [.calendar v t])
      else { s with adm := { s.adm with calendar := some (v, t) } }.doneWith (toLE 4 (prev.getD 0))

/-- CALENDAR_SET, opcode 0x0C30. -/
def execCalendarSet (core : Nat) (hw : Hw) (s : State) : Host.Outcome State Fault Refusal := .next (s.serve core 0x0C30 hw calendarSetSvc)

/-- RESULT of JOURNAL_QUERY (R61). -/
def queryResult (code op time : Nat) : Bytes := toLE 4 code ++ toLE 2 op ++ zeros 2 ++ toLE 8 time

/-- The most recent of some outcome entries: the one of the latest device time. -/
def latestOutcome (os : List OutcomeEntry) : Option OutcomeEntry :=
  os.foldl (fun acc o => match acc with
    | none => some o
    | some x => if x.time ≤ o.time then some o else acc) none

/-- What this device's journal and outcome area answer for a head in its current epoch, an epoch, ring and SEQ, of several
commits of a reused SEQ the most recent (R60, R61, R187, R191, R415). -/
def State.query (s : State) (head current epoch ring seq : Nat) : Bytes :=
  if s.volatileStore = true ∧ epoch < current then queryResult 3 0 0
  else if epoch + 2 < current ∨ epoch < s.mor.since then queryResult 2 0 0
  else match latestOutcome (s.mor.outcomes.filter fun o => o.head == head && o.epoch == epoch && o.ring == ring && o.seq == seq) with
    | some o => queryResult 0 o.opcode o.time
    | none => queryResult 1 0 0

/-- The answers of every member to a JOURNAL_QUERY (R415); answers that R415 does not join leave OUTCOME open (log 20). -/
def joinQuery (os : List Outcome) (s : State) : Res × State :=
  match os.find? fun o => le 0 4 o.result == 0 with
  | some o => s.doneWith (fixLen 16 o.result)
  | none =>
    let first := le 0 4 ((os.map (·.result)).headD [])
    if os.all fun o => le 0 4 o.result == first then s.doneWith (queryResult first 0 0)
    else s.freshNat.2.doneWith (queryResult s.freshNat.1 0 0)

/-- JOURNAL_QUERY (R61, R415). -/
def journalQuerySvc (r : Run) (s : State) : Res × State :=
  let epoch := r.b.p0.toNat
  let ring := wbits 13 0 r.b.p1
  let owner := match Tbl.find ring s.cfg.rings with
    | some c => c.tenant == r.tenant
    | none => false
  s.checks r [noPermit r, (wbits 31 14 r.b.p1 == 0 && r.b.p2 == 0
      && (r.e.origin.isSome || (owner && decide (epoch ≤ s.pwr.epoch))), stRange)] fun _ =>
    let head := (r.e.origin.map (·.head)).getD s.index
    let current := (r.e.origin.map (·.epoch)).getD s.pwr.epoch
    s.askMembers r ⟨stDone, s.query head current epoch ring (wbits 63 32 r.b.p1), 16, none⟩ joinQuery

/-- JOURNAL_QUERY, opcode 0x0C40. -/
def execJournalQuery (core : Nat) (hw : Hw) (s : State) : Host.Outcome State Fault Refusal := .next (s.serve core 0x0C40 hw journalQuerySvc)

end Sys2Proof.Machine
end

