-- ==== Sys2Proof/Machine/Asym.lean ====
section
/-! DEFINITION. Asymmetric, post-quantum and attestation services (09_bignum_engine_and_asymmetric.md R238 to R253): opcode groups
0x08, 0x09 and 0x0D. -/

namespace Sys2Proof.Machine

/-! ### The asymmetric lighter and its schemes (R137, R245) -/

/-- The asymmetric lighter (R245). -/
structure AsymArgs where
  scheme : Nat
  hash : Nat
  prehash : Nat
  saltLen : Nat
  ctxLen : Nat
  keySize : Nat
  ctx : Bytes
  deriving DecidableEq, Repr

/-- The fields of an asymmetric lighter. -/
def asymArgs (l : Bytes) : AsymArgs :=
  ⟨le 0 1 l, le 1 1 l, le 2 1 l, le 3 1 l, le 4 1 l, le 5 1 l, slice 16 (min 48 (le 4 1 l)) l⟩

/-- The ALG a scheme works with. -/
def schemeAlg (scheme : Nat) : Nat :=
  if scheme ≤ 3 then chr "R" else if scheme ≤ 9 then chr "E" else if scheme = 16 then chr "M" else chr "Q"

/-- The SIZEs of R137 that pair with a scheme. -/
def schemeSizes (scheme : Nat) : List Nat :=
  match scheme with
  | 1 | 2 | 3 => (List.range 25).map (· + 8)
  | 4 | 9 => [1, 2, 3]
  | 5 => [4]
  | 6 => [5]
  | 7 => [6]
  | 8 => [7]
  | 16 | 17 => [1, 2]
  | _ => []

/-- A scheme pairs with a key. -/
def schemePairs (scheme alg size : Nat) : Bool := schemeAlg scheme == alg && (schemeSizes scheme).contains size

/-- Octets of a NIST field element by SIZE. -/
def nistLen (size : Nat) : Nat := if size = 1 then 32 else if size = 2 then 48 else 66

/-- Length of a public key in a buffer (R243, R246, R249). -/
def pubLen (alg size : Nat) : Nat :=
  if alg = chr "R" then 32 * size + 4
  else if alg = chr "M" then (if size = 1 then 1184 else 1568)
  else if alg = chr "Q" then (if size = 1 then 1952 else 2592)
  else if size ≤ 3 then 1 + 2 * nistLen size
  else if size = 5 then 57
  else if size = 7 then 56
  else 32

/-- Length of a signature (R246, R249). -/
def sigLen (alg size : Nat) : Nat :=
  if alg = chr "R" then 32 * size
  else if alg = chr "Q" then (if size = 1 then 3309 else 4627)
  else if size ≤ 3 then 2 * nistLen size
  else if size = 4 then 64
  else 114

/-- Length of a private part (R244). -/
def privLen (alg size : Nat) : Nat :=
  if alg = chr "R" then 80 * size
  else if alg = chr "M" then 64
  else if alg = chr "Q" then 32
  else if size ≤ 3 then nistLen size
  else if size = 5 then 57
  else if size = 7 then 56
  else 32

/-- Zero padding to whole links. -/
def padLink (bs : Bytes) : Bytes := fixLen (32 * ceilDiv bs.length 32) bs

/-- The serialisation of a key from its public part in the buffer's encoding and its private part (R244). -/
def serialise (alg size : Nat) (pub priv : Bytes) : Bytes :=
  let p :=
    if alg = chr "R" then fixLen (32 * size) pub ++ zeros 28 ++ slice (32 * size) 4 pub
    else if alg = chr "E" then (if size ≤ 3 then pub.drop 1 else pub)
    else []
  padLink p ++ padLink priv

/-- The public part of a stored key in the buffer's encoding (R243, R246); ML-KEM and ML-DSA keys are expanded from their seeds. -/
def State.publicOf (s : State) (h : Nat) : Bytes :=
  let l := s.labelOf h
  let x := s.chainOf h
  if l.alg = chr "R" then x.take (32 * l.size) ++ slice (32 * l.size + 28) 4 x
  else if l.alg = chr "E" then (if l.size ≤ 3 then 4 :: slice 0 (2 * nistLen l.size) x else slice 0 (pubLen l.alg l.size) x)
  else fixLen (pubLen l.alg l.size) (Config.asymPublic l.alg l.size x)

/-- The private part of a stored key (R244). -/
def State.privateOf (s : State) (h : Nat) : Bytes :=
  let l := s.labelOf h
  slice (32 * publicLinks l.alg l.size) (privLen l.alg l.size) (s.chainOf h)

/-! ### Checks shared by the opcodes (R240, R243, R245) -/

/-- Every HASH of schemes 1 to 4. -/
def asymHash (h : Nat) : Bool := [0, 1, 2, 5, 6, 7].contains h

/-- Encodings of the asymmetric lighter (step 7, R245); `key`: a public key comes in the input buffer. Log 27, DEDUCED. -/
def AsymArgs.formOk (a : AsymArgs) (l : Bytes) (key : Bool) : Bool :=
  let s := a.scheme
  let hashes := decide (1 ≤ s) && decide (s ≤ 4)
  allZero (slice 6 10 l) && (hashes || a.hash == 0) && (s == 1 || s == 2 || s == 4 || a.prehash == 0) && (s == 2 || a.saltLen == 0)
    && (!(s == 0 || s == 5) || a.ctxLen == 0) && (decide (48 < a.ctxLen) || allZero (slice (16 + a.ctxLen) (48 - a.ctxLen) l))
    && (key || a.keySize == 0)

/-- Selector values (step 9, R245): the opcode's schemes, HASH, PREHASH, SALT_LEN, CTX_LEN and a KEY_SIZE of the scheme. -/
def AsymArgs.rangeOk (a : AsymArgs) (schemes : List Nat) (key : Bool) : Bool :=
  schemes.contains a.scheme && asymHash a.hash && decide (a.prehash ≤ 1) && (a.scheme != 2 || decide (a.saltLen ≤ hashOut a.hash 0))
    && decide (a.ctxLen ≤ 48) && (!key || (schemeSizes a.scheme).contains a.keySize)

/-- Step 9: selectors, then the pairing of the scheme with the key. -/
def AsymArgs.selectors (a : AsymArgs) (schemes : List Nat) (key : Bool) (l : KLabel) : List (Bool × Nat) :=
  [(a.rangeOk schemes key, stRange), (key || schemePairs a.scheme l.alg l.size, stKeyUsage)]

/-- Range checks of a public key (R243). Log 27, DEDUCED. -/
def pubRange (scheme size : Nat) (pub : Bytes) : Bool :=
  if scheme ≤ 3 then
    let n := ofBE (pub.take (32 * size))
    let e := ofBE (pub.drop (32 * size))
    n % 2 == 1 && decide (2 ^ (256 * size - 1) ≤ n) && e % 2 == 1 && decide (3 ≤ e) && decide (e < n)
  else scheme != 16 || Config.mlkemKeyOk size pub

/-- Point checks of a public key (R243). -/
def pubPoint (scheme size : Nat) (pub : Bytes) : Bool :=
  if scheme = 4 ∨ scheme = 9 then decide (pub.headD 0 = 4) && Config.pointOk scheme size pub
  else decide (scheme ≤ 3) || decide (16 ≤ scheme) || Config.pointOk scheme size pub

/-- Range checks of a signature against the public key (R243). Log 27, DEDUCED. -/
def sigRange (scheme size : Nat) (pub sig : Bytes) : Bool :=
  if scheme ≤ 2 then decide (ofBE sig < ofBE (pub.take (32 * size)))
  else if scheme = 4 then
    let f := nistLen size
    let ok (v : Nat) : Bool := decide (1 ≤ v) && decide (v < Config.groupOrder size)
    ok (ofBE (slice 0 f sig)) && ok (ofBE (slice f f sig))
  else if scheme = 5 ∨ scheme = 6 then decide (ofLE (sig.drop (sig.length / 2)) < Config.groupOrder scheme)
  else true

/-- The point check of R in an EdDSA signature (R243). Log 27, DEDUCED. -/
def sigPoint (scheme size : Nat) (sig : Bytes) : Bool :=
  if scheme = 5 ∨ scheme = 6 then Config.pointOk scheme size (sig.take (sig.length / 2)) else true

/-- The key of an operation with a public key: HANDLE0's, or the one at the head of the input buffer. -/
structure PubKey where
  given : Bool
  alg : Nat
  size : Nat
  len : Nat
  pub : Bytes
  deriving DecidableEq, Repr

/-- The public key a barge names or brings (R246, R249). -/
def State.pubKey (s : State) (r : Run) (a : AsymArgs) : PubKey :=
  if r.b.h0 = 0 then
    let n := pubLen (schemeAlg a.scheme) a.keySize
    ⟨true, schemeAlg a.scheme, a.keySize, n, slice 0 n r.input⟩
  else ⟨false, (s.labelOf r.b.h0).alg, (s.labelOf r.b.h0).size, 0, s.publicOf r.b.h0⟩

/-- The length of a message or digest is the format's (R245, R246). -/
def AsymArgs.msgLenOk (a : AsymArgs) (n : Nat) : Bool :=
  if a.prehash = 1 then !(asymHash a.hash) || n == hashOut a.hash 0 else decide (n ≤ 1048576)

/-- Crew-core cycles of a service (R241, R253); what R253 does not give comes from Config. -/
def asymCycles (op scheme size : Nat) (rnd : Bytes) : Nat :=
  if op = 0x0802 ∧ scheme ≤ 2 ∧ size = 8 then 440000
  else if op = 0x0802 ∧ scheme ≤ 2 ∧ size = 16 then 2990000
  else if op = 0x0802 ∧ scheme ≤ 2 ∧ size = 32 then 23700000
  else if op = 0x0803 ∧ scheme ≤ 2 ∧ size = 8 then 14000
  else if op = 0x0802 ∧ scheme = 4 ∧ size = 1 then 34000
  else if op = 0x0803 ∧ scheme = 4 ∧ size = 1 then 98000
  else if op = 0x0802 ∧ scheme = 4 ∧ size = 2 then 74000
  else if op = 0x0802 ∧ scheme = 5 then 22000
  else if op = 0x0802 ∧ scheme = 6 then 66000
  else if op = 0x0803 ∧ scheme = 6 then 242000
  else if op = 0x0806 ∧ scheme = 7 then 78000
  else if op = 0x0806 ∧ scheme = 8 then 130000
  else if op = 0x0901 ∨ op = 0x0902 then (if size = 1 then 512000 else 780000)
  else if op = 0x0903 then 40000 + (if size = 1 then 410000 else 560000) * (1 + Config.variableCycles op size rnd)
  else if op = 0x0904 then (if size = 1 then 640000 else 1000000)
  else if op = 0x0D00 then 80000
  else Config.variableCycles op size rnd

/-- The cycles of a service with those of hashing a message (R253). -/
def AsymArgs.cycles (a : AsymArgs) (op size msg : Nat) (rnd : Bytes) : Nat :=
  asymCycles op a.scheme size rnd
    + (if a.prehash = 0 ∧ 1 ≤ a.scheme ∧ a.scheme ≤ 4 then hashCycles a.hash msg (hashOut a.hash 0) 0 else 0)

/-- Draws of n bytes until one is accepted (R247), up to a number of them: then the service waits. Log 27, DESIGN CHOICE. -/
def State.drawAccepted (r : Run) (n : Nat) (accept : Bytes → Bool) : Nat → State → Drawn × State
  | 0, s => (.wait, s)
  | fuel + 1, s =>
    let d := s.drawFor r n
    match d.1 with
    | .bytes bs => if accept bs then d else State.drawAccepted r n accept fuel d.2
    | _ => d

/-- Random bytes for a service that it accepts, none asked for n = 0; a wait leaves the state `before` it (step 13). -/
def State.withRandom (s before : State) (r : Run) (n : Nat) (k : Bytes → State → Res × State) (accept : Bytes → Bool := fun _ => true) :
    Res × State :=
  if n = 0 then k [] s
  else
    let d := s.drawAccepted r n accept 256
    match d.1 with
    | .wait => (.wait, before)
    | .none_ => d.2.fails stEntropy
    | .bytes bs => k bs d.2

/-- The output would not fit its buffer: BAD_LENGTH with the length needed (R45). -/
def State.withRoom (s : State) (r : Run) (n : Nat) (k : Unit → Res × State) : Res × State :=
  if r.b.outCap < n then s.doneOut r (zeros n) else k ()

/-- The list a signature opcode's operands are passed in (Config.asymSign). -/
def AsymArgs.words (a : AsymArgs) (size : Nat) : List Nat := [a.scheme, a.hash, a.prehash, a.saltLen, size]

/-! ### Key generation (R242, R244, R246, R249) -/

/-- A new asymmetric key as the change that stores its links (R244). -/
def State.putChain (s : State) (l : KLabel) (x : Bytes) : Change :=
  let n := x.length / 32
  .put ((List.range n).map fun i => s.newRec { l with chainIdx := i, chainLen := n } (slice (32 * i) 32 x))

/-- The CHAIN_LEN of a key (R244). -/
def chainLenOf (alg size : Nat) : Nat := publicLinks alg size + ceilDiv (privLen alg size) 32

/-- The public key of a generated private part in the buffer's encoding; RSA keys have e = 65,537 (R244). -/
def newPublic (alg size : Nat) (priv : Bytes) : Bytes :=
  let p := fixLen (pubLen alg size) (Config.asymPublic alg size priv)
  if alg = chr "R" then p.take (32 * size) ++ toBE 4 65537
  else if alg = chr "E" ∧ size ≤ 3 then 4 :: p.drop 1
  else p

/-- The label that an asymmetric barge's second lighter gives. -/
def labelNext (r : Run) : KLabel := (newLabel (r.lighter 1)).label

/-- The checks of ASYM_KEYGEN and PQ_KEYGEN (R240, R244). -/
def keygenChecks (algs : List String) (r : Run) : List (Bool × Nat) :=
  let a := asymArgs (r.lighter 0)
  let n := newLabel (r.lighter 1)
  let l := n.label
  [(a.scheme == 0 && a.formOk (r.lighter 0) false && n.formOk [] && modeIn l.exportability "ESN" && allZero ((r.lighter 1).drop 40),
      stBadFormat),
    (rowAccepted l && algs.any fun x => chr x == l.alg, stKeyUsage),
    (n.targetOk r.tenant, stKeyUnknown)]

/-- The private part that random bytes give a new key (R244). -/
def newPrivate (l : KLabel) (rnd : Bytes) : Bytes := fixLen (privLen l.alg l.size) (Config.asymPrivate l.alg l.size rnd)

/-- The serialisation of a new key (R244). -/
def newChain (l : KLabel) (rnd : Bytes) : Bytes :=
  serialise l.alg l.size (newPublic l.alg l.size (newPrivate l rnd)) (newPrivate l rnd)

/-- ASYM_KEYGEN and PQ_KEYGEN (R240, R244, R246, R249). -/
def keygenSvc (op : Nat) (algs : List String) (r : Run) (s : State) : Res × State :=
  let l := labelNext r
  s.checks r (s.keySteps r) fun _ => s.withPermit r 0x0001 fun _ s =>
    s.checks r (keygenChecks algs r) fun _ =>
      s.withRoom r (pubLen l.alg l.size) fun _ =>
        s.checks r (s.placeSteps l.handle (chainLenOf l.alg l.size)) fun _ => s.withTile r false true fun _ =>
          s.withRandom s r (privLen l.alg l.size) fun rnd s' =>
            ((s'.spend r.core (asymCycles op 0 l.size rnd)).countLoads ((newChain l rnd).length / 32)).doneOut r (newPublic l.alg l.size (newPrivate l rnd))
              (if op = 0x0800 then toLE 2 ((newChain l rnd).length / 32) else []) (some [s.putChain l (newChain l rnd)])

/-- ASYM_KEYGEN, opcode 0x0800. -/
def execAsymKeygen (core : Nat) (hw : Hw) (s : State) : Host.Outcome State Fault Refusal :=
  .next (s.serve core 0x0800 hw (keygenSvc 0x0800 ["R", "E"]))

/-- PQ_KEYGEN, opcode 0x0900. -/
def execPqKeygen (core : Nat) (hw : Hw) (s : State) : Host.Outcome State Fault Refusal :=
  .next (s.serve core 0x0900 hw (keygenSvc 0x0900 ["M", "Q"]))

/-- The checks of PUBKEY_READ (R240, R246). -/
def State.pubkeyChecks (s : State) (r : Run) : List (Bool × Nat) :=
  let a := asymArgs (r.lighter 0)
  let l := s.labelOf r.b.h0
  s.keySteps r ++ [noPermit r, (r.b.h0 != 0, stBadFormat),
    (["R", "E", "M", "Q"].any (fun x => chr x == l.alg) && s.dateOk l.notBefore l.notAfter, stKeyUsage),
    (a.scheme == 0 && a.formOk (r.lighter 0) false, stBadFormat)]

/-- PUBKEY_READ (R246, R249). -/
def pubkeyReadSvc (r : Run) (s : State) : Res × State :=
  let l := s.labelOf r.b.h0
  s.checks r (s.pubkeyChecks r) fun _ =>
    s.withRoom r (pubLen l.alg l.size) fun _ => s.withTile r true false fun _ =>
      ((s.loadLinks r.b.h0 (max 1 (publicLinks l.alg l.size))).spend r.core (asymCycles 0x0801 0 l.size [])).gives
        (withOutput r (s.publicOf r.b.h0))

/-- PUBKEY_READ, opcode 0x0801. -/
def execPubkeyRead (core : Nat) (hw : Hw) (s : State) : Host.Outcome State Fault Refusal := .next (s.serve core 0x0801 hw pubkeyReadSvc)

/-! ### Signatures (R246, R247, R250) -/

/-- Randomness of a signature: the PSS salt, the ECDSA k, ML-DSA's rnd (R247, R250). Log 27, DEDUCED. -/
def AsymArgs.signRandom (a : AsymArgs) (size : Nat) : Nat :=
  if a.scheme = 2 then a.saltLen else if a.scheme = 4 then nistLen size else if a.scheme = 17 then 32 else 0

/-- Steps 1 to 8 of SIGN and MLDSA_SIGN (R240, R246). -/
def State.signChecks (s : State) (usages : List String) (algs : List (String × List Nat)) (r : Run) : List (Bool × Nat) :=
  let a := asymArgs (r.lighter 0)
  s.keySteps r ++ [noPermit r, (r.b.h0 != 0, stBadFormat), (s.labelOk r.b.h0 usages algs "SN", stKeyUsage),
    (a.formOk (r.lighter 0) false, stBadFormat), (a.msgLenOk r.input.length, stBadLength)]

/-- The signature of the barge's message under HANDLE0 (R246, R247, R250). -/
def State.signature (s : State) (r : Run) (rnd : Bytes) : Bytes :=
  let a := asymArgs (r.lighter 0)
  let l := s.labelOf r.b.h0
  fixLen (sigLen l.alg l.size) (Config.asymSign (a.words l.size) a.ctx (s.privateOf r.b.h0) rnd r.input)

/-- An ECDSA signature takes the drawn k, the low bits of the bytes as many as the curve's order has, where it lies from 1 to n − 1 and gives
no r or s of 0 (R241, R247); the other schemes take what is drawn. Log 27, DEDUCED. -/
def State.takesRandom (s : State) (r : Run) (rnd : Bytes) : Bool :=
  let l := s.labelOf r.b.h0
  let f := nistLen l.size
  let k := ofBE rnd % (if l.size = 3 then 2 ^ 521 else 256 ^ f)
  (asymArgs (r.lighter 0)).scheme != 4
    || (decide (1 ≤ k) && decide (k < Config.groupOrder l.size) && !allZero (slice 0 f (s.signature r rnd))
      && !allZero (slice f f (s.signature r rnd)))

/-- SIGN and MLDSA_SIGN (R246, R247, R250). -/
def signSvc (op : Nat) (usages : List String) (algs : List (String × List Nat)) (schemes : List Nat) (r : Run) (s : State) :
    Res × State :=
  let a := asymArgs (r.lighter 0)
  let l := s.labelOf r.b.h0
  s.checks r (s.signChecks usages algs r) fun _ =>
    s.withRoom r (sigLen l.alg l.size) fun _ => s.checks r (a.selectors schemes false l) fun _ => s.withTile r true false fun _ =>
      (s.loadLinks r.b.h0 l.chainLen).withRandom s r (a.signRandom l.size) (accept := s.takesRandom r) fun rnd s' =>
        (s'.spend r.core (a.cycles op l.size r.input.length rnd)).gives
          (if l.alg = chr "R" ∧ Config.rsaSelfCheck (s.publicOf r.b.h0) (s.signature r rnd) = false then failed stLaneFault
           else withOutput r (s.signature r rnd))

/-- SIGN, opcode 0x0802. -/
def execSign (core : Nat) (hw : Hw) (s : State) : Host.Outcome State Fault Refusal :=
  .next (s.serve core 0x0802 hw (signSvc 0x0802 ["S0", "S1"] [rsaKeys, edKeys, dsaKeys] [1, 2, 4, 5, 6]))

/-- MLDSA_SIGN, opcode 0x0903. -/
def execMldsaSign (core : Nat) (hw : Hw) (s : State) : Host.Outcome State Fault Refusal :=
  .next (s.serve core 0x0903 hw (signSvc 0x0903 ["S0"] [dsaKeys] [17]))

/-- The checks of VERIFY and MLDSA_VERIFY (R240, R243, R246, R249). -/
def State.verifyChecks (s : State) (usages : List String) (algs : List (String × List Nat)) (schemes : List Nat) (r : Run) :
    List (Bool × Nat) :=
  let a := asymArgs (r.lighter 0)
  let k := s.pubKey r a
  let known := schemes.contains a.scheme && (!k.given || (schemeSizes a.scheme).contains a.keySize)
  let sl := sigLen k.alg k.size
  let sig := slice k.len sl r.input
  let msg := r.input.drop (k.len + sl)
  s.keySteps r ++ [noPermit r, (k.given || s.labelOk r.b.h0 usages algs "NSV", stKeyUsage),
      (a.formOk (r.lighter 0) k.given, stBadFormat),
      (!known || (decide (k.len + sl ≤ r.input.length) && a.msgLenOk msg.length), stBadLength)]
    ++ a.selectors schemes k.given (s.labelOf r.b.h0)
    ++ [((!k.given || pubRange a.scheme k.size k.pub) && sigRange a.scheme k.size k.pub sig, stRange),
      ((!k.given || pubPoint a.scheme k.size k.pub) && sigPoint a.scheme k.size sig, stPointInvalid)]

/-- The signature in the barge's buffer verifies over its message (R243, R246, R249). -/
def State.verifies (s : State) (r : Run) : Bool :=
  let a := asymArgs (r.lighter 0)
  let k := s.pubKey r a
  let sl := sigLen k.alg k.size
  Config.asymVerify (a.words k.size) a.ctx k.pub (slice k.len sl r.input) (r.input.drop (k.len + sl))

/-- VERIFY and MLDSA_VERIFY (R243, R246, R249). -/
def verifySvc (op : Nat) (usages : List String) (algs : List (String × List Nat)) (schemes : List Nat) (r : Run) (s : State) :
    Res × State :=
  let a := asymArgs (r.lighter 0)
  let k := s.pubKey r a
  let n := r.input.length - (k.len + sigLen k.alg k.size)
  s.checks r (s.verifyChecks usages algs schemes r) fun _ =>
    s.withTile r (!k.given) false fun _ =>
      let s' := if k.given then s else s.loadLinks r.b.h0 (max 1 (publicLinks k.alg k.size))
      (s'.spend r.core (a.cycles op k.size n [])).gives (if s.verifies r then answered [] else failed stVerifyFail)

/-- VERIFY, opcode 0x0803. -/
def execVerify (core : Nat) (hw : Hw) (s : State) : Host.Outcome State Fault Refusal :=
  .next (s.serve core 0x0803 hw (verifySvc 0x0803 ["S0", "S1"] [rsaKeys, edKeys, dsaKeys] [1, 2, 4, 5, 6]))

/-- MLDSA_VERIFY, opcode 0x0904. -/
def execMldsaVerify (core : Nat) (hw : Hw) (s : State) : Host.Outcome State Fault Refusal :=
  .next (s.serve core 0x0904 hw (verifySvc 0x0904 ["S0"] [dsaKeys] [17]))

/-! ### RSA-OAEP (R246, R247) -/

/-- The scheme and the key of an RSA_ENCRYPT lighter are known, so that its lengths are (R45, R247). -/
def rsaKnown (a : AsymArgs) (k : PubKey) : Bool :=
  a.scheme == 3 && asymHash a.hash && (!k.given || (schemeSizes 3).contains a.keySize)

/-- Steps 1 to 8 of RSA_ENCRYPT (R240, R247). -/
def State.rsaEncryptChecks (s : State) (r : Run) : List (Bool × Nat) :=
  let a := asymArgs (r.lighter 0)
  let k := s.pubKey r a
  let n := (r.input.drop k.len).length
  s.keySteps r ++ [noPermit r, (k.given || s.labelOk r.b.h0 ["D1"] [rsaKeys] "EB", stKeyUsage),
    (a.formOk (r.lighter 0) k.given, stBadFormat),
    (!rsaKnown a k || (decide (k.len ≤ r.input.length) && decide (n + 2 * hashOut a.hash 0 + 2 ≤ 32 * k.size)), stBadLength)]

/-- Step 9 of RSA_ENCRYPT (R243, R247). -/
def State.rsaEncryptRange (s : State) (r : Run) : List (Bool × Nat) :=
  let a := asymArgs (r.lighter 0)
  let k := s.pubKey r a
  a.selectors [3] k.given (s.labelOf r.b.h0) ++ [(!k.given || pubRange 3 k.size k.pub, stRange)]

/-- RSA_ENCRYPT (R246, R247). -/
def rsaEncryptSvc (r : Run) (s : State) : Res × State :=
  let a := asymArgs (r.lighter 0)
  let k := s.pubKey r a
  s.checks r (s.rsaEncryptChecks r) fun _ =>
    s.withRoom r (if rsaKnown a k then 32 * k.size else 0) fun _ =>
      s.checks r (s.rsaEncryptRange r) fun _ =>
        s.withTile r (!k.given) false fun _ =>
          let s' := if k.given then s else s.loadLinks r.b.h0 (publicLinks k.alg k.size)
          s'.withRandom s r (hashOut a.hash 0) fun seed s' =>
            (s'.spend r.core (asymCycles 0x0804 3 k.size [])).gives
              (withOutput r (fixLen (32 * k.size) (Config.oaepEnc a.hash a.ctx k.pub seed (r.input.drop k.len))))

/-- RSA_ENCRYPT, opcode 0x0804. -/
def execRsaEncrypt (core : Nat) (hw : Hw) (s : State) : Host.Outcome State Fault Refusal := .next (s.serve core 0x0804 hw rsaEncryptSvc)

/-- The checks of RSA_DECRYPT (R240, R247). -/
def State.rsaDecryptChecks (s : State) (r : Run) : List (Bool × Nat) :=
  let a := asymArgs (r.lighter 0)
  let l := s.labelOf r.b.h0
  let n := ofBE ((s.publicOf r.b.h0).take (32 * l.size))
  s.keySteps r ++ [noPermit r, (r.b.h0 != 0, stBadFormat),
    (s.labelOk r.b.h0 ["D1"] [rsaKeys] "DB" && l.dclass == 0, stKeyUsage), (a.formOk (r.lighter 0) false, stBadFormat),
    (r.input.length == 32 * l.size, stBadLength)] ++ a.selectors [3] false l ++ [(decide (ofBE r.input < n), stRange)]

/-- What RSA_DECRYPT answers (R240, R247): the self check of the result, then the padding. -/
def State.rsaPlain (s : State) (r : Run) : Outcome :=
  let a := asymArgs (r.lighter 0)
  if Config.rsaSelfCheck (s.publicOf r.b.h0) r.input = false then failed stLaneFault
  else match Config.oaepDec a.hash a.ctx (s.privateOf r.b.h0) r.input with
    | none => failed stDecryptInvalid
    | some m => withOutput r m

/-- RSA_DECRYPT (R240, R246, R247). -/
def rsaDecryptSvc (r : Run) (s : State) : Res × State :=
  let l := s.labelOf r.b.h0
  s.checks r (s.rsaDecryptChecks r) fun _ =>
    s.withTile r true false fun _ =>
      ((s.loadLinks r.b.h0 l.chainLen).spend r.core (asymCycles 0x0805 3 l.size [])).gives (s.rsaPlain r)

/-- RSA_DECRYPT, opcode 0x0805. -/
def execRsaDecrypt (core : Nat) (hw : Hw) (s : State) : Host.Outcome State Fault Refusal := .next (s.serve core 0x0805 hw rsaDecryptSvc)

/-! ### Agreement and encapsulation (R248, R250) -/

/-- A derived key's template and its encodings: a symmetric usage of group 0x07 with ALG T, A, H or K (R248). Log 27, DEDUCED. -/
def derivedForm (n : NewLabel) (l1 : Bytes) : Bool :=
  n.formOk [] && modeIn n.label.exportability "ESN" && allZero (l1.drop 40)

/-- The key field derived from a shared secret (R248). -/
def derivedKey (z ctx : Bytes) (l : KLabel) : Bytes :=
  let f := fixLen l.size (Config.kmac256 z (l.bytes ++ ctx) (8 * l.size) (ascii "LT7200-AGREE"))
  if l.alg = chr "T" then f.map oddParity else f

/-- The checks of AGREE (R240, R243, R248). -/
def State.agreeChecks (s : State) (r : Run) : List (Bool × Nat) :=
  let a := asymArgs (r.lighter 0)
  let n := newLabel (r.lighter 1)
  let k := s.labelOf r.b.h0
  s.keySteps r ++ [noPermit r, (r.b.h0 != 0, stBadFormat),
    (s.labelOk r.b.h0 ["K3"] [("E", [1, 2, 3, 6, 7])] "N", stKeyUsage),
    (a.formOk (r.lighter 0) true && derivedForm n (r.lighter 1), stBadFormat), (groupSeven n.label, stKeyUsage), (n.targetOk r.tenant, stKeyUnknown),
    (!((schemeSizes a.scheme).contains a.keySize) || r.input.length == pubLen (chr "E") a.keySize, stBadLength),
    (a.rangeOk [7, 8, 9] true, stRange), (schemePairs a.scheme k.alg k.size && a.keySize == k.size, stKeyUsage),
    (pubPoint a.scheme a.keySize r.input, stPointInvalid)] ++ s.placeSteps n.target 1

/-- The key that AGREE derives (R248). -/
def State.agreedKey (s : State) (r : Run) : Bytes :=
  let a := asymArgs (r.lighter 0)
  derivedKey (Config.agree a.scheme (s.privateOf r.b.h0) r.input) a.ctx (labelNext r)

/-- A derived key is stored and its check value answered (R248). -/
def State.doneDerived (s before : State) (l : KLabel) (key : Bytes) : Res × State :=
  (s.countLoads 1).doneWith (checkValue l key) (some [before.putKey l key])

/-- AGREE (R240, R248). -/
def agreeSvc (r : Run) (s : State) : Res × State :=
  let k := s.labelOf r.b.h0
  s.checks r (s.agreeChecks r) fun _ =>
    s.withTile r true true fun _ =>
      ((s.loadLinks r.b.h0 k.chainLen).spend r.core (asymCycles 0x0806 (asymArgs (r.lighter 0)).scheme k.size [])).doneDerived s
        (labelNext r) (s.agreedKey r)

/-- AGREE, opcode 0x0806. -/
def execAgree (core : Nat) (hw : Hw) (s : State) : Host.Outcome State Fault Refusal := .next (s.serve core 0x0806 hw agreeSvc)

/-- Length of an ML-KEM ciphertext by SIZE (R249). -/
def kemLen (size : Nat) : Nat := if size = 1 then 1088 else 1568

/-- Steps 1 to 8 of MLKEM_ENCAPS (R240, R249). -/
def State.encapsChecks (s : State) (r : Run) : List (Bool × Nat) :=
  let a := asymArgs (r.lighter 0)
  let n := newLabel (r.lighter 1)
  let known := a.keySize == 1 || a.keySize == 2
  s.keySteps r ++ [noPermit r, (a.formOk (r.lighter 0) true && derivedForm n (r.lighter 1), stBadFormat),
    (groupSeven n.label, stKeyUsage), (n.targetOk r.tenant, stKeyUnknown),
    (!known || r.input.length == pubLen (chr "M") a.keySize, stBadLength)]

/-- Steps 9 to 12 of MLKEM_ENCAPS (R243, R249). -/
def State.encapsRange (s : State) (r : Run) : List (Bool × Nat) :=
  let a := asymArgs (r.lighter 0)
  [(a.rangeOk [16] true, stRange), (pubRange 16 a.keySize r.input, stRange)] ++ s.placeSteps (labelNext r).handle 1

/-- What the public key and random bytes give (R250): the ciphertext and the shared secret. -/
def kemPair (r : Run) (rnd : Bytes) : Bytes × Bytes := Config.mlkemEncaps (asymArgs (r.lighter 0)).keySize r.input rnd

/-- The key that a shared secret gives a barge's label (R248, R250). -/
def secretKey (r : Run) (z : Bytes) : Bytes := derivedKey z (asymArgs (r.lighter 0)).ctx (labelNext r)

/-- MLKEM_ENCAPS (R240, R249, R250). -/
def encapsSvc (r : Run) (s : State) : Res × State :=
  let a := asymArgs (r.lighter 0)
  let l := labelNext r
  let known := a.keySize == 1 || a.keySize == 2
  s.checks r (s.encapsChecks r) fun _ =>
    s.withRoom r (if known then kemLen a.keySize else 0) fun _ =>
      s.checks r (s.encapsRange r) fun _ =>
        s.withTile r false true fun _ => s.withRandom s r 32 fun rnd s' =>
          let key := secretKey r (kemPair r rnd).2
          ((s'.spend r.core (asymCycles 0x0901 16 a.keySize [])).countLoads 1).doneOut r (fixLen (kemLen a.keySize) (kemPair r rnd).1)
            (checkValue l key) (some [s.putKey l key])

/-- MLKEM_ENCAPS, opcode 0x0901. -/
def execMlkemEncaps (core : Nat) (hw : Hw) (s : State) : Host.Outcome State Fault Refusal := .next (s.serve core 0x0901 hw encapsSvc)

/-- The checks of MLKEM_DECAPS (R240, R249). -/
def State.decapsChecks (s : State) (r : Run) : List (Bool × Nat) :=
  let a := asymArgs (r.lighter 0)
  let n := newLabel (r.lighter 1)
  let k := s.labelOf r.b.h0
  s.keySteps r ++ [noPermit r, (r.b.h0 != 0, stBadFormat),
    (s.labelOk r.b.h0 ["52"] [("M", [1, 2])] "N", stKeyUsage),
    (a.formOk (r.lighter 0) false && derivedForm n (r.lighter 1), stBadFormat), (groupSeven n.label, stKeyUsage), (n.targetOk r.tenant, stKeyUnknown),
    (r.input.length == kemLen k.size, stBadLength)] ++ a.selectors [16] false k ++ s.placeSteps n.target 1

/-- The shared secret that HANDLE0 gives the barge's ciphertext (R250). -/
def State.kemSecret (s : State) (r : Run) : Bytes := Config.mlkemDecaps (s.labelOf r.b.h0).size (s.privateOf r.b.h0) r.input

/-- MLKEM_DECAPS (R240, R249, R250). -/
def decapsSvc (r : Run) (s : State) : Res × State :=
  let k := s.labelOf r.b.h0
  s.checks r (s.decapsChecks r) fun _ =>
    s.withTile r true true fun _ =>
      ((s.loadLinks r.b.h0 k.chainLen).spend r.core (asymCycles 0x0902 16 k.size [])).doneDerived s (labelNext r)
        (secretKey r (s.kemSecret r))

/-- MLKEM_DECAPS, opcode 0x0902. -/
def execMlkemDecaps (core : Nat) (hw : Hw) (s : State) : Host.Outcome State Fault Refusal := .next (s.serve core 0x0902 hw decapsSvc)

/-! ### Attestation (R251, R252) -/

/-- GLB_ID bits 63:32: PART 0x7200, STEPPING 0xB1 and GRADE. -/
def State.partId (s : State) : Nat := 0x7200B100 + s.root.grade.read.toNat

/-- The bytes of a report before its signature (R252). -/
def State.reportBody (s : State) (nonce : Bytes) (mask tenant : Nat) : Bytes :=
  toLE 2 1 ++ zeros 2 ++ toLE 4 s.partId ++ toLE 8 s.pwr.epoch ++ toLE 8 s.now ++ nonce ++ toLE 2 tenant
    ++ toLE 1 s.lcs.code ++ toLE 1 mask ++ zeros 4 ++ ((List.range 8).filter fun i => bitOf i mask).flatMap fun i => fixLen 64 (s.mr i)

/-- The checks of ATTEST_REPORT (R251). -/
def attestChecks (r : Run) : List (Bool × Nat) :=
  [noPermit r, (allZero ((r.lighter 0).drop 33), stBadFormat), (r.input.length == 0, stBadLength)]

/-- The report that a barge asks for, before its signature (R252). -/
def State.reportFor (s : State) (r : Run) : Bytes := s.reportBody (slice 0 32 (r.lighter 0)) (le 32 1 (r.lighter 0)) r.tenant

/-- The signature of a report under the Alias key (R252). -/
def State.reportSig (s : State) (body : Bytes) : Bytes := fixLen 114 (s.aliasSign (ascii "LT7200 report") (Config.shake256 body 64))

/-- ATTEST_REPORT (R251, R252). -/
def attestSvc (r : Run) (s : State) : Res × State :=
  s.checks r (attestChecks r) fun _ =>
    let body := s.reportFor r
    s.withRoom r (body.length + 114) fun _ => s.withTile r false false fun _ =>
      (s.spend r.core (asymCycles 0x0D00 6 5 [])).gives (withOutput r (body ++ s.reportSig body))

/-- ATTEST_REPORT, opcode 0x0D00. -/
def execAttestReport (core : Nat) (hw : Hw) (s : State) : Host.Outcome State Fault Refusal := .next (s.serve core 0x0D00 hw attestSvc)

/-- The checks of CERT_READ (R251). -/
def certChecks (r : Run) : List (Bool × Nat) :=
  let l := r.lighter 0
  [noPermit r, (allZero (l.drop 1), stBadFormat), (r.input.length == 0, stBadLength), (decide (le 0 1 l ≤ 1), stRange)]

/-- CERT_READ (R251). -/
def certReadSvc (r : Run) (s : State) : Res × State :=
  s.checks r (certChecks r) fun _ =>
    (s.spend r.core (asymCycles 0x0D01 0 0 [])).gives
      (withOutput r (if le 0 1 (r.lighter 0) = 0 then s.root.devIdCert else s.root.aliasCert))

/-- CERT_READ, opcode 0x0D01. -/
def execCertRead (core : Nat) (hw : Hw) (s : State) : Host.Outcome State Fault Refusal := .next (s.serve core 0x0D01 hw certReadSvc)

end Sys2Proof.Machine
end

