-- ==== Sys2Proof/Machine/Manifest.lean ====
section
/-! DEFINITION. The Kweosh manifest (15_launch_modes_power.md R353 to R359): a copy's header, images and configuration records, and the
checks of R358, which FIRMWARE_UPDATE, LAUNCH and RESTART share. -/

namespace Sys2Proof.Machine

/-! ### A copy's header and images (R354) -/

/-- SEQUENCE of a copy. -/
def copySeq (c : Bytes) : Nat := le 8 8 c
/-- TOTAL_LEN of a copy. -/
def copyLen (c : Bytes) : Nat := le 16 4 c
/-- FORCE of a copy. -/
def copyForce (c : Bytes) : Bool := bitOf 0 (le 6 1 c)
/-- SIGNER_KEY of a copy. -/
def signerKey (c : Bytes) : Bytes := slice 76 57 c
/-- CSIG_KEY of a copy. -/
def csigKey (c : Bytes) : Bytes := slice 136 57 c
/-- CSIG_NEXT of a copy. -/
def csigNext (c : Bytes) : Bytes := slice 208 32 c
/-- An IMAGES entry: offset, length, cluster set. -/
def imageEntry (c : Bytes) (i : Nat) : Nat × Nat × Nat := (le (20 + 16 * i) 4 c, le (24 + 16 * i) 4 c, le (28 + 16 * i) 1 c)
/-- The three IMAGES entries. -/
def imageEntries (c : Bytes) : List (Nat × Nat × Nat) := (List.range 3).map (imageEntry c)
/-- The bytes of the image of a cluster set. -/
def imageOf (c : Bytes) (set : Nat) : Bytes :=
  match (imageEntries c).find? fun e => e.2.2 == set with
  | some e => slice e.1 e.2.1 c
  | none => []
/-- FAMILY of an image. -/
def imageFamily (im : Bytes) : Nat := le 0 4 im
/-- Security VERSION of an image. -/
def imageVersion (im : Bytes) : Nat := le 4 2 im
/-- The image names a successor signer. -/
def imageNamesSigner (im : Bytes) : Bool := bitOf 0 (le 7 1 im)
/-- The successor signer's digest. -/
def imageSigner (im : Bytes) : Bytes := slice 8 32 im
/-- The images of a copy. -/
def copyImages (c : Bytes) : List Bytes := [imageOf c 0, imageOf c 1, imageOf c 2]
/-- FAMILY of a copy. -/
def copyFamily (c : Bytes) : Nat := imageFamily (imageOf c 0)
/-- Security VERSION of a copy: the lowest of its images (DEDUCED). Log 35. -/
def copyVersion (c : Bytes) : Nat :=
  min (imageVersion (imageOf c 0)) (min (imageVersion (imageOf c 1)) (imageVersion (imageOf c 2)))
/-- The successor signer a copy names. -/
def copyNextSigner (c : Bytes) : Option Bytes := ((copyImages c).find? imageNamesSigner).map imageSigner
/-- The configuration records of a copy. -/
def copyRecords (c : Bytes) : Bytes := slice (le 68 4 c) (le 72 4 c) c
/-- The digest that Hudric's signature covers. -/
def copyDigest (c : Bytes) : Bytes := Config.shake256 (c.take (copyLen c - 228)) 64

/-- MAGIC, FORMAT, FLAGS, TOTAL_LEN and the offsets of a copy (check 1 of R358), in a flash whose density is accepted (R353). -/
def headerOk (density : Nat) (c : Bytes) : Bool :=
  let n := copyLen c
  let lies (off len : Nat) : Bool := decide (256 ≤ off) && decide (off + len ≤ n - 228)
  decide (2 ^ 24 ≤ density) && decide (density ≤ 2 ^ 28) && (c.take 4 == ascii "KWSH") && (le 4 2 c == 1) && decide (le 6 1 c < 2) && decide (484 ≤ n) && decide (n ≤ density / 2)
    && decide (n ≤ c.length) && ((imageEntries c).all fun e => lies e.1 e.2.1 && decide (64 ≤ e.2.1))
    && lies (le 68 4 c) (le 72 4 c) && (imageEntries c).map (·.2.2) ∈ [[0, 1, 2], [0, 2, 1], [1, 0, 2], [1, 2, 0], [2, 0, 1], [2, 1, 0]]

/-- Hudric's signature verifies (check 3). -/
def hudricSigned (c : Bytes) : Bool :=
  Config.ed448Verify (signerKey c) (ascii "LT7200 manifest") (copyDigest c) (slice (copyLen c - 228) 114 c)

/-- The copy carries a countersignature that verifies under its CSIG_KEY. -/
def countersigned (c : Bytes) : Bool :=
  let sig := slice (copyLen c - 114) 114 c
  !allZero sig && Config.ed448Verify (csigKey c) (ascii "LT7200 countersign") (Config.shake256 (c.take (copyLen c - 114)) 64) sig

/-- Check 4: with a current CSIG slot the copy is countersigned under its key. -/
def State.countersignOk (s : State) (c : Bytes) : Bool :=
  match s.current .csig with
  | none => true
  | some i => countersigned c && (Config.shake256 (csigKey c) 32 == (s.slot i).value)

/-- Check 5. -/
def State.versionsOk (s : State) (c : Bytes) : Bool :=
  (copyImages c).all fun im => decide (s.floor ≤ imageVersion im) && decide (imageVersion im ≤ 64) && imageFamily im == copyFamily c

/-- The core scratch of a cluster set: 128 KiB for each of its cores (R18; DEDUCED). Log 35. -/
def setScratch (set : Nat) : Nat := if set = 0 then 80 * 131072 else 8 * 131072

/-- Check 6. Log 35, DEDUCED. -/
def imagesFit (c : Bytes) : Bool := (imageEntries c).all fun e => decide (e.2.1 ≤ setScratch e.2.2)

/-! ### Configuration records (R355 to R357, R392, R405) -/

/-- A RING body (R356). -/
def ringBody (b : Bytes) : Option Record :=
  let f := le 6 1 b
  if f / 32 ≠ 0 ∨ allZero (slice 20 4 b) = false then none
  else some (.ring (le 0 2 b) ⟨le 2 2 b, le 4 2 b, bitOf 0 f, bitOf 1 f, bitOf 2 f, bitsOf 4 3 f, le 7 1 b, le 8 4 b, le 12 4 b, le 16 4 b⟩)

/-- A POWER body (R357). -/
def powerBody (b : Bytes) : Option Record :=
  if allZero (slice 5 1 b) = false ∨ allZero (slice 10 6 b) = false then none
  else some (.power ⟨le 0 1 b, le 1 1 b, le 2 1 b, le 3 1 b, le 4 1 b, le 6 2 b, le 8 2 b⟩)

/-- One Ethernet port of an IFACE body (R392). -/
def portBody (b : Bytes) : PortCfg :=
  let f := le 0 1 b
  ⟨bitOf 0 f, bitOf 1 f, if bitOf 2 f then some (le 2 2 b) else none, le 4 2 b, le 6 2 b, slice 8 12 b, slice 20 36 b,
    allZero (slice 1 1 b) && allZero (slice 13 3 b) && allZero (slice 37 3 b) && allZero (slice 56 8 b)⟩

/-- An IFACE body (R392); a length that does not hold its anchors and chain is wrong. -/
def ifaceBody (b : Bytes) : Option Record :=
  let a := le 7 1 b
  let n := le (160 + 32 * a) 4 b
  if b.length ≠ 164 + 32 * a + n then none
  else some (.iface
    { pcieEnable := bitOf 0 (le 0 1 b), pcieGen := bitsOf 3 1 (le 0 1 b), pcieWidth := bitsOf 7 4 (le 0 1 b), vfCount := le 1 1 b,
      cargoEnable := bitOf 0 (le 2 1 b), cargoGen := bitsOf 3 1 (le 2 1 b), hsMs := le 4 2 b, ltpV1 := bitOf 0 (le 6 1 b),
      ltpV2 := bitOf 1 (le 6 1 b), anchors := (List.range a).map fun i => slice (160 + 32 * i) 32 b, serverKey := le 8 8 b,
      oid := slice 17 (min 15 (le 16 1 b)) b, port0 := portBody (slice 32 64 b), port1 := portBody (slice 96 64 b)
      chain := slice (164 + 32 * a) n b
      formed := decide (le 16 1 b ≤ 15) && allZero (slice 3 1 b) && allZero (slice (17 + le 16 1 b) (15 - le 16 1 b) b) })

/-- A CLUSTER body (R405). -/
def clusterBody (b : Bytes) : Option Record :=
  let n := le 1 1 b * le 2 1 b
  if b.length ≠ 16 + 8 * n then none
  else some (.cluster
    { kind := le 0 1 b, x := le 1 1 b, y := le 2 1 b, index := le 3 1 b, heads := (List.range (le 4 1 b)).map fun i => le (5 + i) 1 b,
      links := BitVec.ofNat 8 (le 9 1 b), fwdCredits := le 10 2 b, devIds := (List.range n).map fun i => slice (16 + 8 * i) 8 b
      body := b })

/-- One record by TYPE (R355): none for an unknown TYPE or a wrong LEN. Log 11, DESIGN CHOICE. -/
def parseBody (typ : Nat) (b : Bytes) : Option Record :=
  match typ with
  | 0x0003 => if b.length < 164 then none else ifaceBody b
  | 0x0004 => if b.length < 16 then none else clusterBody b
  | 0x0011 => if b.length = 178 then some (.officer b) else none
  | 0x0020 => if b.length = 24 then ringBody b else none
  | 0x0021 => if b.length = 4 then some (.flow (le 0 2 b) (le 2 2 b)) else none
  | 0x0033 => if b.length = 8 then some (.pin (le 0 8 b)) else none
  | 0x0040 => if b.length = 16 then powerBody b else none
  | 0x0001 | 0x0002 | 0x0010 | 0x0030 | 0x0031 | 0x0032 | 0x0041 | 0x0042 => Config.parseRecord typ b
  | _ => none

/-- The records that bytes hold, each padded to a multiple of 8 (R355), at most `fuel` of them. -/
def parseRecords : Nat → Bytes → Option (List Record)
  | _, [] => some []
  | 0, _ => none
  | fuel + 1, bs =>
    let n := le 2 2 bs
    let size := 8 * ceilDiv (4 + n) 8
    if bs.length < size then none
    else match parseBody (le 0 2 bs) (slice 4 n bs) with
      | none => none
      | some r => (parseRecords fuel (bs.drop size)).map fun rs => r :: rs

/-- What a record's entry is, by which two records are duplicates (R358 check 7): TYPE and number. -/
def recordKey : Record → Nat × Nat
  | .clock _ => (0x01, 0)
  | .memory _ => (0x02, 0)
  | .iface _ => (0x03, 0)
  | .cluster _ => (0x04, 0)
  | .tenant t _ => (0x10, t)
  | .officer b => (0x11, ofLE (slice 4 57 b))
  | .ring r _ => (0x20, r)
  | .flow f _ => (0x21, f)
  | .quorum a _ => (0x30, a)
  | .tamperSource i _ => (0x31, i)
  | .tamperCfg _ _ _ => (0x31, 24)
  | .gate g r _ => (0x32, 16 * g + r)
  | .pin h => (0x33, h)
  | .power _ => (0x40, 0)
  | .laneGroup g _ => (0x41, g)
  | .tileGroup g _ => (0x41, 8 + g)
  | .cphBudget _ _ _ => (0x41, 11)
  | .bgnBudget _ => (0x41, 12)
  | .rng _ _ _ => (0x42, 0)

/-- The counts of R355 for a TYPE: least and most per copy. -/
def recordCounts : List (Nat × Nat × Nat) :=
  [(0x01, 1, 1), (0x02, 1, 1), (0x03, 1, 1), (0x04, 0, 1), (0x10, 0, 4096), (0x11, 2, 4), (0x20, 0, 16384), (0x21, 0, 4096),
    (0x30, 0, 64), (0x31, 0, 25), (0x32, 0, 1920), (0x33, 0, 65536), (0x40, 1, 1), (0x41, 0, 11), (0x42, 1, 1)]

/-- A record's number lies in the range of its table. -/
def recordInTable : Record → Bool
  | .clock spread => decide (spread ≤ 50)
  | .tenant t _ => decide (t < 4096)
  | .ring r _ => decide (r < 16384)
  | .flow f m => decide (f < 4096) && decide (1 ≤ m) && decide (m ≤ 1024)
  | .tamperSource i _ => decide (i < 24)
  | .gate g r _ => decide (g < 120) && decide (r < 16)
  | .laneGroup g _ => decide (g < 8)
  | .tileGroup g _ => decide (g < 3)
  | .quorum a _ => (quorumDefault a).isSome
  | .officer b => le 0 2 b == 0 && bitOf 0 (le 2 1 b) && enrolForm b && enrolSigned b
  | _ => true

/-- Check 7 of R358 on a copy's records. -/
def recordsOk (rs : List Record) : Bool :=
  (recordCounts.all fun k =>
    let n := rs.countP fun r => (recordKey r).1 == k.1
    decide (k.2.1 ≤ n) && decide (n ≤ k.2.2)) && decide (rs.map recordKey).Nodup && rs.all recordInTable

/-- A configuration with one more record, which replaces the entry it names (R355, R370). -/
def addRecord (m : Manifest) : Record → Manifest
  | .clock x => { m with spread := x }
  | .memory x => { m with mem := some x }
  | .iface x => { m with iface := some x }
  | .cluster x => { m with cluster := some x }
  | .tenant t x => { m with tenants := Tbl.put t x m.tenants }
  | .officer b => { m with officers := m.officers ++ [b] }
  | .ring r x => { m with rings := Tbl.put r x m.rings }
  | .flow f x => { m with flows := Tbl.put f x m.flows }
  | .quorum a x => { m with quorum := Tbl.put a x m.quorum }
  | .tamperSource i x => { m with tamper := { m.tamper with rows := Tbl.put i x m.tamper.rows } }
  | .tamperCfg t pol en => { m with tamper := { m.tamper with throttle := t, enclPol := pol, enclEn := en } }
  | .gate g r x => { m with gates := Tbl.put (16 * g + r) x m.gates }
  | .pin h => { m with pins := m.pins ++ [h] }
  | .power x => { m with power := x }
  | .laneGroup g x => { m with laneGroups := Tbl.put g x m.laneGroups }
  | .tileGroup g x => { m with tileGroups := Tbl.put g x m.tileGroups }
  | .cphBudget a w l => { m with alarmLimit := a, windowMs := w, laneLimit := l }
  | .bgnBudget t => { m with tileLimit := t }
  | .rng e a r => { m with edgeFloor := e, aptCutoff := a, rctCutoff := r }

/-- The configuration of a copy's records. -/
def manifestOf (rs : List Record) : Manifest := rs.foldl addRecord {}

/-! ### The checks on a configuration (R358 codes 8 to 16) -/

/-- Check 8 (R176). -/
def sharesOk (m : Manifest) : Bool := decide ((m.tenants.map fun p => p.2.share).sum ≤ 262144)

/-- Check 9 (R164): a sensitive action asks for TWO. -/
def quorumOk (m : Manifest) : Bool :=
  m.quorum.all fun p => decide (p.2.signers ≤ 2) && (!sensitive p.1 || p.2.signers == 2)

/-- One row of a tamper table under R345. -/
def rowOk (src : Nat) (r : SrcRow) : Bool :=
  let cell := decide (6 ≤ src) && decide (src ≤ 15) || src == 17
  let level := if src = 21 then r.level == 4 && r.n == 0 && r.window == 0
    else decide (r.level ≤ 5) && !(r.level == 5 && decide (18 ≤ src) && decide (src ≤ 22))
  let cellOk := if cell then decide (0 < r.cellN) else !r.cellErase && r.cellN == 0
  let filter := (src == 21 || (decide (0 < r.n) && decide (0 < r.window))) && decide (0 < r.holdMs)
  level && cellOk && filter

/-- Check 10 (R345). -/
def tamperOk (t : TamperTable) : Bool := t.rows.all fun p => rowOk p.1 p.2

/-- A range of granules of the address map reaches into an alias of the DRAM window (R19, R300). -/
def reachesDram (base limit : Nat) : Bool :=
  (List.range 64).any fun k => decide (base < k * 2 ^ 40 + 2 ^ 34 + 2 ^ 32 ∧ k * 2 ^ 40 + 2 ^ 34 ≤ limit)

/-- One region under R300: REGION_BAD, RIGHT_BAD and DECLASS_RANGE do not hold. -/
def regionOk (declass : List (Nat × Nat)) (g : Nat) (r : Region) : Bool :=
  decide (r.kind < 3) && decide (r.base ≤ r.limit) && (r.kind == 2 || r.mask == 0)
    && !(r.kind == 1 && reachesDram r.base r.limit) && !(r.kind == 2 && decide (2 ^ 38 ≤ 64 * r.limit))
    && (decide (g < 96) || (!r.x && !r.d)) && (!r.d || r.x) && (!r.d || declass.contains (r.base, r.limit))

/-- Check 11 (R300 but for PORT_RUNNING). -/
def gatesOk (declass : List (Nat × Nat)) (m : Manifest) : Bool := m.gates.all fun p => regionOk declass (p.1 / 16) p.2

/-- The DRAM areas of a MEMORY record: base and size in bytes (R56, R77, R182, R193, R373, R430). -/
def memAreas (x : MemCfg) : List (Nat × Nat) :=
  let b := min 21 x.bucketsLog
  [(x.basinBase, 2 ^ 23), (x.cacheBase, 1600 * 2 ^ (20 + x.cacheSize)), (x.holdBase, 4096 * (2 ^ b + 2 ^ (b - 3))),
    (x.archBase, x.archSize), (x.stageBase, 2 ^ 26), (x.ltpStoreBase, x.ltpStoreSize), (x.ltpPoolBase, x.ltpPoolSize)]

/-- Check 12 (R56, R77, R184, R193, R271, R282). -/
def memoryOk (fitted : Nat) (m : Manifest) : Bool :=
  match m.mem with
  | none => false
  | some x =>
    let p := 2 ^ x.protLog
    decide (31 ≤ x.protLog) && decide (x.protLog ≤ 36) && ((memAreas x).all fun a => decide (a.1 + a.2 ≤ p))
      && decide (x.cacheSize < 3) && decide (x.cargoMode < 3) && decide (127 * p ≤ 100 * fitted)
      && ([x.basinKd, x.cacheKd, x.holdKd, x.archKd, x.stageKd, x.ltpStoreKd, x.ltpPoolKd].all fun k => decide (k < 64))
      && decide (x.basinBase % 2 ^ 23 = 0) && decide (16 ≤ x.bucketsLog)
      && decide (x.bucketsLog ≤ if x.cargoMode = 2 then 21 else 23) && decide (8 ≤ x.outcomeLog) && decide (x.outcomeLog ≤ 20)
      && decide (2 ^ 26 ≤ x.ltpStoreSize) && decide (x.ltpStoreSize ≤ 2 ^ 33) && decide (2 ^ 28 ≤ x.ltpPoolSize)
      && decide (x.ltpPoolSize ≤ 2 ^ 36) && decide (1 ≤ x.scrubHours) && decide (x.scrubHours ≤ 168)

/-- One ring under check 13 (R356, RING_CFG, RING_TIMING). -/
def ringOk (vfs : Nat) (c : RingCfg) : Bool :=
  decide (c.tenant < 4096) && decide (c.flow < 4096) && decide (c.transport < 3) && decide (c.func ≤ vfs)
    && (c.transport == 0 || c.func == 0) && (!c.maint || c.tenant == 0) && decide (1 ≤ c.inflightMax)
    && decide (c.inflightMax ≤ 131072) && decide (1 ≤ c.defaultDeadline)

/-- Check 13. -/
def ringsOk (m : Manifest) : Bool := m.rings.all fun p => ringOk ((m.iface.map (·.vfCount)).getD 0) p.2

/-- Check 14, PIN_LIMIT (R177): handles of one tenant and in all; `links` gives a handle's chain length. -/
def pinsOk (links : Nat → Nat) (m : Manifest) : Bool :=
  let count (t : Nat) : Nat := ((m.pins.filter fun h => handleTenant h == t).map links).sum
  decide ((m.pins.map links).sum ≤ 65536)
    && m.pins.all fun h => decide (count (handleTenant h) ≤ ((Tbl.find (handleTenant h) m.tenants).map (·.share)).getD 0 / 4)

/-- Check 15 (R357). -/
def powerOk (p : PowerCfg) : Bool :=
  let within (lo hi v : Nat) : Bool := decide (lo ≤ v) && decide (v ≤ hi)
  (p.capW == 0 || within 20 55 p.capW) && within 1 10 p.floorClusters && within 1 8 p.floorLaneGroups && within 1 24 p.floorTiles
    && within 1 4 p.floorHashGroups && (p.idleUs == 0 || within 100 65535 p.idleUs) && within 1 10000 p.drainMs

/-- One Ethernet port under R392. -/
def portOk (p : PortCfg) : Bool :=
  p.formed && decide (le 4 1 p.ipv4 ≤ 32) && decide (le 16 1 p.ipv6 ≤ 128) && (!p.enable || (decide (1500 ≤ p.mtu) && decide (p.mtu ≤ 9000) && p.tcpPort != 0 && match p.vlan with
    | some v => decide (1 ≤ v) && decide (v ≤ 4094)
    | none => true))

/-- The IFACE record under R392. -/
def ifaceOk (i : IfaceCfg) : Bool :=
  (!i.pcieEnable || (decide (3 ≤ i.pcieGen) && decide (i.pcieGen ≤ 5) && [1, 2, 4, 8].contains i.pcieWidth))
    && decide (i.vfCount ≤ 63) && (!i.cargoEnable || i.cargoGen == 3 || i.cargoGen == 4) && decide (100 ≤ i.hsMs)
    && decide (i.hsMs ≤ 60000) && (i.ltpV1 || i.ltpV2) && decide (i.anchors.length ≤ 16) && decide (1 ≤ i.oid.length) && i.formed
    && handleTenant i.serverKey == 0 && portOk i.port0 && portOk i.port1 && decide (i.chain.length ≤ 16384)

/-- HEADS beyond H are 0xFF and bytes 12 to 15 zero (R405). -/
def headsPadded (c : ClusterCfg) : Bool :=
  ((List.range (4 - c.heads.length)).all fun i => le (5 + c.heads.length + i) 1 c.body == 0xFF) && allZero (slice 12 4 c.body)

/-- The CLUSTER record under R404 and R405, given this device's DevID digest. -/
def clusterOk (own : Bytes) (iface : Option IfaceCfg) (c : ClusterCfg) : Bool :=
  let n := c.x * c.y
  let dims := match c.kind with
    | 0 => decide (2 ≤ c.x) && decide (c.x ≤ 16) && c.y == 1
    | 1 => decide (3 ≤ c.x) && decide (c.x ≤ 16) && c.y == 1
    | 2 => decide (2 ≤ c.x) && decide (c.x ≤ 8) && decide (2 ≤ c.y) && decide (c.y ≤ 8)
    | _ => false
  let silent := match iface with
    | some i => !i.pcieEnable && !i.port0.enable && !i.port1.enable
    | none => true
  dims && headsPadded c && decide (c.index < n) && decide (1 ≤ c.heads.length) && decide (c.heads.length ≤ 4) && decide c.heads.Nodup
    && (c.heads.all fun h => decide (h < n)) && decide (c.links.toNat < 16) && decide (1 ≤ c.fwdCredits)
    && decide (c.fwdCredits ≤ 8192) && (c.heads.contains c.index || silent) && c.devIds[c.index]? == some (own.take 8)

/-- The DevID digest, which the roots give at every LAUNCH (R320, R325). -/
def State.ownDigest (s : State) : Bytes := Config.shake256 (Config.ed448Public s.devIdSeed) 32

/-- No VF holds more than 1,024 rings (R383). -/
def vfRingsOk (m : Manifest) : Bool := (List.range 64).all fun f => f == 0 || decide ((m.rings.countP fun p => p.2.func == f) ≤ 1024)

/-- A cluster of more than 8 devices enables LTP v2 alone (R398). That every head sets the same PCIe generation and width cannot be seen in
one device's manifest. Log 70, DESIGN CHOICE. -/
def generationsOk (m : Manifest) : Bool :=
  match m.cluster, m.iface with
  | some c, some i => decide (c.x * c.y ≤ 8) || (i.ltpV2 && !i.ltpV1)
  | _, _ => true

/-- Check 16 (R383, R392, R398, R405). -/
def State.interfacesOk (s : State) (m : Manifest) : Bool :=
  vfRingsOk m && generationsOk m &&   (match m.iface with
    | some i => ifaceOk i
    | none => false) && (match m.cluster with
    | some c => clusterOk s.ownDigest m.iface c
    | none => true)

/-- Links of a handle for PIN_LIMIT: those of its key where it exists (R177). -/
def State.linksOf (s : State) (h : Nat) : Nat := ((s.storeLinks h).map List.length).getD 1

/-! ### The checks on a copy (R358) -/

/-- The code of the first check a copy fails, 0 where it passes (R358). Log 35, DEDUCED. -/
def State.copyReason (s : State) (density fitted : Nat) (c : Bytes) : Nat :=
  if headerOk density c = false then 1
  else if Config.shake256 (signerKey c) 32 ≠ s.currentValue .signer then 2
  else if hudricSigned c = false then 3
  else if s.countersignOk c = false then 4
  else if s.versionsOk c = false then 5
  else if imagesFit c = false then 6
  else match parseRecords c.length (copyRecords c) with
    | none => 7
    | some rs =>
      let m := manifestOf rs
      if recordsOk rs = false then 7
      else if sharesOk m = false then 8
      else if quorumOk m = false then 9
      else if tamperOk m.tamper = false then 10
      else if gatesOk ((copyImages c).flatMap Config.declassList) m = false then 11
      else if memoryOk fitted m = false then 12
      else if ringsOk m = false then 13
      else if pinsOk s.linksOf m = false then 14
      else if powerOk m.power = false then 15
      else if s.interfacesOk m = false then 16
      else 0

/-- The configuration a valid copy carries. -/
def copyManifest (c : Bytes) : Manifest := manifestOf ((parseRecords c.length (copyRecords c)).getD [])

end Sys2Proof.Machine
end

