-- ==== Sys2Proof/Machine/Lifecycle.lean ====
section
/-! DEFINITION. The Yuhild unlock (13_roots_identity_lifecycle.md R334 to R337) and the END_OF_LIFE opcode (R330, R331). -/

namespace Sys2Proof.Machine

/-! ### Yuhild unlock -/

/-- The 112 bytes of a challenge (R334). -/
def State.challenge (s : State) (scope : BitVec 4) (nonce : Bytes) : Bytes :=
  toLE 2 1 ++ toLE 1 (scope.toNat % 4) ++ toLE 1 s.lcs.code ++ zeros 4 ++ toLE 8 s.pwr.epoch ++ fixLen 57 s.devIdKey ++ zeros 7
    ++ fixLen 32 nonce

/-- A new challenge for a scope (R334): any earlier one is invalid, and the nonce comes from the DRBG of cluster 11, for which the
request waits without limit (R263). -/
def State.issueChallenge (s : State) (scope : BitVec 4) : State :=
  if s.lcs ≠ .production then s
  else
    let d := s.draw 88 32
    match d.1 with
    | .bytes n => { d.2 with lcy := { d.2.lcy with chal := some (s.challenge scope n), nextReq := none } }
    | _ => { s with lcy := { s.lcy with chal := none, nextReq := some scope } }

/-- A challenge that waits for random data is issued when a DRBG serves (R263). Log 44, DEDUCED. -/
def State.retryChallenge (s : State) : State :=
  match s.lcy.busy, s.lcy.nextReq with
  | none, some scope => s.issueChallenge scope
  | _, _ => s

/-- YUHILD_REQUEST (R334, R337): a write of zero requests nothing; while a response is being verified the request waits. Log 44, DEDUCED. -/
def execYuhildRequest (scope : BitVec 4) (s : State) : Host.Outcome State Fault Refusal :=
  .next <|
    if scope = 0 then s
    else if s.lcy.busy.isSome then { s with lcy := { s.lcy with nextReq := some scope } }
    else s.issueChallenge scope

/-- LCY_YH_RESP as bytes. -/
def Lcy.response (l : Lcy) : Bytes := (List.range 23).flatMap fun i => toLE 8 (tget 0 i l.resp).toNat

/-- YUHILD_SUBMIT (R335, R337): verification of the response as it stands begins; a second SUBMIT merges with the first. Log 44, DEDUCED. -/
def execYuhildSubmit (s : State) : Host.Outcome State Fault Refusal :=
  .next <|
    if s.lcy.busy.isSome then s
    else { s with lcy := { s.lcy with busy := some (s.lcy.chal, s.lcy.response) } }

/-- The RESULT of a response to a challenge (R335): 1 accepted, or the code of the first check that fails. Bytes that must be zero and
are not fail with the signature. Log 44, DEDUCED. -/
def State.yuhildResult (s : State) (chal : Option Bytes) (resp : Bytes) : Nat :=
  match chal with
  | none => if s.lcs ≠ .production then 5 else 3
  | some c =>
    let key := slice 0 57 resp
    if s.lcs ≠ .production ∨ le 2 1 c = 0 then 5
    else if (s.current .yuhild).isNone ∨ Config.shake256 key 32 ≠ s.currentValue .yuhild then 4
    else if allZero (slice 57 7 resp) && allZero (slice 178 6 resp)
        && Config.ed448Verify key (ascii "LT7200 Yuhild") c (slice 64 114 resp) then 1
    else 2

/-- What a successful unlock does (R335, R336). -/
def State.unlock (s : State) (c : Bytes) : State :=
  let s := { s with lcy := { s.lcy with chal := none, unlocked := some (BitVec.ofNat 4 (le 2 1 c)) } }
  let s := (s.extend 7 c).logEvent .debug 0 (le 2 1 c) 0
  s.sentryAdd 3 0xFF 0 0 true false 0

/-- YUHILD_VERIFY_DONE (R335, R337): RESULT is set; a request that waited now issues its challenge. -/
def execYuhildVerifyDone (s : State) : Host.Outcome State Fault Refusal :=
  .next <|
    match s.lcy.busy with
    | none => s
    | some (chal, resp) =>
      let code := s.yuhildResult chal resp
      let next := s.lcy.nextReq
      let s := { s with lcy := { s.lcy with busy := none, nextReq := none, result := code } }
      let s := match chal with
        | some c => if code = 1 then s.unlock c else s
        | none => s
      match next with
      | some scope => s.issueChallenge scope
      | none => s

/-! ### END_OF_LIFE -/

/-- END_OF_LIFE (R330): the commit's tick comes first; BARGE_FINISH then blows T3, erases, releases the completion and enters HALT. -/
def endOfLifeSvc (r : Run) (s : State) : Res × State :=
  s.checks r (s.keySteps r) fun _ => s.withPermit r 0x0065 (fun _ s =>
    s.checks r [(noParams r.b, stBadFormat)] fun _ => s.doneWith [] (some [])) (device := true)

/-- END_OF_LIFE, opcode 0x0C78. -/
def execEndOfLife (core : Nat) (hw : Hw) (s : State) : Host.Outcome State Fault Refusal := .next (s.serve core 0x0C78 hw endOfLifeSvc)

end Sys2Proof.Machine
end

