-- ==== Sys2Proof/Machine/Store.lean ====
section
/-! DEFINITION. Formatting the cargo store (07_moorings_and_cargo.md R187, 11_inline_memory_encryption.md R291) and version migration
(13_roots_identity_lifecycle.md R322, R323; 15_launch_modes_power.md R374). -/

namespace Sys2Proof.Machine

/-! ### Formatting (R187, R291) -/

/-- The cargo key sets of the drives in service under a customer root (R287, R320). -/
def State.deriveDriveKeys (s : State) (cr : Bytes) : State :=
  s.drivesIn.foldl (fun (s : State) d =>
    let x := s.drive d
    s.setDrive d { x with keys := if allZero x.nguid then none else some (cargoKeys cr x.nguid d) }) s

/-- Every cached copy of a key leaves the moorings, the cargo cache and the lane slots. -/
def State.dropAllKeys (s : State) : State :=
  ({ s with mor := { s.mor with moorings := [], cache := [] } }).killSlots (fun _ => true)

/-- Page-ins in progress begin again with their bucket sector. -/
def State.rereadPageIns (s : State) : State :=
  (s.mor.pageIns.filter fun p => p.tug.isSome).foldl (fun (s : State) p =>
    s.readSector p.handle 0 (s.bucketLba p.handle) none none) s

/-- The namespaces are formatted (R187 steps 1 and 2; first row of R291): a new STORE_ID, which the manual does not give (log 20),
checkpoint 1, which writes every sector of the layout but the journal's, an empty store, which is ONLINE. Log 40, DEDUCED. -/
def State.formatStore (s : State) : State :=
  let id := s.freshNat
  let s := id.2
  let s := s.deriveDriveKeys (s.root.cr.getD (zeros 32))
  let s := { s with
    mor := { s.mor with
      keelReg := { storeId := id.1 % 2 ^ 64, rootGen := 1, rootCopy := !s.mor.keelReg.rootCopy, pending := 0, lastCommit := 0 }
      store := [], base := [], journal := [], outcomes := [], gens := [], fill := 0, journalPos := 0, lastCommit := 0, ckpt := none
      usesDirty := []
      ckptAt := s.now, since := s.pwr.epoch }
    log := { s.log with cargo := [] }
    slu := { s.slu with sector := 3 } }
  let s := (s.dropAllKeys).setStore .online
  let rest := s.storeSectors - 262146
  let s := { s with slu := { s.slu with sectorWrites := s.slu.sectorWrites + BitVec.ofNat 32 (rest + 1) } }
  (s.emits (s.drivesIn.flatMap fun d => [Emit.nvme d 1 262146 rest, Emit.nvme d 1 1 1, Emit.nvme d 2 0 0])).rereadPageIns

/-- The checks of CARGO_FORMAT (R187, R287): the store is OFFLINE in a mode with drives, a namespace fits, and every drive in service
gives a key set. -/
def State.formatChecks (s : State) (r : Run) : List (Bool × Nat) :=
  let fit := s.mor.storeSt == .offline && decide (s.mor.cargoMode < 2)
    && (s.drivesIn.any fun d => (s.drive d).namespaceOk && !allZero (s.drive d).nguid)
    && s.drivesIn.all fun d => !allZero (s.drive d).nguid
  [(noParams r.b, stBadFormat), (fit, stRange)]

/-- CARGO_FORMAT (R187). -/
def cargoFormatSvc (r : Run) (s : State) : Res × State :=
  s.checks r (s.keySteps r) fun _ => s.withPermit r 0x0052 (fun _ s =>
    s.checks r (s.formatChecks r ++ [(s.auditRoom 7, stAuditFull)]) fun _ => s.formatStore.doneWith [] (some [])) (device := true)

/-- CARGO_FORMAT, opcode 0x0C74. -/
def execCargoFormat (core : Nat) (hw : Hw) (s : State) : Host.Outcome State Fault Refusal := .next (s.serve core 0x0C74 hw cargoFormatSvc)

/-! ### Version migration (R322, R323) -/

/-- A record rewrapped from TR to TR′ (R144, R322); one whose tag does not verify under TR is copied as it stands. Log 45, DESIGN CHOICE. -/
def State.rewrap (s : State) (new : Bytes) (r : KRec) : KRec :=
  let t := handleTenant r.label.handle
  match unwrapKey (s.tenantRootUnder (s.root.cr.getD (zeros 32)) t) r with
  | none => r
  | some f =>
    let w := wrapKey (s.tenantRootUnder new t) r.label f
    { r with cipher := w.1, wtag := w.2 }

/-- A table of the store with the entries of the buckets from LBA `lo` to below `hi` rewrapped. -/
def State.rewrapRange (s : State) (new : Bytes) (lo hi : Nat) (t : Tbl StoreEntry) : Tbl StoreEntry :=
  t.map fun p => (p.1, match p.2 with
    | .key ls => if lo ≤ s.bucketLba p.1 ∧ s.bucketLba p.1 < hi then .key (ls.map (s.rewrap new)) else .key ls
    | .tombstone => .tombstone)

/-- The lines of the volatile hold are written with the records rewrapped (R322). -/
def State.rewriteHold (s : State) : State :=
  match s.cfg.mem with
  | none => s
  | some m => (s.mor.store.flatMap fun p => match p.2 with
      | .key ls => ls.map fun r => (p.1, r)
      | .tombstone => []).foldl (fun (s : State) x =>
        s.unitPut m.holdKd (s.holdSlot m x.1 x.2.label.chainIdx) (wordsOf x.2.bytes .confidential) {}) s

/-- The sectors of a range are read from a drive and rewritten on every drive under the new key set (R322). -/
def State.rewriteSectors (s : State) (lo n : Nat) : State :=
  let s := { s with slu := { s.slu with
    sectorReads := s.slu.sectorReads + BitVec.ofNat 32 n, sectorWrites := s.slu.sectorWrites + BitVec.ofNat 32 n } }
  s.emits ((s.drivesIn.take 1).map (fun d => Emit.nvme d 0 lo n) ++ s.writeDrives.map fun d => Emit.nvme d 1 lo n)

/-- Step 4 of R322 for the sectors from the progress LBA to below `hi`, with the progress LBA advanced. Log 45, DESIGN CHOICE. -/
def State.migrateTo (s : State) (hi : Nat) : State :=
  match s.kwm.migration, s.root.crNew with
  | some (f, lo), some new =>
    let s := { s with
      mor := { s.mor with store := s.rewrapRange new lo hi s.mor.store, base := s.rewrapRange new lo hi s.mor.base }
      kwm := { s.kwm with migration := some (f, hi) } }
    if s.volatileStore then s.rewriteHold else s.rewriteSectors lo (min hi s.storeSectors - lo)
  | _, _ => s

/-- Step 5 of R322: FLOOR is F′, the migration record is cleared, CR′ alone is held, and the key sets follow it. -/
def State.migrateEnd (s : State) (f : Nat) : State :=
  let bits : BitVec 64 := BitVec.ofNat 64 (2 ^ f - 1)
  let s := ({ s with root := { s.root with floor := ⟨bits, bits, bits⟩ } }).logFuse 37
  let new := s.root.crNew.getD (zeros 32)
  let s := { s with
    root := { s.root with cr := some new, crNew := none }
    kwm := { s.kwm with migration := none, migrant := none } }
  (s.deriveDriveKeys new).dropAllKeys

/-- The first run of VERSION_MIGRATE (R322 steps 1 to 3): a forced checkpoint, no mooring, cache record or live key slot, both roots
held and the migration record written. -/
def State.migrateBegin (s : State) (r : Run) (f : Nat) : State :=
  let s := if s.driveStore then s.checkpointDone s.mor.journal.length else s
  let s := s.dropAllKeys
  let c := s.commitFor r.idx r.e []
  { s with
    root := { s.root with crNew := some (s.crFor f) }
    kwm := { s.kwm with migration := some (f, 0), migrant := some ⟨c.head, c.epoch, c.ring, c.seq, c.opcode, c.time⟩ } }

/-- The version a VERSION_MIGRATE asks for. -/
def versionAsked (r : Run) : Nat := wbits 6 0 r.b.p0

/-- The parameters of VERSION_MIGRATE are well formed. -/
def migrateForm (r : Run) : Bool := decide (r.b.p0.toNat < 128) && r.b.p1 == 0 && r.b.p2 == 0

/-- The checks of VERSION_MIGRATE where none is in progress (R322). -/
def State.migrateChecks (s : State) (r : Run) : List (Bool × Nat) :=
  let f := versionAsked r
  [(migrateForm r, stBadFormat),
    (decide (s.floor < f) && decide (f ≤ s.root.version) && s.mor.sessions.isEmpty && s.adm.comps.isEmpty, stRange),
    (s.mor.storeSt == .online || s.volatileStore, stCargoOffline)]

/-- The LBA a run of VERSION_MIGRATE reaches: 256 sectors on; the volatile hold's end at once. Log 45, DESIGN CHOICE. -/
def State.migrateGoal (s : State) (p : Nat) : Nat := if s.volatileStore then s.storeSectors else p + 256

/-- VERSION_MIGRATE (R322, R374): each run of the command passes 256 sectors; the volatile hold is passed in one. A barge that finds a
migration begun goes on with it. Log 45, DESIGN CHOICE. -/
def versionMigrateSvc (bad : Option (BitVec 3 × Nat)) (r : Run) (s : State) : Res × State :=
  let f := versionAsked r
  s.checks r (s.keySteps r) fun _ => s.withPermit r 0x0063 (fun _ s =>
    match s.kwm.migration with
    | none => s.checks r (s.migrateChecks r) fun _ => s.withAudit r fun _ => (.wait, s.migrateBegin r f)
    | some (g, p) =>
      s.checks r [(migrateForm r, stBadFormat), (g == f, stRange)] fun _ =>
        match bad with
        | some (cause, lba) => (.wait, s.integrity cause 2 lba 0)
        | none =>
          let hi := s.migrateGoal p
          let s := s.migrateTo hi
          if hi < s.storeSectors then (.wait, s) else (s.migrateEnd f).doneWith [] (some [])) (device := true)

/-- VERSION_MIGRATE, opcode 0x0C75. `bad`: the first sector of this run that fails R289, with the cause (R283, R322). -/
def execVersionMigrate (core : Nat) (hw : Hw) (bad : Option (BitVec 3 × Nat)) (s : State) : Host.Outcome State Fault Refusal := .next (s.serve core 0x0C75 hw (versionMigrateSvc bad))

end Sys2Proof.Machine
end

