-- ==== Sys2Proof/Machine/Resets.lean ====
section
/-! DEFINITION. Loss and return of main power, loss of the sentry domain's power, and reset (14_lengthsman_tamper.md R349;
15_launch_modes_power.md R361 to R363; 19_pins_electrical_package.md R450). -/

namespace Sys2Proof.Machine

/-- What lies outside the units that a reset or the loss of main power clears: fuses, user flash, the sentry domain, the drives, the pins, and
the model's own records. Everything else takes its reset value. Log 49, DEDUCED. -/
def State.kept (s : State) : State :=
  { State.reset with
    clock := { dtime := s.clock.dtime, stime := s.clock.stime, phase := s.clock.phase, mainPower := s.clock.mainPower }
    adm := { tenants := s.adm.tenants, officers := s.adm.officers }
    mor := {
      keelReg := s.mor.keelReg
      base := s.mor.base
      journal := s.mor.journal ++ s.mor.flight
      journalPos := s.mor.journalPos
      outcomes := s.mor.outcomes
      since := s.mor.since
      gens := s.mor.gens
      away := s.mor.away
      lastCommit := s.mor.lastCommit
      driveA := { present := s.mor.driveA.present }
      driveB := { present := s.mor.driveB.present } }
    root := {
      slots := s.root.slots, t1 := s.root.t1, t2 := s.root.t2, t3 := s.root.t3, grade := s.root.grade
      noncePrefix := s.root.noncePrefix, floor := s.root.floor, devIdCert := s.root.devIdCert }
    len := { s.len with
      viewPending := false, cond := 0, events := [], counts := [], first := none
      cellHits := [], tickLevel := none, resumeAt := 0 }
    pwr := { epoch := s.pwr.epoch, epochState := s.pwr.epochState, epochEnd := s.pwr.epochEnd }
    kwm := { migration := s.kwm.migration, migrant := s.kwm.migrant }
    wharf := { gpio := s.wharf.gpio, slew := s.wharf.gpio.toNat / 2 ^ 14 }
    log := { cargo := s.log.cargo, ackTo := s.log.ackTo }
    out := s.out
    free := s.free
    pending := s.pending }

/-- The sentry domain has lost all power (R315, R349): its secret, its record, its time and the keel register are gone; the next power-up
finds COLD set and the single SENTRY_POWER_LOST entry. -/
def State.sentryLost (s : State) : State :=
  { s with
    len := { table := TamperTable.boot }
    mor := { s.mor with keelReg := {} }
    clock := { s.clock with stime := 0, phase := 0 } }

/-- PWRGOOD falls (R349, R361, R450): the sentry domain switches to VBAT and the device enters SENTRY; without a cell the sentry domain
loses its power too. Nothing is written to user flash. Log 49, DEDUCED. -/
def State.losePower (s : State) (vbatOk : Bool) : State :=
  if s.clock.mainPower = false then s
  else
    let s := s.sentryAdd 4 0xFF 0 0 false false 0
    let k := s.kept
    let k := { k with
      clock := { k.clock with mainPower := false, dtime := 0 }
      glb := { mode := .sentry }
      len := { k.len with cellStart := k.clock.stime + 1 } }
    if vbatOk then k else { k.sentryLost with len := { k.sentryLost.len with powered := false } }

/-- The boot tamper table applies from now until LAUNCH latches the manifest's (R344). Log 49, DEDUCED. -/
def State.bootTable (s : State) : State :=
  { s with len := { s.len with table := TamperTable.boot, latched := false, cellHits := [] } }

/-- Main power returns: device time starts at zero and LAUNCH follows (R16, R349, R362). Log 49, DEDUCED. -/
def State.returnPower (s : State) : State :=
  { s.kept.bootTable with
    clock := { s.kept.clock with mainPower := true, dtime := 0 }
    glb := { mode := .launch } }

/-- The end cause a reset writes (R361). -/
def State.endCause (s : State) : Nat :=
  if s.glb.mode = .halt then 2
  else if s.rings.all fun p => decide (p.2.st = .closed) then 0
  else 3

/-- A reset with an end cause (R361): the logbook ring stays with what is on its way to it and what was lost (R430, R431), so do the
cumulative telemetry fields (R79), the cause is written to EPOCH_STATE, and LAUNCH runs from step 1. Log 49, DEDUCED. -/
def State.resetWith (s : State) (cause : Nat) : State :=
  { s.kept.bootTable with
    log := { s.kept.log with
      ring := s.log.ring, ingress := s.log.ingress
      lostArchive := s.log.lostArchive, lostIngress := s.log.lostIngress, lostRing := s.log.lostRing }
    lkm := { s.kept.lkm with
      spills := s.lkm.spills, refills := s.lkm.refills, hist := s.lkm.hist
      windowNo := s.lkm.windowNo, curWindow := s.lkm.curWindow }
    glb := { mode := .launch, prevMode := s.glb.mode }
    pwr := { s.kept.pwr with epochState := .ended cause } }

/-- MAIN_POWER_LOST (R349). -/
def execMainPowerLost (vbatOk : Bool) (s : State) : Host.Outcome State Fault Refusal := .next (s.losePower vbatOk)

/-- SENTRY_POWER_LOST (R315, R349): the power-up after the sentry domain lost all power. -/
def execSentryPowerLost (s : State) : Host.Outcome State Fault Refusal :=
  .next (if s.clock.mainPower then s else s.sentryLost.returnPower)

/-- MAIN_POWER_RETURN (R339, R349): a MAIN_RETURN entry is written; a sentry domain that has lost all power takes the power-up of
SENTRY_POWER_LOST instead. -/
def execMainPowerReturn (s : State) : Host.Outcome State Fault Refusal :=
  .next <|
    if s.clock.mainPower then s
    else if s.len.powered = false then s.sentryLost.returnPower
    else
      let s := ({ s with len := { s.len with cold := false } }).returnPower
      s.sentryAdd 5 0xFF 0 0 false false 0

/-- RESET_N_LOW (R450, R459): a pulse shorter than 250 reference cycles raises RESET_GLITCH; a valid one resets the device, or takes its
main power where PWRGOOD fell within it. -/
def execResetNLow (cycles : Nat) (pwrgoodLow vbatOk : Bool) (s : State) : Host.Outcome State Fault Refusal :=
  .next <|
    if s.clock.mainPower = false then s
    else if cycles < 250 then s.alarmEvent 16
    else if pwrgoodLow then s.losePower vbatOk
    else s.resetWith s.endCause

end Sys2Proof.Machine
end

