-- ==== Sys2Proof/Machine/Lengthsman.lean ====
section
/-! DEFINITION. The lengthsman's samples and latches (14_lengthsman_tamper.md R338 to R348). Raising a source and its responses are in
Machine/Ops.lean. -/

namespace Sys2Proof.Machine

/-! ### On main power -/

/-- The unit that raises the events of a source is powered (R339, R375): ROOT, an RNG half, an SLU half, a lane group or tile. -/
def State.unitPowered (s : State) (src : Nat) : Bool :=
  let on (d : Nat) : Bool := decide ((s.domAt d).st = .on)
  match src with
  | 18 => on 68
  | 19 | 20 => on 64 || on 65
  | 21 => on 66 || on 67
  | 22 => ((List.range 8).any fun i => on (12 + i)) || (List.range 24).any fun i => on (25 + i)
  | _ => true

/-- A source is watched now (R338, R339). Log 57, DEDUCED. -/
def State.watched (s : State) (src : Nat) : Bool :=
  let settled := s.clock.pllLock && decide (s.clock.goodSince + 10000 ≤ s.now)
  s.clock.mainPower && decide (src < 24) && (decide (6 ≤ src) || settled)
    && !(decide (12 ≤ src) && decide (src ≤ 15) && !s.len.table.enclEn.getLsbD (src - 12))
    && (s.glb.mode != .dormant || decide (src < 18) || src == 23) && s.unitPowered src

/-- The condition of a source is absent from now on (R342). -/
def State.conditionGone (s : State) (src : Nat) : State :=
  let latches := match Tbl.find src s.len.latches with
    | some l =>
      if s.len.cond.getLsbD src then Tbl.put src { l with lastSeen := max l.lastSeen (s.clock.stime - 1) } s.len.latches
      else s.len.latches
    | none => s.len.latches
  { s with len := { s.len with latches := latches, cond := s.len.cond &&& ~~~(BitVec.ofNat 24 (2 ^ src)) } }

/-- A sample below its threshold: the crystal is used again at the power-up at which it passes (R338). -/
def State.sampleClear (s : State) (src : Nat) : State :=
  let back := src == 17 && s.glb.mode == .launch
  let s := s.conditionGone src
  { s with len := { s.len with oscRc := s.len.oscRc && !back } }

/-- One sample or unit event enters its filter (R340); what it raises is collected. Log 57, DEDUCED. -/
def State.sampleOne (p : State × List (Nat × Nat)) (x : Nat × Bool) : State × List (Nat × Nat) :=
  let s := p.1
  if s.watched x.1 = false then p
  else if x.2 then
    let s := if x.1 < 18 then { s with len := { s.len with cond := s.len.cond ||| BitVec.ofNat 24 (2 ^ x.1) } } else s
    let f := s.filterEvent x.1
    (f.1, match f.2 with
      | some r => if p.2.any fun q => q.1 == r.1 then p.2 else p.2 ++ [r]
      | none => p.2)
  else if x.1 < 18 then (s.sampleClear x.1, p.2) else p

/-- ALARM_SAMPLE (R338 to R341, R345, R346): the samples and events of one sentry tick; the sources they raise are raised together.
Log 57, DEDUCED. -/
def execAlarmSample (samples : List (Nat × Bool)) (s : State) : Host.Outcome State Fault Refusal :=
  .next <|
    let s := if samples.contains (20, true) ∧ s.rng.ready = false ∧ s.clock.mainPower = true then
        s.enterHalt 6 (if s.glb.mode = .launch then s.kwm.step else 0) 0
      else s
    let p := samples.foldl State.sampleOne (s, [])
    let s := p.1.raise p.2
    if p.2.any fun r => r.1 == 17 then { s with len := { s.len with oscRc := true } } else s

/-- HOLD_MS in sentry ticks (R342). Log 57, DEDUCED. -/
def holdTicks (ms : Nat) : Nat := ceilDiv (ms * 32768) 1000

/-- A latch clears; with the last one at QUIESCE or above, admission resumes in the next sentry tick (R343). Log 57, DEDUCED. -/
def State.clearLatch (s : State) (src : Nat) : State :=
  let before := s.latchedAt 3
  let s := { s with len := { s.len with latches := Tbl.del src s.len.latches } }
  if before ∧ s.latchedAt 3 = false then { s with len := { s.len with resumeAt := s.clock.stime + 1 } } else s

/-- The condition of a source is absent now (R342). -/
def State.conditionAbsent (s : State) (src : Nat) (l : Latch) : Bool :=
  !s.len.cond.getLsbD src && decide (l.lastSeen < s.clock.stime)

/-- LATCH_HOLD_EXPIRE (R342). -/
def execLatchHoldExpire (source : Nat) (s : State) : Host.Outcome State Fault Refusal :=
  .next <|
    match Tbl.find source s.len.latches with
    | none => s
    | some l =>
      if l.level ≤ 3 ∧ s.conditionAbsent source l = true ∧ l.lastSeen + 1 + holdTicks (s.srcRow source).holdMs ≤ s.clock.stime then
        s.clearLatch source
      else s

/-- LATCH_CLEAR_WRITE (R342): in DRYDOCK, for latches at level 0 to 3 whose condition is absent; elsewhere LEN takes no writes
(R22). Log 57, DEDUCED. -/
def execLatchClearWrite (v : W64) (s : State) : Host.Outcome State Fault Refusal :=
  .next <|
    if s.glb.mode ≠ .drydock then s.refused 0xC 0xC0010 0
    else
      ((s.len.latches.filter fun p => wbit p.1 v && decide (p.2.level ≤ 3) && s.conditionAbsent p.1 p.2).map Prod.fst).foldl
        (fun (s : State) (src : Nat) => s.clearLatch src) s

/-! ### On the cell (R348) -/

/-- The sampling interval of a cell source in sentry ticks; none: not a cell source. -/
def cellInterval (src : Nat) : Option Nat :=
  if src = 9 ∨ src = 10 then some 524
  else if 11 ≤ src ∧ src ≤ 15 then some 131
  else if 6 ≤ src ∧ src ≤ 8 then some 2097
  else if src = 17 then some 64
  else none

/-- A cell source is sampled in this sentry tick (R348, R349). -/
def State.cellDue (s : State) (src : Nat) : Bool :=
  match cellInterval src with
  | none => false
  | some n =>
    decide (s.len.cellStart ≤ s.clock.stime) && decide ((s.clock.stime - s.len.cellStart) % n = 0)
      && !(decide (12 ≤ src) && decide (src ≤ 15) && !s.len.table.enclEn.getLsbD (src - 12))

/-- One sample on the cell (R340, R348): CELL_N consecutive hits raise the source, unless it is latched; a hit of a latched one renews its
hold. -/
def State.cellOne (p : State × List Nat) (x : Nat × Bool) : State × List Nat :=
  let s := p.1
  if s.cellDue x.1 = false then p
  else if x.2 then
    let n := tget 0 x.1 s.len.cellHits + 1
    let s := { s with len := { s.len with
      cellHits := Tbl.put x.1 n s.len.cellHits, cond := s.len.cond ||| BitVec.ofNat 24 (2 ^ x.1) } }
    match Tbl.find x.1 s.len.latches with
    | some l =>
      ({ s with len := { s.len with
        counts := Tbl.put x.1 (satAdd 16 (tget 0 x.1 s.len.counts) 1) s.len.counts
        latches := Tbl.put x.1 { l with lastSeen := s.clock.stime } s.len.latches } }, p.2)
    | none => (s, if (s.srcRow x.1).cellN ≤ n then p.2 ++ [x.1] else p.2)
  else
    let s := s.conditionGone x.1
    ({ s with len := { s.len with cellHits := Tbl.put x.1 0 s.len.cellHits } }, p.2)

/-- The cell response of a source as an entry codes it: 5 ERASE, 0 LOG. -/
def State.cellLevel (s : State) (src : Nat) : Nat := if (s.srcRow src).cellErase then 5 else 0

/-- CELL_SAMPLE (R340, R346, R348, R350): ERASE runs once, then every source raised has its entry. -/
def execCellSample (samples : List (Nat × Bool)) (s : State) : Host.Outcome State Fault Refusal :=
  .next <|
    if s.clock.mainPower ∨ s.len.powered = false then s
    else
      let p := samples.foldl State.cellOne (s, [])
      let s := p.1
      let taken := p.2.foldl (fun m src => max m (s.cellLevel src)) 0
      let s := if taken = 5 then s.eraseKeel else s
      let s := p.2.foldl (fun (s : State) src =>
        let s := { s with len := { s.len with latches := Tbl.put src ⟨s.cellLevel src, s.clock.stime⟩ s.len.latches } }
        s.sentryAdd 2 src (s.cellLevel src) taken (decide (4 ≤ taken) || s.cellLevel src == 5) false (tget 0 src s.len.cellHits)) s
      if p.2.contains 17 then { s with len := { s.len with oscRc := true } } else s

end Sys2Proof.Machine
end

