-- ==== Sys2Proof/Machine/Slu.lean ====
section
/-! DEFINITION. The line accesses of the masters behind gates (11_inline_memory_encryption.md R271, R275 to R277, R284 to R286;
12_barrier_gates_and_tags.md R297 to R299) and the patrol scrubber (R282). -/

namespace Sys2Proof.Machine

/-- The key domain and line-aligned DRAM offset of an address in the DRAM window. -/
def lineOf (addr : Nat) : Option (Nat × Nat) :=
  match targetOf addr with
  | some (.dram kd off) => some (kd, off - off % 64)
  | _ => none

/-- What a line read returned to its master. -/
def State.giveWords (s : State) (master : Nat) (ws : List TWord) : State :=
  { s with slu := { s.slu with returned := Tbl.put master ws s.slu.returned } }

/-- The eight poisoned words of a read that failed (R275, R282, R283). -/
def poisonedLine : List TWord := List.replicate 8 poisonedWord

/-- The barge for which a master makes an access fails: that of a crew core, or of the crew core that a tug works for (R299). -/
def State.failJob (s : State) (master core status : Nat) : State :=
  if master < 96 then s.stopJob master status else if master < 112 then s.stopJob core status else s

/-- A refused line access: its report, and the end of its barge; at the cargo root port the command of the drive fails, whose number `core`
is (R186, R299). -/
def State.refuseLine (s : State) (master core : Nat) (k : Access) (bad : Nat × Option Nat) : State :=
  let s := s.refuse master k bad
  if 96 ≤ master ∧ master < 112 then s.stopJob core stBadPointer
  else if master = 114 ∧ core < 2 then s.driveCommandFailed core
  else s

/-- An access at P or above (R271). -/
def State.outOfRange (s : State) (master core : Nat) : State :=
  { s with slu := { s.slu with rangeViol := satAdd 32 s.slu.rangeViol 1 } }.failJob master core stBadPointer

/-- An access under another key domain (R275). -/
def State.otherDomain (s : State) (master core : Nat) : State :=
  { s with slu := { s.slu with domainViol := satAdd 32 s.slu.domainViol 1 } }.failJob master core stPoisoned

/-- A line read past its gate (R271, R275 to R277, R282, R283, R306). -/
def State.readLine (s : State) (master core kd off : Nat) (r : DramReturn) : State :=
  if 2 ^ s.slu.protLog ≤ off then (s.giveWords master poisonedLine).outOfRange master core
  else
    let g := s.getLine off r
    let s := g.2
    match g.1 with
    | .broken c => (s.giveWords master poisonedLine).integrity c (sluHalf off) off kd
    | .uncorrectable => (s.giveWords master poisonedLine).failJob master core stPoisoned
    | .line none => s.giveWords master (List.replicate 8 notValid)
    | .line (some l) =>
      if l.owner = kd then (s.countHeld l.words).giveWords master (l.words.map unheld)
      else (s.giveWords master poisonedLine).otherDomain master core

/-- LINE_READ (R286): the master's gate first, then the SLU. `core`: the crew core for whose barge a tug reads. Log 14, DESIGN CHOICE. -/
def execLineRead (master core addr : Nat) (r : DramReturn) (s : State) : Host.Outcome State Fault Refusal :=
  .next <|
    match s.gateCheck master .read (addr - addr % 64) 64 [] with
    | some b => (s.giveWords master poisonedLine).refuseLine master core .read b
    | none =>
      match lineOf addr with
      | none => s
      | some (kd, off) => if s.sluTakes (sluHalf off) then s.readLine master core kd off r else s

/-- A full-line write past its gate (R271, R284). -/
def State.writeLine (s : State) (master core kd off : Nat) (words : List TWord) (r : DramReturn) : State :=
  if 2 ^ s.slu.protLog ≤ off then s.outOfRange master core
  else
    let w := s.walk (sluHalf off) (sluLine off) r
    match w.1 with
    | some c => w.2.integrity c (sluHalf off) off kd
    | none => State.endWrite kd off (w.2.putLine kd off words r)

/-- FULL_LINE_WRITE (R275, R284). Log 14, DESIGN CHOICE. -/
def execFullLineWrite (master core addr : Nat) (words : List TWord) (r : DramReturn) (s : State) :
    Host.Outcome State Fault Refusal :=
  .next <|
    if wholeLine words = false then s
    else match s.gateCheck master .write (addr - addr % 64) 64 words with
      | some b => s.refuseLine master core .write b
      | none =>
        match lineOf addr with
        | none => s
        | some (kd, off) => if s.sluTakes (sluHalf off) then s.writeLine master core kd off words r else s

/-- A partial write to one line past its gate, steps 1 to 6 of R284. -/
def State.writePart (s : State) (master core kd off : Nat) (ws : List (Nat × TWord)) (r : DramReturn) : State :=
  if 2 ^ s.slu.protLog ≤ off then s.outOfRange master core
  else
    let g := s.getLine off r
    let s := g.2
    match g.1 with
    | .broken c => s.integrity c (sluHalf off) off kd
    | .uncorrectable => s.failJob master core stPoisoned
    | .line none => State.endWrite kd off (s.putLine kd off (mergeWords [] ws) r)
    | .line (some l) =>
      if l.owner = kd then State.endWrite kd off (s.putLine kd off (mergeWords l.words ws) r) else s.otherDomain master core

/-- The part of a write that falls in one of its lines (R284): eight valid words are a full-line write. A half that takes no access any
more takes no later part. -/
def State.writeSplit (s : State) (master core kd off : Nat) (ws : List (Nat × TWord)) (r : DramReturn) (l : Nat) : State :=
  let part := (ws.filter fun p => p.1 / 8 == l).map fun p => (p.1 % 8, p.2)
  let o := off + 64 * l
  if s.sluTakes (sluHalf o) = false then s
  else if wholeLine (mergeWords [] part) then s.writeLine master core kd o (mergeWords [] part) r
  else s.writePart master core kd o part r

/-- PARTIAL_WRITE (R284): any write that is not a full-line write; its words are numbered from the start of the line of `addr`. The gate
refuses it whole beforehand; one that spans lines is split at their boundaries. Log 14, DESIGN CHOICE. -/
def execPartialWrite (master core addr : Nat) (words : List (Nat × TWord)) (r : DramReturn) (s : State) :
    Host.Outcome State Fault Refusal :=
  .next <|
    let base := addr - addr % 64
    let ws := words.mergeSort fun a b => a.1 ≤ b.1
    if words = [] ∨ (linesOf words = [0] ∧ wholeLine (mergeWords [] words) = true) then s
    else match s.gateScan master .write (ws.map fun p => base + 8 * p.1) (ws.map fun p => (base + 8 * p.1, p.2)) with
      | some b => s.refuseLine master core .write b
      | none =>
        match lineOf addr with
        | none => s
        | some (kd, off) =>
          if (linesOf words).all fun l => s.sluTakes (sluHalf (off + 64 * l)) then
            (linesOf words).foldl (fun (s : State) l => s.writeSplit master core kd off words r l) s
          else s

/-- PATROL_SCRUB (R282): the scrubber of a channel reads so many DRAM words; SLU_SCRUB.PASSES counts a pass of either channel over half
of the DRAM fitted. Each uncorrectable data line is counted, and an uncorrectable counter block is INTEGRITY. Log 14, DESIGN CHOICE. -/
def execPatrolScrub (channel words : Nat) (r : DramReturn) (s : State) : Host.Outcome State Fault Refusal :=
  .next <|
    if s.sluTakes channel = false then s
    else
      let s := s.countEcc r
      let total := s.slu.fitted / 16
      let n := tget 0 channel s.slu.scrubbed + words
      let over_ := decide (0 < total) && decide (total ≤ n)
      let s := { s with slu := { s.slu with
        scrubbed := Tbl.put channel (if over_ then n - total else n) s.slu.scrubbed
        passes := if over_ then s.slu.passes + 1 else s.slu.passes
        ueData := satAdd 16 s.slu.ueData r.lostLines.length } }
      if r.lostNodes = [] then s else s.freshNat.2.integrity 1 channel (s.freshNat.1 % 2 ^ 36) 0

end Sys2Proof.Machine
end

