-- ==== Sys2Proof/Machine/Wharf.lean ====
section
/-! DEFINITION. The host interfaces (16_wharf_host_interfaces.md): the PCIe endpoint (R386, R387), Ethernet, TCP and TLS (R389 to R391)
and loopbacks (R399). LTP is in Machine/Ltp.lean. -/

namespace Sys2Proof.Machine

/-- A loopback runs on an interface of WHF_LOOP_CTL (R399). -/
def State.loopsOn (s : State) (iface : Nat) : Bool := s.wharf.loop.any fun l => l.iface == iface

/-! ### The PCIe endpoint (R384, R386, R387) -/

/-- A ring is reset with its function (R387): DRAINING with its admitted barges aborted; completions waiting to be written are discarded
and counted; a CLOSED ring's host-writable fields take their reset values. Log 47, DEDUCED. -/
def State.flrRing (s : State) (r : Nat) : State :=
  let g := s.ringAt r
  let lost := g.relq.length + (if g.epochComp.isSome then 1 else 0)
  let s := g.relq.foldl (fun (s : State) p => match p.idx with
    | some i => s.delEntry i
    | none => s) s
  let s := { s with wharf := { s.wharf with flrDiscards := satAdd 16 s.wharf.flrDiscards lost } }
  let g := { g with relq := [], epochComp := none, inFlight := g.inFlight - lost, holding := false }
  if g.st = .closed then
    s.setRing r { g with sqBase := 0, sqLog := 0, cqBase := 0, cqLog := 0, msixVec := 0, coalCount := 0, coalTime := 0 }
  else
    let s := s.setRing r { g with st := .draining, port := [], fetching := 0, flr := true }
    s.abortWhere fun e => decide (e.ring = r) && e.origin.isNone

/-- The PCIe rings of the functions that meet a test (R355: those with a RING record). -/
def State.pcieRings (s : State) (p : Nat → Bool) : List Nat :=
  (s.cfg.rings.filter fun x => x.2.transport == 0 && p x.2.func).map Prod.fst

/-- A reset of the functions that meet a test (R384, R387): their rings are reset and their pending messages cleared; PCI Express leaves
them without bus mastership, and a reset of the PF without VFs (PRESUMED). Log 47. -/
def State.functionReset (s : State) (p : Nat → Bool) : State :=
  let s := (s.pcieRings p).foldl (fun (s : State) (r : Nat) => s.flrRing r) s
  { s with wharf := { s.wharf with
    msixPending := s.wharf.msixPending.filter fun x => !p x.1
    masked := s.wharf.masked.filter fun x => !p x.1
    bme := s.wharf.bme.filter fun f => !p f
    vfs := if p 0 then 0 else s.wharf.vfs } }

/-- FUNCTION_LEVEL_RESET (R387): of a VF, its rings; of the PF, those of every function. -/
def execFunctionLevelReset (fn : Nat) (s : State) : Host.Outcome State Fault Refusal :=
  .next (if s.wharf.pcieUp then s.functionReset fun f => fn == 0 || f == fn else s)

/-- HOT_RESET (R387). -/
def execHotReset (s : State) : Host.Outcome State Fault Refusal :=
  .next (if s.wharf.pcieUp then s.functionReset fun _ => true else s)

/-- VF_ENABLE_CLEAR (R387): every ring of every function; the VFs are gone, the PF keeps its configuration. -/
def execVfEnableClear (s : State) : Host.Outcome State Fault Refusal :=
  .next <|
    if s.wharf.pcieUp then
      let w := s.wharf
      let s := s.functionReset fun _ => true
      { s with wharf := { s.wharf with
        vfs := 0
        bme := w.bme.filter (· == 0)
        masked := w.masked.filter fun x => x.1 == 0
        msixPending := w.msixPending.filter fun x => x.1 == 0 } }
    else s

/-- The PCIe link goes down (R386): outside DORMANT a failed completion write on every OPEN ring. Log 47, DEDUCED. -/
def State.pcieDown (s : State) : State :=
  if s.wharf.pcieUp = false then s
  else
    let s := { s with wharf := { s.wharf with pcieUp := false, gen := 0, width := 0 } }
    if s.glb.mode = .dormant then s
    else
      let s := { s with wharf := { s.wharf with linkDowns := satAdd 16 s.wharf.linkDowns 1, vfs := 0, bme := [] } }
      ((s.pcieRings fun _ => true).filter fun r => decide ((s.ringAt r).st = .opened)).foldl
        (fun (s : State) (r : Nat) => s.ringFault r 5) s

/-- PCIE_LINK_DOWN (R386). -/
def execPcieLinkDown (s : State) : Host.Outcome State Fault Refusal := .next s.pcieDown

/-- PCIE_LINK_UP (R382, R384, R392): the endpoint is enabled and powered and no loopback holds it; the host's configuration comes with
the link. -/
def execPcieLinkUp (gen width vfs : Nat) (bme : List Nat) (masked : List (Nat × Nat)) (s : State) :
    Host.Outcome State Fault Refusal :=
  .next <|
    match s.cfg.iface with
    | none => s
    | some i =>
      let looped := s.loopsOn 0
      if i.pcieEnable = false ∨ looped = true ∨ s.clock.mainPower = false ∨ (s.domAt 55).st ≠ .on then s
      else { s with wharf := { s.wharf with
        pcieUp := true, gen := min gen i.pcieGen, width := min width i.pcieWidth, vfs := min vfs i.vfCount
        bme := bme.filter fun f => decide (f ≤ min vfs i.vfCount), masked := masked } }

/-! ### Ethernet and TCP (R389, R446) -/

/-- The IFACE settings of an Ethernet port. -/
def State.portCfg (s : State) (p : Nat) : Option PortCfg := s.cfg.iface.map fun i => if p = 0 then i.port0 else i.port1

/-- An Ethernet port is up. -/
def State.ethUp (s : State) (p : Nat) : Bool := if p = 0 then s.wharf.eth0Up else s.wharf.eth1Up

/-- A port follows its IFACE enable, its power domain, its module and a loopback on it (R389, R399, R446). -/
def State.ethFollow (s : State) (p : Nat) : State :=
  let enabled := ((s.portCfg p).map (·.enable)).getD false
  let looped := s.loopsOn (1 + p)
  let up := enabled && !s.wharf.gpio.getLsbD (3 * p) && decide ((s.domAt (57 + p)).st = .on) && !looped
    && (s.glb.mode == .service || s.glb.mode == .drydock)
  if p = 0 then { s with wharf := { s.wharf with eth0Up := up } } else { s with wharf := { s.wharf with eth1Up := up } }

/-- The session of a number. -/
def State.sessionAt (s : State) (n : Nat) : Option Session := Tbl.find n s.wharf.sessions

/-- Replace a session. -/
def State.putSession (s : State) (n : Nat) (x : Session) : State :=
  { s with wharf := { s.wharf with sessions := Tbl.put n x s.wharf.sessions } }

/-- Traffic on a session's connection (R389). -/
def State.sessionTraffic (s : State) (n : Nat) : State :=
  match s.sessionAt n with
  | some x => s.putSession n { x with traffic := s.now }
  | none => s

/-- A session ends with a TLS message by name and its connection closes; its rings are unbound and their completions stay (R55, R394). -/
def State.dropSession (s : State) (n what : Nat) : State :=
  match s.sessionAt n with
  | none => s
  | some x =>
    let s := { s with
      wharf := { s.wharf with sessions := Tbl.del n s.wharf.sessions }
      rings := s.rings.map fun (p : Nat × Ring) => if p.2.bound = some n then (p.1, { p.2 with bound := none }) else p }
    s.emits [.tls n what, .tcp x.port n 2]

/-- Every session of a port, or of both, ends with close_notify. -/
def State.dropSessions (s : State) (p : Session → Bool) : State :=
  ((s.wharf.sessions.filter fun x => p x.2).map Prod.fst).foldl (fun (s : State) (n : Nat) => s.dropSession n 3) s

/-- TCP_CONNECT (R369, R389): a new session, or RST beyond 4,096; a STOPPED port takes no new session. -/
def execTcpConnect (port : Nat) (s : State) : Host.Outcome State Fault Refusal :=
  .next <|
    if 2 ≤ port ∨ s.ethUp port = false ∨ s.pwr.stopped.contains (0x29 + port) = true then s
    else if 4096 ≤ s.wharf.sessions.length then s.emit (.tcp port s.wharf.sessionNext 1)
    else
      let n := s.wharf.sessionNext
      let s := s.putSession n { port := port, traffic := s.now }
      ({ s with wharf := { s.wharf with sessionNext := n + 1 } }).emit (.tcp port n 0)

/-- The MAC address of an Ethernet port (R389). -/
def State.macOf (s : State) (p : Nat) : Bytes :=
  let h := slice 1 5 (Config.shake256 s.devIdKey 6)
  [0x02] ++ h.take 4 ++ (h.drop 4).map (fun b => b ^^^ BitVec.ofNat 8 p)

/-- CONTROL_PACKET (R389): answered from the port's address, at most 1,000 in a second on a port. -/
def execControlPacket (port : Nat) (s : State) : Host.Outcome State Fault Refusal :=
  .next <|
    if s.ethUp port = false then s
    else
      let sec := s.now / 100000000
      let c := tget (sec, 0) port s.wharf.control
      let n := if c.1 = sec then c.2 else 0
      if 1000 ≤ n then s
      else ({ s with wharf := { s.wharf with control := Tbl.put port (sec, n + 1) s.wharf.control } }).emit (.control port (s.macOf port))

/-- TCP_KEEPALIVE (R389). -/
def execTcpKeepalive (session : Nat) (s : State) : Host.Outcome State Fault Refusal :=
  .next <|
    match s.sessionAt session with
    | some x => if x.traffic + 6000000000 ≤ s.now then s.emit (.tcp x.port session 3) else s
    | none => s

/-! ### TLS 1.3 (R390, R391) -/

/-- A handshake fails with an alert by name: counted, and the connection closes. -/
def State.handshakeFails (s : State) (n what : Nat) : State :=
  ({ s with wharf := { s.wharf with hsFailed := satAdd 16 s.wharf.hsFailed 1 } }).dropSession n what

/-- TLS_CLIENT_HELLO (R263, R390): the server flight goes out once the server key is resident and the DRBG of cluster 10 serves; until
then the handshake waits, and the client's next flight takes it up again. Log 47, DEDUCED. -/
def execTlsClientHello (session : Nat) (hello : Bytes) (s : State) : Host.Outcome State Fault Refusal :=
  .next <|
    match s.sessionAt session, s.cfg.iface with
    | some x, some i =>
      let s := s.sessionTraffic session
      let since := match x.stage with
        | .handshake t => t
        | _ => s.now
      let alpn := Config.helloAlpn hello
      let known := (alpn == 2 && i.ltpV2) || (alpn == 1 && i.ltpV1)
      let waiting := { x with stage := .handshake since, traffic := s.now }
      if x.stage = .opened ∨ x.transcript ≠ [] then s
      else if Config.helloOk hello = false then s.handshakeFails session 6
      else if known = false then s.handshakeFails session 5
      else if Config.helloShare hello = false then (s.putSession session waiting).emit (.tls session 1)
      else if s.resident i.serverKey = false then (s.putSession session waiting).startPageIns [i.serverKey]
      else
        let d := s.draw 80 64
        match d.1 with
        | .bytes bs =>
          let t := hello ++ bs
          (d.2.putSession session { waiting with
            v2 := alpn == 2, transcript := t, rxKey := Config.tlsTrafficKey t 0, txKey := Config.tlsTrafficKey t 1 }).emit
              (.tls session 0)
        | _ => s.putSession session waiting
    | _, _ => s

/-- CLIENT_FINISHED (R391): the chain, its anchor, its dates and the tenant extension, then the client's Finished. Log 47, DEDUCED. -/
def execClientFinished (session : Nat) (chain : List Bytes) (flight : Bytes) (s : State) : Host.Outcome State Fault Refusal :=
  .next <|
    match s.sessionAt session, s.cfg.iface with
    | some x, some i =>
      match x.stage with
      | .handshake _ =>
        let s := s.sessionTraffic session
        if x.transcript = [] then s
        else
          let t := x.transcript ++ flight
          let who := if chain = [] ∨ 3 < chain.length then none
            else Config.tlsClientTenant (chain.flatMap fun c => toLE 4 c.length ++ c) i.anchors i.oid s.calendarNow
          match who with
          | some tenant =>
            if 4096 ≤ tenant ∨ Config.tlsFinishedOk t = false then s.handshakeFails session 6
            else
              let s := if s.adm.calendar.isNone then s.logEvent .interface 14 session 0 else s
              s.putSession session { x with
                stage := .opened, tenant := tenant, transcript := [], rxKey := Config.tlsTrafficKey t 2, rxGen := 0
                txKey := Config.tlsTrafficKey t 3, txGen := 0, traffic := s.now }
          | none => s.handshakeFails session 6
      | _ => s
    | _, _ => s

/-- TLS_KEY_UPDATE (R390): the receive traffic key gives way to the next. -/
def execTlsKeyUpdate (session : Nat) (s : State) : Host.Outcome State Fault Refusal :=
  .next <|
    match s.sessionAt session with
    | some x =>
      if x.stage = .opened then
        s.putSession session { x with rxKey := Config.tlsTrafficKey x.rxKey (x.rxGen + 4), rxGen := x.rxGen + 1, traffic := s.now }
      else s
    | none => s

/-- HANDSHAKE_TIMEOUT (R391): HS_MS after the ClientHello. -/
def execHandshakeTimeout (session : Nat) (s : State) : Host.Outcome State Fault Refusal :=
  .next <|
    match s.sessionAt session with
    | some x =>
      match x.stage with
      | .handshake t =>
        if t + 100000 * (s.cfg.iface.map (·.hsMs)).getD 0 ≤ s.now then s.handshakeFails session 4 else s
      | _ => s
    | none => s

/-- TLS_SESSION_CLOSE (R394). -/
def execTlsSessionClose (session : Nat) (s : State) : Host.Outcome State Fault Refusal := .next (s.dropSession session 3)

/-! ### Loopbacks (R399) -/

/-- The function of R369 that an interface of WHF_LOOP_CTL belongs to; none: a DDR channel. -/
def loopFunction (iface : Nat) : Option Nat :=
  if iface = 0 then some 0x28
  else if iface ≤ 2 then some (0x28 + iface)
  else if iface = 3 then some 0x2B
  else if iface ≤ 7 then some (0x28 + iface)
  else none

/-- The condition of a START (R399). -/
def State.loopAllowed (s : State) (iface depth ms : Nat) : Bool :=
  s.glb.mode == .drydock && decide (iface ≤ 9) && decide (1 ≤ ms) && decide (ms ≤ if 8 ≤ iface then 100 else 10000)
    && decide (depth ≤ if 8 ≤ iface then 1 else 3) && match loopFunction iface with
      | some f => s.pwr.stopped.contains f
      | none => true

/-- LOOPBACK_START (R399): a write of WHF_LOOP_CTL with START, whose other fields are stored whatever runs (R6); a START while a loopback
runs finds the bit set and changes nothing else (R6). The link of the interface is down for the duration. -/
def execLoopbackStart (v : W64) (s : State) : Host.Outcome State Fault Refusal :=
  .next <|
    if s.vis .pf 0x1 ≠ .full then s.refused 0x1 0x10200 0
    else
      let ms := wbits 63 32 v
      let iface := wbits 19 16 v
      let depth := wbits 9 8 v
      let s := { s with wharf := { s.wharf with loopMs := ms, loopIface := iface, loopDepth := depth } }
      if wbit 0 v = false ∨ s.wharf.loop.isSome = true then s
      else if s.loopAllowed iface depth ms = false then { s with wharf := { s.wharf with loopResult := 4 } }
      else
        let s := if 1 ≤ iface ∧ iface ≤ 2 then s.dropSessions fun x => x.port == iface - 1 else s
        let s := if iface = 0 then s.pcieDown else s
        let s := if iface = 3 then { s with wharf := { s.wharf with genA := 0, genB := 0 } } else s
        let s := if 4 ≤ iface ∧ iface ≤ 7 then s.setLink (iface - 4) ((s.linkAt (iface - 4)).fallen .off s.now) else s
        let s := if 8 ≤ iface then s.writeBackAll else s
        let s := { s with wharf := { s.wharf with
          loop := some ⟨s.now, ms, iface, depth⟩, loopResult := 1, loopErrors := 0, loopChecked := 0 } }
        if 1 ≤ iface ∧ iface ≤ 2 then s.ethFollow (iface - 1) else s

/-- The links of the drives that are seated and of the store's mode train (R388, R399). -/
def State.cargoRetrains (s : State) : State :=
  let on := (s.cfg.iface.map (·.cargoEnable)).getD false
  let s := if on && s.mor.driveA.present && decide (s.mor.cargoMode < 2) then s.cargoTrains 0 else s
  if on && s.mor.driveB.present && s.mor.cargoMode == 1 then s.cargoTrains 1 else s

/-- A Broviry link that CLUSTER enables trains (R399, R403). -/
def State.linkRetrains (s : State) (l : Nat) : State :=
  if (s.cfg.cluster.map fun c => s.linkEnabled c l).getD false then s.setLink l { s.linkAt l with st := .training } else s

/-- A loopback ends with a RESULT and the link of its interface retrains (R399). Log 48, DESIGN CHOICE. -/
def State.endLoop (s : State) (result checked errors : Nat) : State :=
  let i := (s.wharf.loop.map (·.iface)).getD 0
  let s := { s with wharf := { s.wharf with
    loop := none, loopResult := result, loopChecked := checked % 2 ^ 32, loopErrors := min errors (2 ^ 16 - 1) } }
  if 1 ≤ i ∧ i ≤ 2 then s.ethFollow (i - 1)
  else if i = 3 then s.cargoRetrains
  else if 4 ≤ i ∧ i ≤ 7 then s.linkRetrains (i - 4)
  else s

/-- LOOPBACK_END (R399): DURATION_MS after the START. -/
def execLoopbackEnd (checked errors : Nat) (s : State) : Host.Outcome State Fault Refusal :=
  .next <|
    match s.wharf.loop with
    | none => s
    | some l =>
      if l.since + 100000 * l.ms ≤ s.now then
        if l.depth = 3 then s.endLoop 5 0 0 else s.endLoop (if errors = 0 then 2 else 3) checked errors
      else s

/-- DRYDOCK_EXIT ends a running loopback (R365, R399); what its checker had found by then is not given (log 20). Log 48, DESIGN CHOICE. -/
def State.stopLoops (s : State) : State :=
  let s := { s with wharf := { s.wharf with partnerLoop := false } }
  match s.wharf.loop with
  | none => s
  | some l =>
    if l.depth = 3 then s.endLoop 5 0 0
    else
      let a := s.freshNat
      let b := a.2.freshNat
      b.2.endLoop (if b.1 = 0 then 2 else 3) a.1 b.1

/-- PARTNER_LOOPBACK (R399): followed by the PCIe endpoint under the conditions of a START at depth 3. -/
def execPartnerLoopback (iface : Nat) (s : State) : Host.Outcome State Fault Refusal :=
  .next <|
    if iface = 0 ∧ s.glb.mode = .drydock ∧ s.pwr.stopped.contains 0x28 = true then
      ({ s with wharf := { s.wharf with partnerLoop := true } }).pcieDown
    else s

end Sys2Proof.Machine
end

