-- ==== Sys2Proof/Machine/Ltp.lean ====
section
/-! DEFINITION. The Lyszo Transaction Protocol (16_wharf_host_interfaces.md R393 to R397; 02_barges_and_rings.md R54 to R56). -/

namespace Sys2Proof.Machine

/-- An open session. -/
def State.openSession (s : State) (n : Nat) : Option Session :=
  match s.sessionAt n with
  | some x => if x.stage = .opened then some x else none
  | none => none

/-- An ERROR message (R396). -/
def State.ltpError (s : State) (n ring code : Nat) : State :=
  ({ s with wharf := { s.wharf with ltpErrors := satAdd 16 s.wharf.ltpErrors 1 } }).emit (.ltp n 0x20 ring code [])

/-- LTP_MALFORMED_MESSAGE (R396): ERROR MALFORMED, and the session is closed. -/
def State.malformed (s : State) (n ring : Nat) : State := (s.ltpError n ring 1).dropSession n 3

/-- LTP_MALFORMED_MESSAGE. -/
def execLtpMalformedMessage (session : Nat) (s : State) : Host.Outcome State Fault Refusal :=
  .next (if (s.openSession session).isSome then s.malformed session 0 else s)

/-! ### Bindings (R55, R56, R394) -/

/-- Bytes of the LTP completion store in use by open rings (R56). -/
def State.storeUsed (s : State) : Nat :=
  ((s.rings.filter fun p => (s.ringCfg p.1).transport == 1 && decide (p.2.st ≠ .closed)).map fun p => 32 * 2 ^ p.2.cqLog).sum

/-- A ring opened by a BIND would fit in the free part of the completion store (R56). -/
def State.storeFits (s : State) (cqLog : Nat) : Bool :=
  decide (s.storeUsed + 32 * 2 ^ cqLog ≤ (s.cfg.mem.map (·.ltpStoreSize)).getD 0)

/-- The credits of a ring (R50, R54). -/
def credits (g : Ring) : Nat := 2 ^ g.cqLog - diff32 g.cqTail g.cqHead - g.inFlight

/-- A BIND_ACK (R393). -/
def State.bindAck (s : State) (n r code : Nat) : State :=
  let g := s.ringAt r
  s.emit (.ltp n 0x02 r code (toLE 4 g.cqHead.toNat ++ toLE 4 g.cqTail.toNat ++ toLE 4 g.creditLimit.toNat))

/-- The completions of a ring from CQ_HEAD onward go to its session (R55, R394). -/
def State.resend (s : State) (n r : Nat) : State :=
  let g := s.ringAt r
  s.emits ((List.range g.store.length).filterMap fun i => g.store[i]?.map fun (x : Comp × Option Bytes × Nat × Bool) =>
    Emit.ltp n 0x11 r 0 (ltpCompBody x.1 (phaseOf (g.cqHead.toNat + i) g.cqLog) x.2.1 x.2.2.2))

/-- A ring is bound to a session (R394): the session that held it is told, and the new one receives the store. -/
def State.bindTo (s : State) (n r : Nat) : State :=
  let g := s.ringAt r
  let s := match g.bound with
    | some m => if m = n then s else s.emit (.ltp m 0x04 r 0 [])
    | none => s
  let s := s.setRing r { g with bound := some n, received := 0, creditLimit := BitVec.ofNat 32 (credits g) }
  (s.bindAck n r 0).resend n r

/-- BIND (R394). -/
def execBind (session ring cqLog : Nat) (s : State) : Host.Outcome State Fault Refusal :=
  .next <|
    match s.openSession session with
    | none => s
    | some x =>
      let s := s.sessionTraffic session
      let c := s.ringCfg ring
      let g := s.ringAt ring
      if (Tbl.find ring s.cfg.rings).isNone ∨ c.transport ≠ 1 then s.bindAck session ring 1
      else if c.tenant ≠ x.tenant then s.bindAck session ring 2
      else match g.st with
        | .draining => s.bindAck session ring 4
        | .closed =>
          let s' := (s.setRing ring { g with cqLog := cqLog, store := [] }).openRing ring
          if s.storeFits cqLog ∧ (s'.ringAt ring).st = .opened then s'.bindTo session ring else s.bindAck session ring 3
        | _ => s.bindTo session ring

/-- UNBIND (R394). -/
def execUnbind (session ring : Nat) (close : Bool) (s : State) : Host.Outcome State Fault Refusal :=
  .next <|
    let s := s.sessionTraffic session
    let g := s.ringAt ring
    if g.bound = some session then
      let s := s.setRing ring { g with bound := none }
      if close ∧ g.st ≠ .closed ∧ g.st ≠ .draining then s.closeRing ring else s
    else s

/-! ### Barges (R54, R395, R397) -/

/-- A completion that was never admitted: RING_CLOSED at once (R54). -/
def State.ringClosed (s : State) (n r : Nat) (b : Barge) (v1 : Bool) : State :=
  let c := { failComp b.seq stRingClosed with time := s.now % 2 ^ 32 }
  s.emit (.ltp n 0x11 r 0 (ltpCompBody c (phaseOf (s.ringAt r).cqTail.toNat (s.ringAt r).cqLog) none v1))

/-- The client holds a credit: it has sent fewer barges since the BIND than the limit (R395). -/
def hasCredit (g : Ring) : Bool := decide (0 < diff32 g.creditLimit g.received) && decide (diff32 g.creditLimit g.received < 2 ^ 31)

/-- A barge of a bound ring with its input (R54, R395): a credit, the input's length, then the ring's state. Log 47, DEDUCED. -/
def State.ltpArrive (s : State) (n r : Nat) (b : Barge) (input : Bytes) (lengthOk v1 : Bool) : State :=
  let g := s.ringAt r
  if g.bound ≠ some n then s.ltpError n r 2
  else if hasCredit g = false then s.ltpError n r 3
  else
    let g := { g with received := g.received + 1 }
    let s := s.setRing r g
    if lengthOk = false ∨ input.length ≠ (if b.buf then b.inLen else 0) then s.ltpError n r 5
    else if g.st ≠ .opened then s.ringClosed n r b v1
    else s.setRing r { g with port := g.port ++ [⟨b, if b.buf then some input else none, v1⟩] }

/-- LTP_BARGE (R395): on a v2 session. -/
def execLtpBarge (session ring : Nat) (barge input : Bytes) (s : State) : Host.Outcome State Fault Refusal :=
  .next <|
    match s.openSession session with
    | none => s
    | some x =>
      let s := s.sessionTraffic session
      if x.v2 = false then s
      else if barge.length < 64 ∨ 16777216 < input.length then s.malformed session ring
      else
        let b := bargeOfBytes barge
        s.ltpArrive session ring b input (barge.length == 64 + 64 * b.lighters) false

/-- The barge a v1 descriptor stands for (R397), with the ring's H. -/
def v1Barge (h : Nat) (d params : Bytes) : Barge :=
  let plen := le 3 1 d
  let buf := bitOf 0 (le 2 1 d)
  let lights := ceilDiv plen 8
  { opcode := le 0 2 d
    flags := lights + (if buf then 4 else 0)
    format := 0x02
    seq := (h * 65536 + le 4 2 d) % 2 ^ 32
    deadline := 100 * le 6 2 d
    permit := le 24 4 d
    h0 := le 8 8 d
    h1 := le 16 8 d
    h2 := 0
    p0 := 0
    p1 := 0
    p2 := if buf then BitVec.ofNat 64 (2 ^ 48 + le 28 4 d) else 0
    lights := fixLen (64 * lights) params }

/-- LTP_V1_BARGE (R397): on a v1 session. H rises with each SEQ16 below the one before it on the ring. -/
def execLtpV1Barge (session ring : Nat) (descriptor params input : Bytes) (s : State) : Host.Outcome State Fault Refusal :=
  .next <|
    match s.openSession session with
    | none => s
    | some x =>
      let s := s.sessionTraffic session
      let d := fixLen 32 descriptor
      if x.v2 then s
      else if 2 ≤ le 2 1 d ∨ 24 < le 3 1 d ∨ params.length ≠ 8 * le 3 1 d ∨ 65536 < le 28 4 d then s.malformed session ring
      else
        let g := s.ringAt ring
        if g.bound ≠ some session then s.ltpError session ring 2
        else if hasCredit g = false then s.ltpError session ring 3
        else
          let q := le 4 2 d
          let h := match g.v1Last with
            | some last => if q < last then (g.v1High + 1) % 65536 else g.v1High
            | none => g.v1High
          let s := s.setRing ring { g with v1High := h, v1Last := some q }
          s.ltpArrive session ring (v1Barge h d params) input true true

/-- LTP_ACK (R48, R395): CQ_HEAD advances, the store and its output pool are freed, and the credits go out in a CREDIT message. -/
def execLtpAck (session ring : Nat) (head : W32) (s : State) : Host.Outcome State Fault Refusal :=
  .next <|
    match s.openSession session with
    | none => s
    | some _ =>
      let s := s.sessionTraffic session
      let g := s.ringAt ring
      if g.bound ≠ some session then s.ltpError session ring 2
      else match cqReject g head with
        | some _ => s.ltpError session ring 4
        | none =>
          let n := diff32 head g.cqHead
          if n = 0 then s
          else
            let limit := g.creditLimit + BitVec.ofNat 32 n
            (s.setRing ring { g with cqHead := head, store := g.store.drop n, creditLimit := limit }).emit
              (.ltp session 0x13 ring limit.toNat [])

/-- LTP_ABORT (R57, R393): ARG as RING_ABORT. -/
def execLtpAbort (session ring : Nat) (arg : W64) (s : State) : Host.Outcome State Fault Refusal :=
  .next <|
    match s.openSession session with
    | none => s
    | some _ =>
      let s := s.sessionTraffic session
      if (s.ringAt ring).bound ≠ some session then s.ltpError session ring 2
      else s.abortWhere fun e => decide (e.ring = ring) && e.origin.isNone && (wbit 63 arg || decide (e.b.seq = wbits 31 0 arg))

end Sys2Proof.Machine
end

