-- ==== Sys2Proof/Machine/Broviry.lean ====
section
/-! DEFINITION. Broviry links and clusters (17_broviry_cluster.md R401 to R422): link frames and their retry, link-up and pair keys,
membership and the bucket map, forwarding, replication, loss, joining, leaving and time alignment. The payloads of control frames
are the model's own (notes/assumptions/29.md). -/

namespace Sys2Proof.Machine

/-! ### Topology and reachability (R404, R408, R416) -/

/-- The device at the other end of a link of device `c.index` (R404). Log 29, DESIGN CHOICE. -/
def neighbourOf (c : ClusterCfg) (l : Nat) : Option Nat :=
  let x := c.index % c.x
  let y := c.index / c.x
  let wraps := c.kind ≠ 0
  match l with
  | 0 => if x + 1 < c.x ∨ wraps then some (y * c.x + (x + 1) % c.x) else none
  | 1 => if 0 < x ∨ wraps then some (y * c.x + (x + c.x - 1) % c.x) else none
  | 2 => if c.kind = 2 then some ((y + 1) % c.y * c.x + x) else none
  | 3 => if c.kind = 2 then some ((y + c.y - 1) % c.y * c.x + x) else none
  | _ => none

/-- The link at the far end of a link: 0 and 1, 2 and 3 face each other (R404). -/
def facing (l : Nat) : Nat := if l % 2 = 0 then l + 1 else l - 1

/-- Device b is one hop from device a over a link not known to be down (R404, R416). -/
def State.hop (s : State) (c : ClusterCfg) (a b : Nat) : Bool :=
  (List.range 4).any fun l => neighbourOf { c with index := a } l == some b && !s.brv.cut.contains (a, l)
    && !s.brv.cut.contains (b, facing l)

/-- The devices of a list that a reached set comes to in at most `fuel` hops (R416). -/
def State.reach (s : State) (c : ClusterCfg) (alive : List Nat) : Nat → List Nat → List Nat
  | 0, seen => seen
  | fuel + 1, seen =>
    let more := alive.filter fun d => !seen.contains d && seen.any fun a => s.hop c a d
    if more = [] then seen else s.reach c alive fuel (seen ++ more)

/-- The members, in index order. -/
def State.members (s : State) : List Nat := (List.range 64).filter s.isMember

/-- The members of this device's part: those it can reach (R408, R416). -/
def State.part (s : State) (c : ClusterCfg) : List Nat := s.reach c s.members 64 [c.index]

/-- A part continues (R408): it holds more than half of the members, or exactly half with the lowest-numbered. -/
def continues (part members : List Nat) : Bool :=
  decide (members.length < 2 * part.length)
    || (decide (2 * part.length = members.length) && members.head?.any fun d => part.contains d)

/-- The lowest-numbered head among some devices: their coordinator (R408). -/
def lowestHead (c : ClusterCfg) (ds : List Nat) : Option Nat := (List.range 64).find? fun d => c.heads.contains d && ds.contains d

/-! ### Map updates (R408) -/

/-- A 64-bit device mask. -/
def maskOf (ds : List Nat) : Nat := (List.range 64).foldl (fun m d => if ds.contains d then m + 2 ^ d else m) 0

/-- The devices of a mask. -/
def devsOf (m : Nat) : List Nat := (List.range 64).filter fun d => bitOf d m

/-- The payload of a map update. Log 29, DESIGN CHOICE. -/
def MapUpdate.payload (u : MapUpdate) : Bytes :=
  [0] ++ toLE 8 u.tick ++ toLE 8 (maskOf u.lost) ++ toLE 8 (maskOf u.leaving) ++ toLE 8 (maskOf u.joined)
    ++ toLE 2 ((u.resynced.head?).getD 0xFFFF)

/-- The map update a payload holds. Log 29, DESIGN CHOICE. -/
def updateOf (p : Bytes) : MapUpdate where
  tick := le 1 8 p
  lost := devsOf (le 9 8 p)
  leaving := devsOf (le 17 8 p)
  joined := devsOf (le 25 8 p)
  resynced := if le 33 2 p = 0xFFFF then [] else [le 33 2 p]

/-- A control message to every other member. -/
def State.tellMembers (s : State) (payload : Bytes) : State :=
  s.otherMembers.foldl (fun (s : State) d => s.sendTo 0x03 0 d payload) s

/-- The coordinator decides a change of membership or map (R408): its switch tick is 2,000 ticks on, and every member is told. -/
def State.decide_ (s : State) (u : MapUpdate) : State :=
  let u := { u with tick := s.now + 2000 }
  let s := { s with brv := { s.brv with updates := s.brv.updates ++ [u] } }
  let to_ := (s.members ++ u.joined).filter fun d => d != s.index && !u.lost.contains d
  (to_.foldl (fun (s : State) d => s.sendTo 0x03 0 d u.payload) s).logEvent .interface 20 (maskOf u.lost) (maskOf u.joined)

/-- A device is already named by a decided change. -/
def State.deciding (s : State) (d : Nat) : Bool :=
  s.brv.updates.any fun u => u.lost.contains d || u.leaving.contains d || u.joined.contains d

/-- The coordinator declares devices lost (R416). -/
def State.declareLost (s : State) (ds : List Nat) : State :=
  match ds.filter fun d => s.isMember d && !s.deciding d with
  | [] => s
  | ds => s.decide_ ⟨ds, [], [], [], 0⟩

/-- What a change of the known links means (R408, R416): a part that may not continue withdraws; the coordinator of one that continues
declares the unreachable members lost. -/
def State.reactToCut (s : State) : State :=
  match s.cfg.cluster with
  | none => s
  | some c =>
    let part := s.part c
    let gone := s.members.filter fun d => !part.contains d
    if s.brv.st ≠ .member ∨ gone = [] then s
    else if continues part s.members = false then s.withdraw
    else if lowestHead c part = some c.index then s.declareLost gone
    else s

/-! ### Links down and up (R402, R403, R292) -/

/-- A link goes down for a reason of BRV_LINK (R402, R403, R292). -/
def State.linkDown (s : State) (l reason : Nat) : State :=
  let k := s.linkAt l
  if k.st = .up ∨ k.st = .stopped then
    let s := s.setLink l { k.fallen .down s.now with reason := reason, downs := satAdd 16 k.downs 1 }
    let s := s.logEvent .interface 21 l reason
    let s := { s with brv := { s.brv with cut := s.brv.cut ++ [(s.index, l)] } }
    (s.tellMembers [2, BitVec.ofNat 8 s.index, BitVec.ofNat 8 l]).reactToCut
  else s

/-- A link of which a direction has reached 2^48 frames goes down for a fresh link-up (R292). -/
def State.wornLinks (s : State) : State :=
  (s.brv.links.filter fun p => decide (2 ^ 48 ≤ p.2.rxCtr) || decide (2 ^ 48 ≤ p.2.txCtr)).foldl (fun (s : State) p => s.linkDown p.1 9) s

/-- The links and pair keys of a device that enters DORMANT or HALT (R293, R407, R420): zeroed, links OFF. -/
def State.linksOff (s : State) : State :=
  { s with brv := { s.brv with
    links := s.brv.links.map fun (p : Nat × BLink) => (p.1, { p.2.fallen .off s.now with waiting := [] })
    pairs := [], ports := [] } }

/-- NAK_RECEIVED (R402): the frames before the LSEQ named are acknowledged and the others are sent again with their ciphertext; after 8
failed replays in a row the link goes down. -/
def execNakReceived (link lseq : Nat) (s : State) : Host.Outcome State Fault Refusal :=
  .next <|
    let k := s.linkAt link
    if k.st = .up ∨ k.st = .stopped then
      if 8 ≤ k.replays then s.linkDown link 6
      else
        let left := k.unacked.dropWhile fun p => p.1.lseq != lseq
        let left := if left = [] then k.unacked else left
        let s := s.setLink link { k with unacked := left, replays := k.replays + 1, retries := satAdd 16 k.retries 1 }
        s.emits (left.map fun p => Emit.frame link p.1)
    else s

/-- Acknowledgements of every frame before an LSEQ free their places in the replay buffer (R402). -/
def State.linkAcked (s : State) (l lseq : Nat) : State :=
  let k := s.linkAt l
  if k.txSeq = lseq ∨ k.unacked.any fun p => p.1.lseq == lseq then
    let left := if k.txSeq = lseq then [] else k.unacked.dropWhile fun p => p.1.lseq != lseq
    let s := s.setLink l { k with unacked := left, replays := if left.length < k.unacked.length then 0 else k.replays }
    s.pumpLink l (k.waiting.length)
  else s

/-! ### The bucket map (R409, R416, R418, R421) -/

/-- The founding home of a bucket. -/
def foundingHome (n b : Nat) : Nat := b % n
/-- The founding replica of a bucket. -/
def foundingReplica (n b : Nat) : Nat := (b % n + 1) % n

/-- A bucket when device d is lost or leaves (R416, R421): homed there it fails over to its replica, replicated there it is DEGRADED;
with no holder left it is UNAVAILABLE; a resync ends with its returning device. -/
def Bucket.lose (k : Bucket) (n b d : Nat) : Bucket :=
  if k.home = d then
    if k.replica ≠ 0xFF ∧ k.replica ≠ d then ⟨k.replica, 0xFF, .failedOver⟩ else ⟨0xFF, 0xFF, .unavailable⟩
  else if k.replica = d then ⟨k.home, 0xFF, .degraded⟩
  else if k.st = .resync ∧ (d = foundingHome n b ∨ d = foundingReplica n b) then
    ⟨k.home, 0xFF, if k.home = foundingHome n b then .degraded else .failedOver⟩
  else k

/-- A bucket when device d joins (R418): one it founded and another holds enters RESYNC. -/
def Bucket.join (k : Bucket) (n b d : Nat) : Bucket :=
  if (d = foundingHome n b ∨ d = foundingReplica n b) ∧ k.home ≠ d ∧ (k.st = .failedOver ∨ k.st = .degraded) then
    { k with st := .resync }
  else k

/-- A bucket whose stream has ended is NORMAL again (R418). -/
def Bucket.synced (k : Bucket) (n b : Nat) : Bucket :=
  if k.st = .resync then ⟨foundingHome n b, foundingReplica n b, .normal⟩ else k

/-- The founding map of n devices (R409). -/
def foundingMap (n : Nat) : Tbl Bucket := (List.range 4096).map fun b => (b, ⟨foundingHome n b, foundingReplica n b, .normal⟩)

/-- The map after an update. -/
def mapAfter (n : Nat) (u : MapUpdate) (m : Tbl Bucket) : Tbl Bucket :=
  m.map fun p =>
    let k := (u.lost ++ u.leaving).foldl (fun (k : Bucket) d => k.lose n p.1 d) p.2
    let k := if u.resynced.contains p.1 then k.synced n p.1 else k
    (p.1, u.joined.foldl (fun (k : Bucket) d => k.join n p.1 d) k)

/-- Commits that waited only for lost devices commit alone (R414): a bucket's commit counts as degraded. -/
def State.replicasLost (s : State) (ds : List Nat) : State :=
  let gone := s.brv.awaiting.filter fun p => ds.contains p.2
  let left := s.brv.awaiting.filter fun p => !ds.contains p.2
  let alone := (gone.map Prod.fst).filter fun c => !(left.map (·.1.number)).contains c.number
  let s := { s with brv := { s.brv with awaiting := left } }
  (alone.eraseDups).foldl (fun (s : State) c =>
    let s := if c.replicated then s else { s with brv := { s.brv with degradedCount := satAdd 16 s.brv.degradedCount 1 } }
    s.gather c) s

/-- Devices no longer asked by barges that ask every member (R411, R415). -/
def State.forgetAsked (s : State) (ds : List Nat) : State :=
  { s with lkm := { s.lkm with tbl := s.lkm.tbl.map fun (p : Nat × Entry) =>
    (p.1, { p.2 with asked := p.2.asked.map fun a => (a.1.filter fun d => !ds.contains d, a.2) }) } }

/-- A map update is applied in its switch tick (R408, R409, R416 to R418, R421). The first update of a cluster founds it. -/
def State.switchMap (s : State) (c : ClusterCfg) (u : MapUpdate) : State :=
  let n := c.x * c.y
  let away := u.lost ++ u.leaving
  let live := (s.members.filter fun d => !away.contains d) ++ u.joined
  let founding := decide (s.brv.mapVersion = 0)
  let map := if founding then
      mapAfter n { u with joined := [], lost := (List.range n).filter fun d => !live.contains d, leaving := [] } (foundingMap n)
    else mapAfter n u s.brv.map
  let st := if u.joined.contains c.index then Member.member else if u.leaving.contains c.index then .left else s.brv.st
  let s := { s with brv := { s.brv with
    mapVersion := (s.brv.mapVersion + 1) % 2 ^ 16
    map := map
    live := BitVec.ofNat 64 (maskOf live)
    coord := (lowestHead c live).getD 0xFF
    st := st
    linked := []
    pairs := s.brv.pairs.filter fun p => !away.contains p.1
    fwdUsed := s.brv.fwdUsed.filter fun p => !u.lost.contains p.1
    settle := if u.lost = [] then s.brv.settle else some (s.now, u.lost) } }
  let s := (s.replicasLost away).forgetAsked away
  let s := s.logEvent .interface 22 s.brv.mapVersion (maskOf live)
  if u.lost.contains c.index then s.withdraw else s

/-- A forwarded barge was on its way to a lost device, or through one (R417). -/
def State.viaLost (s : State) (ds : List Nat) (home : Nat) : Bool :=
  match s.cfg.cluster with
  | none => false
  | some c => ds.contains home || (wayTo c home 32 c.index).any fun d => ds.contains d

/-- The barges forwarded to lost devices end DEVICE_LOST in the tick after the switch (R417). -/
def State.settleLost (s : State) (ds : List Nat) : State :=
  let is := (s.lkm.tbl.filter fun p => match p.2.ph with
    | .forwarded h => s.viaLost ds h
    | _ => false).map Prod.fst
  let s := { s with brv := { s.brv with settle := none } }
  is.foldl (fun (s : State) i =>
    match s.entryAt i with
    | none => s
    | some e =>
      ({ s with brv := { s.brv with lostCount := satAdd 16 s.brv.lostCount 1 } }).finish i
        { failComp e.b.seq stDeviceLost with forwarded := true } none) s

/-- The barges of the last switch are settled once its tick has passed (R417). -/
def State.settled (s : State) : State :=
  match s.brv.settle with
  | some (t, ds) => if t < s.now then s.settleLost ds else s
  | none => s

/-- MAP_SWITCH (R408, R417): barges of the last switch are settled once its tick has passed; a map update is applied at its switch
tick. A withdrawn device stays as it is. -/
def execMapSwitch (s : State) : Host.Outcome State Fault Refusal :=
  .next <|
    let s := s.settled
    match s.cfg.cluster, s.brv.updates with
    | some c, u :: rest =>
      if u.tick ≤ s.now ∧ s.brv.st ≠ .withdrawn then
        ({ s with brv := { s.brv with updates := rest } }).switchMap c u
      else s
    | _, _ => s

/-- HALT_NOTICE_RECEIVE (R416): the coordinator, or the next head in line, declares the device lost; any other device passes the notice
on. -/
def execHaltNoticeReceive (dev : Nat) (withdraw : Bool) (s : State) : Host.Outcome State Fault Refusal :=
  .next <|
    match s.cfg.cluster with
    | none => s
    | some c =>
      if s.brv.st ≠ .member ∨ s.isMember dev = false then s
      else match lowestHead c (s.members.filter (· != dev)) with
        | none => s
        | some h =>
          if h = c.index then s.declareLost [dev]
          else s.sendTo 0x04 0 h [BitVec.ofNat 8 dev, if withdraw then 1 else 0]

/-- A device asks to leave before it stops admission (R421): refused while it alone holds a bucket; else the leave is decided, or asked of
the coordinator. -/
def State.askLeave (s : State) : Bool × State :=
  match s.cfg.cluster with
  | none => (true, s)
  | some c =>
    if s.brv.st ≠ .member then (true, s)
    else if s.brv.map.any fun p => p.2.home == c.index && (p.2.replica == 0xFF || !s.isMember p.2.replica) then (false, s)
    else if s.brv.coord = c.index then (true, s.decide_ ⟨[], [c.index], [], [], 0⟩)
    else (true, s.sendTo 0x04 0 s.brv.coord [BitVec.ofNat 8 c.index, 2])

/-! ### Joining (R408, R418) -/

/-- A head that more than half of the devices, itself included, have linked to decides the formation, once, if it is the lowest-numbered
head among them (R408). Log 29, DESIGN CHOICE. -/
def State.tryForm (s : State) (c : ClusterCfg) : State :=
  let ds := ((c.index :: s.brv.linked).eraseDups).filter fun d => decide (d < c.x * c.y)
  if s.brv.st = .forming ∧ lowestHead c ds = some c.index ∧ c.x * c.y < 2 * ds.length ∧ s.brv.updates = [] then
    s.decide_ ⟨[], [], ds, [], 0⟩
  else s

/-- The map in frames of 80 buckets, and the version, members and coordinator, for a device that joins (R418). -/
def State.sendMap (s : State) (d : Nat) : State :=
  let s := (List.range 52).foldl (fun (s : State) i =>
    let ks := (List.range 80).map fun j => s.bucketAt (80 * i + j)
    s.sendTo 0x03 0 d ([4] ++ toLE 2 (80 * i) ++ ks.flatMap fun k => toLE 1 k.home ++ toLE 1 k.replica ++ toLE 1 k.st.code)) s
  s.sendTo 0x03 0 d ([5] ++ toLE 2 s.brv.mapVersion ++ toLE 8 s.brv.live.toNat ++ toLE 1 s.brv.coord)

/-- The bucket state of a code. -/
def bucketState : Nat → BucketState
  | 0 => .normal
  | 1 => .failedOver
  | 2 => .degraded
  | 3 => .resync
  | _ => .unavailable

/-- The buckets of one frame of the map. Log 29, DESIGN CHOICE. -/
def mapPart (p : Bytes) : List (Nat × Bucket) :=
  (List.range 80).filterMap fun j =>
    let b := le 1 2 p + j
    if b < 4096 then some (b, ⟨le (3 + 3 * j) 1 p, le (4 + 3 * j) 1 p, bucketState (le (5 + 3 * j) 1 p)⟩) else none

/-- A device has linked up, or asks to join (R408, R418). -/
def State.heardFrom (s : State) (c : ClusterCfg) (d : Nat) (joins : Bool) : State :=
  if s.brv.st = .forming then ({ s with brv := { s.brv with linked := (s.brv.linked ++ [d]).eraseDups } }).tryForm c
  else if s.brv.st = .member ∧ s.brv.coord = c.index ∧ joins = true ∧ s.isMember d = false ∧ s.deciding d = false then
    (s.sendMap d).decide_ ⟨[], [], [d], [], 0⟩
  else s

/-- The keys a device founded are discarded when it joins (R418): the other holder streams them again. -/
def State.discardFounded (s : State) (c : ClusterCfg) : State :=
  let n := c.x * c.y
  let mine (h : Nat) : Bool := foundingHome n (bucketOf h) == c.index || foundingReplica n (bucketOf h) == c.index
  let s := { s with mor := { s.mor with
    store := s.mor.store.filter fun p => !mine p.1
    base := s.mor.base.filter fun p => !mine p.1
    cache := s.mor.cache.filter fun r => !mine r.krec.label.handle
    moorings := s.mor.moorings.filter fun p => !mine p.2.krec.label.handle } }
  s.killSlots (fun l => mine l.handle)

/-- A device tells the heads that it has linked up, or asks to join (R408, R418). -/
def State.tellHeads (s : State) (c : ClusterCfg) (joins : Bool) : State :=
  (c.heads.filter (· != c.index)).foldl (fun (s : State) h =>
    s.sendTo 0x30 0 h [BitVec.ofNat 8 c.index, if joins then 1 else 0]) s

/-- CLUSTER_JOIN (R418): a device in LAUNCH, or back from DORMANT or DRYDOCK, joins through the coordinator. -/
def execClusterJoin (s : State) : Host.Outcome State Fault Refusal :=
  .next <|
    match s.cfg.cluster with
    | none => s
    | some c =>
      if s.brv.st = .forming ∨ s.brv.st = .joining ∨ s.brv.st = .left then
        let s := { s.discardFounded c with brv := { s.brv with st := .joining, linked := [], updates := [] } }
        s.tellHeads c true
      else s

/-- RESYNC_COMPLETE (R418): the holder's stream of a bucket has ended; the coordinator's next map update returns it to NORMAL. -/
def execResyncComplete (bucket : Nat) (s : State) : Host.Outcome State Fault Refusal :=
  .next <|
    let k := s.bucketAt bucket
    if s.brv.st ≠ .member ∨ k.st ≠ .resync then s
    else if s.brv.coord = s.index then
      if s.brv.updates.any fun u => u.resynced.contains bucket then s else s.decide_ ⟨[], [], [], [bucket], 0⟩
    else if k.home = s.index then s.sendTo 0x03 0 s.brv.coord ([1] ++ toLE 2 bucket)
    else s

/-! ### Link-up (R406, R419) and pair keys (R407) -/

/-- The record digest (R405): SHAKE256-256 of the CLUSTER body with INDEX 0. -/
def clusterDigest (c : ClusterCfg) : Bytes := Config.shake256 (splice 3 [0] c.body) 32

/-- A link-up message of step 2 (R406). -/
def helloBytes (index : Nat) (digest : Bytes) (family dtime : Nat) (nonce x : Bytes) : Bytes :=
  Config.linkHello [index, family, dtime] [digest, nonce, x]

/-- The transcript digest of both step 2 messages, the lower index's first (R406). -/
def transcript (i : Nat) (a : Bytes) (j : Nat) (b : Bytes) : Bytes :=
  Config.shake256 (if i < j then Config.linkHello [] [a, b] else Config.linkHello [] [b, a]) 64

/-- Steps 2 and 3 of R406 with a device: what was sent, and the failure reason or the shared secret and the transcript digest. None:
random data is awaited. -/
def State.attest (s : State) (c : ClusterCfg) (expect : Option Nat) (p : PeerHello) :
    Option ((Bytes × Bytes) × (Nat ⊕ (Bytes × Bytes))) × State :=
  let d := s.draw 88 88
  match d.1 with
  | .bytes bs =>
    let s := d.2
    let priv := slice 32 56 bs
    let mine := helloBytes c.index (clusterDigest c) s.root.family s.now (slice 0 32 bs) (Config.x448Public priv)
    let theirs := helloBytes p.index p.digest p.family p.dtime p.nonce p.x448
    let t := transcript c.index mine p.index theirs
    let sent := (mine, s.devIdKey ++ s.root.aliasCert ++ s.aliasSign (ascii "LT7200 Broviry") t)
    let res : Nat ⊕ (Bytes × Bytes) :=
      if p.digest ≠ clusterDigest c ∨ p.family ≠ s.root.family ∨ expect ≠ some p.index then .inl 4
      else if p.aliasCertOk = false ∨ Config.ed448Verify p.aliasKey (ascii "LT7200 Broviry") t p.signature = false then .inl 2
      else if c.devIds[p.index]? ≠ some (Config.shake256 p.devId 8) then .inl 3
      else .inr (Config.x448 priv p.x448, t)
    (some (sent, res), s)
  | _ => (none, s)

/-- A link-up attempt fails for a reason of BRV_LINK (R406). -/
def State.attemptFails (s : State) (l reason : Nat) : State :=
  (s.setLink l { s.linkAt l with st := .down, reason := reason, downFrom := s.now }).logEvent .interface 23 l reason

/-- The time check of step 5 (R419): of a member and a joining device, the joining one may be ahead by at most 10 s. -/
def State.timeAhead (s : State) (p : PeerHello) : Bool :=
  (decide (s.brv.st = .member) && decide (s.now + 1000000000 < p.dtime))
    || (decide (s.brv.st = .joining) && decide (p.dtime + 1000000000 < s.now))

/-- A founder or joining device behind its partner jumps forward; a joining one ahead holds until it is caught up (R419). -/
def State.alignTime (s : State) (p : PeerHello) : State :=
  if s.brv.st = .forming ∨ s.brv.st = .joining then
    if s.now < p.dtime then { s with clock := { s.clock with dtime := p.dtime } }
    else if s.brv.st = .joining then { s with clock := { s.clock with hold := s.now - p.dtime } }
    else s
  else s

/-- The link's keys and counters after step 4 of R406: the lower index transmits under bytes 0 to 95. -/
def BLink.keyed (k : BLink) (lower : Bool) (keys : Bytes) (peer now : Nat) (st : LinkState) : BLink :=
  { k with
    st := st, peer := peer, heartbeat := now, replays := 0
    txKeys := slice (if lower then 0 else 96) 96 keys
    rxKeys := slice (if lower then 96 else 0) 96 keys
    txCtr := 0, rxCtr := 0, txSeq := 0, rxSeq := 0, unacked := [] }

/-- The link is UP, or STOPPED with its function (R406, R422). -/
def State.keyLink (s : State) (l : Nat) (lower : Bool) (keys : Bytes) (peer : Nat) : State :=
  let st := if s.pwr.stopped.contains (0x2C + l) then LinkState.stopped else LinkState.up
  s.setLink l ((s.linkAt l).keyed lower keys peer s.now st)

/-- The link of a device is no longer known to be down (R416). -/
def State.mend (s : State) (d l : Nat) : State :=
  { s with brv := { s.brv with cut := s.brv.cut.filter fun x => !(x == (d, l)) } }

/-- What follows a link-up: what waited is sent, members hear of it, and a cluster that forms counts the device (R408).
Log 29, DESIGN CHOICE. -/
def State.linkLive (s : State) (c : ClusterCfg) (l peer : Nat) : State :=
  let s := (s.mend c.index l).logEvent .interface 24 l peer
  let s := s.pumpLink l (s.linkAt l).waiting.length
  let s := s.tellMembers [3, BitVec.ofNat 8 c.index, BitVec.ofNat 8 l]
  let s := s.heardFrom c peer false
  match s.brv.st with
  | .forming => s.tellHeads c false
  | _ => s

/-- Steps 4 and 5 of R406: the time check, the keys, and the link is up. -/
def State.linkUp (s : State) (c : ClusterCfg) (l : Nat) (p : PeerHello) (z t : Bytes) : State :=
  if s.timeAhead p then s.attemptFails l 5
  else
    let keys := Config.kmac256 z t 1536 (ascii "LT7200-BROVIRY")
    ((s.alignTime p).keyLink l (decide (c.index < p.index)) keys p.index).linkLive c l p.index

/-- LINK_UP_ATTEMPT (R406): steps 1 to 5. -/
def execLinkUpAttempt (link : Nat) (trained : Bool) (peer : PeerHello) (s : State) : Host.Outcome State Fault Refusal :=
  .next <|
    match s.cfg.cluster with
    | none => s
    | some c =>
      if (s.linkAt link).st ≠ .training ∨ s.linkEnabled c link = false then s
      else if trained = false then s.attemptFails link 1
      else
        let a := s.attest c (neighbourOf c link) peer
        match a.1 with
        | none => s
        | some (sent, .inl reason) => (a.2.emit (.hello false link sent.1 sent.2)).attemptFails link reason
        | some (sent, .inr zt) => (a.2.emit (.hello false link sent.1 sent.2)).linkUp c link peer zt.1 zt.2

/-- LINK_UP_RETRY (R403): 1 ms after a link went down, while its function is RUNNING, the link trains again. -/
def execLinkUpRetry (link : Nat) (s : State) : Host.Outcome State Fault Refusal :=
  .next <|
    match s.cfg.cluster with
    | none => s
    | some c =>
      let k := s.linkAt link
      if k.st = .down ∧ k.downFrom + 100000 ≤ s.now ∧ s.linkEnabled c link = true ∧ s.pwr.stopped.contains (0x2C + link) = false then
        s.setLink link { k with st := .training }
      else s

/-- A commit that carries no outcome: a resync record or a copied table (R418). -/
def State.streamCommit (s : State) (changes : List Change) : Commit where
  number := 0
  epoch := s.pwr.epoch
  head := s.index
  ring := 0
  seq := 0
  opcode := 0
  handle := 0
  time := s.now
  tenant := 0
  barge := none
  changes := changes
  sectors := commitSectors changes 0
  logWords := 0
  replicated := true
  ack := none
  joined := 0

/-- The records a holder streams to a returning device, and the tables the coordinator copies to it (R418), each sealed (R407). -/
def State.streamTo (s : State) (d : Nat) : State :=
  let n := s.clusterN
  let keys := s.mor.store.filterMap fun p =>
    let b := bucketOf p.1
    let k := s.bucketAt b
    if k.st = .resync ∧ k.home = s.index ∧ (foundingHome n b = d ∨ foundingReplica n b = d) then
      some (match p.2 with
        | .key ls => Change.put ls
        | .tombstone => Change.delete p.1)
    else none
  let tables := if s.brv.coord = s.index then
      s.adm.tenants.map (fun p => Change.tenant p.1 p.2) ++ s.adm.officers.map (fun p => Change.officer p.1 p.2)
    else []
  (tables ++ keys).foldl (fun (s : State) ch =>
    let r := s.sealFor d (s.commitBytes (s.streamCommit [ch]))
    r.2.sendTo 0x20 1 d r.1) s

/-- PAIR_KEY_AGREE (R407): a member agrees a pair key with another live device; records wait for it. -/
def execPairKeyAgree (dev : Nat) (peer : PeerHello) (s : State) : Host.Outcome State Fault Refusal :=
  .next <|
    match s.cfg.cluster with
    | none => s
    | some c =>
      if s.brv.st ≠ .member ∨ s.isMember dev = false ∨ dev = c.index then s
      else
        let a := s.attest c (some dev) peer
        match a.1 with
        | none => s
        | some (sent, .inl reason) => (a.2.emit (.hello true dev sent.1 sent.2)).logEvent .interface 25 dev reason
        | some (sent, .inr (z, t)) =>
          let s := a.2.emit (.hello true dev sent.1 sent.2)
          let s := { s with brv := { s.brv with
            pairs := Tbl.put dev (fixLen 32 (Config.kmac256 z t 256 (ascii "LT7200-PAIR"))) s.brv.pairs
            pairCtr := Tbl.put dev 0 s.brv.pairCtr } }
          s.streamTo dev

/-! ### Heartbeats and time (R403, R419) -/

/-- The links that are up; a STOPPED function's link still carries heartbeats and time sync (R422). -/
def State.linksUp (s : State) : List Nat :=
  (List.range 4).filter fun l => decide ((s.linkAt l).st = .up) || decide ((s.linkAt l).st = .stopped)

/-- HEARTBEAT_SEND (R403). -/
def execHeartbeatSend (s : State) : Host.Outcome State Fault Refusal :=
  .next <|
    if s.brv.hbSent + 1000 ≤ s.now then
      s.linksUp.foldl (fun (s : State) l => s.sendOn l 0x01 0 0xFF []) { s with brv := { s.brv with hbSent := s.now } }
    else s

/-- HEARTBEAT_TIMEOUT (R403, R62): no heartbeat recorded by the end of the limit tick. -/
def execHeartbeatTimeout (link : Nat) (s : State) : Host.Outcome State Fault Refusal :=
  .next (if (s.linkAt link).heartbeat + 10000 < s.now then s.linkDown link 7 else s)

/-- TIME_SYNC_SEND (R419). -/
def execTimeSyncSend (s : State) : Host.Outcome State Fault Refusal :=
  .next <|
    if s.brv.syncSent + 1000 ≤ s.now then
      s.linksUp.foldl (fun (s : State) l => s.sendOn l 0x02 0 0xFF (toLE 8 s.now)) { s with brv := { s.brv with syncSent := s.now } }
    else s

/-- TIME_SYNC_RECEIVE (R419): with the link's delay measured, a device behind or ahead of the master by a tick or more adds 2 or 0 in one
tick, at most once in 1,000 ticks. The master corrects nothing; a founder jumps forward to the time of any founder ahead of it, so that all
come to the greatest before barges are admitted. -/
def execTimeSyncReceive (link masterTime delay : Nat) (s : State) : Host.Outcome State Fault Refusal :=
  .next <|
    let k := s.linkAt link
    if k.st ≠ .up ∧ k.st ≠ .stopped then s
    else
      let s := s.setLink link { k with delay := delay }
      let master := masterTime + delay
      if s.brv.coord = s.index then s
      else if s.brv.st = .forming then (if s.now < master then { s with clock := { s.clock with dtime := master } } else s)
      else
        let off : Int := 10 * ((s.now : Int) - (master : Int))
        let s := { s with brv := { s.brv with offset := off } }
        if s.now = master ∨ (s.clock.corrected + 1000 > s.now ∧ s.clock.corrected ≠ 0) then s
        else
          { s with
            clock := { s.clock with correct := some (if s.now < master then 2 else 0), corrected := s.now }
            brv := { s.brv with corrections := s.brv.corrections + 1 } }

/-! ### Frames received (R402) -/

/-- What a control frame's content does where it has no command of its own. Log 29, DESIGN CHOICE. -/
def State.control (s : State) (c : ClusterCfg) (l : Nat) (m : LinkMsg) : State :=
  let p := m.payload
  let member := decide (s.brv.st = .member)
  match m.typ with
  | 0x01 => s.setLink l { s.linkAt l with heartbeat := s.now }
  | 0x03 =>
    match le 0 1 p with
    | 0 => if s.brv.st = .withdrawn then s else { s with brv := { s.brv with updates := s.brv.updates ++ [updateOf p] } }
    | 1 =>
      let b := le 1 2 p
      if member ∧ s.brv.coord = c.index ∧ (s.bucketAt b).st = .resync then s.decide_ ⟨[], [], [], [b], 0⟩ else s
    | 2 => ({ s with brv := { s.brv with cut := (s.brv.cut ++ [(le 1 1 p, le 2 1 p)]).eraseDups } }).reactToCut
    | 3 => s.mend (le 1 1 p) (le 2 1 p)
    | 4 =>
      if s.brv.st = .joining then
        { s with brv := { s.brv with map := (mapPart p).foldl (fun t x => Tbl.put x.1 x.2 t) s.brv.map } }
      else s
    | 5 =>
      if s.brv.st = .joining then
        { s with brv := { s.brv with mapVersion := le 1 2 p, live := BitVec.ofNat 64 (le 3 8 p), coord := le 11 1 p } }
      else s
    | _ => s
  | 0x04 =>
    let d := le 0 1 p
    if le 1 1 p = 2 ∧ member = true ∧ s.brv.coord = c.index ∧ s.isMember d = true ∧ s.deciding d = false then
      s.decide_ ⟨[], [d], [], [], 0⟩
    else s
  | 0x30 => s.heardFrom c (le 0 1 p) (le 1 1 p == 1)
  | _ => s

/-- LINK_FRAME_RECEIVE (R402, R292, R404): CRC and LSEQ, then the MAC; a good frame is acknowledged, and passed on where it is for
another device. What halt notices, time sync, barges, completions, aborts and replication carry is carried out by their own commands. -/
def execLinkFrameReceive (link : Nat) (f : Frame) (acked : Nat) (s : State) : Host.Outcome State Fault Refusal :=
  .next <|
    let k := s.linkAt link
    match s.cfg.cluster with
    | none => s
    | some c =>
      if k.st ≠ .up ∧ k.st ≠ .stopped then s
      else if f.crcOk = false ∨ f.lseq ≠ k.rxSeq then s.emit (.linkAck link k.rxSeq true)
      else if f.mac ≠ frameMac k.rxKeys k.rxCtr (frameHeader f.typ f.vc f.src f.dst f.lseq f.used) f.payload then
        (s.setLink link { k with macFail := satAdd 16 k.macFail 1 }).linkDown link 8
      else
        let bs := frameUnits (fun n b => Config.xtsDec (slice 0 64 k.rxKeys) n b) k.rxCtr f.payload
        let m : LinkMsg := ⟨f.typ, f.vc, f.src, f.dst, bs.take f.used⟩
        let s := s.setLink link { k with rxSeq := (k.rxSeq + 1) % 2 ^ 16, rxCtr := k.rxCtr + 1 }
        let s := (s.emit (.linkAck link f.lseq false)).linkAcked link acked
        let s := if f.dst = 0xFF ∨ f.dst = c.index then s.control c link m
          else match s.route f.dst with
            | some l => s.queueOn l m
            | none => s
        if 2 ^ 48 ≤ (s.linkAt link).rxCtr ∨ 2 ^ 48 ≤ (s.linkAt link).txCtr then s.linkDown link 9 else s

/-! ### Forwarding (R411 to R413, R417) -/

/-- The input bytes of a barge at its head (R412): those it came with, or those a tug reads for a PCIe ring; a status where the read is
refused or fails. None: no tug is in service. -/
def State.headInput (s : State) (e : Entry) (r : XferReturn) : Option (Bytes ⊕ Nat) × State :=
  match e.input with
  | some bs => (some (.inl bs), s)
  | none =>
    if e.b.buf = false ∨ e.b.inLen = 0 then (some (.inl []), s)
    else match s.freeTug 0 12 with
      | none => (none, s)
      | some t =>
        let fn := (s.ringCfg e.ring).func
        match s.gateCheck (96 + t) .read (hostAddr e.b.inAddr) e.b.inLen [] with
        | some bad => (some (.inr stBadPointer), s.refuse (96 + t) .read bad)
        | none =>
          if s.wharf.bme.contains fn = false ∨ s.wharf.pcieUp = false then (some (.inr stBadPointer), s)
          else
            let s := s.emit (.hostRead fn e.b.inAddr e.b.inLen)
            match r with
            | .ok bs => (some (.inl (fixLen e.b.inLen bs)), s)
            | .error =>
              (some (.inr stBadPointer), { s with wharf := { s.wharf with timeouts := satAdd 16 s.wharf.timeouts 1 } })
            | .poisoned =>
              (some (.inr stPoisoned), { s with wharf := { s.wharf with poisoned := satAdd 16 s.wharf.poisoned 1 } })

/-- The output bytes of a completion from a home leave for the host through a tug of the head (R412): a status where they are
refused. -/
def State.headOutput (s : State) (e : Entry) (out : Bytes) : Option Nat × State :=
  match s.freeTug 0 12 with
  | none => (some stBadPointer, s)
  | some t =>
    let fn := (s.ringCfg e.ring).func
    match s.gateCheck (96 + t) .write (hostAddr e.b.outAddr) out.length (wordsOf out .pub) with
    | some bad => (some stBadPointer, s.refuse (96 + t) .write bad)
    | none =>
      if (s.ringAt e.ring).flr then (none, s)
      else if s.wharf.bme.contains fn = false ∨ s.wharf.pcieUp = false then (some stBadPointer, s)
      else (none, s.emit (.hostWrite fn e.b.outAddr out))

/-- The home's credits leave room for one more barge (R412). -/
def State.hasCredit (s : State) (c : ClusterCfg) (d : Nat) : Bool := decide (tget 0 d s.brv.fwdUsed < c.fwdCredits)

/-- A barge leaves for its home (R412): it takes a credit and its chamber entry; a permit's lodge is remembered for the open opcodes of
sessions (R411). -/
def State.forwardTo (s : State) (i d : Nat) (e : Entry) (input : Bytes) : State :=
  let lodge := if e.b.opcode = 0x0C00 then [(e.tenant, le 0 4 input, d)] else []
  let s := s.setEntry i { e with ph := .forwarded d, chamber := s.takesChamber i e }
  let s := { s with brv := { s.brv with
    forwarded := s.brv.forwarded + 1
    fwdUsed := Tbl.put d (tget 0 d s.brv.fwdUsed + 1) s.brv.fwdUsed
    permits := s.brv.permits ++ lodge } }
  s.sendBarge d e input

/-- FORWARD_BARGE (R411, R412): a queued barge whose home is another member leaves its head, while it may be dispatched and the head
holds a credit. -/
def execForwardBarge (barge : Nat) (r : XferReturn) (s : State) : Host.Outcome State Fault Refusal :=
  .next <|
    match s.cfg.cluster, s.entryAt barge with
    | some c, some e =>
      if s.glb.mode ≠ .service ∨ s.brv.st ≠ .member ∨ e.origin.isSome = true ∨ s.eligible barge e = false then s
      else match s.runsAt e.tenant e.b e.input with
        | .here => s
        | .fails st => s.failBarge barge st
        | .device d =>
          if s.isMember d = false then s.failBarge barge stDeviceLost
          else if s.hasCredit c d = false then s
          else
            let x := s.headInput e r
            match x.1 with
            | none => s
            | some (.inr st) => x.2.failBarge barge st
            | some (.inl bs) => x.2.forwardTo barge d e bs
    | _, _ => s

/-- FORWARDED_BARGE_RECEIVE (R412, R420): a barge from a head reaches the port of its link, and is admitted there when the port may admit
now. Only a member in SERVICE takes barges, and only from members. -/
def execForwardedBargeReceive (link : Nat) (fb : FwdBarge) (s : State) : Host.Outcome State Fault Refusal :=
  .next <|
    match s.cfg.cluster with
    | none => s
    | some c =>
      if s.glb.mode ≠ .service ∨ s.brv.st ≠ .member ∨ s.isMember fb.head = false ∨ c.heads.contains fb.head = false then s
      else
        let s := { s with brv := { s.brv with ports := Tbl.put link (tget [] link s.brv.ports ++ [fb]) s.brv.ports } }
        if s.linkReady link then s.admitForwarded link else s

/-- The forwarded barge of a ring and SEQ at a home (R413). -/
def State.forwardedAt (s : State) (home ring seq : Nat) : Option (Nat × Entry) :=
  oldestEntry (s.lkm.tbl.filter fun p => decide (p.2.ph = .forwarded home) && decide (p.2.ring = ring) && decide (p.2.b.seq = seq))

/-- A barge of this head that still asks a device (R411, R415, R423). -/
def State.askingAt (s : State) (home ring seq : Nat) : Option (Nat × Entry) :=
  oldestEntry (s.lkm.tbl.filter fun p => decide (p.2.ring = ring) && decide (p.2.b.seq = seq) && p.2.origin.isNone
    && match p.2.asked with
      | some (ds, _) => ds.contains home
      | none => false)

/-- FORWARDED_COMPLETION_RECEIVE (R412, R413, R417): the completion of a forwarded barge is recorded in this tick: its output is written to
the host and it is released in its turn with FORWARDED set; an answer joins those a barge waits for; any other is late and discarded, as
is one that comes after the tick in which its barge has ended DEVICE_LOST. -/
def execForwardedCompletionReceive (home ring seq : Nat) (comp : Comp) (output : Option Bytes) (s : State) :
    Host.Outcome State Fault Refusal :=
  let s := s.settled
  .next <|
    match s.forwardedAt home ring seq with
    | some (i, e) =>
      let s := { s with brv := { s.brv with fwdUsed := Tbl.put home (tget 0 home s.brv.fwdUsed - 1) s.brv.fwdUsed } }
      let c := { comp with seq := seq, forwarded := true, epoch := false }
      if (s.ringCfg ring).transport ≠ 0 then s.finish i c output
      else match output with
        | none => s.finish i c none
        | some bs =>
          let w := s.headOutput e bs
          match w.1 with
          | none => w.2.finish i c none
          | some st => w.2.finish i { failComp seq st with forwarded := true } none
    | none =>
      match s.askingAt home ring seq with
      | some (i, e) =>
        s.setEntry i { e with
          asked := e.asked.map fun a => (a.1.filter (· != home), a.2 ++ [comp])
          outBytes := output.or e.outBytes }
      | none => { s with brv := { s.brv with late := satAdd 16 s.brv.late 1 } }

/-- ABORT_FRAME_RECEIVE (R413): the home applies R57 to the barges a head forwarded, by SEQ or, with ALL, to every one of the ring. -/
def execAbortFrameReceive (head ring : Nat) (arg : W64) (s : State) : Host.Outcome State Fault Refusal :=
  .next <| s.abortWhere fun e => match e.origin with
    | some o => decide (o.head = head) && decide (o.ring = ring) && (wbit 63 arg || decide (e.b.seq = wbits 31 0 arg))
    | none => false

/-! ### Replication (R407, R414) -/

/-- REPLICATION_RECEIVE (R407, R414, R418): records whose tag verifies are committed here and acknowledged at their commit tick. A record
that does not verify, or that comes with the store OFFLINE, is dropped. -/
def execReplicationReceive (dev : Nat) (sealed : Bytes) (s : State) : Host.Outcome State Fault Refusal :=
  .next <|
    match s.unseal dev sealed with
    | none => s.logEvent .interface 26 dev 0
    | some bs =>
      let c := s.commitOf bs
      if s.storeUp then s.gather { c with ack := if c.opcode = 0 then none else some (dev, c.number), replicated := true }
      else s.logEvent .interface 26 dev 1

/-- REPLICATION_ACK_RECEIVE (R414): with the last acknowledgement the home commits. -/
def execReplicationAckReceive (dev commit : Nat) (s : State) : Host.Outcome State Fault Refusal :=
  .next <|
    match s.brv.awaiting.find? fun p => p.1.number == commit && p.2 == dev with
    | none => s
    | some p =>
      let left := (s.brv.awaiting.erase p).map fun (x : Commit × Nat) =>
        if x.1.number = commit then ({ x.1 with replicated := true }, x.2) else x
      let s := { s with brv := { s.brv with awaiting := left } }
      if left.any fun x => x.1.number == commit then s
      else
        let s := { s with brv := { s.brv with replicated := s.brv.replicated + 1 } }
        let c := { p.1 with replicated := true }
        if s.storeUp then s.gather c else s.offlineCommit c

/-! ### CLUSTER_HOME (R423) -/

/-- The checks of CLUSTER_HOME (R423). -/
def homeChecks (r : Run) : List (Bool × Nat) :=
  let h := r.b.p0.toNat
  [(r.b.p1 == 0 && r.b.p2 == 0 && r.b.handles == [], stBadFormat), (handleForm h && handleTenant h == r.tenant, stKeyUnknown)]

/-- RESULT of CLUSTER_HOME (R423): the bucket's home and replica, the map version, the bucket and the home's identity. -/
def State.homeResult (s : State) (h : Nat) : Bytes :=
  let b := bucketOf h
  let k := s.bucketAt b
  let dig := match s.cfg.cluster with
    | none => Config.shake256 s.devIdKey 8
    | some c => (c.devIds[k.home]?).getD (zeros 8)
  toLE 1 k.home ++ toLE 1 k.replica ++ toLE 2 s.brv.mapVersion ++ toLE 2 b ++ zeros 2 ++ fixLen 8 dig

/-- CLUSTER_HOME (R423). A single device's own DEVIDS entry stands in no record: the digest of its DevID. -/
def clusterHomeSvc (r : Run) (s : State) : Res × State :=
  s.checks r (homeChecks r) fun _ => s.gives (answered (s.homeResult r.b.p0.toNat))

/-- CLUSTER_HOME (R423). -/
def execClusterHome (core : Nat) (hw : Hw) (s : State) : Host.Outcome State Fault Refusal := .next (s.serve core 0x0E00 hw clusterHomeSvc)

end Sys2Proof.Machine
end

