-- ==== Sys2Proof/Machine/Audit.lean ====
section
/-! DEFINITION. The audit opcodes (18_logbook_and_fifos.md R433, R434) and CLUSTER_RELAY, which runs them at another device
(17_broviry_cluster.md R423). -/

namespace Sys2Proof.Machine

/-- The records retained, in SEQ order (R430): those of the archive older than the ring, and the ring. -/
def Log.retained (l : Log) : List Rec := (l.archive.filter fun r => decide (r.seq < l.oldest)) ++ l.ring

/-- The records a ring's tenant may see (R433). -/
def Log.visible (l : Log) (t : Nat) : List Rec := l.retained.filter fun r => t == 0 || r.tenant == t

/-- Whole records that fit in n bytes, from the front. -/
def fitRecords : Nat → List Rec → List Rec
  | _, [] => []
  | n, r :: rs => if 8 * r.words ≤ n then r :: fitRecords (n - 8 * r.words) rs else []

/-- The checks of AUDIT_READ (R433). -/
def State.auditReadChecks (s : State) (r : Run) : List (Bool × Nat) :=
  let l := r.lighter 0
  s.keySteps r ++ [noPermit r, (allZero (l.drop 9), stBadFormat), (decide (le 8 1 l ≤ 1), stRange)]

/-- The records that AUDIT_READ returns (R433): from a SEQ on, those the tenant may see, whole ones that fit. -/
def State.auditRecs (s : State) (r : Run) : List Rec :=
  let l := r.lighter 0
  fitRecords r.b.outCap ((s.log.visible r.tenant).filter fun x => decide (le 0 8 l ≤ x.seq) && (le 8 1 l == 0 || x.audit))

/-- AUDIT_READ (R433). The SEQ after the last record is a free value where none is returned (log 20). -/
def auditReadSvc (r : Run) (s : State) : Res × State :=
  s.checks r (s.auditReadChecks r) fun _ =>
    let got := s.auditRecs r
    let next := match got.getLast? with
      | some x => (x.seq + 1, s)
      | none => s.freshNat
    next.2.doneOut r (got.flatMap fun x => ofWords x.image) (toLE 8 next.1 ++ toLE 4 got.length)

/-- AUDIT_READ, opcode 0x0C60. -/
def execAuditRead (core : Nat) (hw : Hw) (s : State) : Host.Outcome State Fault Refusal := .next (s.serve core 0x0C60 hw auditReadSvc)

/-- A seal's range is valid and every audit-critical record of it is retained (R433): a SEQ below the acknowledged ones that is gone may
have been audit-critical. Log 55, DEDUCED. -/
def Log.sealable (l : Log) (first last : Nat) : Bool :=
  let hi := min (last + 1) l.ackTo
  let have_ : Nat := l.retained.countP fun r => decide (first ≤ r.seq) && decide (r.seq < hi)
  decide (first ≤ last) && decide (last - first ≤ 2 ^ 20) && decide (last < l.nextSeq) && decide (hi - first ≤ have_)

/-- The first 88 bytes of a seal (R433). -/
def sealBody (first last : Nat) (rs : List Rec) : Bytes :=
  toLE 8 first ++ toLE 8 last ++ toLE 4 rs.length ++ zeros 4
    ++ fixLen 64 (Config.shake256 (rs.flatMap fun x => ofWords x.image) 64)

/-- The checks of AUDIT_SEAL (R433). -/
def State.auditSealChecks (s : State) (r : Run) : List (Bool × Nat) :=
  let l := r.lighter 0
  s.keySteps r ++ [noPermit r, (allZero (l.drop 16), stBadFormat), (s.log.sealable (le 0 8 l) (le 8 8 l), stRange)]

/-- What AUDIT_SEAL signs (R433): the audit-critical records of its range that the tenant may see. -/
def State.sealText (s : State) (r : Run) : Bytes :=
  let first := le 0 8 (r.lighter 0)
  let last := le 8 8 (r.lighter 0)
  sealBody first last ((s.log.visible r.tenant).filter fun x => x.audit && decide (first ≤ x.seq) && decide (x.seq ≤ last))

/-- A seal joins the last 16 of the epoch, under the next number (R433). Log 55, DEDUCED. -/
def Log.addSeal (l : Log) (first last : Nat) (device : Bool) : Log :=
  let all := l.seals ++ [⟨l.sealNext, first, last, device⟩]
  { l with seals := all.drop (all.length - 16), sealNext := (l.sealNext + 1) % 2 ^ 32 }

/-- AUDIT_SEAL (R433): the last 16 seals of the epoch are kept. -/
def auditSealSvc (r : Run) (s : State) : Res × State :=
  let l := r.lighter 0
  s.checks r (s.auditSealChecks r) fun _ =>
    s.withRoom r 202 fun _ => s.withTile r false false fun _ =>
      let sig := fixLen 114 (s.aliasSign (ascii "LT7200 audit") (s.sealText r))
      ({ s with log := s.log.addSeal (le 0 8 l) (le 8 8 l) (r.tenant == 0) }).gives
        (withOutput r (s.sealText r ++ sig) (toLE 4 s.log.sealNext))

/-- AUDIT_SEAL, opcode 0x0C61. -/
def execAuditSeal (core : Nat) (hw : Hw) (s : State) : Host.Outcome State Fault Refusal := .next (s.serve core 0x0C61 hw auditSealSvc)

/-- The audit-critical records not yet acknowledged, in SEQ order (R432, R434). -/
def Log.unackedRecs (l : Log) : List Rec := l.retained.filter fun r => r.audit && decide (l.ackTo ≤ r.seq)

/-- The oldest unacknowledged audit-critical SEQ, or 0 (R433). -/
def Log.oldestUnacked (l : Log) : Nat := ((l.unackedRecs.head?).map (·.seq)).getD 0

/-- The seal an AUDIT_ACK names. -/
def State.sealNamed (s : State) (r : Run) : Option Seal := s.log.seals.find? fun x => x.number == wbits 31 0 r.b.p0

/-- The checks of AUDIT_ACK (R434): the seal is one of those kept, made on a device-tenant ring, and leaves no unacknowledged record
before it. Log 55, DEDUCED. -/
def State.auditAckChecks (s : State) (r : Run) : List (Bool × Nat) :=
  let ok := match s.sealNamed r with
    | none => false
    | some x => x.device && (s.log.unackedRecs.isEmpty || decide (x.first ≤ s.log.oldestUnacked))
  [(wbits 63 32 r.b.p0 == 0 && r.b.p1 == 0 && r.b.p2 == 0, stBadFormat), (ok, stRange)]

/-- AUDIT_ACK (R434). The records are acknowledged in the commit tick. -/
def auditAckSvc (r : Run) (s : State) : Res × State :=
  s.checks r (s.keySteps r) fun _ => s.withPermit r 0x0040 (device := true) fun _ s =>
    s.checks r (s.auditAckChecks r) fun _ =>
      let last := ((s.sealNamed r).map (·.last)).getD 0
      s.doneWith (toLE 8 (recWords (s.log.unackedRecs.filter fun y => decide (y.seq ≤ last)))) (some [.ackLog last])

/-- AUDIT_ACK, opcode 0x0C62. -/
def execAuditAck (core : Nat) (hw : Hw) (s : State) : Host.Outcome State Fault Refusal := .next (s.serve core 0x0C62 hw auditAckSvc)

/-- The checks of AUDIT_STATUS (R433). -/
def State.auditStatusChecks (s : State) (r : Run) : List (Bool × Nat) :=
  s.keySteps r ++ [noPermit r, (r.b.p0 == 0 && r.b.p1 == 0 && r.b.p2 == 0, stBadFormat)]

/-- RESULT of AUDIT_STATUS (R433). On a ring of another tenant the oldest SEQ is that of the tenant's records. Log 55, DEDUCED. -/
def State.auditStatus (s : State) (t : Nat) : Bytes :=
  let oldest := ((s.log.unackedRecs.find? fun x => t == 0 || x.tenant == t).map (·.seq)).getD 0
  toLE 8 oldest ++ toLE 4 s.log.outstanding ++ toLE 4 s.log.limit

/-- AUDIT_STATUS (R433). -/
def auditStatusSvc (r : Run) (s : State) : Res × State :=
  s.checks r (s.auditStatusChecks r) fun _ => s.gives (answered (s.auditStatus r.tenant))

/-- AUDIT_STATUS, opcode 0x0C63. -/
def execAuditStatus (core : Nat) (hw : Hw) (s : State) : Host.Outcome State Fault Refusal := .next (s.serve core 0x0C63 hw auditStatusSvc)

/-! ### CLUSTER_RELAY (R423) -/

/-- The inner barge of a relay: its head and lighter from lighters 2 and 3, its parameters, PERMIT and SEQ the relay's. -/
def relayInner (b : Barge) : Barge :=
  { bargeOfBytes (slice 64 64 b.lights) with
    seq := b.seq, permit := b.permit, p0 := b.p0, p1 := b.p1, p2 := b.p2, deadline := b.deadline
    lights := slice 128 (64 * (b.lighters - 2)) b.lights }

/-- The service of an opcode that the relay accepts. -/
def relayed (op : Nat) : Option Service :=
  match op with
  | 0x0C60 => some auditReadSvc
  | 0x0C61 => some auditSealSvc
  | 0x0C62 => some auditAckSvc
  | 0x0C63 => some auditStatusSvc
  | 0x0D00 => some attestSvc
  | 0x0D01 => some certReadSvc
  | _ => none

/-- What a relay fails with before its inner barge leaves (R423, R42). -/
def State.relayFails (s : State) (r : Run) : Option Nat :=
  let inner := relayInner r.b
  let c := s.ringCfg r.e.ring
  if allZero ((r.lighter 0).drop 1) = false ∨ inner.buf ≠ r.b.buf then some stBadFormat
  else if (relayed inner.opcode).isNone ∨ 1 < inner.lighters then some stBadOpcode
  else if inner.lighters + 2 ≠ r.b.lighters then some stBadLength
  else match headCheck s.glb.mode r.tenant c.maint (c.transport ≠ 0) inner with
    | some st => some st
    | none =>
      let d := le 0 1 (r.lighter 0)
      if d = s.index ∨ s.isMember d = true then none else some stDeviceLost

/-- CLUSTER_RELAY (R423): at this device the barge goes on as its inner barge; at another its answer is awaited. -/
def State.relay (s : State) (core : Nat) (hw : Hw) : State :=
  match s.runOf core 0x0E01 hw with
  | none => s
  | some r =>
    let inner := relayInner r.b
    let d := le 0 1 (r.lighter 0)
    match r.e.asked with
    | some ([], cs) =>
      match cs with
      | [] => s.leave r ⟨stDeviceLost, [], 0, none⟩
      | c :: _ => s.leave r ⟨c.status, c.result, c.outLen, r.e.outBytes⟩
    | some _ => s
    | none =>
      match s.relayFails r with
      | some st => s.leave r ⟨st, [], 0, none⟩
      | none =>
        if d = s.index then
          match relayed inner.opcode with
          | some svc => (s.setEntry r.idx { r.e with b := inner }).serve core inner.opcode hw svc
          | none => s
        else
          (s.setEntry r.idx { r.e with asked := some ([d], []) }).sendBarge d { r.e with b := inner } r.input

/-- CLUSTER_RELAY, opcode 0x0E01. -/
def execClusterRelay (core : Nat) (hw : Hw) (s : State) : Host.Outcome State Fault Refusal := .next (s.relay core hw)

end Sys2Proof.Machine
end

