-- ==== Sys2Proof/Machine/Cargo.lean ====
section
/-! DEFINITION. Backup and restore (07_moorings_and_cargo.md R194 to R200): opcodes 0x0C50 to 0x0C57. -/

namespace Sys2Proof.Machine

/-! ### Sessions (R194) -/

/-- The open session of a number, opened on a ring of a tenant. -/
def State.cargoSession (s : State) (t n : Nat) (restore : Bool) : Option CargoSession :=
  s.mor.sessions.find? fun c => c.number == n && c.owner == t && c.restore == restore

/-- Replace the sessions. -/
def State.setSessions (s : State) (cs : List CargoSession) : State := { s with mor := { s.mor with sessions := cs } }

/-- Replace one session. -/
def State.setSession (s : State) (c : CargoSession) : State :=
  s.setSessions (s.mor.sessions.map fun x => if x.number = c.number then c else x)

/-- A session ends: its BK and shares are gone. -/
def State.endSession (s : State) (n : Nat) : State := s.setSessions (s.mor.sessions.filter fun x => x.number != n)

/-- A new session under the next number (R411). -/
def State.newSession (s : State) (c : CargoSession) : State :=
  { s with mor := { s.mor with
    sessions := s.mor.sessions ++ [{ c with number := s.sessionNumber s.mor.sessionNext }]
    sessionNext := s.mor.sessionNext + 1 } }

/-- The scope of an open lighter fits its ring and permit (R195): every tenant only with a device-scope permit on a device-tenant
ring; another tenant than the ring's likewise. -/
def scopeOk (t ring : Nat) (p : Option Permit) : Bool :=
  let device := ring == 0 && (match p with
    | some p => p.scopeKind == 0
    | none => true)
  if t = 0xFFFF then device else decide (t < 4096) && (t == ring || device)

/-- Steps 10 and 11 of an open lighter (R195). -/
def openForm (l : Bytes) : Bool := allZero (l.drop 4)

/-- 2 ≤ K ≤ N ≤ 8 (R195). -/
def openRange (l : Bytes) : Bool := decide (2 ≤ le 2 1 l) && decide (le 2 1 l ≤ le 3 1 l) && decide (le 3 1 l ≤ 8)

/-- The tenant whose officers are custodians for a scope (R143, R195). -/
def State.custodianTenant (s : State) (scope : Nat) : Nat := if scope = 0xFFFF then 0 else s.signerTenant scope

/-- An ACTIVE custodian for a scope (R195, R198). -/
def State.custodian (s : State) (n scope : Nat) : Bool :=
  s.officerOf n (s.custodianTenant scope) && s.hasRole n 6

/-- PERMIT 0 and PARAM0 naming a session (R194). -/
def sessionParams (r : Run) : Bool := wbits 63 32 r.b.p0 == 0 && r.b.p1 == 0 && r.b.p2 == 0

/-! ### Backup (R195 to R197) -/

/-- A store entry in a scope. -/
def inScope (scope : Nat) (p : Nat × StoreEntry) : Bool := scope == 0xFFFF || handleTenant p.1 == scope

/-- The custodian records of a BACKUP_OPEN (R195). -/
def custodianRecs (r : Run) : List Bytes := (List.range (le 3 1 (r.lighter 0))).map fun i => slice (176 * i) 176 r.input

/-- The checks of BACKUP_OPEN with its permit (R195). -/
def State.backupOpenChecks (s : State) (r : Run) (p : Option Permit) : List (Bool × Nat) :=
  let l := r.lighter 0
  let t := le 0 2 l
  let recs := custodianRecs r
  let officers := recs.map (le 0 2)
  [(openForm l && recs.all fun b => allZero (slice 2 2 b) && allZero (slice 60 2 b), stBadFormat),
    (openRange l && scopeOk t r.tenant p, stRange), (decide (r.input.length = 176 * le 3 1 l), stBadLength),
    (decide officers.Nodup && officers.all fun o => s.custodian o t, stPermitInvalid),
    (recs.all fun b => Config.ed448Verify (s.officerAt (le 0 2 b)).key (ascii "LT7200 share key") (b.take 62) (slice 62 114 b),
      stVerifyFail)]

/-- The session that BACKUP_OPEN opens, its package identifier and BK from random bytes (R195, R196): a snapshot of the scope. -/
def State.backupSession (s : State) (r : Run) (bs : Bytes) : CargoSession :=
  let l := r.lighter 0
  let snap := ((s.coreAt r.core).snapshot.getD s.mor.store).filter (inScope (le 0 2 l))
  { number := s.sessionNumber s.mor.sessionNext, owner := r.tenant, restore := false, tenantScope := le 0 2 l, k := le 2 1 l
    n := le 3 1 l, backupId := bs.take 16, bk := some (bs.drop 16)
    recipients := (custodianRecs r).map fun b => (le 0 2 b, slice 4 56 b), snapshot := snap
    total := (snap.map fun x => x.2.size).sum, chunk := 0, ended := false, tags := [], summary := [], x448 := [], shares := [] }

/-- The store's content in the claim tick is kept for a BACKUP_OPEN (R195). -/
def State.keepSnapshot (s : State) (k : Nat) : State :=
  let c := s.coreAt k
  s.setCore k { c with snapshot := c.snapshot.or (some s.mor.store) }

/-- BACKUP_OPEN (R195). -/
def backupOpenSvc (r : Run) (s : State) : Res × State :=
  s.checks r (s.keySteps r) fun _ => s.withPermit r 0x0050 fun p s =>
    s.checks r (s.backupOpenChecks r p) fun _ => s.withTile r false false fun _ =>
      if 4 ≤ s.mor.sessions.length then s.noSession
      else
        let s := s.keepSnapshot r.core
        let d := s.drawFor r 48
        match d.1 with
        | .wait => (.wait, s)
        | .none_ => d.2.fails stEntropy
        | .bytes bs =>
          let c := s.backupSession r bs
          ((d.2.spend r.core (30000 + Config.variableCycles 0x0C50 c.n [])).newSession c).gives (answered (toLE 4 c.number))

/-- BACKUP_OPEN, opcode 0x0C50. -/
def execBackupOpen (core : Nat) (hw : Hw) (s : State) : Host.Outcome State Fault Refusal := .next (s.serve core 0x0C50 hw backupOpenSvc)

/-- The entries of the next chunk and those left: whole entries, at most `room` records (R196; log 25). -/
def takeChunk : Nat → List (Nat × StoreEntry) → List (Nat × StoreEntry) × List (Nat × StoreEntry)
  | _, [] => ([], [])
  | room, p :: ps =>
    if p.2.size ≤ room then
      let x := takeChunk (room - p.2.size) ps
      (p :: x.1, x.2)
    else ([], p :: ps)

/-- The 80-byte records of an entry (R196): label, key field, S; a tombstone's label holds only HANDLE (R185). None: a record does
not unwrap. -/
def State.chunkRecords (s : State) (p : Nat × StoreEntry) : Option Bytes :=
  match p.2 with
  | .tombstone => some (zeros 8 ++ toLE 8 p.1 ++ zeros 64)
  | .key ls =>
    if ls.all fun r => (s.openRec r).isSome then
      some (ls.flatMap fun r => r.label.bytes ++ fixLen 32 ((s.openRec r).getD []) ++ toLE 8 r.nonceCtr ++ zeros 8)
    else none

/-- The nonce of a chunk (R196). -/
def chunkNonce (id : Bytes) (i : Nat) : Bytes := fixLen 8 id ++ toBE 4 i

/-- A chunk's 32-byte header (R196). -/
def chunkHeader (id : Bytes) (i n : Nat) : Bytes := fixLen 16 id ++ toLE 4 i ++ toLE 4 n ++ zeros 8

/-- The session that a barge's input names. -/
def State.sessionIn (s : State) (r : Run) (restore : Bool) : Option CargoSession := s.cargoSession r.tenant (le 0 4 r.input) restore

/-- The checks of BACKUP_READ (R196). -/
def State.backupReadChecks (s : State) (r : Run) : List (Bool × Nat) :=
  s.keySteps r ++ [noPermit r, ((s.sessionIn r false).isSome, stRange)]

/-- The records of a session's next chunk, in plain: none where one does not unwrap (R196, R200). -/
def State.chunkPlain (s : State) (c : CargoSession) : Option Bytes :=
  let parts := (takeChunk 1024 c.snapshot).1.map s.chunkRecords
  if parts.any Option.isNone then none else some (parts.filterMap id).flatten

/-- Records in a session's next chunk. -/
def CargoSession.nextCount (c : CargoSession) : Nat := ((takeChunk 1024 c.snapshot).1.map fun p => p.2.size).sum

/-- The next chunk of a session: its header and ciphertext, and its tag (R196). -/
def CargoSession.seal (c : CargoSession) (plain : Bytes) : Bytes × Bytes :=
  let header := chunkHeader c.backupId c.chunk c.nextCount
  let key := c.bk.getD []
  let nonce := chunkNonce c.backupId c.chunk
  let ct := fixLen plain.length (Config.gcmEnc key nonce header plain)
  (header ++ ct, fixLen 16 (Config.gcmTag key nonce header ct))

/-- A session once a chunk with a tag has been read. -/
def CargoSession.after (c : CargoSession) (tag : Bytes) : CargoSession :=
  let left := (takeChunk 1024 c.snapshot).2
  { c with snapshot := left, chunk := c.chunk + 1, ended := left.isEmpty, tags := c.tags ++ tag }

/-- BACKUP_READ (R196, R200). -/
def backupReadSvc (r : Run) (s : State) : Res × State :=
  s.checks r (s.backupReadChecks r) fun _ =>
    match s.sessionIn r false with
    | none => s.fails stRange
    | some c =>
      if c.ended then s.doneWith (fixLen 9 (toLE 4 c.chunk))
      else s.checks r (s.lanes r) fun _ =>
        let n := c.nextCount
        let s' := (s.countLoads n).spend r.core (20000 + 900 * n)
        match s.chunkPlain c with
        | none => s'.fails stKeyDamaged
        | some plain =>
          let x := c.seal plain
          (s'.setSession (c.after x.2)).gives
            (withOutput r (x.1 ++ x.2) (toLE 4 c.chunk ++ toLE 4 n ++ [if (c.after x.2).ended then 1 else 0]))

/-- BACKUP_READ, opcode 0x0C51. -/
def execBackupRead (core : Nat) (hw : Hw) (s : State) : Host.Outcome State Fault Refusal := .next (s.serve core 0x0C51 hw backupReadSvc)

/-- The BK check (R197): the leftmost 12 bytes of a KMAC256. -/
def bkCheck (bk id : Bytes) : Bytes := fixLen 12 (Config.kmac256 bk id 96 (ascii "LT7200-BKCHK"))

/-- The summary of a package (R197). -/
def packageSummary (c : CargoSession) : Bytes :=
  fixLen 16 c.backupId ++ toLE 2 c.tenantScope ++ toLE 1 c.k ++ toLE 1 c.n ++ zeros 4 ++ toLE 8 c.total ++ toLE 4 c.chunk
    ++ bkCheck (c.bk.getD []) c.backupId ++ fixLen 32 (Config.shake256 c.tags 32)

/-- One share record (R197): recipient, share index, ephemeral key. -/
def shareRecord (c : CargoSession) (rnd : Bytes) (i : Nat) (o : Nat × Bytes) : Bytes :=
  let x := i + 1
  let eph := slice (56 * i) 56 rnd
  let share := fixLen 32 (Config.shamirShare (c.bk.getD []) (rnd.drop (56 * c.n)) c.k x)
  let key := Config.kmac256 (Config.x448 eph o.2) (c.backupId ++ toLE 1 x) 256 (ascii "LT7200-SHARE")
  let ct := fixLen 32 (Config.gcmEnc key (zeros 12) [] share)
  toLE 2 o.1 ++ toLE 1 x ++ zeros 5 ++ fixLen 56 (Config.x448Public eph) ++ ct ++ fixLen 16 (Config.gcmTag key (zeros 12) [] ct)

/-- The checks of BACKUP_CLOSE (R197). -/
def State.backupCloseChecks (s : State) (r : Run) : List (Bool × Nat) :=
  s.keySteps r ++ [noPermit r, (((s.sessionIn r false).map (·.ended)).getD false, stRange)]

/-- A package's summary and its share records (R197). -/
def packageBody (c : CargoSession) (rnd : Bytes) : Bytes :=
  packageSummary c ++ (List.range c.n).flatMap fun i => shareRecord c rnd i ((c.recipients[i]?).getD (0, []))

/-- BACKUP_CLOSE (R197, R200). -/
def backupCloseSvc (r : Run) (s : State) : Res × State :=
  s.checks r (s.backupCloseChecks r) fun _ => s.withTile r false false fun _ =>
    match s.sessionIn r false with
    | none => s.fails stRange
    | some c =>
      let need := 194 + 112 * c.n
      if r.fits need = false then s.doneOut r (zeros need)
      else
        let d := s.drawFor r (56 * c.n + 32 * (c.k - 1))
        match d.1 with
        | .wait => (.wait, s)
        | .none_ => d.2.fails stEntropy
        | .bytes rnd =>
          ((d.2.endSession c.number).spend r.core (30000 + Config.variableCycles 0x0C52 c.n [])).gives
            (withOutput r (packageBody c rnd ++ fixLen 114 (s.aliasSign [] (packageBody c rnd))))

/-- BACKUP_CLOSE, opcode 0x0C52. -/
def execBackupClose (core : Nat) (hw : Hw) (s : State) : Host.Outcome State Fault Refusal := .next (s.serve core 0x0C52 hw backupCloseSvc)

/-! ### Restore (R198, R199) -/

/-- The checks of RESTORE_OPEN with its permit (R195, R198). -/
def restoreOpenChecks (r : Run) (p : Option Permit) : List (Bool × Nat) :=
  let l := r.lighter 0
  let i := r.input
  let n := le 19 1 i
  [(openForm l, stBadFormat),
    (openRange l && scopeOk (le 0 2 l) r.tenant p && le 16 2 i == le 0 2 l && le 18 1 i == le 2 1 l && n == le 3 1 l, stRange),
    (decide (i.length = 251 + 112 * n), stBadLength),
    (Config.ed448Verify (slice (194 + 112 * n) 57 i) [] (i.take (80 + 112 * n)) (slice (80 + 112 * n) 114 i), stVerifyFail)]

/-- The session that RESTORE_OPEN opens with a fresh X448 key (R198). -/
def State.restoreSession (s : State) (r : Run) (x : Bytes) : CargoSession :=
  let i := r.input
  { number := s.sessionNumber s.mor.sessionNext, owner := r.tenant, restore := true, tenantScope := le 0 2 (r.lighter 0)
    k := le 18 1 i, n := le 19 1 i, backupId := i.take 16, bk := none, recipients := [], snapshot := [], total := le 24 8 i
    chunk := 0, ended := false, tags := [], summary := i.take 80, x448 := x, shares := [] }

/-- RESTORE_OPEN (R195, R198). -/
def restoreOpenSvc (r : Run) (s : State) : Res × State :=
  s.checks r (s.keySteps r) fun _ => s.withPermit r 0x0051 fun p s =>
    s.checks r (restoreOpenChecks r p) fun _ => s.withTile r false false fun _ =>
      if 4 ≤ s.mor.sessions.length then s.noSession
      else if r.fits 56 = false then s.doneOut r (zeros 56)
      else
        let d := s.drawFor r 56
        match d.1 with
        | .wait => (.wait, s)
        | .none_ => d.2.fails stEntropy
        | .bytes x =>
          let c := s.restoreSession r x
          ((d.2.spend r.core (30000 + Config.variableCycles 0x0C53 c.n [])).newSession c).gives
            (withOutput r (fixLen 56 (Config.x448Public x)) (toLE 4 c.number))

/-- RESTORE_OPEN, opcode 0x0C53. -/
def execRestoreOpen (core : Nat) (hw : Hw) (s : State) : Host.Outcome State Fault Refusal := .next (s.serve core 0x0C53 hw restoreOpenSvc)

/-- The custodian whose signature a share carries (R198). -/
def State.shareSigner (s : State) (r : Run) : Option Nat :=
  let i := r.input
  let scope := ((s.sessionIn r true).map (·.tenantScope)).getD 0
  officerNumbers.find? fun n =>
    s.custodian n scope && Config.ed448Verify (s.officerAt n).key (ascii "LT7200 share") (i.take 112) (slice 112 114 i)

/-- The checks of RESTORE_SHARE (R198): a share the open session has not, from a custodian who has given none. -/
def State.restoreShareChecks (s : State) (r : Run) : List (Bool × Nat) :=
  let i := r.input
  let x := le 4 1 i
  let c? := s.sessionIn r true
  let signer := s.shareSigner r
  let open_ := (c?.map fun c => c.bk.isNone && decide (1 ≤ x) && decide (x ≤ c.n) && !(c.shares.any fun y => y.1 == x)).getD false
  let again := match c?, signer with
    | some c, some n => c.shares.any fun y => y.2.1 == n
    | _, _ => false
  s.keySteps r ++ [noPermit r, (allZero (slice 5 3 i), stBadFormat), (open_ && !again, stRange), (signer.isSome, stVerifyFail)]

/-- A share as it came: none where its tag does not verify (R198). -/
def CargoSession.openShare (c : CargoSession) (i : Bytes) : Option Bytes :=
  let key := Config.kmac256 (Config.x448 c.x448 (slice 8 56 i)) (toLE 4 c.number ++ toLE 1 (le 4 1 i)) 256 (ascii "LT7200-SHARE-IN")
  let ct := slice 64 32 i
  if fixLen 16 (Config.gcmTag key (zeros 12) [] ct) ≠ slice 96 16 i then none else some (fixLen 32 (Config.gcmDec key (zeros 12) [] ct))

/-- A session that has taken the share of an officer (R198): with the K-th, the BK the shares give, or none where its check fails. -/
def CargoSession.withShare (c : CargoSession) (x : Nat) (officer : Nat) (share : Bytes) : Option CargoSession :=
  let shares := c.shares ++ [(x, officer, share)]
  if shares.length < c.k then some { c with shares := shares }
  else
    let bk := fixLen 32 (Config.shamirCombine (shares.map fun y => (y.1, y.2.2)))
    if bkCheck bk c.backupId = slice 36 12 c.summary then some { c with shares := shares, bk := some bk } else none

/-- Cycles of RESTORE_SHARE (R200, R253): an X448 agreement and an Ed448 verification. -/
def shareCycles : Nat := 30000 + 130000 + 242000

/-- RESTORE_SHARE (R198). -/
def restoreShareSvc (r : Run) (s : State) : Res × State :=
  s.checks r (s.restoreShareChecks r) fun _ =>
    match s.sessionIn r true with
    | none => s.fails stRange
    | some c =>
      s.checks r (s.lanes r) fun _ => s.withTile r false false fun _ =>
        let s' := s.spend r.core shareCycles
        match c.openShare r.input with
        | none => s'.fails stVerifyFail
        | some share => match c.withShare (le 4 1 r.input) ((s.shareSigner r).getD 0) share with
          | some c' => (s'.setSession c').gives (answered [])
          | none => (s'.endSession c.number).fails stVerifyFail

/-- RESTORE_SHARE, opcode 0x0C54. -/
def execRestoreShare (core : Nat) (hw : Hw) (s : State) : Host.Outcome State Fault Refusal := .next (s.serve core 0x0C54 hw restoreShareSvc)

/-- The records of a chunk, one after the other: label, key field, S. Log 26, DEDUCED. -/
def chunkParts (n : Nat) (plain : Bytes) : List (KLabel × Bytes × Nat) :=
  (List.range n).map fun i =>
    let b := slice (80 * i) 80 plain
    (labelOfBytes (b.take 32), slice 32 32 b, le 64 8 b)

/-- Records grouped by handle, in order: the links of one key together. -/
def groupParts : List (KLabel × Bytes × Nat) → List (Nat × List (KLabel × Bytes × Nat))
  | [] => []
  | p :: ps =>
    match groupParts ps with
    | (h, g) :: rest => if h = p.1.handle then (h, p :: g) :: rest else (p.1.handle, [p]) :: (h, g) :: rest
    | [] => [(p.1.handle, [p])]

/-- A handle can be added by a restore (R199): its tenant is ACTIVE and it is unused here. -/
def State.restorable (s : State) (h : Nat) : Bool := decide ((s.tenantAt (handleTenant h)).st = .active) && s.unused h

/-- The change that adds a group under this device's roots (R199): a key, or a tombstone (log 26). -/
def State.restoreChange (s : State) (g : Nat × List (KLabel × Bytes × Nat)) : Change :=
  if g.2.all fun p => decide (p.1.chainLen = 0) then .delete g.1
  else .put (g.2.map fun p => { s.newRec p.1 p.2.1 with nonceCtr := p.2.2 })

/-- Groups that are added, the earlier of two of one handle. -/
def State.addedGroups (s : State) : List Nat → List (Nat × List (KLabel × Bytes × Nat)) → List (Nat × List (KLabel × Bytes × Nat))
  | _, [] => []
  | seen, g :: gs =>
    if s.restorable g.1 && !seen.contains g.1 then g :: s.addedGroups (g.1 :: seen) gs else s.addedGroups seen gs

/-- KEY_QUOTA and the store leave room for added groups (R199). -/
def State.restoreRoom (s : State) (gs : List (Nat × List (KLabel × Bytes × Nat))) : Bool :=
  let keys := gs.filter fun g => !(g.2.all fun p => decide (p.1.chainLen = 0))
  (keys.all fun g => s.quotaRoom (handleTenant g.1) (keys.countP fun h => handleTenant h.1 == handleTenant g.1))
    && s.storeRoom (gs.map fun g => g.2.length).sum && s.outcomeRoom

/-- The chunk of a RESTORE_WRITE: after the session's number (R199). -/
def chunkIn (r : Run) : Bytes := r.input.drop 4

/-- The checks of RESTORE_WRITE (R199): the next chunk of a session that has its BK. -/
def State.restoreWriteChecks (s : State) (r : Run) : List (Bool × Nat) :=
  let chunk := chunkIn r
  let n := le 20 4 chunk
  let ready := ((s.sessionIn r true).map fun c => c.bk.isSome && le 16 4 chunk == c.chunk).getD false
  s.keySteps r ++ [noPermit r, (allZero (slice 24 8 chunk), stBadFormat), (ready && decide (n ≤ 1024), stRange),
    (decide (chunk.length = 48 + 80 * n), stBadLength)]

/-- The tag of a chunk. -/
def chunkTag (chunk : Bytes) : Bytes := slice (32 + 80 * le 20 4 chunk) 16 chunk

/-- A chunk's records in plain: none where its tag does not verify (R199). -/
def CargoSession.openChunk (c : CargoSession) (chunk : Bytes) : Option Bytes :=
  let n := le 20 4 chunk
  let key := c.bk.getD []
  let nonce := chunkNonce (chunk.take 16) c.chunk
  let ct := slice 32 (80 * n) chunk
  if fixLen 16 (Config.gcmTag key nonce (chunk.take 32) ct) ≠ chunkTag chunk then none
  else some (fixLen (80 * n) (Config.gcmDec key nonce (chunk.take 32) ct))

/-- RESTORE_WRITE (R199, R200). -/
def restoreWriteSvc (r : Run) (s : State) : Res × State :=
  let n := le 20 4 (chunkIn r)
  s.checks r (s.restoreWriteChecks r) fun _ =>
    match s.sessionIn r true with
    | none => s.fails stRange
    | some c =>
      s.checks r (s.lanes r) fun _ =>
        let s' := s.spend r.core (20000 + 1500 * n)
        match c.openChunk (chunkIn r) with
        | none => s'.fails stVerifyFail
        | some plain =>
          let gs := s.addedGroups [] (groupParts (chunkParts n plain))
          let added := (gs.map fun g => g.2.length).sum
          if s.restoreRoom gs = false then (s'.countLoads n).fails stKeyLimit
          else
            ((s'.countLoads n).setSession { c with chunk := c.chunk + 1, tags := c.tags ++ chunkTag (chunkIn r) }).doneWith
              (toLE 4 added ++ toLE 4 (n - added)) (some (gs.map s.restoreChange))

/-- RESTORE_WRITE, opcode 0x0C55. -/
def execRestoreWrite (core : Nat) (hw : Hw) (s : State) : Host.Outcome State Fault Refusal := .next (s.serve core 0x0C55 hw restoreWriteSvc)

/-- The session that PARAM0 names. -/
def State.sessionParam (s : State) (r : Run) (restore : Bool) : Option CargoSession := s.cargoSession r.tenant (wbits 31 0 r.b.p0) restore

/-- The checks of RESTORE_CLOSE (R199). -/
def State.restoreCloseChecks (s : State) (r : Run) : List (Bool × Nat) :=
  s.keySteps r ++ [noPermit r, (sessionParams r, stBadFormat), ((s.sessionParam r true).isSome, stRange)]

/-- A session has every chunk that its summary counts, with the tags it names (R197, R199). -/
def CargoSession.whole (c : CargoSession) : Bool :=
  decide (c.chunk = le 32 4 c.summary) && decide (fixLen 32 (Config.shake256 c.tags 32) = slice 48 32 c.summary)

/-- RESTORE_CLOSE (R199). -/
def restoreCloseSvc (r : Run) (s : State) : Res × State :=
  s.checks r (s.restoreCloseChecks r) fun _ =>
    match s.sessionParam r true with
    | none => s.fails stRange
    | some c => ((s.endSession c.number).spend r.core 30000).gives (if c.whole then answered [] else failed stVerifyFail)

/-- RESTORE_CLOSE, opcode 0x0C56. -/
def execRestoreClose (core : Nat) (hw : Hw) (s : State) : Host.Outcome State Fault Refusal := .next (s.serve core 0x0C56 hw restoreCloseSvc)

/-- The checks of CARGO_SESSION_END (R194). -/
def State.sessionEndChecks (s : State) (r : Run) : List (Bool × Nat) :=
  s.keySteps r ++ [noPermit r, (sessionParams r, stBadFormat),
    ((s.sessionParam r true).isSome || (s.sessionParam r false).isSome, stRange)]

/-- CARGO_SESSION_END (R194). -/
def cargoSessionEndSvc (r : Run) (s : State) : Res × State :=
  s.checks r (s.sessionEndChecks r) fun _ =>
    ((s.endSession (wbits 31 0 r.b.p0)).spend r.core 30000).gives (answered [])

/-- CARGO_SESSION_END, opcode 0x0C57. -/
def execCargoSessionEnd (core : Nat) (hw : Hw) (s : State) : Host.Outcome State Fault Refusal :=
  .next (s.serve core 0x0C57 hw cargoSessionEndSvc)

end Sys2Proof.Machine
end

