-- ==== Sys2Proof/Machine/Diag.lean ====
section
/-! DEFINITION. The diagnostic opcodes 0x0F10 to 0x0F12 (08_cipher_lanes_and_hash.md R226; 09_bignum_engine_and_asymmetric.md R254): a
command stream run on a unit taken out of service for the barge. -/

namespace Sys2Proof.Machine

/-- How one unit reads a command stream: the data words a command takes, and what running one command answers. -/
structure StreamUnit where
  need : State → W64 → Nat × State
  run : State → W64 → List TWord → Nat → Answer

/-- Run a stream: each command word with its data words, PUBLIC, and its checker mismatches; the output collects each command's
output words and its status word. A command whose data words do not all stand in the buffer is not issued. -/
def StreamUnit.stream (u : StreamUnit) : Nat → List W64 → List Nat → State → List TWord → List TWord × State
  | 0, _, _, s, out => (out, s)
  | _, [], _, s, out => (out, s)
  | fuel + 1, cmd :: rest, mism, s, out =>
    let n := u.need s cmd
    if rest.length < n.1 then (out, n.2)
    else
      let a := u.run n.2 cmd ((rest.take n.1).map fun d => word d .pub) (mism.headD 0)
      let status := match a.code with
        | some code => [statusWord code]
        | none => []
      u.stream fuel (rest.drop n.1) mism.tail a.st (out ++ a.out ++ status)

/-- What a diagnostic barge checks first: no permit, the lighter's reserved bytes, a whole number of words, a unit that can be taken.
Log 28, DEDUCED. -/
def diagChecks (r : Run) (free : Bool) : List (Bool × Nat) :=
  [noPermit r, (allZero ((r.lighter 0).drop 2), stBadFormat), (r.input.length % 8 == 0, stBadLength), (free, stRange)]

/-- Output words that may not leave as they stand: the tug's gate refuses a write to host memory that holds a word that is not PUBLIC
(R303), and what passes it, or is bound for a session, is zeroed at its port (R308). True: the transfer leaves. An LTP client's buffer has no
address. Log 60, DEDUCED. -/
def State.stopOutput (s : State) (r : Run) (out : List TWord) : Bool × State :=
  let addr := hostAddr r.b.outAddr
  if (s.ringCfg r.e.ring).transport ≠ 0 then (true, s.egressZero 113 (stayAddrs 0 out))
  else
    let t := 96 + (s.freeTug 0 12).getD 0
    match s.gateCheck t .write addr (8 * out.length) out with
    | some bad => (false, s.refuse t .write bad)
    | none => (true, s.egressZero 112 (stayAddrs addr out))

/-- A transfer as it leaves the die: the words that may not leave are zero, the others unchanged (R308). -/
def egressed (out : List TWord) : Bytes := ofWords (out.map egressData)

/-- What a stream's words give the barge under the destination and egress rules (R226, R303, R308): where some word may not leave, the others
of a transfer that its gate lets pass do, and the barge fails. -/
def State.diagOutcome (s : State) (r : Run) (out : List TWord) : Outcome × State :=
  match egressStatus out with
  | some st =>
    if r.fits (8 * out.length) then
      let x := s.stopOutput r out
      (if x.1 then ⟨st, [], 8 * out.length, some (egressed out)⟩ else failed st, x.2)
    else (withOutput r (wordsBytes out), s)
  | none => (withOutput r (wordsBytes out), s)

/-- The words of a stream leave through the output buffer (R226). -/
def State.diagOutput (s : State) (r : Run) (out : List TWord) : Res × State :=
  let x := (s.spend r.core 4000).diagOutcome r out
  x.2.gives x.1

/-! ### LANE_DIAG -/

/-- Data words of a lane command (R209); what the table leaves to the unit, the words of a PUT, of a block command on a slot that
holds no key and of a LOADT of no type of R106, is open (log 20). Log 28, DEDUCED. -/
def laneNeed (k : Nat) (s : State) (cmd : W64) : Nat × State :=
  let refs := if cCmp cmd then ceilDiv (cCmpLen cmd) 8 else 0
  let open_ (lo n : Nat) : Nat × State := (lo + s.freshNat.1 % n, s.freshNat.2)
  match wbits 63 60 cmd with
  | 0 => (2, s)
  | 1 => (1, s)
  | 2 | 3 =>
    if cSrc cmd = 1 then (refs, s)
    else match ((s.coreAt k).lane.bind fun c => s.ctxSlot c (cSlot cmd)) with
      | some (_, x) => (x.block / 8 + refs, s)
      | none => open_ (1 + refs) 2
  | 6 | 8 => (2, s)
  | 7 | 9 | 10 => (4, s)
  | 13 => open_ 1 4
  | 14 =>
    match cProfile cmd with
    | 0 | 2 => (2, s)
    | 1 | 3 => (3, s)
    | 4 => (4, s)
    | _ => open_ 1 4
  | _ => (0, s)

/-- A lane as a stream's unit; OPEN is REFUSED, even after a CLOSE (R226). -/
def laneUnit (k : Nat) : StreamUnit := ⟨laneNeed k, fun s cmd data mism =>
  let a := if wbits 63 60 cmd = 0 then s.answer uRefused else s.laneRun k ⟨wbits 63 60 cmd, cmd, data, [], mism⟩
  if a.code = some uFault then { a with st := { a.st with cph := { a.st.cph with faults := a.st.cph.faults + 1 } } } else a⟩

/-- The unit that a diagnostic lighter names. -/
def diagUnit (r : Run) : Nat := le 0 2 (r.lighter 0)

/-- The stream of LANE_DIAG on its lane (R226): the lane is out of service for the stream and then as before, its slots cleared.
Log 28, DEDUCED. -/
def State.laneDiagRun (s : State) (r : Run) (mism : List Nat) : List TWord × State :=
  let n := diagUnit r
  let l := s.laneAt n
  let s := (s.closeLane r.core).setLane n { l with st := .diag, before := l.st, slots := [] }
  let s := s.setCtx r.core { lane := n, tenant := 0, diag := true }
  let x := (laneUnit r.core).stream 512 (toWords r.input) mism s []
  let s := x.2.closeLane r.core
  (x.1, s.setLane n { s.laneAt n with st := l.st, slots := [] })

/-- LANE_DIAG (R226): it waits until the lane's contexts have closed. -/
def laneDiagSvc (mism : List Nat) (r : Run) (s : State) : Res × State :=
  let n := diagUnit r
  s.checks r (diagChecks r (decide (n < 68) && decide ((s.laneAt n).st ≠ .diag))) fun _ =>
    if s.ctxsOn n ≠ [] then (.wait, s)
    else
      let x := s.laneDiagRun r mism
      x.2.diagOutput r x.1

/-- LANE_DIAG, opcode 0x0F10. -/
def execLaneDiag (core : Nat) (mism : List Nat) (s : State) : Host.Outcome State Fault Refusal :=
  .next (s.serve core 0x0F10 {} (laneDiagSvc mism))

/-! ### HASH_DIAG -/

/-- A hash engine as a stream's unit; KEY takes a handle (R223). -/
def hashUnit (k : Nat) : StreamUnit :=
  ⟨fun s cmd => match wbits 63 60 cmd with
    | 2 | 6 => (ceilDiv (hN cmd) 8, s)
    | 3 => (1, s)
    | _ => (0, s),
  fun s cmd data _ => s.hashRun k ⟨wbits 63 60 cmd, cmd, data, [], 0⟩⟩

/-- The stream of HASH_DIAG on its engine (R226): out of service for the stream, then as before. Log 28, DEDUCED. -/
def State.hashDiagRun (s : State) (r : Run) : List TWord × State :=
  let e := diagUnit r
  let g := s.engAt e
  let s := (s.releaseEng r.core).setEng e { st := .diag, before := g.st, holder := some r.core }
  let s := s.setCore r.core { s.coreAt r.core with eng := some e }
  let x := (hashUnit r.core).stream 512 (toWords r.input) [] s []
  (x.1, (x.2.releaseEng r.core).setEng e { st := g.st })

/-- HASH_DIAG (R226): it waits until no barge holds the engine. -/
def hashDiagSvc (r : Run) (s : State) : Res × State :=
  let e := diagUnit r
  s.checks r (diagChecks r ((isKeccak e || isSha2 e) && decide ((s.engAt e).st ≠ .diag))) fun _ =>
    if (s.engAt e).holder.isSome then (.wait, s)
    else
      let x := s.hashDiagRun r
      x.2.diagOutput r x.1

/-- HASH_DIAG, opcode 0x0F11. -/
def execHashDiag (core : Nat) (s : State) : Host.Outcome State Fault Refusal := .next (s.serve core 0x0F11 {} hashDiagSvc)

/-! ### TILE_DIAG -/

/-- A tile as a stream's unit (R231); JOPEN is REFUSED, even after a JCLOSE (R254). -/
def tileUnit (k : Nat) : StreamUnit :=
  ⟨fun s cmd => match wbits 63 60 cmd with
    | 8 => (1, s)
    | 10 => (2, s)
    | 11 => (min 4 (tN cmd), s)
    | _ => (0, s),
  fun s cmd data mism =>
    let a := if wbits 63 60 cmd = 8 then s.answer uRefused else s.tileRun k ⟨wbits 63 60 cmd, cmd, data, [], mism⟩
    if a.code = some uFault then { a with st := { a.st with bgn := { a.st.bgn with faults := a.st.bgn.faults + 1 } } } else a⟩

/-- The stream of TILE_DIAG on its tile (R254): out of service for the stream, its windows cleared at the end, then as before.
Log 28, DEDUCED. -/
def State.tileDiagRun (s : State) (r : Run) (mism : List Nat) : List TWord × State :=
  let n := diagUnit r
  let t := s.tileAt n
  let s := (s.closeJob r.core).setTile n { t with st := .diag, before := t.st }
  let s := s.setJob r.core { tile := n, base := 0, size := 8, diag := true }
  let x := (tileUnit r.core).stream 512 (toWords r.input) mism s []
  let s := x.2.closeJob r.core
  (x.1, s.setTile n { s.tileAt n with st := t.st })

/-- TILE_DIAG (R254): it waits until the tile has no job and no window being cleared. -/
def tileDiagSvc (mism : List Nat) (r : Run) (s : State) : Res × State :=
  let n := diagUnit r
  s.checks r (diagChecks r (decide (n < 26) && decide ((s.tileAt n).st ≠ .diag))) fun _ =>
    if s.jobsOn n ≠ [] ∨ (s.tileAt n).clearing ≠ [] then (.wait, s)
    else
      let x := s.tileDiagRun r mism
      x.2.diagOutput r x.1

/-- TILE_DIAG, opcode 0x0F12. -/
def execTileDiag (core : Nat) (mism : List Nat) (s : State) : Host.Outcome State Fault Refusal :=
  .next (s.serve core 0x0F12 {} (tileDiagSvc mism))

end Sys2Proof.Machine
end

