-- ==== Sys2Proof/Machine/Functions.lean ====
section
/-! DEFINITION. Stop-change-restart (15_launch_modes_power.md R369 to R372, with R177, R300, R301, R345, R356, R422): FN_STOP, FN_CHANGE and
FN_RESTART on the function that PWR_FN_SEL selects. Records that are LEN_SRC, GTE or MOR_PIN_EDIT writes reach the pending copy through
their registers. -/

namespace Sys2Proof.Machine

/-! ### The functions (R369) -/

/-- A function number of R369. -/
def fnValid (f : Nat) : Bool :=
  decide (f ≤ 0x10) || (decide (0x18 ≤ f) && decide (f ≤ 0x22)) || (decide (0x28 ≤ f) && decide (f ≤ 0x30))
    || (decide (0x38 ≤ f) && decide (f ≤ 0x3B))

/-- A function changed in DRYDOCK only. -/
def drydockOnly (f : Nat) : Bool := f == 0x2B || (decide (0x38 ≤ f) && decide (f ≤ 0x3B))

/-- A function is STOPPED. -/
def State.fnStopped (s : State) (f : Nat) : Bool := s.pwr.stopped.contains f

/-- The PF may drive a function now: in DRYDOCK any, in SERVICE one that holds a grant (R372). -/
def State.fnGranted (s : State) (f : Nat) : Bool :=
  decide (s.glb.mode = .drydock) || (decide (s.glb.mode = .service) && s.pwr.grants.contains f)

/-- REASON of a function's last RESTART (PWR_FN_STATUS). -/
def State.setReason (s : State) (f code : Nat) : State := { s with pwr := { s.pwr with reasons := Tbl.put f code s.pwr.reasons } }

/-- A write of PWR_FN_CTL for the selected function, which is discarded and logged where PWR takes no writes, the number is invalid or the
function may not be driven (R22, R369, R372). Log 53, DEDUCED. -/
def State.fnWrite (s : State) (k : Nat → State) : State :=
  let f := s.pwr.fnSel
  if s.vis .pf 0xD ≠ .full ∨ fnValid f = false ∨ s.fnGranted f = false then s.logAccess 0xD0108 3 else k f

/-! ### STOP and CHANGE (R370) -/

/-- A function stops: a ring group's OPEN rings read STOPPED (R53), a Broviry link sends only control frames (R422). -/
def State.stopFn (s : State) (f : Nat) : State :=
  if s.fnStopped f then s
  else
    let s := { s with
      pwr := { s.pwr with stopped := s.pwr.stopped ++ [f] }
      rings := s.rings.map fun (p : Nat × Ring) =>
        if p.1 / 1024 = f ∧ p.2.st = .opened then (p.1, { p.2 with st := .stopped }) else p }
    if 0x2C ≤ f ∧ f ≤ 0x2F ∧ (s.linkAt (f - 0x2C)).st = .up then
      s.setLink (f - 0x2C) { s.linkAt (f - 0x2C) with st := .stopped }
    else s

/-- FN_STOP (R370). -/
def execFnStop (s : State) : Host.Outcome State Fault Refusal := .next (s.fnWrite fun f => s.stopFn f)

/-- The pending copy of a function is opened, or opened again, as its active copy (R370). Log 53, DEDUCED. -/
def State.openPending (s : State) (f : Nat) : State :=
  { s with pwr := { s.pwr with pend := some (f, s.cfg), fnBuf := [], fnBufLen := 0 } }

/-- FN_CHANGE (R370): on a STOPPED function; BUSY while another function's pending copy is open. -/
def execFnChange (s : State) : Host.Outcome State Fault Refusal :=
  .next <| s.fnWrite fun f =>
    if s.fnStopped f = false then s
    else match s.pwr.pend with
      | some (g, _) => if g = f then s.openPending f else s.setReason f 22
      | none => s.openPending f

/-! ### RESTART (R370, R371) -/

/-- A record that a function's pending copy takes (R369). -/
def fnAdmits (f : Nat) : Record → Bool
  | .ring r _ => r / 1024 == f
  | .flow _ _ => f == 0x10
  | .laneGroup g _ => f == 0x18 + g
  | .cphBudget _ _ _ => decide (0x18 ≤ f) && decide (f ≤ 0x1F)
  | .tileGroup g _ => f == 0x20 + g
  | .bgnBudget _ => decide (0x20 ≤ f) && decide (f ≤ 0x22)
  | .iface _ => decide (0x28 ≤ f) && decide (f ≤ 0x2B)
  | .cluster _ => decide (0x2C ≤ f) && decide (f ≤ 0x2F)
  | .power _ => f == 0x30
  | .quorum _ _ => f == 0x3A
  | .tenant _ _ => f == 0x3B
  | _ => false

/-- The bytes in PWR_FN_BUF. -/
def Pwr.bufBytes (p : Pwr) : Bytes := (List.range (p.fnBufLen / 8)).flatMap fun i => toLE 8 (tget 0 i p.fnBuf).toNat

/-- The pending copy with the records of PWR_FN_BUF applied in order, none where one of them is wrong or not the function's. -/
def State.bufApplied (s : State) (f : Nat) (m : Manifest) : Option Manifest :=
  match parseRecords (s.pwr.bufBytes.length + 1) s.pwr.bufBytes with
  | none => none
  | some rs => if rs.all fun r => fnAdmits f r && recordInTable r then some (rs.foldl addRecord m) else none

/-- RING_BUSY (R358): a ring that is not CLOSED changes what only a CLOSED one may. -/
def State.ringBusy (s : State) (m : Manifest) : Bool :=
  m.rings.any fun p =>
    let a := s.ringCfg p.1
    let c := p.2
    decide ((s.ringAt p.1).st ≠ .closed)
      && !(c.tenant == a.tenant && c.func == a.func && c.transport == a.transport && c.maint == a.maint && c.flow == a.flow
        && c.flowEn == a.flowEn)

/-- The gates whose region tables two configurations hold differently. -/
def gatesChanged (a b : Manifest) : List Nat :=
  (List.range 120).filter fun g => (List.range 16).any fun r =>
    decide (tget ({} : Region) (16 * g + r) a.gates ≠ tget ({} : Region) (16 * g + r) b.gates)

/-- The port functions of a gate, all of which must be STOPPED to change its table; none: a gate of no port or, for the debug port's, no
function (R300, R369). Gate 113 serves both Ethernet ports, a Broviry gate its own link. -/
def gatePorts (g : Nat) : Option (List Nat) :=
  if g = 112 then some [0x28]
  else if g = 113 then some [0x29, 0x2A]
  else if 115 ≤ g ∧ g ≤ 118 then some [0x2C + (g - 115)]
  else none

/-- PORT_RUNNING (R300): the debug port has no function, so that its gate's table never changes (DEDUCED). Log 56. -/
def State.portRunning (s : State) (m : Manifest) : Bool :=
  (gatesChanged s.cfg m).any fun g => g == 119 || ((gatePorts g).map fun fs => fs.any fun f => !s.fnStopped f).getD false

/-- Two CLUSTER records differ in nothing but a link's bit of LINKS (R422). -/
def sameButLink (l : Nat) : Option ClusterCfg → Option ClusterCfg → Bool
  | none, none => true
  | some a, some b =>
    let bit : BitVec 8 := BitVec.ofNat 8 (2 ^ l)
    decide ({ a with links := a.links &&& ~~~bit, body := [] } = { b with links := b.links &&& ~~~bit, body := [] })
  | _, _ => false

/-- The code of the first check that a function's pending copy fails, 0 where it passes (R358, R370). Log 53, DEDUCED. -/
def State.restartReason (s : State) (f : Nat) (m : Manifest) : Nat :=
  if f < 0x10 then
    if ringsOk m = false then 13 else if vfRingsOk m = false then 16 else if s.ringBusy m then 23 else 0
  else if 0x28 ≤ f ∧ f ≤ 0x2B then
    if ringsOk m = false then 13 else if s.interfacesOk m = false then 16 else 0
  else if 0x2C ≤ f ∧ f ≤ 0x2F then
    if s.interfacesOk m && sameButLink (f - 0x2C) s.cfg.cluster m.cluster then 0 else 16
  else if f = 0x30 then (if powerOk m.power then 0 else 15)
  else if f = 0x38 then (if tamperOk m.tamper then 0 else 10)
  else if f = 0x39 then (if gatesOk s.pwr.declass m && !s.portRunning m then 0 else 11)
  else if f = 0x3A then (if quorumOk m then 0 else 9)
  else if f = 0x3B then (if sharesOk m = false then 8 else if pinsOk s.linksOf m = false then 14 else 0)
  else 0

/-- The pinned handles that exist and are not resident are paged in; one with no key is logged and stays in the table (R177). -/
def State.pageInPins (s : State) : State :=
  let hs := s.cfg.pins.filter fun h => !s.resident h
  let s := (hs.filter fun h => (s.storeLinks h).isNone).foldl (fun (s : State) h => s.logEvent .interface 15 h 0) s
  s.startPageIns (hs.filter fun h => (s.storeLinks h).isSome)

/-- A switched domain is on or off as a configuration asks (R375). -/
def State.powerTo (s : State) (d : Nat) (on : Bool) : State :=
  let x := s.domAt d
  if on then (if x.st = .off then s.setDom d { x with st := .on, since := s.now } else s)
  else s.setDom d { x with st := .off }

/-- An Ethernet port follows a new IFACE record (R375, R389). -/
def State.ethRestart (s : State) (p : Nat) : State :=
  let s := s.powerTo (57 + p) (((s.portCfg p).map (·.enable)).getD false)
  let s := s.ethFollow p
  if s.ethUp p then s else s.dropSessions fun x => x.port == p

/-- A Broviry link follows its bit of LINKS (R403, R422): an enabled link that was off trains, a disabled one goes off. -/
def State.linkRestart (s : State) (l : Nat) : State :=
  let on := (s.cfg.cluster.map fun c => s.linkEnabled c l).getD false
  let s := s.powerTo (59 + l) on
  let k := s.linkAt l
  if on = false then s.setLink l (k.fallen .off s.now)
  else match k.st with
    | .stopped => State.pumpLink l (k.waiting.length + 1) (s.setLink l { k with st := .up })
    | .off => s.setLink l { k with st := .training }
    | _ => s

/-- What a latched copy sets in the units beyond the configuration itself, from the switch cycle (R371). Log 53, DEDUCED. -/
def State.fnEffects (s : State) (f : Nat) : State :=
  let m := s.cfg
  if f < 0x10 then
    { s with rings := s.rings.map fun (p : Nat × Ring) =>
      if p.1 / 1024 = f ∧ p.2.st = .stopped then (p.1, { p.2 with st := .opened }) else p }
  else if 0x18 ≤ f ∧ f ≤ 0x1F then
    ({ s with cph := { s.cph with alarmLimit := m.alarmLimit, windowMs := m.windowMs, laneLimit := m.laneLimit } }).grantLanes
  else if 0x20 ≤ f ∧ f ≤ 0x22 then ({ s with bgn := { s.bgn with tileLimit := m.tileLimit } }).grantTiles
  else if f = 0x28 then
    if (m.iface.map (·.pcieEnable)).getD false then s else s.pcieDown
  else if f = 0x29 ∨ f = 0x2A then s.ethRestart (f - 0x29)
  else if f = 0x2B then
    if (m.iface.map (·.cargoEnable)).getD false then s.resendReads else (s.dropDrive 0).dropDrive 1
  else if 0x2C ≤ f ∧ f ≤ 0x2F then s.linkRestart (f - 0x2C)
  else if f = 0x38 then { s with len := { s.len with table := m.tamper, latched := true, events := [] } }
  else if f = 0x3B then s.pageInPins
  else s

/-- The switch cycle (R318, R370, R371): the copy is latched, the pending copy closes, the function runs, its grant ends, MR7 is
extended. Where gate tables
changed, RESTART completes with the last of their barriers (R301). -/
def State.switchFn (s : State) (f : Nat) (m : Manifest) : State :=
  let changed := if f = 0x39 then gatesChanged s.cfg m else []
  let s := { s with
    cfg := m
    pwr := { s.pwr with
      pend := match s.pwr.pend with
        | some (g, c) => if g = f then none else some (g, c)
        | none => none
      stopped := s.pwr.stopped.filter (· != f)
      grants := s.pwr.grants.filter (· != f)
      restarting := if f = 0x39 then changed else s.pwr.restarting } }
  let s := changed.foldl (fun (s : State) (g : Nat) => s.startBarrier g) s
  let s := ((s.setReason f 0).fnEffects f).extend 7 (Config.measureItem 7 [1, f] [])
  if changed = [] then s.restarted else s

/-- A RESTART that is refused: the active copy stays, REASON gives the code (R370). -/
def State.refuseRestart (s : State) (f code : Nat) : State := (s.setReason f code).restarted

/-- RESTART of a function that may be restarted. -/
def State.restartFn (s : State) (f : Nat) : State :=
  if s.fnStopped f = false then s.refuseRestart f 20
  else match s.pwr.pend with
    | some (g, m) =>
      if g ≠ f then s.switchFn f s.cfg
      else match s.bufApplied f m with
        | none => s.refuseRestart f 7
        | some m' =>
          let code := s.restartReason f m'
          if code = 0 then s.switchFn f m'
          else ({ s with pwr := { s.pwr with pend := some (f, m') } }).refuseRestart f code
    | none => s.switchFn f s.cfg

/-- FN_RESTART (R370, R372): in SERVICE a function without a grant is refused with NO_GRANT. While a RESTART of the gate tables runs its
bit reads 1, and a write of 1 changes nothing (R6). -/
def execFnRestart (s : State) : Host.Outcome State Fault Refusal :=
  .next <|
    let f := s.pwr.fnSel
    if s.vis .pf 0xD ≠ .full ∨ fnValid f = false then s.logAccess 0xD0108 3
    else if f = 0x39 ∧ s.pwr.restarting ≠ [] then s
    else if s.fnGranted f = false then s.refuseRestart f 21
    else s.restartFn f

end Sys2Proof.Machine
end

