-- ==== Sys2Proof/Machine/Power.lean ====
section
/-! DEFINITION. Mode requests, DORMANT, resume and HALT (15_launch_modes_power.md R363, R364, R366 to R368; 02_barges_and_rings.md R59),
power domains (R375 to R377) and the voltage, clock, thermal and cap loops (R378 to R381). -/

namespace Sys2Proof.Machine

/-! ### Domains (R375, R376) -/

/-- The 72 domains. -/
def domainNumbers : List Nat := List.range 72

/-- A domain is on in LAUNCH, SERVICE and DRYDOCK but for the policy's gating: the Ethernet ports by IFACE, the Broviry links by CLUSTER. -/
def State.domainWanted (s : State) (d : Nat) : Bool :=
  if d = 57 ∨ d = 58 then ((s.portCfg (d - 57)).map (·.enable)).getD false
  else if 59 ≤ d ∧ d ≤ 62 then (s.cfg.cluster.map fun c => s.linkEnabled c (d - 59)).getD false
  else decide (d < 72)

/-- Replace the state of every domain; a FAILED one stays so. -/
def State.setDomains (s : State) (f : Nat → DomState) : State :=
  { s with pwr := { s.pwr with domains := domainNumbers.map fun d =>
    let x := s.domAt d
    (d, { x with st := if x.st = .failed then .failed else f d, since := s.now, idleFrom := s.now }) } }

/-- The DORMANT column of R375; a DRAM channel in self-refresh reads RET (DEDUCED). Log 52. -/
def dormantDomain (d : Nat) : DomState :=
  if (decide (49 ≤ d) && decide (d ≤ 54)) || d == 66 || d == 67 || d == 68 then .ret
  else if d = 70 ∨ d = 71 then .on
  else .off

/-- The HALT column of R375 once the flush has ended. -/
def haltDomain (d : Nat) : DomState := if [55, 63, 69, 70, 71].contains d then .on else .off

/-- A FAILED domain without which the device does not run (R376). -/
def State.vitalFailed (s : State) : Bool := [24, 53, 54, 63, 68].any fun d => decide ((s.domAt d).st = .failed)

/-- The lanes of a domain. -/
def domainLanes (d : Nat) : List Nat := laneNumbers.filter fun n => laneDomain n == d
/-- The tiles of a domain. -/
def domainTiles (d : Nat) : List Nat := tileNumbers.filter fun n => tileDomain n == d
/-- The hash engines of a domain. -/
def domainEngs (d : Nat) : List Nat := (List.range 56).filter fun e => 20 + engGroup e == d

/-- Words of the crew cores' scratch and the cluster SRAM of a cluster, 1 MiB each (R18). -/
def clusterWord (c w : Nat) : Bool := within (8 * w) (0x1000000 + 0x100000 * c) 0x100000 || within (8 * w) (0x2000000 + 0x100000 * c) 0x100000

/-- Before a domain loses power its arrays are zeroed; what is read of them afterwards is not-valid (R28, R376). -/
def State.domainZeroed (s : State) (d : Nat) : State :=
  if d < 12 then { s with sram := s.sram.filter fun p => !clusterWord d p.1 }
  else if d < 20 then
    (domainLanes d).foldl (fun (s : State) n => s.setLane n { s.laneAt n with slots := [] }) s
  else if d < 25 then
    (domainEngs d).foldl (fun (s : State) e => let g := s.engAt e; s.setEng e { st := g.st, before := g.before }) s
  else s

/-! ### The units' state that DORMANT loses and HALT zeroes (R367, R376) -/

/-- Crew cores, SRAM, lane slots, hash state, jobs and the KDU's queue. -/
def State.enginesCleared (s : State) : State :=
  { s with
    cores := s.cores.map fun (p : Nat × Core) => (p.1, { busy := p.2.busy, busyLast := p.2.busyLast })
    sram := []
    cph := { s.cph with
      waiting := [], diag := {}
      lanes := s.cph.lanes.map fun (p : Nat × Lane) =>
        (p.1, { p.2 with slots := [], st := if p.2.st = .diag then p.2.before else p.2.st }) }
    hsh := { s.hsh with
      queue := [], diag := {}
      engs := s.hsh.engs.map fun (p : Nat × Eng) =>
        (p.1, { st := if p.2.st = .diag then p.2.before else p.2.st, before := p.2.before }) }
    bgn := { s.bgn with
      waiting := [], diag := {}
      tiles := s.bgn.tiles.map fun (p : Nat × Tile) =>
        (p.1, { p.2 with clearing := [], st := if p.2.st = .diag then p.2.before else p.2.st }) } }

/-! ### Mode requests (R363) -/

/-- A path may write PWR_MODE_REQ: the PF and the debug port where they may write PWR, the towpath in every mode with main power. -/
def State.mayRequest (s : State) (p : Path) : Bool :=
  match p with
  | .smbus | .spi => s.clock.mainPower
  | _ => decide (s.vis p 0xD = .full)

/-- RESULT of the last request (PWR_MODE_STATUS), which is logged. -/
def State.modeResult (s : State) (result : Nat) : State :=
  ({ s with pwr := { s.pwr with result := result } }).logEvent .mode 1 s.pwr.req result

/-- A transition is in progress (R363): a DORMANT drain, a resume, the drain to DRYDOCK or HALT's flush. -/
def State.inTransition (s : State) : Bool := s.pwr.trans.isSome || s.pwr.drydockBy.isSome || s.pwr.flushing

/-- A request of a path: BUSY, a refusal of its own, or what it does. Log 50, DEDUCED. -/
def State.modeRequest (s : State) (p : Path) (code : Nat) (refusal : Option Nat) (k : State → State) : State :=
  if s.mayRequest p = false then s.logOn p 0xD0000 4
  else
    let s := { s with pwr := { s.pwr with req := code } }
    if s.inTransition = true ∧ code ≠ 3 then s.modeResult 4
    else match refusal with
      | some r => s.modeResult r
      | none => k s

/-! ### DORMANT (R366, R367) -/

/-- DORMANT_REQUEST (R363, R366, R421). Log 50, DEDUCED. -/
def execDormantRequest (path : Path) (s : State) : Host.Outcome State Fault Refusal :=
  .next <|
    let refusal := if s.glb.mode ≠ .service then some 3 else if s.pwr.stopped ≠ [] then some 6 else none
    s.modeRequest path 1 refusal fun s =>
      let a := s.askLeave
      if a.1 = false then (s.modeResult 5).logEvent .mode 2 1 0
      else
        let s := a.2
        let s := { s with
          glb := { s.glb with admitting := false }
          pwr := { s.pwr with trans := some (.drain (s.now + 100000 * s.cfg.power.drainMs)) } }
        s.modeResult 2

/-- Nothing is in flight (R366 step 2), and a cluster device has left (R421). -/
def State.drained (s : State) : Bool :=
  s.lkm.tbl.isEmpty && (s.rings.all fun p => (s.ringCfg p.1).transport == 0 || p.2.cqHead == p.2.cqTail)
    && (s.brv.st == .single || s.brv.st == .left)

/-- Steps 3 and 4 of R366, and what DORMANT loses (R367, R420, R372). -/
def State.dormantLosses (s : State) : State :=
  let s := (s.dropSessions fun _ => true).dropPermits fun _ => true
  let s := { s with
    lcy := { s.lcy with unlocked := none }
    adm := { s.adm with comps := [] }
    mor := { s.mor with sessions := [], pageIns := [] }
    pwr := { s.pwr with grants := [] } }
  (s.writeBackAll.enginesCleared.rngOff).linksOff

/-- DORMANT_DRAIN_DONE (R366 steps 3 to 5). -/
def execDormantDrainDone (s : State) : Host.Outcome State Fault Refusal :=
  .next <|
    match s.pwr.trans with
    | some (.drain limit) =>
      if s.drained = true ∧ s.now ≤ limit then
        let s := { s.dormantLosses with slu := { s.dormantLosses.slu with ready := false, half0 := false, half1 := false } }
        let s := (s.setDomains dormantDomain).toMode .dormant
        let s := { s.pcieDown with pwr := { s.pcieDown.pwr with trans := none } }
        ((s.ethFollow 0).ethFollow 1).modeResult 1
      else s
    | _ => s

/-- DRAIN_TIMEOUT (R366): once DRAIN_MS have passed. -/
def execDrainTimeout (s : State) : Host.Outcome State Fault Refusal :=
  .next <|
    match s.pwr.trans with
    | some (.drain limit) =>
      if limit < s.now then
        ({ s with glb := { s.glb with admitting := true }, pwr := { s.pwr with trans := none } }).modeResult 5
      else s
    | _ => s

/-! ### Resume (R368) -/

/-- The links that CLUSTER enables train again (R403). -/
def State.linksTrain (s : State) : State :=
  match s.cfg.cluster with
  | none => s
  | some c =>
    (List.range 4).foldl (fun (s : State) l =>
      if s.linkEnabled c l then s.setLink l { s.linkAt l with st := .training } else s) s

/-- What the domains that DORMANT switched off hold at its reset value once power returns (R7, R375): LKM_PORTS and LKM_TEL_WINDOW of
PD63, WHF_LOOP_CTL and WHF_LOOP_STATUS of PD55; counters, which reset in LAUNCH, stay. -/
def State.resumeResets (s : State) : State :=
  { s with
    lkm := { s.lkm with lastPort := 0, telWindow := 0 }
    wharf := { s.wharf with loopMs := 0, loopIface := 0, loopDepth := 0, loopResult := 0 } }

/-- RESUME_REQUEST (R363, R368): the domains ramp and the RNG starts. -/
def execResumeRequest (path : Path) (s : State) : Host.Outcome State Fault Refusal :=
  .next <|
    s.modeRequest path 2 (if s.glb.mode ≠ .dormant then some 3 else none) fun s =>
      let s := s.setDomains fun d => if s.domainWanted d then (if d = 70 ∨ d = 71 then .on else .waking) else .off
      let s := { s with pwr := { s.pwr with trans := some .resume } }
      s.resumeResets.rngStart.modeResult 2

/-- A resume that fails runs LAUNCH from step 1, with end cause 3 (R368). -/
def State.resumeFails (s : State) : State :=
  let s := s.modeResult 7
  let t := s.resetWith 3
  { t with pwr := { t.pwr with result := 7, req := 2 } }

/-- The firmware images match their digests recorded at LAUNCH (R368). -/
def State.imagesMatch (s : State) (images : List Bytes) : Bool :=
  images.map (fun im => Config.shake256 im 64) == s.pwr.imageDigests

/-- The minima of step 7 of R360, which the self-checks of a resume have to meet too (R368). -/
def State.selfTestsPass (s : State) : Bool :=
  decide (0 < s.hsh.pairs) && (laneNumbers.any fun n => (s.laneAt n).serves) && (tileNumbers.any fun n => (s.tileAt n).serves)
    && ((List.range 56).any fun e => isSha2 e && decide ((s.engAt e).st = .active))
    && ((List.range 56).any fun e => isKeccak e && decide ((s.engAt e).st = .active))
    && decide (8 ≤ (List.range 16).countP fun t => !s.mor.tugsOut.contains t) && !s.vitalFailed

/-- The units that fail the self-checks of a resume are retired, a spare that works in the place of each lane and tile (R218, R237, R368). -/
def State.resumeChecked (s : State) (lanes tiles engines : List Nat) : State :=
  let s := (lanes.filter fun n => decide ((s.laneAt n).st = .spare)).foldl
    (fun (s : State) n => s.setLane n { s.laneAt n with st := .retired }) s
  let s := (tiles.filter fun n => decide ((s.tileAt n).st = .spare)).foldl
    (fun (s : State) n => s.setTile n { s.tileAt n with st := .retired }) s
  let s := (lanes.filter fun n => (s.laneAt n).serves).foldl (fun (s : State) n => s.retireLane n true) s
  let s := (tiles.filter fun n => (s.tileAt n).serves).foldl (fun (s : State) n => s.retireTile n true) s
  engines.foldl State.hashFails s

/-- RESUME_COMPLETE (R368): once the RNG has started too, the device is in SERVICE. `lanes`, `tiles`, `engines`: the units that fail their
self-checks. -/
def execResumeComplete (images : List Bytes) (trained : Bool) (lanes tiles engines : List Nat) (s : State) :
    Host.Outcome State Fault Refusal :=
  .next <|
    match s.pwr.trans with
    | some .resume =>
      if s.imagesMatch images = false ∨ trained = false ∨ (s.resumeChecked lanes tiles engines).selfTestsPass = false then s.resumeFails
      else if s.rng.ready = false then s
      else
        let s := s.resumeChecked lanes tiles engines
        let s := s.setDomains fun d => if s.domainWanted d then .on else .off
        let s := { s with
          slu := { s.slu with ready := true, half0 := true, half1 := true }
          pwr := { s.pwr with trans := none } }
        let s := { s.toMode .service with glb := { (s.toMode .service).glb with admitting := true } }
        ((s.linksTrain.ethFollow 0).ethFollow 1).modeResult 1
    | _ => s

/-! ### HALT (R59, R364) and RESET -/

/-- HALT_REQUEST (R363, R364): it abandons a drain or a resume. -/
def execHaltRequest (path : Path) (s : State) : Host.Outcome State Fault Refusal :=
  .next <|
    s.modeRequest path 3 (if s.glb.mode = .halt ∨ s.glb.mode = .sentry then some 3 else none) fun s =>
      (s.enterHalt 3 0 0).modeResult 1

/-- The halt report as its 64 bytes (PWR_HALT). -/
def HaltReport.bytes (h : HaltReport) : Bytes :=
  toLE 2 1 ++ toLE 1 h.reason ++ zeros 1 ++ toLE 4 h.sources.toNat ++ toLE 8 h.epoch ++ toLE 8 h.time ++ toLE 4 h.delivered
    ++ toLE 4 h.undeliverable ++ toLE 2 h.cause.toNat ++ toLE 2 h.count ++ toLE 1 h.path ++ toLE 1 h.kd ++ zeros 2 ++ toLE 8 h.addr
    ++ toLE 1 h.step ++ toLE 1 h.code ++ zeros 14

/-- The completions of the flush are counted. -/
def State.countFlush (s : State) (delivered : Bool) : State :=
  { s with pwr := { s.pwr with halt := s.pwr.halt.map fun (h : HaltReport) =>
    if delivered then { h with delivered := (h.delivered + 1) % 2 ^ 32 } else { h with undeliverable := (h.undeliverable + 1) % 2 ^ 32 } } }

/-- A write of the flush can be made: the link, with the function's bus mastership, or the session is there. Log 50, DEDUCED. -/
def State.flushes (s : State) (r : Nat) : Bool :=
  if (s.ringCfg r).transport = 0 then s.wharf.pcieUp && s.wharf.bme.contains (s.ringCfg r).func else (s.ringAt r).bound.isSome

/-- One completion of the flush, the n-th of its ring: delivered into its slot, or counted as undeliverable where it cannot be made, gate
112 refuses it (R294, R299) or its write fails. -/
def State.flushOne (failed : List (Nat × Nat)) (r : Nat) (s : State) (p : Nat × Pending) : State :=
  let gone (s : State) : State := match p.2.idx with
    | some i => s.delEntry i
    | none => s
  if !s.flushes r then (gone s).countFlush false
  else match s.compRefused r with
    | some bad => (gone (s.refuse 112 .write bad)).countFlush false
    | none => if failed.contains (r, p.1) then (gone s).countFlush false else (s.putCompletion r p.2).countFlush true

/-- The HALTED completions of a ring's barges without a completion, in admission order (R59). -/
def State.haltedOf (s : State) (r : Nat) : List Pending :=
  let open_ := s.lkm.tbl.filter fun x => decide (x.2.ring = r) && x.2.origin.isNone && !x.2.released
  (open_.mergeSort fun a b => decide (a.2.order ≤ b.2.order)).map fun x =>
    ⟨some x.1, { failComp x.2.b.seq stHalted with time := s.now % 2 ^ 32 }, x.2.b.irq, none, x.2.v1⟩

/-- The flush of one ring (R59): held and released completions with their own status, then HALTED ones; the completions of a ring under
FLR are discarded (R387). Log 50, DEDUCED. -/
def State.flushRing (failed : List (Nat × Nat)) (s : State) (r : Nat) : State :=
  let g := s.ringAt r
  if g.flr then s.setRing r { g with relq := [], epochComp := none, port := [], inFlight := 0 }
  else
    let first : List Pending := match g.epochComp with
      | some c => [⟨none, c, false, none, false⟩]
      | none => []
    let all := first ++ g.relq ++ s.haltedOf r
    let s := s.setRing r { g with relq := [], epochComp := none, port := [] }
    let s := ((List.range all.length).zip all).foldl (State.flushOne failed r) s
    s.setRing r { s.ringAt r with inFlight := 0 }

/-- Steps 2 and 3 of R364 after the rings: the halt report and close_notify to each session, the halt notice on each link, then
everything but the domains that stay is zeroed and powered down. -/
def State.haltEnd (s : State) : State :=
  let report := (s.pwr.halt.map HaltReport.bytes).getD (zeros 64)
  let told := (s.wharf.sessions.filter fun p => decide (p.2.stage = .opened)).map fun p => Emit.ltp p.1 0x21 0 0 report
  let s := (s.emits told).dropSessions fun _ => true
  let s := s.linksUp.foldl (fun (s : State) l => s.sendOn l 0x04 0 (s.linkAt l).peer [BitVec.ofNat 8 s.index, 0]) s
  let s := (s.linksOff.zeroRoots.enginesCleared).rngOff
  let s := { s with
    lkm := { s.lkm with tbl := [] }
    mor := { s.mor with moorings := [], cache := [], pageIns := [], gathered := [], gatherFrom := none, sessions := [] }
    slu := { s.slu with lines := [] }
    log := { s.log with archive := [] }
    adm := { s.adm with permits := [], comps := [] }
    pwr := { s.pwr with flushing := false } }
  let s := s.setDomains haltDomain
  (s.ethFollow 0).ethFollow 1

/-- HALT_FLUSH_DONE (R59, R364): the completions ring by ring in ascending order; `failed`: the writes that fail, each its ring and its
place, from 0, among that ring's completions. Log 50, DEDUCED. -/
def execHaltFlushDone (failed : List (Nat × Nat)) (s : State) : Host.Outcome State Fault Refusal :=
  .next <|
    if s.pwr.flushing then ((s.rings.map Prod.fst).foldl (State.flushRing failed) s).haltEnd else s

/-- RESET_REQUEST (R361, R363): from HALT and DORMANT into LAUNCH, with the end cause. -/
def execResetRequest (path : Path) (s : State) : Host.Outcome State Fault Refusal :=
  .next <|
    s.modeRequest path 4 (if s.glb.mode = .halt ∨ s.glb.mode = .dormant then none else some 3) fun s =>
      let s := s.modeResult 1
      s.resetWith s.endCause

/-! ### Gating and waking (R376, R377) -/

/-- The domains the policy gates, by family: clusters, lane groups, hash groups, tiles; with the family's floor. -/
def State.gateFamily (s : State) (d : Nat) : Option (List Nat × Nat) :=
  let p := s.cfg.power
  if d < 10 then some (List.range 10, p.floorClusters)
  else if 12 ≤ d ∧ d ≤ 19 then some ((List.range 8).map (· + 12), p.floorLaneGroups)
  else if 20 ≤ d ∧ d ≤ 23 then some ((List.range 4).map (· + 20), p.floorHashGroups)
  else if 25 ≤ d ∧ d ≤ 48 then some ((List.range 24).map (· + 25), p.floorTiles)
  else none

/-- A domain has work now. -/
def State.domainBusy (s : State) (d : Nat) : Bool :=
  if d < 12 then (List.range 8).any fun i => !s.coreFree (8 * d + i)
  else if d < 20 then (domainLanes d).any fun n => !(s.ctxsOn n).isEmpty
  else if d < 25 then (domainEngs d).any fun e => (s.engAt e).holder.isSome
  else (domainTiles d).any fun n => !(s.jobsOn n).isEmpty

/-- A loop or a gating acts against the load (R381): logged, and GLB_INT_STATUS.THROTTLE. -/
def State.throttled (s : State) (sub a b : Nat) : State := (s.logEvent .power sub a b).setInt intThrottle

/-- DOMAIN_IDLE_GATE (R377, R381): after IDLE_US without work; a gating that the floor refuses is counted, and the idle time starts again
(DEDUCED). Log 52. -/
def execDomainIdleGate (domain : Nat) (s : State) : Host.Outcome State Fault Refusal :=
  .next <|
    match s.gateFamily domain with
    | none => s
    | some (family, floor) =>
      let x := s.domAt domain
      let us := s.cfg.power.idleUs
      if s.serving = false ∨ us = 0 ∨ x.st ≠ .on ∨ s.domainBusy domain = true ∨ s.now < x.idleFrom + 100 * us then s
      else if (family.countP fun d => decide ((s.domAt d).st = .on)) ≤ floor then
        let s := { s.idleNow domain with pwr := { (s.idleNow domain).pwr with floorHeld := satAdd 16 s.pwr.floorHeld 1 } }
        s.throttled 1 domain floor
      else (s.domainZeroed domain).setDom domain { x with st := .gated }

/-- Every gated domain taken as on, by which the allocators say what they would choose. -/
def State.ungated (s : State) : State :=
  { s with pwr := { s.pwr with domains := s.pwr.domains.map fun (p : Nat × Domain) =>
    (p.1, if p.2.st = .gated then { p.2 with st := .on } else p.2) } }

/-- Work needs a gated domain (R377): the lowest gated cluster for an eligible barge with every powered core busy; the lane group or tile
that a waiting OPEN or JOPEN would take; a hash group for an INIT that finds no free engine (DEDUCED). Log 52. -/
def State.wakeWanted (s : State) (d : Nat) : Bool :=
  let u := s.ungated
  if d < 10 then
    (s.nextFor false).isSome
      && ((List.range 80).all fun k => !s.coreFree k || decide ((s.domAt (k / 8)).st ≠ .on))
      && (List.range d).all fun c => decide ((s.domAt c).st ≠ .gated)
  else if d < 20 then
    s.cph.waiting.any fun w => match (u.laneGroupsFor w.2.1).bind fun gs => u.laneChoice gs w.2.2 with
      | some n => laneDomain n == d
      | none => false
  else if d < 24 then (s.freeEngines 0).isEmpty || (s.freeEngines 4).isEmpty
  else
    s.bgn.waiting.any fun w => match (u.tileGroupsFor w.2.1).bind fun gs => u.tileChoice gs (2 ^ w.2.2) with
      | some p => tileDomain p.1 == d
      | none => false

/-- DOMAIN_WAKE (R377). -/
def execDomainWake (domain : Nat) (s : State) : Host.Outcome State Fault Refusal :=
  .next <|
    let x := s.domAt domain
    if (s.gateFamily domain).isSome = true ∧ x.st = .gated ∧ s.serving = true ∧ s.wakeWanted domain = true then
      s.setDom domain { x with st := .waking, wakes := x.wakes + 1, since := s.now }
    else s

/-- The units of a FAILED domain are treated as failed self-checks (R218, R237, R376). Log 52, DEDUCED. -/
def State.unitsFail (s : State) (d : Nat) : State :=
  let s := (domainLanes d).foldl (fun (s : State) n =>
    if (s.laneAt n).st = .spare then s.setLane n { s.laneAt n with st := .retired } else s) s
  let s := (domainLanes d).foldl (fun (s : State) n => if (s.laneAt n).serves then s.retireLane n true else s) s
  let s := (domainTiles d).foldl (fun (s : State) n =>
    if (s.tileAt n).st = .spare then s.setTile n { s.tileAt n with st := .retired } else s) s
  let s := (domainTiles d).foldl (fun (s : State) n => if (s.tileAt n).serves then s.retireTile n true else s) s
  if 20 ≤ d ∧ d ≤ 23 then
    (domainEngs d).foldl (fun (s : State) e =>
      ((s.setEng e { st := .retired }).setInt intSpare).logEvent .interface 9 e (engGroup e)) s
  else s

/-- A domain is FAILED: its units too; in a resume a vital one fails it (R376). -/
def State.domainFails (s : State) (d : Nat) : State :=
  let s := (s.setDom d { s.domAt d with st := .failed }).unitsFail d
  let s := if d = 64 ∨ d = 65 then s.rngHalfOff (d - 64) else s
  let s := s.logEvent .power 2 d 0
  if s.pwr.trans = some .resume ∧ s.vitalFailed = true then s.resumeFails else s

/-- DOMAIN_WAKE_DONE (R377): after 30 µs; a unit that fails its self-check fails with its domain (DEDUCED). Log 52. -/
def execDomainWakeDone (domain : Nat) (pass : Bool) (s : State) : Host.Outcome State Fault Refusal :=
  .next <|
    let x := s.domAt domain
    if x.st = .waking ∧ s.serving = true ∧ x.since + 3000 ≤ s.now then
      if pass then ((s.setDom domain { x with st := .on, idleFrom := s.now }).grantLanes).grantTiles
      else s.domainFails domain
    else s

/-- DOMAIN_POWER_FAIL (R376): no power-good within 100 µs of the ramp. -/
def execDomainPowerFail (domain : Nat) (s : State) : Host.Outcome State Fault Refusal :=
  .next <|
    let x := s.domAt domain
    if x.st = .waking ∧ x.since + 10000 ≤ s.now then s.domainFails domain else s

/-! ### The loops (R378 to R381) -/

/-- AVS_UPDATE (R378): the target lies from 650 mV to 850 mV in steps of 5 mV; the curve and the margin are not given (Config.avsTarget). -/
def execAvsUpdate (s : State) : Host.Outcome State Fault Refusal :=
  .next <|
    if s.clock.mainPower = false then s
    else
      let mv := 650 + 5 * (Config.avsTarget s.pwr.tempMax s.now % 41)
      let s' := { s with pwr := { s.pwr with targetMv := mv } }
      if mv = s.pwr.targetMv then s' else s'.emit (.avs mv)

/-- SUPPLY_READING (R378, R380): the regulator's voltage and current, in mV and units of 10 mA; how long power has stayed above the cap or
below it less 2 W. -/
def execSupplyReading (mv ma10 : Nat) (s : State) : Host.Outcome State Fault Refusal :=
  .next <|
    if s.clock.mainPower = false then s
    else
      let w := s.cfg.power.capW
      let power := mv * ma10
      let above := decide (0 < w) && decide (100000 * w < power)
      let below := decide (0 < w) && decide (power < 100000 * (w - 2))
      { s with pwr := { s.pwr with
        measMv := mv % 2 ^ 16
        current := ma10 % 2 ^ 16
        aboveFrom := if above then s.pwr.aboveFrom.or (some s.now) else none
        belowFrom := if below then s.pwr.belowFrom.or (some s.now) else none } }

/-- DROOP_DETECT (R379). -/
def execDroopDetect (s : State) : Host.Outcome State Fault Refusal :=
  .next <|
    if s.clock.mainPower = false ∨ s.pwr.stretching = true then s
    else { s with pwr := { s.pwr with stretching := true, stretches := satAdd 32 s.pwr.stretches 1 } }

/-- STRETCH_END (R379). -/
def execStretchEnd (s : State) : Host.Outcome State Fault Refusal :=
  .next { s with pwr := { s.pwr with stretching := false } }

/-- A throttle step of a loop (R381). -/
def State.stepDown (s : State) (sub level : Nat) : State :=
  ({ s with pwr := { s.pwr with steps := satAdd 16 s.pwr.steps 1 } }).throttled sub level 0

/-- The highest of some sensors' readings and the lowest sensor that shows it. -/
def hottest : List Int → Nat → Option (Nat × Int)
  | [], _ => none
  | t :: ts, i =>
    match hottest ts (i + 1) with
    | some (j, u) => if t < u then some (j, u) else some (i, t)
    | none => some (i, t)

/-- The fraction that a temperature in quarter degrees imposes, in eighths (R380). -/
def thermalFraction (t : Int) : Nat := if 412 ≤ t then 2 else if 400 ≤ t then 4 else 8

/-- THERMAL_SAMPLE (R380): the eight sensors in quarter degrees. Both steps are released together (DEDUCED). Log 51. -/
def execThermalSample (temps : List Int) (s : State) : Host.Outcome State Fault Refusal :=
  .next <|
    match hottest (temps.take 8) 0 with
    | none => s
    | some (i, t) =>
      if s.clock.mainPower = false then s
      else
        let cool := if t < 388 then s.pwr.coolFrom.or (some s.now) else none
        let s := { s with pwr := { s.pwr with tempMax := t, tempSensor := i, coolFrom := cool } }
        let f := thermalFraction t
        if f < s.pwr.thermal then ({ s with pwr := { s.pwr with thermal := f } }).stepDown 3 f
        else match cool with
          | some c => if c + 1000000 ≤ s.now then { s with pwr := { s.pwr with thermal := 8 } } else s
          | none => s

/-- The cap fraction one step lower (R380), in eighths. -/
def capLower (c : Nat) : Nat := if 8 ≤ c then 6 else if 6 ≤ c then 4 else if 4 ≤ c then 2 else 1
/-- The cap fraction one step higher. -/
def capHigher (c : Nat) : Nat := if c ≤ 1 then 2 else if c ≤ 2 then 4 else if c ≤ 4 then 6 else 8

/-- POWER_CAP_STEP (R380): after 1 ms above the cap, or 10 ms below it less 2 W; without a cap the fraction is whole. Log 51, DEDUCED. -/
def execPowerCapStep (s : State) : Host.Outcome State Fault Refusal :=
  .next <|
    if s.cfg.power.capW = 0 then { s with pwr := { s.pwr with cap := 8, aboveFrom := none, belowFrom := none } }
    else match s.pwr.aboveFrom, s.pwr.belowFrom with
      | some t, _ =>
        if t + 100000 ≤ s.now ∧ 1 < s.pwr.cap then
          let c := capLower s.pwr.cap
          ({ s with pwr := { s.pwr with cap := c, aboveFrom := some s.now } }).stepDown 4 c
        else s
      | none, some t =>
        if t + 1000000 ≤ s.now ∧ s.pwr.cap < 8 then
          { s with pwr := { s.pwr with cap := capHigher s.pwr.cap, belowFrom := some s.now } }
        else s
      | none, none => s

end Sys2Proof.Machine
end

