-- ==== Sys2Proof/Machine/Drydock.lean ====
section
/-! DEFINITION. DRYDOCK, function grants, firmware update and raw-sample mode as services (15_launch_modes_power.md R365, R372, R373;
10_random_generation.md R265, R266; 17_broviry_cluster.md R421). -/

namespace Sys2Proof.Machine

/-! ### DRYDOCK (R365, R421) -/

/-- DRYDOCK_ENTER (R365, R421): from its claim tick barges of rings with MAINT = 0 are not admitted; the barge waits for the drain. A
cluster device first asks to leave; a refusal leaves the permit consumed. -/
def drydockEnterSvc (r : Run) (s : State) : Res × State :=
  s.checks r (s.keySteps r) fun _ => s.withPermit r 0x0060 (fun _ s =>
    s.checks r [(noParams r.b, stBadFormat)] fun _ =>
      if s.glb.mode = .drydock then s.doneWith []
      else if s.pwr.drydockBy.isSome then (.wait, s)
      else
        let a := s.askLeave
        if a.1 = false then a.2.fails stRange
        else (.wait, { a.2 with pwr := { a.2.pwr with drydockBy := some r.core } })) (device := true)

/-- DRYDOCK_ENTER, opcode 0x0C70. -/
def execDrydockEnter (core : Nat) (hw : Hw) (s : State) : Host.Outcome State Fault Refusal := .next (s.serve core 0x0C70 hw drydockEnterSvc)

/-- A barge of a ring with MAINT = 0, or one that another device forwarded, is still admitted (R365, R421). -/
def State.servingOthers (s : State) : Bool :=
  s.lkm.tbl.any fun x => !x.2.released && (x.2.origin.isSome || !(s.ringCfg x.2.ring).maint)

/-- DRYDOCK_DRAIN_DONE (R365, R318, R426): the mode becomes DRYDOCK, MR7 is extended, an audit-critical record is written and the barge
completes DONE. -/
def execDrydockDrainDone (s : State) : Host.Outcome State Fault Refusal :=
  .next <|
    match s.pwr.drydockBy with
    | none => s
    | some core =>
      if s.glb.mode ≠ .service ∨ s.servingOthers = true ∨ !(s.brv.st == .single || s.brv.st == .left) then s
      else
        let s := (s.extend 7 (Config.measureItem 7 [0] [])).toMode .drydock
        let s := s.logRec .fuse 1 0 0xFF [0]
        ({ s with pwr := { s.pwr with drydockBy := none } }).leaveAt core ⟨stDone, [], 0, none⟩

/-- Every diagnostic context and job is closed and its unit returns to its previous state (R226, R254, R365). -/
def State.diagsClosed (s : State) : State :=
  let s :=
    if s.cph.diag.enable then
      let d := s.cph.diag
      let s := s.closeLane 96
      let l := s.laneAt d.sel
      let s := s.setLane d.sel { l with st := l.before, slots := [] }
      { s with cph := { s.cph with diag := { s.cph.diag with enable := false, opening := false } } }
    else s
  let s :=
    if s.hsh.diag.enable then
      let d := s.hsh.diag
      let g := s.engAt d.sel
      let s := s.setCore 96 { s.coreAt 96 with eng := none, hashOut := [] }
      let s := s.setEng d.sel (if d.opening then { g with st := g.before } else { st := g.before })
      { s with hsh := { s.hsh with diag := { s.hsh.diag with enable := false, opening := false } } }
    else s
  if s.bgn.diag.enable then
    let d := s.bgn.diag
    let s := s.closeJob 96
    let t := s.tileAt d.sel
    let s := s.setTile d.sel { t with st := t.before }
    { s with bgn := { s.bgn with diag := { s.bgn.diag with enable := false, opening := false } } }
  else s

/-- DRYDOCK_EXIT (R365): refused while a DRYDOCK-only function is STOPPED. -/
def drydockExitSvc (r : Run) (s : State) : Res × State :=
  s.checks r (s.keySteps r) fun _ =>
    s.checks r [(noParams r.b, stBadFormat), (!s.pwr.stopped.any drydockOnly, stRange)] fun _ =>
      ((s.diagsClosed.rawOff.stopLoops).toMode .service).doneWith []

/-- DRYDOCK_EXIT, opcode 0x0C71. -/
def execDrydockExit (core : Nat) (hw : Hw) (s : State) : Host.Outcome State Fault Refusal := .next (s.serve core 0x0C71 hw drydockExitSvc)

/-! ### Grants (R372) -/

/-- The checks of FUNCTION_GRANT (R372): one grant is held at a time (DEDUCED: "a second grant while one is held"). Log 53. -/
def State.grantChecks (s : State) (r : Run) : List (Bool × Nat) :=
  let f := wbits 7 0 r.b.p0
  [(decide (r.b.p0.toNat < 256) && r.b.p1 == 0 && r.b.p2 == 0, stBadFormat),
    (fnValid f && !drydockOnly f && s.pwr.grants.isEmpty, stRange)]

/-- FUNCTION_GRANT (R372). -/
def functionGrantSvc (r : Run) (s : State) : Res × State :=
  s.checks r (s.keySteps r) fun _ => s.withPermit r 0x0061 (fun _ s =>
    s.checks r (s.grantChecks r) fun _ =>
      ({ s with pwr := { s.pwr with grants := s.pwr.grants ++ [wbits 7 0 r.b.p0] } }).doneWith []) (device := true)

/-- FUNCTION_GRANT, opcode 0x0C72. -/
def execFunctionGrant (core : Nat) (hw : Hw) (s : State) : Host.Outcome State Fault Refusal := .next (s.serve core 0x0C72 hw functionGrantSvc)

/-! ### Firmware update (R373) -/

/-- A copy changes FAMILY or names a successor signer. -/
def State.changesSigner (s : State) (c : Bytes) : Bool := copyFamily c != s.root.family || (copyNextSigner c).isSome

/-- The reason that R373 finds against the copy in the input buffer, 0 where it is accepted. -/
def State.updateReason (s : State) (c : Bytes) : Nat := s.copyReason s.kwm.density s.slu.fitted c

/-- The checks of an accepted copy (R373): its SEQUENCE, and the quorum to change the signer. -/
def State.updateChecks (s : State) (c : Bytes) : List (Bool × Nat) :=
  [(decide (s.kwm.sequence < copySeq c), stRange), (copyForce c || !s.changesSigner c, stPolicyDenied)]

/-- A refused copy's outcome (R373): the reason is its RESULT. -/
def updateRefused (code : Nat) : Outcome := ⟨if code = 3 ∨ code = 4 then stVerifyFail else stRange, toLE 2 code, 2, none⟩

/-- The copy stands in the firmware staging area of DRAM, in PUBLIC words (R373). Log 63, DESIGN CHOICE. -/
def State.stageCopy (s : State) (c : Bytes) : State :=
  match s.cfg.mem with
  | none => s
  | some m => s.unitPut m.stageKd m.stageBase (wordsOf c .pub) {}

/-- FIRMWARE_UPDATE (R373): `flashOk`: the copy written reads back with the digest it should have. -/
def firmwareUpdateSvc (flashOk : Bool) (r : Run) (s : State) : Res × State :=
  let c := r.input
  s.checks r (s.keySteps r) fun _ => s.withPermit r 0x0062 (fun _ s =>
    let s := s.stageCopy c
    if s.updateReason c ≠ 0 then s.gives (updateRefused (s.updateReason c))
    else s.checks r (s.updateChecks c) fun _ =>
      s.withAudit r fun _ =>
        let s := s.emit (.flashWrite (!s.kwm.copyB) (c.take (copyLen c)))
        if flashOk = false then s.fails stFlashFault
        else (s.extend 7 (Config.measureItem 7 [2] [copyDigest c])).doneWith [] (some [])) (device := true)

/-- FIRMWARE_UPDATE, opcode 0x0C73. -/
def execFirmwareUpdate (core : Nat) (hw : Hw) (flashOk : Bool) (s : State) : Host.Outcome State Fault Refusal :=
  .next (s.serve core 0x0C73 hw (firmwareUpdateSvc flashOk))

/-! ### Raw-sample mode (R265, R266) -/

/-- RAW_RNG_ON (R265, R266). -/
def rawRngOnSvc (r : Run) (s : State) : Res × State :=
  s.checks r (s.keySteps r) fun _ => s.withPermit r 0x0064 (fun _ s =>
    s.checks r [(noParams r.b, stBadFormat)] fun _ => s.rawOn.doneWith []) (device := true)

/-- RAW_RNG_ON, opcode 0x0C76. -/
def execRawRngOn (core : Nat) (hw : Hw) (s : State) : Host.Outcome State Fault Refusal := .next (s.serve core 0x0C76 hw rawRngOnSvc)

/-- RAW_RNG_OFF (R265, R266). -/
def rawRngOffSvc (r : Run) (s : State) : Res × State :=
  s.checks r (s.keySteps r) fun _ => s.checks r [(noParams r.b, stBadFormat)] fun _ => s.rawOff.doneWith []

/-- RAW_RNG_OFF, opcode 0x0C77. -/
def execRawRngOff (core : Nat) (hw : Hw) (s : State) : Host.Outcome State Fault Refusal := .next (s.serve core 0x0C77 hw rawRngOffSvc)

end Sys2Proof.Machine
end

