-- ==== Sys2Proof/Machine/Launch.lean ====
section
/-! DEFINITION. LAUNCH (15_launch_modes_power.md R359 to R361; 13_roots_identity_lifecycle.md R312, R313, R316, R319, R323, R331;
14_lengthsman_tamper.md R352; 11_inline_memory_encryption.md R270, R276, R291; 07_moorings_and_cargo.md R177, R190). The first LAUNCH
command runs steps 1 to 8; once the DRAM is trained and the RNG has started, the next runs on to step 14, in a cluster up to its forming
first (notes/assumptions/8.md). -/

namespace Sys2Proof.Machine

/-! ### Steps 1 to 4 -/

/-- Slots that are WRITTEN and LOCKED and whose check fails (R312). Log 8, DESIGN CHOICE. -/
def State.slotsBad (s : State) : List Nat :=
  (List.range 32).filter fun i => (s.slot i).isWritten && (s.slot i).isLocked && !(s.slot i).checkOk i

/-- LOG_RATE is loaded from the firmware image (LOG_RATE), each bucket full. -/
def loadRates (image : Bytes) : Tbl Rate :=
  (List.range 0x400).map fun c =>
    let x := Config.logRate image c
    (c, { capacity := x.1 % 256, refill := x.2 % 256, tokens := x.1 % 256 })

/-- Step 1 (R312, R317, R318, R342, R425, R446): slot checks, MR0, SEQ, latches at HALT and ERASE clear, outputs are enabled. -/
def State.launchStep1 (s : State) : State :=
  let s := { s with
    clock := { s.clock with pllLock := true, goodSince := s.now }
    len := { s.len with latches := s.len.latches.filter fun p => decide (p.2.level < 4) }
    wharf := { s.wharf with gpioOut := true }
    root := { s.root with mr := [], badSlots := s.slotsBad, keelFresh := false }
    log := { s.log with seqEpoch := (s.pwr.epoch + 1) % 2 ^ 24, seqCount := 0 }
    pwr := { s.pwr with launchFrom := s.now }
    kwm := { s.kwm with step := 1 } }
  s.extend 0 Config.bootRom

/-- Slots found WRITTEN but not LOCKED were interrupted during their write: each is set RETIRED and logged (R311). -/
def State.retireTorn (s : State) : State :=
  ((List.range 32).filter fun i => (s.slot i).isWritten && !(s.slot i).isLocked && !(s.slot i).isRetired).foldl
    (fun (s : State) i => s.retireSlot i) s

/-- One entry of the sentry record is reported: an audit-critical record, MR6, REPORTED (R352). -/
def State.reportEntry (s : State) (p : Nat × SEntry) : State :=
  let s := (s.logRec .alarm 1 0 0xFF (toWords p.2.bytes)).extend 6 p.2.bytes
  { s with len := { s.len with srec := Tbl.put p.1 { p.2 with reported := true } s.len.srec } }

/-- Step 3 (R352): the entries not yet REPORTED, oldest first; ERASED shows an ERASE since this report (LEN_STATUS). -/
def State.reportSentry (s : State) : State :=
  let s := ((s.len.srec.filter fun p => !p.2.reported).mergeSort fun a b => decide (a.2.order ≤ b.2.order)).foldl State.reportEntry s
  { s with len := { s.len with erased := false } }

/-- The end cause that step 4 reads: loss of main power leaves RUNNING or LAUNCHING, cause 1 (R361). -/
def EpochState.cause : EpochState → Nat
  | .running | .launching => 1
  | .ended c => c

/-- Step 4 (R361). -/
def State.advanceEpoch (s : State) : State :=
  { s with pwr := { s.pwr with
    epochEnd := s.pwr.epochState.cause, epoch := (s.pwr.epoch + 1) % 2 ^ 64, epochState := .launching } }

/-! ### Step 5: the manifest -/

/-- What R359 finds: the copy used (true B) with its bytes and whether it is the second validated; the results of copies A and B, 0xFF where
not validated; the code of the last failure. -/
structure Found where
  used : Option (Bool × Bytes)
  fallback : Bool
  reasonA : Nat
  reasonB : Nat
  last : Nat

/-- Copy B is validated first (R359). -/
def firstB (env : LaunchEnv) : Bool :=
  let a := headerOk env.density env.flashA
  let b := headerOk env.density env.flashB
  (b && !a) || (a && b && decide (copySeq env.flashA < copySeq env.flashB))

/-- The selection of R359. Log 35, DEDUCED. -/
def State.selectCopy (s : State) (env : LaunchEnv) : Found :=
  let copy (b : Bool) : Bytes := if b then env.flashB else env.flashA
  let f := firstB env
  let r1 := s.copyReason env.density env.fittedDram (copy f)
  if r1 = 0 then ⟨some (f, copy f), false, if f then 0xFF else 0, if f then 0 else 0xFF, 0⟩
  else
    let r2 := s.copyReason env.density env.fittedDram (copy (!f))
    ⟨if r2 = 0 then some (!f, copy (!f)) else none, true, if f then r2 else r1, if f then r1 else r2, r2⟩

/-- A successor signer is programmed and the current slot retired (R319). -/
def State.rotateSigner (s : State) (c : Bytes) : State :=
  match copyNextSigner c, s.current .signer, SlotClass.signer.slots.find? fun i => !(s.slot i).isWritten with
  | some d, some cur, some n => (s.programSlot n d).retireSlot cur
  | _, _, _ => s

/-- The first countersignature key is programmed into slot 6, a successor it names into slot 7 (R319). -/
def State.rotateCsig (s : State) (c : Bytes) : State :=
  if countersigned c = false then s
  else if (s.slot 6).isWritten = false ∧ (s.slot 7).isWritten = false then s.programSlot 6 (Config.shake256 (csigKey c) 32)
  else if s.current .csig = some 6 ∧ allZero (csigNext c) = false ∧ (s.slot 7).isWritten = false then
    (s.programSlot 7 (csigNext c)).retireSlot 6
  else s

/-- MR1 to MR5 (R318). Log 46, DESIGN CHOICE. -/
def State.measureCopy (s : State) (useB : Bool) (c : Bytes) : State :=
  let bits := (List.range 32).map fun i =>
    (if (s.slot i).isWritten then 1 else 0) + (if (s.slot i).isLocked then 2 else 0) + (if (s.slot i).isRetired then 4 else 0)
  let s := s.extend 1 (Config.measureItem 1 ([s.lcs.code, s.floor, if useB then 1 else 0] ++ bits)
    [s.currentValue .signer, s.currentValue .csig])
  (((s.extend 2 (imageOf c 0)).extend 3 (imageOf c 1)).extend 4 (imageOf c 2)).extend 5 (copyRecords c)

/-- Words of the logbook archive in DRAM and, but in VOLATILE mode, in the cargo store (R430, R432). -/
def archiveWords (m : Manifest) : Nat × Nat :=
  match m.mem with
  | none => (0, 0)
  | some x => (x.archSize / 8, if x.cargoMode = 2 then x.archSize / 8 else Config.logSectorWords x.logSectors)

/-- The configuration records become the active configuration (R355, R371). -/
def State.loadConfig (s : State) (env : LaunchEnv) (c : Bytes) : State :=
  let m := copyManifest c
  let words := archiveWords m
  { s with
    cfg := m
    cph := { s.cph with alarmLimit := m.alarmLimit, windowMs := m.windowMs, laneLimit := m.laneLimit }
    bgn := { s.bgn with tileLimit := m.tileLimit }
    rng := { s.rng with edgeFloor := m.edgeFloor, aptCutoff := m.aptCutoff, rctCutoff := m.rctCutoff }
    slu := { s.slu with
      protLog := (m.mem.map (·.protLog)).getD 0, hours := (m.mem.map (·.scrubHours)).getD 0, fitted := env.fittedDram }
    mor := { s.mor with cargoMode := (m.mem.map (·.cargoMode)).getD 0 }
    log := { s.log with archCap := words.1, limit := 3 * min words.1 words.2 / 4 }
    root := { s.root with sid := s.currentValue .signer, family := copyFamily c, version := copyVersion c }
    pwr := { s.pwr with
      imageDigests := (copyImages c).map fun im => Config.shake256 im 64, declass := (copyImages c).flatMap Config.declassList } }

/-- Step 5 (R313, R319, R358, R359). -/
def State.launchStep5 (s : State) (env : LaunchEnv) : State :=
  let f := s.selectCopy env
  let usedA := decide (f.used.map Prod.fst = some false)
  let usedB := decide (f.used.map Prod.fst = some true)
  let s := { s with kwm := { s.kwm with
    step := 5, density := env.density, fallback := f.fallback, copyB := usedB
    copy0 := (copySeq env.flashA % 2 ^ 32, f.reasonA, usedA)
    copy1 := (copySeq env.flashB % 2 ^ 32, f.reasonB, usedB) } }
  match f.used with
  | none => if (s.current .signer).isNone ∧ s.lcs ≠ .blank then s.enterHalt 4 5 0 else s.enterHalt 5 5 f.last
  | some (b, c) =>
    let s := { s with kwm := { s.kwm with
      countersigned := countersigned c, digest := copyDigest c, sequence := copySeq c } }
    (((s.measureCopy b c).rotateSigner c).rotateCsig c).loadConfig env c

/-! ### Steps 6 to 8 -/

/-- Step 6 (R312, R344): the tamper table is latched and each bad slot is an event of source 18. -/
def State.launchStep6 (s : State) : State :=
  let bad := s.root.badSlots
  let s := { s with
    len := { s.len with table := s.cfg.tamper, latched := true, events := [] }
    root := { s.root with badSlots := [] }
    kwm := { s.kwm with step := 6 } }
  bad.foldl (fun (s : State) _ => s.alarmEvent 18) s

/-- The units as the self-tests of step 7 find them (R169, R205, R218, R222, R237): failed spares are retired, failed units replaced by
spares, a KDU pair with a failed engine is out. -/
def State.selfTests (s : State) (env : LaunchEnv) : State :=
  let s := { s with
    cph := { s.cph with lanes := laneNumbers.map fun n =>
      (n, { st := if n < 64 then .active else if env.failedLanes.contains n then .retired else .spare
            group := if n < 64 then n / 8 else 0xF
            tested := s.now }) }
    bgn := { s.bgn with tiles := tileNumbers.map fun n =>
      (n, { st := if n < 24 then .active else if env.failedTiles.contains n then .retired else .spare
            group := if n < 24 then n / 8 else 0xF
            tested := s.now }) }
    hsh := { s.hsh with
      engs := (List.range 56).map fun e => (e, { st := if env.failedEngines.contains e then .retired else .active })
      pairs := (List.range 4).countP fun i =>
        !env.failedEngines.contains (32 + 2 * i) && !env.failedEngines.contains (33 + 2 * i) }
    mor := { s.mor with tugsOut := env.failedTugs } }
  let s := env.failedDomains.foldl (fun (s : State) d => s.unitsFail d) s
  let s := (env.failedLanes.filter fun n => decide (n < 64) && (s.laneAt n).serves).foldl
    (fun (s : State) n => s.retireLane n true) s
  (env.failedTiles.filter fun n => decide (n < 24) && (s.tileAt n).serves).foldl (fun (s : State) n => s.retireTile n true) s

/-- Steps 7 and 8 (R264, R376): the domains, the self-tests, DRAM training and the start of the RNG. -/
def State.launchStep7 (s : State) (env : LaunchEnv) : State :=
  let s := s.setDomains fun d => if s.domainWanted d then .on else .off
  let s := env.failedDomains.foldl (fun (s : State) d => s.setDom d { s.domAt d with st := .failed }) s
  let s := ({ s with kwm := { s.kwm with step := 7 } }).selfTests env
  if s.selfTestsPass = false then s.enterHalt 7 7 0
  else ({ s with kwm := { s.kwm with step := 8 }, pwr := { s.pwr with launch := .training env false } }).rngStart

/-- Go on while LAUNCH has not ended in HALT. -/
def State.launching (s : State) (k : State → State) : State := if s.glb.mode = .launch then k s else s

/-- The image whose LOG_RATE values are loaded: that of the copy used. -/
def State.rateImage (s : State) (env : LaunchEnv) : Bytes :=
  match (s.selectCopy env).used with
  | some (_, c) => imageOf c 0
  | none => []

/-- Steps 1 to 3 (R311, R331, R352). Log 46, DESIGN CHOICE. -/
def State.launchStep3 (s : State) (env : LaunchEnv) : State :=
  let s := State.launchStep1 { s with log := { s.log with rates := loadRates (s.rateImage env) } }
  let s := s.retireTorn
  let t := if blown s.root.t3 then s.eraseSequence else s
  State.reportSentry { t with kwm := { t.kwm with step := 3 } }

/-- Steps 4 to 8. -/
def State.launchStep4 (s : State) (env : LaunchEnv) : State :=
  let t := State.advanceEpoch { s with kwm := { s.kwm with step := 4 } }
  ((t.launchStep5 env).launching State.launchStep6).launching fun s => s.launchStep7 env

/-- Steps 1 to 8 (R331, R360). In END_OF_LIFE LAUNCH ends in HALT, after the erase sequence where T3 is blown. Log 8, DESIGN CHOICE. -/
def State.launchBegin (s : State) (env : LaunchEnv) : State :=
  let t := s.launchStep3 env
  match t.lcs with
  | .endOfLife => t.enterHalt 8 3 0
  | _ => t.launchStep4 env

/-- DRAM_TRAINING_DONE (R457, step 8 of R360). Log 8, DESIGN CHOICE. -/
def execDramTrainingDone (ok : Bool) (s : State) : Host.Outcome State Fault Refusal :=
  .next <|
    match s.glb.mode, s.pwr.launch with
    | .launch, .training env false =>
      if ok then { s with pwr := { s.pwr with launch := .training env true } } else s.enterHalt 7 8 0
    | _, _ => s

/-! ### Steps 9 to 11 -/

/-- The random bytes that steps 9 and 10 may need: a keel secret, a SEED and the SLU's keys (R270, R316), from the DRBG of core 0; none
while it does not serve. Log 46, DESIGN CHOICE. -/
def State.launchDraw (s : State) : Option (Bytes × Bytes × Bytes) × State :=
  let a := s.draw 0 32
  let b := a.2.draw 0 32
  let c := b.2.draw 0 4160
  match a.1, b.1, c.1 with
  | .bytes x, .bytes y, .bytes z => (some (x, y, z), c.2)
  | _, _, _ => (none, s)

/-- R316: an invalid keel secret in PRODUCTION; false where no SEED slot is left. -/
def State.newKeel (s : State) (secret seed : Bytes) : Bool × State :=
  let s := { s with
    len := { s.len with keel := secret, keelCheck := slotCheck 0xFF secret, keelValid := true }
    mor := { s.mor with keelReg := {} }
    kwm := { s.kwm with migration := none, migrant := none } }
  let s := match s.current .seed with
    | some i => s.retireSlot i
    | none => s
  match SlotClass.seed.slots.find? fun i => !(s.slot i).isWritten && !(s.slot i).isRetired with
  | none => (false, s)
  | some i => (true, { s.programSlot i seed with root := { (s.programSlot i seed).root with keelFresh := true } })

/-- The roots of a LAUNCH (R320, R326); with a migration record whose F′ is above FLOOR both customer roots (R323). -/
def State.deriveRoots (s : State) : State :=
  let devId := s.devIdSeed
  let s := { s with root := { s.root with
    cr := some (s.crFor s.floor), devId := some devId
    crNew := match s.kwm.migration with
      | some (f, _) => if s.floor < f then some (s.crFor f) else none
      | none => none } }
  let alias_ := s.aliasSeedOf devId
  { s with root := { s.root with aliasSeed := some alias_, aliasCert := s.aliasCertOf devId alias_ } }

/-- ROOT_MISSING (R313): in TEST and PRODUCTION no UDS or SIGNER slot is current, or in PRODUCTION no SEED slot. -/
def State.rootMissing (s : State) : Bool :=
  match s.lcs with
  | .production => (s.current .uds).isNone || (s.current .signer).isNone || (s.current .seed).isNone
  | .test => (s.current .uds).isNone || (s.current .signer).isNone
  | _ => false

/-- Step 9 (R313, R316, R318, R320). -/
def State.launchStep9 (s : State) (secret seed : Bytes) : State :=
  let s := { s with kwm := { s.kwm with step := 9 } }
  let keeled := if s.lcs = .production ∧ s.keelOk = false then s.newKeel secret seed else (true, s)
  match keeled with
  | (false, s) => s.enterHalt 4 9 0
  | (true, s) =>
    if s.rootMissing then s.enterHalt 4 9 0
    else (s.extend 6 (Config.measureItem 6 [if s.root.keelFresh then 1 else 0] [])).deriveRoots

/-- Step 10 (R270, R276): new keys, zeroed roots, no line written. -/
def State.launchStep10 (s : State) (keys : Bytes) : State :=
  { s with
    slu := { s.slu with keys := keys, lines := [], blocks := [], cached := [], ready := true, half0 := true, half1 := true, stopped := false }
    kwm := { s.kwm with step := 10 } }

/-- The officer of an enrolment record (R160). -/
def recordOfficer (b : Bytes) : Officer := ⟨le 0 2 b, BitVec.ofNat 8 (le 2 1 b), slice 4 57 b, .active⟩

/-- Step 11 (R159): at the first LAUNCH with an empty officer table the manifest's officers are loaded. -/
def State.launchStep11 (s : State) : State :=
  let s := { s with kwm := { s.kwm with step := 11 } }
  if s.adm.officers = [] then
    { s with adm := { s.adm with officers := (List.range s.cfg.officers.length).map fun i => (i, recordOfficer (s.cfg.officers.getD i [])) } }
  else s

/-! ### Step 12: the cargo store -/

/-- The drives as LAUNCH finds them (R184, R388, R446): drive A in DRIVE mode, both in MIRROR mode. -/
def State.findDrives (s : State) (env : LaunchEnv) : State :=
  let enabled := (s.cfg.iface.map (·.cargoEnable)).getD false
  let one (d : Nat) (nguid : Bytes) (ok : Bool) : Drive :=
    let present := !s.wharf.gpio.getLsbD (12 + d)
    let used := enabled && (s.mor.cargoMode == 1 || (s.mor.cargoMode == 0 && d == 0))
    { present := present, nguid := nguid, namespaceOk := ok, inService := present && used && ok && !allZero nguid }
  let s := { s with mor := { s.mor with driveA := one 0 env.nguidA env.namespaceOkA, driveB := one 1 env.nguidB env.namespaceOkB } }
  s.cargoRetrains

/-- A drive of the manifest's mode is attached to its port (R193). -/
def State.driveAttached (s : State) : Bool :=
  (s.cfg.iface.map (·.cargoEnable)).getD false
    && ((decide (s.mor.cargoMode < 2) && s.mor.driveA.present) || (s.mor.cargoMode == 1 && s.mor.driveB.present))

/-- The audit-critical record that the replay of a commit places in the archive (R431); its SEQ is not given: free (log 20).
Log 46, DESIGN CHOICE. -/
def State.replayRec (s : State) (c : Commit) : State :=
  let body : List W64 :=
    [BitVec.ofNat 64 c.epoch, BitVec.ofNat 64 (2 ^ 32 * c.ring + c.seq), BitVec.ofNat 64 c.opcode, BitVec.ofNat 64 c.handle]
  let code := LogKind.commit.code 0
  if c.opcode = 0 ∨ (s.log.ring.any fun r => r.code == code && r.body == body) then s
  else
    let n := s.freshNat
    { n.2 with log := { n.2.log with
      archive := n.2.log.archive ++ [{ code := code, time := c.time % 2 ^ 40, tenant := c.tenant, audit := true, body := body, seq := n.1 }] } }

/-- The ring sector of the first journal sector behind the checkpoint (R184). -/
def State.journalStart (s : State) : Nat := (s.mor.journalPos + 262144 - (s.mor.journal.map Commit.sectors).sum % 262144) % 262144

/-- The leading commits all of whose sectors verify, of KIND 2 and with the commit number as GEN (R190, R288): from ring sector `pos`, with
the sectors as drive `d` returns them. -/
def State.goodCommits (s : State) (d : Nat) : Nat → List Commit → List SectorReturn → List Commit
  | _, [], _ => []
  | pos, c :: cs, rs =>
    let own := rs.take c.sectors
    let good := decide (own.length = c.sectors) && own.zipIdx.all fun p =>
      match s.verified d (2 + (pos + p.2) % 262144) p.1 with
      | some (_, gen) => gen == c.number
      | none => false
    if good then c :: s.goodCommits d (pos + c.sectors) cs (rs.drop c.sectors) else []

/-- The journal is replayed in commit-number order up to the first commit that does not verify (R190); a commit that had no commit tick
before takes its effect on user flash and the outcome area now. -/
def State.replay (s : State) (done : List Commit) : State :=
  let start := s.journalStart
  let old := s.mor.lastCommit
  let fresh := done.filter fun c => decide (old < c.number)
  let s := { s with mor := { s.mor with
    store := done.foldl (fun t (c : Commit) => c.changes.foldl baseChange t) s.mor.base
    journal := done
    journalPos := (start + (done.map Commit.sectors).sum) % 262144
    fill := (done.map Commit.sectors).sum
    lastCommit := done.foldl (fun n (c : Commit) => max n c.number) old } }
  let s := { s with mor := { s.mor with keelReg := { s.mor.keelReg with lastCommit := max s.mor.keelReg.lastCommit s.mor.lastCommit } } }
  let s := fresh.foldl (fun (s : State) c =>
    let s := c.changes.foldl (fun (s : State) ch => match ch with
      | .tenant _ _ | .officer _ _ | .ackLog _ => s.applyChange ch
      | _ => s) s
    if c.opcode = 0 then s else s.addOutcome c.outcome) s
  done.foldl State.replayRec s

/-- The store is in its state (R186, R193), with the sector state of SLU_STATUS. -/
def State.attached (s : State) (st : StoreState) (sector : Nat) : State :=
  { s.setStore st with slu := { (s.setStore st).slu with sector := sector } }

/-- The superblock of checkpoint ROOT_GEN that a drive returned (R290, R291): its GEN, if its tag verifies and its STORE_ID is that of the keel
register. -/
def State.superblock (s : State) (env : LaunchEnv) (d : Nat) : Option Nat :=
  let lba := s.mor.keelReg.rootGen % 2
  match s.verified d lba (if d = 0 then env.superA else env.superB) with
  | some (cipher, gen) =>
    if Config.superblockStore (s.sectorPlain d lba cipher) = s.mor.keelReg.storeId then some gen else none
  | none => none

/-- A GEN that an accepted store may show for an entry of its generation tree (R291): the entry, or PENDING in place of an older one. -/
def State.genFits (s : State) (want found : Nat) : Bool :=
  let pending := s.mor.keelReg.pending
  found == want || (pending != 0 && found == pending && decide (want < pending))

/-- The first sector that an accepted store shows to be altered or stale: its cause and LBA (R283, R291). -/
def State.staleSector (s : State) (env : LaunchEnv) : Option (BitVec 3 × Nat) :=
  let stale := (env.gensFound.filter fun p => !s.genFits (s.genOf p.1) p.2).map fun p => ((4 : BitVec 3), p.1)
  let altered := env.tagFails.map fun l => ((2 : BitVec 3), l)
  (altered ++ stale).foldl (fun acc x => match acc with
    | none => some x
    | some y => if x.2 < y.2 then some x else acc) none

/-- A store that is not accepted stays OFFLINE and is logged (R291). -/
def State.rejectStore (s : State) : State := (s.attached .offline 4).logEvent .interface 13 StoreState.offline.code StoreState.offline.code

/-- The attach of R291 with a drive in service; of a mirror, both superblocks have to be accepted. Log 46, DESIGN CHOICE. -/
def State.attach (s : State) (env : LaunchEnv) : State :=
  let s := s.deriveDriveKeys (s.root.cr.getD (zeros 32))
  let keel := s.mor.keelReg
  let supers := s.drivesIn.map fun d => s.superblock env d
  let good := s.goodCommits (s.drivesIn.headD 0) s.journalStart s.mor.journal env.journal
  if keel.rootGen = 0 then s.formatStore
  else if supers.any Option.isNone then s.rejectStore
  else if supers.any fun g => !s.genFits keel.rootGen (g.getD 0) then s.integrity 4 2 (keel.rootGen % 2) 0
  else match s.staleSector env with
  | some (cause, lba) => s.integrity cause 2 lba 0
  | none =>
  if s.mor.journal.any fun c => decide (c.number ≤ keel.lastCommit) && !good.contains c then
    s.integrity 4 2 (2 + (s.journalStart + (good.map Commit.sectors).sum) % 262144) 0
  else
    let s := { s.replay good with mor := { (s.replay good).mor with ckptAt := s.now } }
    let s := if keel.pending = 0 then s else s.checkpointDone s.mor.journal.length
    s.attached (if s.mor.cargoMode = 1 ∧ s.drivesIn.length < 2 then .degraded else .online) 3

/-- The migration record settles an interrupted migration (R323). -/
def State.settleMigration (s : State) : State :=
  match s.kwm.migration with
  | none => s
  | some (f, _) =>
    if f ≤ s.floor then { s with kwm := { s.kwm with migration := none, migrant := none } }
    else
      let who := s.kwm.migrant
      let s := { s with root := { s.root with crNew := some (s.crFor f) } }
      let s := (s.migrateTo s.storeSectors).migrateEnd f
      match who with
      | some o => s.addOutcome o
      | none => s

/-- The archive of a new epoch (R430, R431): the cargo store's records with those of the replay; the ring is copied from the first record
it does not hold. -/
def State.archiveFrom (s : State) (cargo : List Rec) : State :=
  { s with log := { s.log with archive := cargo, nextCopy := (cargo.map fun r => r.seq + 1).foldl max 0 } }

/-- What the drives' namespaces hold (R184). -/
def Mor.namespaces (m : Mor) : Namespaces := ⟨m.base, m.journal, m.journalPos, m.outcomes, m.since, m.gens, m.lastCommit⟩

/-- Without a drive the store is the DRAM hold, empty (R193); what an absent drive's namespace holds stays there. -/
def State.attachVolatile (s : State) : State :=
  let s := State.archiveFrom { s with mor := { s.mor with
    away := s.mor.away.or (some s.mor.namespaces)
    store := [], base := [], journal := [], journalPos := 0, outcomes := [], gens := [], lastCommit := 0, since := s.pwr.epoch } } []
  s.settleMigration.attached .volatileHold 0

/-- The namespaces are there again after epochs in the volatile hold. -/
def State.drivesBack (s : State) : State :=
  match s.mor.away with
  | none => s
  | some n => { s with mor := { s.mor with
      away := none, base := n.base, journal := n.journal, journalPos := n.journalPos, outcomes := n.outcomes, since := n.since
      gens := n.gens, lastCommit := n.lastCommit } }

/-- A namespace of the store's mode gives no key set: its NGUID is zero (R287). -/
def State.keyless (s : State) : Bool :=
  s.mor.cargoMode == 1 && [0, 1].any fun d => (s.drive d).present && (s.drive d).namespaceOk && allZero (s.drive d).nguid

/-- With a drive: none whose namespace fits, or one without a key set, leaves the store OFFLINE (R287, R388); an attached store settles a
migration. Log 46, DESIGN CHOICE. -/
def State.attachDrives (s : State) (env : LaunchEnv) : State :=
  let s := (s.drivesBack).archiveFrom s.log.cargo
  match s.keyless, s.drivesIn with
  | true, _ => s.rejectStore
  | _, [] => s.rejectStore
  | _, _ =>
    let t := s.attach env
    match t.glb.mode, t.mor.storeSt with
    | .launch, .offline => t
    | .launch, _ => t.settleMigration
    | _, _ => t

/-- REVOKED officer entries become FREE (R167), those of commits that the replay has brought included. -/
def State.freeRevoked (s : State) : State :=
  { s with adm := { s.adm with officers := s.adm.officers.filter fun p => decide (p.2.st ≠ .revoked) } }

/-- Step 12 (R167, R184, R190, R193, R291, R323, R431). -/
def State.launchStep12 (s : State) (env : LaunchEnv) : State :=
  let s := State.findDrives { s with kwm := { s.kwm with step := 12 } } env
  let t := (if s.driveAttached then s.attachDrives env else s.attachVolatile).freeRevoked
  { t with log := { t.log with outstanding := t.log.unacked } }

/-! ### Steps 13 and 14 -/

/-- Step 14 (R51, R360, R361): every ring is CLOSED, admission is enabled, and the mode is SERVICE. -/
def State.launchStep14 (s : State) : State :=
  let s := { s with
    rings := []
    glb := { s.glb with admitting := true }
    pwr := { s.pwr with epochState := .running, launch := .ended }
    kwm := { s.kwm with step := 14, done := true, ticks := s.now - s.pwr.launchFrom } }
  ((s.toMode .service).ethFollow 0).ethFollow 1

/-- Step 13 (R177), and in a cluster the links train and the device forms or joins one (R403, R408). -/
def State.launchStep13 (s : State) : State :=
  let s := ({ s with kwm := { s.kwm with step := 13 } }).pageInPins
  if s.cfg.cluster.isSome then ({ s with brv := { s.brv with st := .forming } }).linksTrain else s.launchStep14

/-- Steps 9 to 13, and to 14 on a single device. Log 8, DESIGN CHOICE. -/
def State.launchRest (s : State) (env : LaunchEnv) : State :=
  let d := s.launchDraw
  match d.1 with
  | none => s
  | some (keel, seed, keys) =>
    (((d.2.launchStep9 keel seed).launching fun s => (s.launchStep10 keys).launchStep11.launchStep12 env)).launching State.launchStep13

/-- LAUNCH (R360). Log 8, DESIGN CHOICE. -/
def execLaunch (env : LaunchEnv) (s : State) : Host.Outcome State Fault Refusal :=
  .next <|
    if s.clock.mainPower = false ∨ s.glb.mode ≠ .launch then s
    else match s.pwr.launch with
      | .notBegun => s.launchBegin env
      | .training env' true =>
        if s.kwm.step = 8 then (if s.rng.ready then s.launchRest env' else s)
        else if s.brv.st = .member then s.launchStep14
        else s
      | _ => s

end Sys2Proof.Machine
end

