-- ==== Sys2Proof/Machine/Pins.lean ====
section
/-! DEFINITION. The GPIO inputs (19_pins_electrical_package.md R446, R459; 07_moorings_and_cargo.md R186). -/

namespace Sys2Proof.Machine

/-- GPIOs that are inputs by R446. -/
def gpioInput (pin : Nat) : Bool := [0, 2, 3, 5, 8, 9, 10, 11, 12, 13, 14, 15].contains pin

/-- The level that a GPIO output drives (R446); none: an input, or an output before step 1 of LAUNCH or without main power. -/
def State.gpioLevel (s : State) (pin : Nat) : Option Bool :=
  if s.wharf.gpioOut = false ∨ s.clock.mainPower = false then none
  else match pin with
  | 1 | 4 => some (s.glb.mode == .launch || !((s.portCfg (pin / 3)).map (·.enable)).getD false || decide ((s.domAt (57 + pin / 3)).st ≠ .on))
  | 6 => some (s.glb.mode == .service)
  | 7 => some (s.glb.mode == .halt)
  | _ => none

/-- ALARM_N (R341, R454): some false while it is pulled low, none while it is undriven. -/
def State.alarmPin (s : State) : Option Bool := if s.alarmHeld ∧ s.clock.mainPower = true then some false else none

/-- A drive is seated (R186, R446). What it identifies as is not given: free values (log 20). In a degraded mirror its rebuild starts; where
the store is OFFLINE it is in service for CARGO_FORMAT (R187). Log 40, DEDUCED. -/
def State.driveSeated (s : State) (d : Nat) : State :=
  let n := s.freshNat
  let s := n.2
  let used := (s.cfg.iface.map (·.cargoEnable)).getD false && (s.mor.cargoMode == 1 || (s.mor.cargoMode == 0 && d == 0))
  let ok := n.1 % 2 == 0
  let nguid := Config.freeBytes n.1 16
  let x : Drive := { present := true, nguid := nguid, namespaceOk := ok }
  let keyed : Drive := { x with keys := s.root.cr.map fun cr => cargoKeys cr nguid d }
  let s := if used then s.cargoTrains d else s
  if used = false ∨ ok = false ∨ allZero nguid = true then (s.setDrive d x).logEvent .interface 16 d 0
  else match s.mor.storeSt with
    | .degraded =>
      let s := s.setDrive d keyed
      ({ s with mor := { s.mor with rebuildFrom := some s.now } }).setStore .rebuilding
    | .offline => s.setDrive d { keyed with inService := true }
    | _ => s.setDrive d x

/-- A drive-presence input changes (R186, R446): a drive that is not present has left the link. -/
def State.driveInput (s : State) (d : Nat) (absent : Bool) : State :=
  if absent then
    let s := s.dropDrive d
    s.setDrive d { s.drive d with present := false, keys := none }
  else if s.glb.mode = .service ∨ s.glb.mode = .drydock then s.driveSeated d
  else s.setDrive d { s.drive d with present := true }

/-- A module-absent input changes (R446): the port follows, and with it its sessions. -/
def State.moduleInput (s : State) (p : Nat) : State :=
  let s := s.ethFollow p
  if s.ethUp p then s else s.dropSessions fun x => x.port == p

/-- GPIO_INPUT_CHANGE (R446): the strap of pins 14 and 15 acts only at the rising edge of RESET_N (R459). -/
def execGpioInputChange (pin : Nat) (level : Bool) (s : State) : Host.Outcome State Fault Refusal :=
  .next <|
    if gpioInput pin = false ∨ s.wharf.gpio.getLsbD pin = level then s
    else
      let s := { s with wharf := { s.wharf with gpio := s.wharf.gpio ^^^ BitVec.ofNat 16 (2 ^ pin) } }
      if s.clock.mainPower = false then s
      else if pin = 0 ∨ pin = 3 then s.moduleInput (pin / 3)
      else if pin = 2 ∨ pin = 5 then s.logEvent .interface 17 (pin / 3) (if level then 1 else 0)
      else if pin = 12 ∨ pin = 13 then s.driveInput (pin - 12) level
      else s

end Sys2Proof.Machine
end

