-- ==== Sys2Proof/Machine/RegRead.lean ====
section
/-! DEFINITION. What a register reads as: the value of every register of R21's blocks, field by field as its table gives it (R4 to R7 and
the register tables of each chapter), for a 64-bit read at an aligned offset. Unassigned offsets and reserved fields read zero (R5). -/

namespace Sys2Proof.Machine

/-- A register word of its fields: highest bit, lowest bit, value. -/
def pack (fs : List (Nat × Nat × Nat)) : W64 :=
  BitVec.ofNat 64 (fs.map fun f => f.2.2 % 2 ^ (f.1 + 1 - f.2.1) * 2 ^ f.2.1).sum

/-- A flag as a field value. -/
def flag (b : Bool) : Nat := if b then 1 else 0

/-- A two's-complement field value of a width. -/
def signed (w : Nat) (i : Int) : Nat := (i % 2 ^ w).toNat

/-- Index k of an array of 64-bit registers at `base`, if the offset lies in its first `n`. -/
def regIndex (o base n : Nat) : Option Nat := if base ≤ o ∧ o < base + 8 * n then some ((o - base) / 8) else none

/-- Eight bytes of a byte string from word `w` on. -/
def byteWord (bs : Bytes) (w : Nat) : W64 := BitVec.ofNat 64 (le (8 * w) 8 bs)

/-- CPH_LANE.STATE and BGN_TILE.STATE. -/
def UnitState.code : UnitState → Nat
  | .active => 0
  | .spare => 1
  | .draining => 2
  | .retired => 3
  | .off => 4
  | .diag => 5

/-- HSH_ENG.STATE. -/
def engCode : UnitState → Nat
  | .active | .draining | .spare => 0
  | .retired => 1
  | .off => 2
  | .diag => 3

/-! ### GLB, the Wharf and the rings -/

/-- GLB (01_architecture.md). Log 30, DEDUCED. -/
def State.regGlb (s : State) (o : Nat) : W64 :=
  match o with
  | 0x00 => pack [(63, 48, 0x7200), (47, 40, 0xB1), (39, 32, s.root.grade.read.toNat)]
  | 0x08 => pack [(9, 9, flag s.alarmHeld), (8, 8, flag s.glb.admitting), (7, 4, s.lcs.code), (2, 0, s.glb.mode.code)]
  | 0x10 => BitVec.ofNat 64 s.now
  | 0x20 => s.glb.intStatus.setWidth 64
  | 0x28 => s.glb.intEnable.setWidth 64
  | 0x30 => s.glb.intVector.setWidth 64
  | _ => 0

/-- The generation a drive's link shows: 0 when down (WHF_CARGO_PORT). Log 54, DESIGN CHOICE. -/
def State.cargoGen (s : State) (d : Nat) : Nat :=
  let up := (s.drive d).present && (s.cfg.iface.map (·.cargoEnable)).getD false && decide ((s.domAt 56).st = .on)
  if up then (if d = 0 then s.wharf.genA else s.wharf.genB) else 0

/-- WHF (16_wharf_host_interfaces.md). -/
def State.regWhf (s : State) (o : Nat) : W64 :=
  let w := s.wharf
  match o with
  | 0x000 => pack [(21, 16, w.vfs), (11, 8, w.width), (7, 4, w.gen), (0, 0, flag w.pcieUp)]
  | 0x008 => pack [(63, 48, w.flrDiscards), (47, 32, w.linkDowns), (31, 16, w.poisoned), (15, 0, w.timeouts)]
  | 0x010 => pack [(63, 48, w.ltpErrors), (47, 32, w.hsFailed),
      (12, 0, w.sessions.countP fun x => decide (x.2.stage = .opened))]
  | 0x018 => pack [(63, 32, w.cmdTimeouts), (11, 8, s.cargoGen 1), (7, 4, s.cargoGen 0)]
  | 0x020 => pack [(63, 32, w.spiTimeouts), (31, 0, w.smbTimeouts)]
  | 0x200 => pack [(63, 32, w.loopMs), (19, 16, w.loopIface), (9, 8, w.loopDepth), (0, 0, flag w.loop.isSome)]
  | 0x208 => pack [(63, 32, w.loopChecked), (31, 16, w.loopErrors), (3, 0, w.loopResult)]
  | _ => match regIndex o 0x100 2 with
    | some p => pack [(63, 32, tget 0 p w.fecCorr), (31, 16, tget 0 p w.fecUncorr),
        (1, 1, flag (((s.portCfg p).map (·.speed25)).getD false)), (0, 0, flag (s.ethUp p))]
    | none => 0

/-- A ring-table entry (02_barges_and_rings.md). -/
def State.regRing (s : State) (r o : Nat) : W64 :=
  let g := s.ringAt r
  let c := s.ringCfg r
  match o with
  | 0x00 => pack [(42, 12, g.sqBase / 4096), (4, 0, g.sqLog)]
  | 0x08 => pack [(42, 12, g.cqBase / 4096), (4, 0, g.cqLog)]
  | 0x10 => pack [(63, 32, g.sqTail.toNat), (31, 0, g.sqHead.toNat)]
  | 0x18 => pack [(63, 32, g.cqHead.toNat), (31, 0, g.cqTail.toNat)]
  | 0x20 => pack [(63, 52, c.tenant), (51, 40, c.flow), (39, 39, flag c.flowEn), (38, 38, flag c.failExpired), (37, 36, c.transport),
      (35, 30, c.func), (29, 29, flag c.maint), (17, 0, c.inflightMax)]
  | 0x28 => pack [(63, 32, c.defaultDeadline), (31, 0, c.pageTimeout)]
  | 0x30 => pack [(63, 52, g.msixVec), (47, 32, g.coalCount), (31, 16, g.coalTime), (15, 12, g.st.code), (11, 8, g.err)]
  | _ => 0

/-! ### The Lockmaster and telemetry -/

/-- Port n holds a barge that lacks a resource of R12 or R50 (LKM_PORTS.WAITING). -/
def State.portLacks (s : State) (p : Nat) : Bool :=
  if 3 ≤ p ∧ p ≤ 6 then !(tget [] (p - 3) s.brv.ports).isEmpty && decide (131072 ≤ s.lkm.tbl.length)
  else s.rings.any fun x => s.portOf x.1 == p && s.admitting x.1 && (match x.2.port with
    | w :: _ => !s.resources x.1 w
    | [] => false)

/-- LKM (03_lockmaster_scheduling.md). -/
def State.regLkm (s : State) (o : Nat) : W64 :=
  match o with
  | 0x00 => pack [(49, 32, s.lkm.tbl.countP fun x => x.2.parked), (17, 0, s.lkm.tbl.length)]
  | 0x08 => pack [(49, 32, (s.inPlace .basin).length), (28, 16, (s.inPlace .reserved).length), (15, 0, (s.inPlace .general).length)]
  | 0x10 => match s.cfg.mem with
    | some m => pack [(53, 48, m.basinKd), (37, 23, m.basinBase / 2 ^ 23)]
    | none => 0
  | 0x18 => pack [(10, 8, s.lkm.lastPort), (7, 0, ((List.range 8).map fun p => if s.portLacks p then 2 ^ p else 0).sum)]
  | 0x20 => pack [(1, 0, s.lkm.telWindow)]
  | _ => 0

/-- The half of one flow in TEL_CHAMBER. -/
def State.chamberHalf (s : State) (f : Nat) : Nat :=
  2 ^ 16 * (s.chamberMax f % 2 ^ 11) + (if (s.flowOpen f).any fun x => s.heldBack x.1 x.2 then 2 ^ 11 else 0) + s.chamberOcc f % 2 ^ 11

/-- Barges a ring has in the barge table that meet a test. -/
def State.ringCount (s : State) (r : Nat) (p : Entry → Bool) : Nat :=
  s.lkm.tbl.countP fun x => decide (x.2.ring = r) && x.2.origin.isNone && p x.2

/-- TEL (03_lockmaster_scheduling.md). -/
def State.regTel (s : State) (o : Nat) : W64 :=
  let w := s.lkm.windowNo
  match o with
  | 0x00 => s.lkm.spills
  | 0x08 => s.lkm.refills
  | 0x10 => pack [(63, 32, s.lkm.timeoutsLast), (31, 0, s.lkm.returnsLast)]
  | 0x18 => BitVec.ofNat 64 w
  | _ =>
    match regIndex o 0x100 96, regIndex o 0x400 166, regIndex o 0x1000 256, regIndex o 0x4000 2048, regIndex o 0x8000 4096 with
    | some n, _, _, _, _ => pack [(63, 32, w), (31, 0, (s.coreAt n).busyLast)]
    | _, some e, _, _, _ => pack [(63, 32, w), (31, 0, tget 0 e s.lkm.engBusyLast)]
    | _, _, some i, _, _ => BitVec.ofNat 64 (tget 0 i s.lkm.hist)
    | _, _, _, some k, _ => pack [(63, 32, s.chamberHalf (2 * k + 1)), (31, 0, s.chamberHalf (2 * k))]
    | _, _, _, _, some i =>
      let r := 4096 * s.lkm.telWindow + i
      pack [(53, 36, s.ringCount r Entry.parked), (35, 18, s.ringCount r Entry.queued), (17, 0, s.ringCount r fun _ => true)]
    | _, _, _, _, _ => 0

/-! ### Moorings -/

/-- Resident moorings that meet a test. -/
def State.mooringCount (s : State) (p : Nat → Bool) : Nat := s.mor.moorings.countP fun x => p x.2.krec.label.handle

/-- Handles in the pending pin table; with no pending copy open, in the active one (MOR_PIN_EDIT.PENDING). -/
def State.pendingPins (s : State) : List Nat :=
  match s.pwr.pend with
  | some (0x3B, m) => m.pins
  | _ => s.cfg.pins

/-- MOR (07_moorings_and_cargo.md). -/
def State.regMor (s : State) (o : Nat) : W64 :=
  let m := s.mor
  let used := m.moorings.length
  match o with
  | 0x00 => pack [(19, 16, m.storeSt.code), (13, 13, flag m.driveB.inService), (12, 12, flag m.driveA.inService), (9, 8, m.cargoMode),
      (2, 0, m.sessions.length)]
  | 0x08 => pack [(56, 38, s.mooringCount s.pinned), (37, 19, 262144 - used), (18, 0, used)]
  | 0x10 => match s.cfg.mem with
    | some c => pack [(53, 48, c.cacheKd), (37, 30, c.cacheBase / 2 ^ 30), (1, 0, c.cacheSize)]
    | none => 0
  | 0x18 => match s.cfg.mem with
    | some c => pack [(47, 40, c.outcomeLog), (39, 8, c.nsid), (4, 0, c.bucketsLog)]
    | none => 0
  | 0x20 => m.pageCache
  | 0x28 => m.pageStore
  | 0x30 => m.evict
  | 0x38 => pack [(63, 48, m.mirrorRetry), (47, 32, m.damaged), (31, 16, m.eccRefetch), (15, 0, m.offline)]
  | 0x40 => pack [(42, 24, m.fill), (15, 0, s.pendingCommits.length)]
  | 0x48 => BitVec.ofNat 64 m.lastCommit
  | 0x50 => m.pinHandle
  | 0x58 => pack [(50, 32, s.pendingPins.length)]
  | _ => match regIndex o 0x80 4, regIndex o 0x8000 4096 with
    | some k, _ => pack [(63, 32, tget 0 k m.bankLast), (16, 0, s.bankUsed k)]
    | _, some t => pack [(56, 38, s.mooringCount fun h => handleTenant h == t && s.pinned h), (37, 19, s.share t),
        (18, 0, s.mooringCount fun h => handleTenant h == t)]
    | _, _ => 0

/-! ### Lanes, hash engines, tiles -/

/-- The diagnostic registers of a block at 0x800 (R226, R254): CTL, DATA, OUT and STATUS. -/
def DiagRegs.reg (d : DiagRegs) (o : Nat) : W64 :=
  match o with
  | 0x800 => pack [(14, 8, d.sel), (0, 0, flag d.enable)]
  | 0x840 => pack [(16, 16, flag d.busy), (7, 0, d.code)]
  | _ => match regIndex o 0x810 4, regIndex o 0x830 2 with
    | some i, _ => tget 0 i d.data
    | _, some i => tget 0 i d.out
    | _, _ => 0

/-- CPH (08_cipher_lanes_and_hash.md). -/
def State.regCph (s : State) (o : Nat) : W64 :=
  match o with
  | 0x00 => pack [(23, 16, laneNumbers.countP fun n => (s.laneAt n).serves),
      (15, 8, laneNumbers.countP fun n => decide ((s.laneAt n).st = .spare)), (7, 0, s.cph.retired)]
  | 0x08 => pack [(63, 32, s.cph.mismatches.toNat), (31, 0, s.cph.faults.toNat)]
  | 0x10 => pack [(47, 32, s.cph.alarmLimit), (31, 16, s.cph.windowMs), (7, 0, s.cph.laneLimit)]
  | 0x18 => pack [(31, 0, s.noncePrefix)]
  | _ => match regIndex o 0x100 68, regIndex o 0x400 8 with
    | some n, _ =>
      let l := s.laneAt n
      pack [(47, 40, l.mismatchWin), (36, 32, l.slots.length), (25, 24, (s.ctxsOn n).length), (19, 16, l.st.code), (3, 0, l.group)]
    | _, some g =>
      let c := tget {} g s.cfg.laneGroups
      pack [(15, 15, flag c.strict), (14, 14, flag c.dedicated), (3, 0, (s.lanesOf g).length)]
    | _, _ => s.cph.diag.reg o

/-- HSH (08_cipher_lanes_and_hash.md). -/
def State.regHsh (s : State) (o : Nat) : W64 :=
  let inService (p : Nat → Bool) : Nat := (List.range 56).countP fun e => p e && decide ((s.engAt e).st = .active)
  match o with
  | 0x00 => pack [(23, 16, inService isKeccak), (15, 8, inService isSha2), (2, 0, s.hsh.pairs)]
  | 0x08 => s.hsh.loads
  | 0x10 => pack [(63, 32, s.hsh.damaged), (31, 0, s.hsh.mismatch)]
  | _ => match regIndex o 0x100 56 with
    | some e => pack [(19, 16, engCode (s.engAt e).st), (2, 0, engGroup e)]
    | none => s.hsh.diag.reg o

/-- BGN (09_bignum_engine_and_asymmetric.md). -/
def State.regBgn (s : State) (o : Nat) : W64 :=
  match o with
  | 0x00 => pack [(23, 16, tileNumbers.countP fun n => (s.tileAt n).serves),
      (15, 8, tileNumbers.countP fun n => decide ((s.tileAt n).st = .spare)), (7, 0, s.bgn.retired)]
  | 0x08 => pack [(63, 32, s.bgn.mismatches.toNat), (31, 0, s.bgn.faults.toNat)]
  | 0x10 => pack [(7, 0, s.bgn.tileLimit)]
  | 0x18 => pack [(47, 40, (tileNumbers.map fun n => (s.tileAt n).clearing.length).sum),
      (31, 24, s.cores.countP fun x => x.2.tile.isSome), (15, 0, s.bgn.waiting.length)]
  | _ => match regIndex o 0x100 26, regIndex o 0x400 3 with
    | some n, _ =>
      let t := s.tileAt n
      pack [(47, 40, t.mismatchWin), (35, 32, (s.jobsOn n).length), (27, 24, (List.range 8).countP fun w => !s.windowTaken n w),
        (19, 16, t.st.code), (3, 0, t.group)]
    | _, some g =>
      let c := tget {} g s.cfg.tileGroups
      pack [(15, 15, flag c.strict), (14, 14, flag c.dedicated), (3, 0, (s.tilesOf g).length)]
    | _, _ => s.bgn.diag.reg o

/-! ### RNG, SLU and gates -/

/-- RNG (10_random_generation.md); RNG_RAW_DATA is read by `State.takeRaw`. -/
def State.regRng (s : State) (o : Nat) : W64 :=
  let g := s.rng
  let blockedDrbgs := drbgNumbers.countP fun d => decide ((s.drbgAt d).st = .blocked ∨ (s.drbgAt d).st = .rawBlocked)
  match o with
  | 0x000 => pack [(39, 32, blockedDrbgs), (31, 24, s.seeded), (20, 16, s.healthy), (2, 2, flag g.raw), (1, 1, flag g.fatal),
      (0, 0, flag g.ready)]
  | 0x008 => pack [(47, 32, g.edgeFloor), (26, 16, g.aptCutoff), (7, 0, g.rctCutoff)]
  | 0x010 => pack [(63, 32, g.discarded.toNat), (31, 0, g.accepted.toNat)]
  | 0x800 => pack [(7, 4, g.rawCluster), (3, 0, g.rawOsc)]
  | 0x810 => pack [(63, 32, g.rawDropped), (16, 16, flag g.rawEmpty), (10, 0, g.rawBuf.length)]
  | _ => match regIndex o 0x100 16, regIndex o 0x200 64 with
    | some c, _ =>
      let x := s.clusterAt c
      pack [(63, 32, x.fails), (23, 20, x.cause.toNat), (17, 16, x.consec), (9, 8, x.held.length), (3, 0, x.st.code)]
    | _, some d =>
      let x := s.drbgAt d
      pack [(63, 32, x.seedings), (27, 24, x.st.code), (17, 0, x.requests)]
    | _, _ => 0

/-- SLU (11_inline_memory_encryption.md). -/
def State.regSlu (s : State) (o : Nat) : W64 :=
  let u := s.slu
  let k := s.mor.keelReg
  match o with
  | 0x00 => pack [(11, 8, u.sector), (5, 5, flag s.mor.ckpt.isSome), (4, 4, flag u.half1), (3, 3, flag u.half0), (0, 0, flag u.ready)]
  | 0x08 =>
    if u.protLog = 0 then 0
    else pack [(13, 12, sluOnchip u.protLog), (11, 8, sluLevels u.protLog), (5, 0, u.protLog)]
  | 0x10 => pack [(63, 32, u.hits.toNat), (31, 0, u.misses.toNat)]
  | 0x18 => u.rollovers
  | 0x20 => pack [(63, 48, u.ueData), (47, 32, u.ceNode), (31, 0, u.ceData)]
  | 0x28 => pack [(63, 32, u.passes.toNat), (7, 0, u.hours)]
  | 0x30 => pack [(63, 32, u.domainViol), (31, 0, u.rangeViol)]
  | 0x40 => BitVec.ofNat 64 k.rootGen
  | 0x48 => BitVec.ofNat 64 k.lastCommit
  | 0x50 => BitVec.ofNat 64 k.pending
  | 0x58 => pack [(63, 1, k.storeId / 2), (0, 0, flag k.rootCopy)]
  | 0x60 => pack [(63, 32, u.sectorReads.toNat), (31, 0, u.sectorWrites.toNat)]
  | _ => match regIndex o 0x100 4 with
    | some l => pack [(63, 48, (s.linkAt l).macFail),
        (47, 0, if (s.linkAt l).st = .up ∨ (s.linkAt l).st = .stopped then (s.linkAt l).txCtr else 0)]
    | none => 0

/-- The region table that the region registers show (GTE_VIEW). -/
def State.regionView (s : State) : Tbl Region :=
  match s.gte.viewPending, s.pwr.pend with
  | true, some (0x39, m) => m.gates
  | _, _ => s.cfg.gates

/-- The pending copy of the gate tables differs from the active tables (GTE_STATUS.DIRTY). -/
def State.gatesDirty (s : State) : Bool :=
  match s.pwr.pend with
  | some (0x39, m) => (List.range 1920).any fun i => decide (tget ({} : Region) i m.gates ≠ tget {} i s.cfg.gates)
  | _ => false

/-- One of the four words of a region (GTE_RGN). -/
def regionReg (r : Region) (w : Nat) : W64 :=
  match w with
  | 0 => pack [(51, 6, r.base)]
  | 1 => pack [(51, 6, r.limit)]
  | 2 => pack [(7, 7, flag r.d), (6, 6, flag r.x), (5, 5, flag r.w), (4, 4, flag r.r), (1, 0, r.kind)]
  | _ => r.mask

/-- One of the two words of a violation report (GTE_VIOL_ADDR, GTE_VIOL_INFO). -/
def Report.reg (r : Report) (w : Nat) : W64 :=
  if w = 0 then pack [(51, 0, r.addr)]
  else pack [(63, 32, r.time), (21, 16, r.kd), (13, 12, r.kind.code), (11, 7, r.region), (6, 0, r.master)]

/-- GTE (12_barrier_gates_and_tags.md). -/
def State.regGte (s : State) (o : Nat) : W64 :=
  match o with
  | 0x00 => pack [(7, 1, s.gte.barriers.length), (0, 0, flag s.gatesDirty)]
  | 0x08 => pack [(0, 0, flag s.gte.viewPending)]
  | 0x10 => pack [(63, 48, s.gte.heldReads), (47, 16, s.gte.declass), (15, 0, s.gte.egressZeroed)]
  | 0x18 => pack [(63, 32, s.gte.violLost), (31, 0, s.gte.violCount)]
  | _ => match regIndex o 0x100 32, regIndex o 0x400 120, regIndex o 0x1000 7680 with
    | some i, _, _ => match Tbl.find (i / 2) s.gte.reports with
      | some r => r.reg (i % 2)
      | none => 0
    | _, some g, _ =>
      let busy := (Tbl.find g s.gte.barriers).isSome
      pack [(47, 32, ((List.range 16).map fun r => if (s.region g r).kind = 0 then 0 else 2 ^ r).sum),
        (31, 16, (tget [] g s.gte.barriers).length), (1, 1, flag busy), (0, 0, flag busy)]
    | _, _, some i => regionReg (tget ({} : Region) (i / 4) s.regionView) (i % 4)
    | _, _, _ => 0

/-! ### Roots, life cycle, lengthsman -/

/-- ROOT (13_roots_identity_lifecycle.md). -/
def State.regRoot (s : State) (o : Nat) : W64 :=
  let cur (c : SlotClass) : Nat := (s.current c).getD 0
  match o with
  | 0x00 => pack [
      (44, 40, SlotClass.seed.slots.countP fun i => !(s.slot i).isWritten && !(s.slot i).isRetired),
      (36, 32, cur .csig), (28, 24, cur .yuhild), (20, 16, cur .signer),
      (10, 10, flag s.kwm.migration.isSome), (9, 9, flag s.root.keelFresh), (8, 8, flag s.keelOk), (4, 0, cur .seed)]
  | 0x08 => pack [(63, 32, s.root.family), (31, 16, s.root.version), (6, 0, s.floor)]
  | 0x10 => pack [(63, 32, (s.kwm.migration.map (·.2)).getD 0), (6, 0, (s.kwm.migration.map (·.1)).getD 0)]
  | _ => match regIndex o 0x100 32, regIndex o 0x200 4, regIndex o 0x220 4, regIndex o 0x400 64 with
    | some i, _, _, _ =>
      let x := s.slot i
      let current := [SlotClass.uds, .signer, .yuhild, .csig, .seed].any fun c => s.current c == some i
      pack [(10, 8, slotClassCode i), (4, 4, flag current), (3, 3, flag (x.checkOk i)), (2, 2, flag x.isRetired), (1, 1, flag x.isLocked),
        (0, 0, flag x.isWritten)]
    | _, some w, _, _ => if s.root.devId.isSome then byteWord s.devIdDigest w else 0
    | _, _, some w, _ => if s.root.aliasSeed.isSome then byteWord s.aliasDigest w else 0
    | _, _, _, some i => byteWord (s.mr (i / 8)) (i % 8)
    | _, _, _, _ => 0

/-- LCY (13_roots_identity_lifecycle.md). -/
def State.regLcy (s : State) (o : Nat) : W64 :=
  let y := s.lcy
  let state := match s.lcs, y.unlocked with
    | .production, none => 0
    | .production, some _ => 1
    | _, _ => 2
  match o with
  | 0x00 => pack [(15, 12, (y.unlocked.map BitVec.toNat).getD 0), (9, 8, state), (6, 6, flag (blown s.root.t3)),
      (5, 5, flag (blown s.root.t2)), (4, 4, flag (blown s.root.t1)), (3, 0, s.lcs.code)]
  | 0x10 => pack [(10, 8, y.result), (1, 1, flag y.busy.isSome), (0, 0, flag y.busy.isSome)]
  | _ => match regIndex o 0x100 14, regIndex o 0x200 23 with
    | some w, _ => byteWord (y.chal.getD []) w
    | _, some w => tget 0 w y.resp
    | _, _ => 0

/-- The tamper table that LEN_CFG and LEN_SRC show (LEN_VIEW). -/
def State.tamperView (s : State) : TamperTable :=
  match s.len.viewPending, s.pwr.pend with
  | true, some (0x38, m) => m.tamper
  | _, _ => s.len.table

/-- The fields of a LEN_SRC row under its COUNT. -/
def srcRowReg (r : SrcRow) (count : Nat) : W64 :=
  pack [(63, 48, count), (47, 32, r.holdMs), (31, 16, r.window), (15, 8, r.n), (7, 4, r.cellN), (3, 3, flag r.cellErase), (2, 0, r.level)]

/-- LEN (14_lengthsman_tamper.md). -/
def State.regLen (s : State) (o : Nat) : W64 :=
  let l := s.len
  let t := s.tamperView
  match o with
  | 0x00 => pack [(11, 9, (l.latches.map fun x => x.2.level).foldl max 0), (8, 8, flag l.latched), (3, 3, flag l.erased),
      (2, 2, flag l.cold), (1, 1, flag l.oscRc)]
  | 0x08 => l.cond.setWidth 64
  | 0x10 => s.latchMask.setWidth 64
  | 0x18 => match l.first with
    | some (src, d) => pack [(63, 32, d), (8, 8, 1), (4, 0, src)]
    | none => 0
  | 0x20 => pack [(47, 0, s.clock.stime)]
  | 0x28 => pack [(9, 8, t.throttle), (7, 4, t.enclPol.toNat), (3, 0, t.enclEn.toNat)]
  | 0x30 => pack [(0, 0, flag l.viewPending)]
  | 0x40 => pack [(63, 32, l.overflow), (14, 8, l.srec.countP fun x => !x.2.reported), (6, 0, l.srec.length)]
  | _ => match regIndex o 0x100 24, regIndex o 0x200 128 with
    | some n, _ => srcRowReg (tget ⟨0, 1, 1, 1000, false, 0⟩ n t.rows) (tget 0 n l.counts)
    | _, some i => match Tbl.find (i / 2) l.srec with
      | some e => byteWord e.bytes (i % 2)
      | none => 0
    | _, _ => 0

/-! ### Modes, manifest, Broviry, logbook -/

/-- PWR (15_launch_modes_power.md). -/
def State.regPwr (s : State) (o : Nat) : W64 :=
  let p := s.pwr
  let f := p.fnSel
  let c := s.cfg.power
  match o with
  | 0x008 => pack [(11, 8, p.result), (6, 4, p.req), (2, 0, s.glb.prevMode.code)]
  | 0x010 => BitVec.ofNat 64 p.epoch
  | 0x018 => pack [(1, 0, p.epochEnd)]
  | 0x100 => pack [(7, 0, f)]
  | 0x108 => pack [(2, 2, flag (!p.restarting.isEmpty && f == 0x39))]
  | 0x110 => pack [(17, 17, flag (p.grants.contains f)), (16, 16, flag ((p.pend.map fun x => x.1 == f).getD false)),
      (15, 8, tget 0 f p.reasons), (0, 0, flag (s.fnStopped f))]
  | 0x118 => pack [(12, 0, p.fnBufLen)]
  | 0x200 => pack [(63, 48, c.drainMs), (47, 32, c.idleUs), (31, 24, c.floorHashGroups), (23, 16, c.floorTiles),
      (15, 12, c.floorLaneGroups), (11, 8, c.floorClusters), (7, 0, c.capW)]
  | 0x208 => pack [(15, 12, s.effectiveEighths), (11, 8, s.tamperEighths), (7, 4, p.cap), (3, 0, p.thermal)]
  | 0x210 => pack [(47, 32, p.current), (31, 16, p.measMv), (15, 0, p.targetMv)]
  | 0x218 => pack [(18, 16, p.tempSensor), (15, 0, signed 16 p.tempMax)]
  | 0x220 => pack [(8, 8, flag s.clock.pllLock), (5, 0, s.cfg.spread)]
  | 0x228 => pack [(63, 32, p.stretches), (31, 16, p.steps), (15, 0, p.floorHeld)]
  | _ => match regIndex o 0x400 72, regIndex o 0x800 8, regIndex o 0x1000 512 with
    | some d, _, _ => pack [(63, 32, (s.domAt d).wakes.toNat), (2, 0, (s.domAt d).st.code)]
    | _, some w, _ => match p.halt with
      | some h => byteWord h.bytes w
      | none => 0
    | _, _, some i => tget 0 i p.fnBuf
    | _, _, _ => 0

/-- KWM (15_launch_modes_power.md). -/
def State.regKwm (s : State) (o : Nat) : W64 :=
  let k := s.kwm
  let copy (c : Nat × Nat × Bool) : W64 := pack [(63, 32, c.1), (15, 8, c.2.1), (0, 0, flag c.2.2)]
  match o with
  | 0x00 => pack [(16, 16, flag k.done), (15, 8, k.step), (2, 2, flag k.countersigned), (1, 1, flag k.fallback), (0, 0, flag k.copyB)]
  | 0x08 => BitVec.ofNat 64 k.ticks
  | 0x10 => copy k.copy0
  | 0x18 => copy k.copy1
  | _ => match regIndex o 0x100 8 with
    | some w => byteWord k.digest w
    | none => 0

/-- BRV (17_broviry_cluster.md). -/
def State.regBrv (s : State) (o : Nat) : W64 :=
  let b := s.brv
  match o with
  | 0x00 => pack [(63, 56, b.coord), (55, 48, ones 64 b.live.toNat), (47, 40, s.clusterN), (31, 16, b.mapVersion), (11, 8, b.st.code),
      (7, 7, flag (s.cfg.cluster.isSome && s.isHead)), (5, 0, s.index)]
  | 0x08 => b.live
  | 0x10 => pack [(63, 32, b.forwarded.toNat), (31, 16, b.lostCount), (15, 0, b.late)]
  | 0x18 => pack [(63, 32, b.replicated.toNat), (31, 16, b.degradedCount),
      (12, 0, b.map.countP fun x => decide (x.2.st = .resync))]
  | 0x20 => pack [(63, 32, b.corrections.toNat), (15, 0, signed 16 b.offset)]
  | _ => match regIndex o 0x100 4, regIndex o 0x8000 4096 with
    | some l, _ =>
      let k := s.linkAt l
      pack [(63, 48, k.retries), (47, 32, k.downs), (23, 16, k.peer), (11, 8, k.reason), (2, 0, k.st.code)]
    | _, some i => pack [(23, 16, (s.bucketAt i).replica), (15, 8, (s.bucketAt i).home), (2, 0, (s.bucketAt i).st.code)]
    | _, _ => 0

/-- What a cursor shows: one whose record has been overwritten stands at the oldest record with SKIPPED set (R435). -/
def Cursor.shown (c : Cursor) (l : Log) : Cursor :=
  if c.overwritten l then { c with seq := l.oldest, off := 0, skipped := true } else c

/-- LOG (18_logbook_and_fifos.md), by the reading path's cursor; LOG_NEXT is read by `State.logNext`. -/
def State.regLog (s : State) (path : Path) (o : Nat) : W64 :=
  let l := s.log
  let cur := (cursorPath path).map fun p => (s.cursorAt p).shown l
  match o with
  | 0x00 => pack [(35, 32, flag s.logPriority), (17, 0, recWords l.ring)]
  | 0x08 => BitVec.ofNat 64 l.nextSeq
  | 0x10 => pack [(63, 32, l.lostArchive), (31, 16, l.lostIngress), (15, 0, l.lostRing)]
  | 0x18 => pack [(63, 56, l.threshold), (55, 28, l.limit), (27, 0, l.outstanding)]
  | 0x20 => BitVec.ofNat 64 ((cur.map (·.seq)).getD 0)
  | 0x28 => match cur with
    | some c => pack [(16, 16, flag c.skipped), (15, 8, c.off), (6, 0, c.win.length)]
    | none => 0
  | _ => match regIndex o 0x100 64, regIndex o 0x2000 1024 with
    | some i, _ => (cur.bind fun c => c.win[i]?).getD 0
    | _, some c =>
      let b := tget {} c l.rates
      pack [(63, 32, b.suppressed), (31, 24, b.tokens), (15, 8, b.refill), (7, 0, b.capacity)]
    | _, _ => 0

/-! ### The register space -/

/-- The value of the register at an aligned offset of the register space (R21). -/
def State.regValue (s : State) (path : Path) (addr : Nat) : W64 :=
  let o := addr % 0x10000
  match regBlock addr with
  | some 0x00 => s.regGlb o
  | some 0x01 => s.regWhf o
  | some 0x02 => s.regLkm o
  | some 0x03 => s.regMor o
  | some 0x04 => s.regCph o
  | some 0x05 => s.regHsh o
  | some 0x06 => s.regBgn o
  | some 0x07 => s.regRng o
  | some 0x08 => s.regSlu o
  | some 0x09 => s.regGte o
  | some 0x0A => s.regRoot o
  | some 0x0B => s.regLcy o
  | some 0x0C => s.regLen o
  | some 0x0D => s.regPwr o
  | some 0x0E => s.regBrv o
  | some 0x0F => s.regLog path o
  | some 0x10 => s.regTel o
  | some 0x11 => s.regKwm o
  | some 0x80 => s.regRing ((addr - 0x800000) / 64) (addr % 64)
  | _ => 0

/-- A read of a violation report marks it read (GTE_VIOL_PTR.LOST). Log 36, DEDUCED. -/
def State.readReport (s : State) (i : Nat) : State :=
  match Tbl.find i s.gte.reports with
  | some r => { s with gte := { s.gte with reports := Tbl.put i { r with read := true } s.gte.reports } }
  | none => s

/-- A path's first read of the logbook sets its cursor (R435). Log 30, DEDUCED. -/
def State.settleCursor (s : State) (path : Path) : State :=
  match cursorPath path with
  | some p => s.setCursor p (s.cursorAt p)
  | none => s

/-- A 64-bit read by a path that may read the register: its data and what the read itself does (LOG_NEXT, LOG_CURSOR, RNG_RAW_DATA,
reports). Log 30, DEDUCED. Log 36. -/
def State.readReg (s : State) (path : Path) (addr : Nat) : W64 × State :=
  if addr = logNextAddr then s.logNext path
  else if addr = 0x70808 then s.takeRaw
  else
    let v := s.regValue path addr
    let s := if 0xF0020 ≤ addr ∧ addr < 0xF0300 then s.settleCursor path else s
    match regIndex addr 0x90100 32 with
    | some i => (v, s.readReport (i / 2))
    | none => (v, s)

end Sys2Proof.Machine
end

