-- ==== Sys2Proof/Machine/Regs.lean ====
section
/-! DEFINITION. Writes of registers by their access codes (R4 to R8, R22, R24), reads and writes of the towpath targets (R400), and accesses
of the debug port (R332 to R334). A register with a row of its own is written by that row's operation. -/

namespace Sys2Proof.Machine

/-- What a command's operation leaves. -/
def State.via (s : State) (f : State → Host.Outcome State Fault Refusal) : State :=
  match f s with
  | .next t => t
  | _ => s

/-! ### The halves of a register (R4) -/

/-- A naturally aligned 32-bit or 64-bit access (R4). -/
def aligned (addr size : Nat) : Bool := (size == 4 || size == 8) && addr % size == 0

/-- The bits of its register that an access addresses. -/
def accessMask (addr size : Nat) : W64 :=
  if size = 8 then BitVec.allOnes 64 else if addr % 8 = 4 then 0xFFFFFFFF00000000 else 0xFFFFFFFF

/-- The value written, moved to the half addressed; the other half is zero. -/
def accessValue (addr size : Nat) (v : W64) : W64 :=
  if size = 8 then v else if addr % 8 = 4 then v <<< 32 else v &&& 0xFFFFFFFF

/-- A register with the addressed bits replaced. -/
def merge (old v mask : W64) : W64 := (old &&& ~~~mask) ||| (v &&& mask)

/-! ### Writes by block; `v` holds zeros outside `mask` -/

/-- GLB: W1C causes, enables and the vector (R6, R25). -/
def State.writeGlb (s : State) (o : Nat) (v mask : W64) : State :=
  match o with
  | 0x20 => s.withGlb { s.glb with intStatus := s.glb.intStatus &&& ~~~(v.setWidth 6) }
  | 0x28 => s.withGlb { s.glb with intEnable := (merge (s.regGlb 0x28) v mask).setWidth 6 }
  | 0x30 => s.withGlb { s.glb with intVector := (merge (s.regGlb 0x30) v mask).setWidth 12 }
  | _ => s

/-- RING_ABORT by the halves written (R57). -/
def State.writeAbort (s : State) (r : Nat) (v mask : W64) : State :=
  if wbit 63 v then s.via (execAbortAll r)
  else if wbit 0 mask then s.via (execAbortSeq r (wbits 31 0 v))
  else s

/-- RING_CTL: OPEN and CLOSE act, else the interrupt fields are stored (R51 to R53). -/
def State.writeCtl (s : State) (r : Nat) (v mask : W64) : State :=
  let m := merge (s.regRing r 0x30) v mask
  if wbit 0 v then s.via (execRingOpen r m)
  else if wbit 1 v then s.via (execRingClose r m)
  else s.setRing r (ctlFields (s.ringCfg r).func (s.ringAt r) m)

/-- A ring-table entry: bases and sizes only while CLOSED. -/
def State.writeRing (s : State) (r o : Nat) (v mask : W64) : State :=
  let g := s.ringAt r
  let m := merge (s.regRing r o) v mask
  match o with
  | 0x00 => if g.st = .closed then s.setRing r { g with sqBase := 4096 * wbits 42 12 m, sqLog := wbits 4 0 m } else s
  | 0x08 => if g.st = .closed then s.setRing r { g with cqBase := 4096 * wbits 42 12 m, cqLog := wbits 4 0 m } else s
  | 0x30 => s.writeCtl r v mask
  | 0x38 => s.writeAbort r v mask
  | _ => s

/-- MOR: the pin handle and the pin-table edits, ADD before REMOVE (R177). -/
def State.writeMor (s : State) (o : Nat) (v mask : W64) : State :=
  match o with
  | 0x50 => { s with mor := { s.mor with pinHandle := merge s.mor.pinHandle v mask } }
  | 0x58 =>
    let s := if wbit 0 v then s.via execPinAdd else s
    if wbit 1 v then s.via execPinRemove else s
  | _ => s

/-- DIAG_DATA of a block's diagnostic registers. -/
def DiagRegs.putData (d : DiagRegs) (o : Nat) (v mask : W64) : DiagRegs :=
  match regIndex o 0x810 4 with
  | some i => { d with data := Tbl.put i (merge (tget 0 i d.data) v mask) d.data }
  | none => d

/-- CPH diagnostic registers (R226). -/
def State.writeCph (s : State) (o : Nat) (v mask : W64) : State :=
  match o with
  | 0x800 => s.via (execCphDiagEnable (merge (s.cph.diag.reg 0x800) v mask))
  | 0x808 => s.via (execCphDiagCmd v 0)
  | _ => { s with cph := { s.cph with diag := s.cph.diag.putData o v mask } }

/-- HSH diagnostic registers (R226). -/
def State.writeHsh (s : State) (o : Nat) (v mask : W64) : State :=
  match o with
  | 0x800 => s.via (execHshDiagEnable (merge (s.hsh.diag.reg 0x800) v mask))
  | 0x808 => s.via (execHshDiagCmd v)
  | _ => { s with hsh := { s.hsh with diag := s.hsh.diag.putData o v mask } }

/-- BGN diagnostic registers (R254). -/
def State.writeBgn (s : State) (o : Nat) (v mask : W64) : State :=
  match o with
  | 0x800 => s.via (execBgnDiagEnable (merge (s.bgn.diag.reg 0x800) v mask))
  | 0x808 => s.via (execBgnDiagCmd v 0)
  | _ => { s with bgn := { s.bgn with diag := s.bgn.diag.putData o v mask } }

/-- RNG raw registers (R266). -/
def State.writeRng (s : State) (o : Nat) (v mask : W64) : State :=
  match o with
  | 0x800 => s.via (execRawSourceSelect (merge (s.regRng 0x800) v mask))
  | 0x810 => if wbit 16 v then { s with rng := { s.rng with rawEmpty := false } } else s
  | _ => s

/-- The pending copy of a STOPPED function, where it is open, edited (R370). -/
def State.editPending (s : State) (f : Nat) (k : Manifest → Manifest) : State :=
  match s.pwr.pend with
  | some (g, m) =>
    if g = f ∧ s.pwr.stopped.contains f = true then { s with pwr := { s.pwr with pend := some (f, k m) } } else s
  | none => s

/-- A region with one of its four words written (GTE_RGN). -/
def regionWrite (r : Region) (w : Nat) (v mask : W64) : Region :=
  let m := merge (regionReg r w) v mask
  match w with
  | 0 => { r with base := wbits 51 6 m }
  | 1 => { r with limit := wbits 51 6 m }
  | 2 => { r with kind := wbits 1 0 m, r := wbit 4 m, w := wbit 5 m, x := wbit 6 m, d := wbit 7 m }
  | _ => { r with mask := m }

/-- GTE: the view, barriers and region registers, which write the pending copy (R300, R302). -/
def State.writeGte (s : State) (o : Nat) (v mask : W64) : State :=
  if o = 0x08 then (if wbit 0 mask then { s with gte := { s.gte with viewPending := wbit 0 v } } else s)
  else match regIndex o 0x400 120, regIndex o 0x1000 7680 with
    | some g, _ => if wbit 0 v then s.via (execGateBarrier g) else s
    | _, some i => s.editPending 0x39 fun (m : Manifest) =>
        { m with gates := Tbl.put (i / 4) (regionWrite (tget {} (i / 4) m.gates) (i % 4) v mask) m.gates }
    | _, _ => s

/-- LCY: the Yuhild registers (R334, R337). -/
def State.writeLcy (s : State) (o : Nat) (v mask : W64) : State :=
  match o with
  | 0x08 => s.via (execYuhildRequest (v.setWidth 4))
  | 0x10 => if wbit 0 v then s.via execYuhildSubmit else s
  | _ => match regIndex o 0x200 23 with
    | some w => { s with lcy := { s.lcy with resp := Tbl.put w (merge (tget 0 w s.lcy.resp) v mask) s.lcy.resp } }
    | none => s

/-- A tamper row written (LEN_SRC); COUNT is read-only. -/
def srcRowWrite (r : SrcRow) (v mask : W64) : SrcRow :=
  let m := merge (srcRowReg r 0) v mask
  { level := wbits 2 0 m, n := wbits 15 8 m, window := wbits 31 16 m, holdMs := wbits 47 32 m, cellErase := wbit 3 m, cellN := wbits 7 4 m }

/-- LEN_CFG written in a table. -/
def lenCfgWrite (t : TamperTable) (v mask : W64) : TamperTable :=
  let m := merge (pack [(9, 8, t.throttle), (7, 4, t.enclPol.toNat), (3, 0, t.enclEn.toNat)]) v mask
  { t with throttle := wbits 9 8 m, enclPol := BitVec.ofNat 4 (wbits 7 4 m), enclEn := BitVec.ofNat 4 (wbits 3 0 m) }

/-- LEN: latches, the view and the pending tamper table (R342, R345). -/
def State.writeLen (s : State) (o : Nat) (v mask : W64) : State :=
  match o with
  | 0x10 => s.via (execLatchClearWrite v)
  | 0x28 => s.editPending 0x38 fun (m : Manifest) => { m with tamper := lenCfgWrite m.tamper v mask }
  | 0x30 => if wbit 0 mask then { s with len := { s.len with viewPending := wbit 0 v } } else s
  | _ => match regIndex o 0x100 24 with
    | some n => s.editPending 0x38 fun (m : Manifest) =>
        { m with tamper := { m.tamper with
          rows := Tbl.put n (srcRowWrite (tget ⟨0, 1, 1, 1000, false, 0⟩ n m.tamper.rows) v mask) m.tamper.rows } }
    | none => s

/-- PWR_MODE_REQ by its request code (R363); the other codes request nothing. Log 30, DEDUCED. -/
def State.writeMode (s : State) (path : Path) (code : Nat) : State :=
  match code with
  | 1 => s.via (execDormantRequest path)
  | 2 => s.via (execResumeRequest path)
  | 3 => s.via (execHaltRequest path)
  | 4 => s.via (execResetRequest path)
  | _ => s.logOn path 0xD0000 4

/-- PWR_FN_CTL: STOP, CHANGE and RESTART in that order (R370). Log 30, DEDUCED. -/
def State.writeFnCtl (s : State) (v : W64) : State :=
  let s := if wbit 0 v then s.via execFnStop else s
  let s := if wbit 1 v then s.via execFnChange else s
  if wbit 2 v then s.via execFnRestart else s

/-- PWR: requests, function selection and the record buffer, which takes writes only with a pending copy open (R369, R370). -/
def State.writePwr (s : State) (path : Path) (o : Nat) (v mask : W64) : State :=
  match o with
  | 0x000 => if wbit 0 mask then s.writeMode path (wbits 2 0 v) else s
  | 0x100 =>
    let f := wbits 7 0 (merge (s.regPwr 0x100) v mask)
    if fnValid f then { s with pwr := { s.pwr with fnSel := f } } else s.logAccess 0xD0100 3
  | 0x108 => s.writeFnCtl v
  | 0x118 =>
    if s.pwr.pend.isSome then { s with pwr := { s.pwr with fnBufLen := wbits 12 0 (merge (s.regPwr 0x118) v mask) } } else s
  | _ => match regIndex o 0x1000 512 with
    | some i =>
      if s.pwr.pend.isSome then
        { s with pwr := { s.pwr with fnBuf := Tbl.put i (merge (tget 0 i s.pwr.fnBuf) v mask) s.pwr.fnBuf } }
      else s
    | none => s

/-- LOG: the threshold, the PF's seek, SKIPPED and the rate limits (R428, R432, R435, R436). -/
def State.writeLog (s : State) (path : Path) (o : Nat) (v mask : W64) : State :=
  match o with
  | 0x18 => { s with log := { s.log with threshold := wbits 63 56 (merge (pack [(63, 56, s.log.threshold)]) v mask) } }
  | 0x20 => if path = .pf then s.via (execLogCursorSeek (merge (s.regLog .pf 0x20) v mask)) else s
  | 0x28 => match cursorPath path with
    | some p => if wbit 16 v then s.setCursor p { s.cursorAt p with skipped := false } else s
    | none => s
  | _ => match regIndex o 0x2000 1024 with
    | some c =>
      let b := tget {} c s.log.rates
      let m := merge (pack [(15, 8, b.refill), (7, 0, b.capacity)]) v mask
      { s with log := { s.log with rates := Tbl.put c { b with refill := wbits 15 8 m, capacity := wbits 7 0 m } s.log.rates } }
    | none => s

/-- A write of the register at an aligned offset, by its access code; offsets that no register has ignore it (R5, R6). Log 30, DEDUCED. -/
def State.writeReg (s : State) (path : Path) (addr : Nat) (v mask : W64) : State :=
  let o := addr % 0x10000
  match regBlock addr with
  | some 0x00 => s.writeGlb o v mask
  | some 0x01 =>
    if o = 0x200 then s.via (execLoopbackStart ((merge (s.regWhf 0x200) v mask) &&& ~~~1 ||| (v &&& 1))) else s
  | some 0x02 => if o = 0x20 ∧ wbit 0 mask = true then { s with lkm := { s.lkm with telWindow := wbits 1 0 v } } else s
  | some 0x03 => s.writeMor o v mask
  | some 0x04 => s.writeCph o v mask
  | some 0x05 => s.writeHsh o v mask
  | some 0x06 => s.writeBgn o v mask
  | some 0x07 => s.writeRng o v mask
  | some 0x09 => s.writeGte o v mask
  | some 0x0B => s.writeLcy o v mask
  | some 0x0C => s.writeLen o v mask
  | some 0x0D => s.writePwr path o v mask
  | some 0x0F => s.writeLog path o v mask
  | some 0x80 => s.writeRing ((addr - 0x800000) / 64) (addr % 64) v mask
  | _ => s

/-! ### Accesses by path -/

/-- A write through VF BAR0 (R383): its j-th ring's entry at 0x10000 + 64 j; the status page and other offsets discard writes.
Log 30, DEDUCED. -/
def State.vfWrite (s : State) (n off : Nat) (v mask : W64) : State :=
  let rings := s.pcieRings (· == n)
  if n = 0 ∨ s.wharf.vfs < n then s
  else match rings[(off - 0x10000) / 64]? with
    | some r =>
      if off < 0x10000 then s
      else if s.serving = false then s.logAccess off 0
      else s.writeRing r (off % 64) v mask
    | none => s

/-- REGISTER_WRITE (R4, R6, R22, R24): an invisible block discards and logs it, a block the path may only read discards it; unassigned
offsets ignore it (R5); the towpath writes only the mode request. Log 30, DEDUCED. -/
def execRegisterWrite (path : Path) (addr size : Nat) (v : W64) (s : State) : Host.Outcome State Fault Refusal :=
  let base := addr - addr % 8
  let v' := accessValue addr size v
  let mask := accessMask addr size
  .next <|
    if s.answers path = false then s
    else if aligned addr size = false then s.logOn path addr 5
    else match path with
      | .vf n => s.vfWrite n base v' mask
      | .smbus | .spi => if base = 0xD0000 then s.writePwr path 0 v' mask else s
      | _ => match regBlock base with
        | some b =>
          match s.vis path b with
          | .full => s.writeReg path base v' mask
          | .read => s
          | .hidden => s.logOn path addr 0
        | none => s

/-- MISALIGNED_REGISTER_ACCESS (R4): discarded, or read as zero, and logged. Log 30, DEDUCED. -/
def execMisalignedRegisterAccess (path : Path) (write : Bool) (addr size : Nat) (s : State) : Host.Outcome State Fault Refusal :=
  .next <|
    if s.answers path = false ∨ aligned addr size = true then s
    else
      let s := s.logOn path addr 5
      if write then s else s.emit (.regData path addr 0)

/-- The number of an access path for the GLB_TIME latch (R16): the PF, the towpath targets, the debug port, the VFs. -/
def pathNumber : Path → Nat
  | .pf => 0
  | .smbus => 1
  | .spi => 2
  | .debug => 3
  | .vf n => 3 + n

/-- GLB_TIME_LOW_READ (R16): bits 31:0 are returned, and bits 63:32 are latched for the path. -/
def execGlbTimeLowRead (path : Path) (s : State) : Host.Outcome State Fault Refusal :=
  .next <|
    if s.answers path = false then s
    else if s.reads path 0 then
      { s with clock := { s.clock with latched := Tbl.put (pathNumber path) (BitVec.ofNat 32 (s.now / 2 ^ 32)) s.clock.latched } }.emit
        (.regData path 0x10 (BitVec.ofNat 64 (s.now % 2 ^ 32)))
    else s.emit (.regData path 0x10 0)

/-! ### The towpath (R400) -/

/-- The read in progress on a towpath target. -/
def Wharf.towRead (w : Wharf) (path : Path) : Option TowRead := if path = .smbus then w.smbRead else w.spiRead

/-- Set the read in progress on a towpath target. -/
def State.setTow (s : State) (path : Path) (r : Option TowRead) : State :=
  if path = .smbus then { s with wharf := { s.wharf with smbRead := r } } else { s with wharf := { s.wharf with spiRead := r } }

/-- A path is a towpath target. -/
def isTowpath (path : Path) : Bool := path == .smbus || path == .spi

/-- The limit of a read accepted now: 20 ms over SMBus, 2,000 ticks over SPI. -/
def State.towLimit (s : State) (path : Path) : Nat := s.now + (if path = .smbus then 2000000 else 2000)

/-- The data of a towpath register read: 64 bits, so an offset that is not a multiple of 8 reads zero and is logged (R4); a block that the
towpath does not read is zero (R24). -/
def State.towData (s : State) (path : Path) (addr : Nat) : W64 × State :=
  if addr % 8 ≠ 0 then (0, s.logOn path addr 5)
  else match regBlock addr with
    | some b => if s.reads path b then s.readReg path addr else (0, s)
    | none => (0, s)

/-- TOWPATH_READ (R400): the read is accepted, and its data is returned when it is recorded (`ready`) by its limit tick. Log 30, DEDUCED. -/
def execTowpathRead (path : Path) (addr : Nat) (ready : Bool) (s : State) : Host.Outcome State Fault Refusal :=
  .next <|
    if s.clock.mainPower = false ∨ isTowpath path = false then s
    else
      let r := (s.wharf.towRead path).getD ⟨addr % 2 ^ 24, s.towLimit path⟩
      if ready ∧ s.now ≤ r.limit then
        let d := s.towData path r.addr
        (d.2.setTow path none).emit (.regData path r.addr d.1)
      else s.setTow path (some r)

/-- TOWPATH_READ_TIMEOUT (R400): past the limit tick the read ends with a count of 0 or ready byte 0xA5, and is counted. -/
def execTowpathReadTimeout (path : Path) (s : State) : Host.Outcome State Fault Refusal :=
  .next <|
    match s.wharf.towRead path with
    | none => s
    | some r =>
      if isTowpath path = false ∨ s.now ≤ r.limit then s
      else
        let s := s.setTow path none
        let w := s.wharf
        let s := if path = .smbus then { s with wharf := { w with smbTimeouts := satAdd 32 w.smbTimeouts 1 } }
          else { s with wharf := { w with spiTimeouts := satAdd 32 w.spiTimeouts 1 } }
        s.emit (.towTimeout path)

/-- TOWPATH_WRITE (R4, R24, R400): accepted only for PWR_MODE_REQ; 64 bits at an offset that is no multiple of 8 are discarded and logged.
Log 30, DEDUCED. -/
def execTowpathWrite (path : Path) (addr : Nat) (v : W64) (s : State) : Host.Outcome State Fault Refusal :=
  .next <|
    if isTowpath path = false then s
    else if addr % 8 ≠ 0 then s.logOn path addr 5
    else if s.clock.mainPower = false ∨ addr ≠ 0xD0000 then s
    else s.writeMode path (wbits 2 0 v)

/-! ### The debug port (R332 to R334) -/

/-- What a debug port or gate lets out of a word: all of it where debug is OPEN; in PRODUCTION PUBLIC words only, others leave as zero and
are counted (R308, R332). -/
def State.debugWord (s : State) (addr : Nat) (w : TWord) : W64 × State :=
  let x := w.delivered
  if s.lcs ≠ .production then (x.data, s)
  else if x.cls = .pub ∧ x.p = false then (x.data, s)
  else (0, s.egressZero 119 [addr])

/-- A debug read of the DRAM window through the SLU. -/
def State.debugDram (s : State) (addr kd off : Nat) : W64 × State :=
  let line := off - off % 64
  if s.sluTakes (sluHalf line) = false then (0, s)
  else
    let t := s.readLine 119 0 kd line .asStored
    t.debugWord addr (((Tbl.find 119 t.slu.returned).getD [])[off % 64 / 8]?.getD notValid)

/-- A debug read past its gate, by target (R332, R305, R306): what user flash holds word by word is not given (log 20); host memory is no
target. `ecc`: a word of on-chip SRAM read is uncorrectable. -/
def State.debugRead (s : State) (addr : Nat) (ecc : Bool) : W64 × State :=
  match targetOf addr with
  | some .bootRom => (BitVec.ofNat 64 (le addr 8 Config.bootRom), s)
  | some .clusterSram | some .scratch => (s.countHeld [s.wordAt addr]).debugWord addr (eccRead ecc (unheld (s.wordAt addr)))
  | some .registers =>
    let a := addr - 0x10000000
    if a % 8 ≠ 0 then (0, s.logOn .debug a 5) else s.readReg .debug a
  | some .flash => (Config.freeWord s.free, { s with free := s.free + 1 })
  | some (.dram kd off) => s.debugDram addr kd off
  | _ => (0, s)

/-- A debug write past its gate: of a register only (R334). -/
def State.debugWrite (s : State) (addr : Nat) (v : W64) : State :=
  let a := addr - 0x10000000
  if targetOf addr ≠ some .registers then s
  else if a % 8 ≠ 0 then s.logOn .debug a 5
  else s.writeReg .debug a v (BitVec.allOnes 64)

/-- An access that the debug port serves: a read returns its data. -/
def State.debugDo (s : State) (write : Bool) (addr : Nat) (v : W64) (ecc : Bool) : State :=
  if write then s.debugWrite addr v
  else (s.debugRead addr ecc).2.emit (.debugData addr (s.debugRead addr ecc).1)

/-- An address in the LCY registers, which the LCY access port reaches (R333). -/
def lcyAddress (addr : Nat) : Bool := decide (0x100B0000 ≤ addr) && decide (addr < 0x100C0000)

/-- In PRODUCTION an unlock's scope admits an access (R334): reads under READ; under REGWRITE writes of registers that the host may write in
the current mode, in DRYDOCK. An access that an unlock does not admit is treated as one without an unlock. Log 70, DESIGN CHOICE. -/
def State.unlockAdmits (s : State) (write : Bool) (addr : Nat) : Bool :=
  match s.lcy.unlocked with
  | none => false
  | some scope =>
    if write then scope.getLsbD 1 && decide (s.glb.mode = .drydock) && targetOf addr == some .registers
      && (match regBlock (addr - 0x10000000) with
        | some b => decide (pfVis s.glb.mode b = .full)
        | none => true)
    else scope.getLsbD 0

/-- DEBUG_ACCESS (R332 to R334, R308): the LCY registers are served in every mode with main power; in PRODUCTION an access no unlock admits
returns zero and raises DEBUG_ATTEMPT, and an admitted one passes gate 119; in the other states debug is OPEN. -/
def execDebugAccess (write : Bool) (addr : Nat) (v : W64) (ecc : Bool) (s : State) : Host.Outcome State Fault Refusal :=
  .next <|
    if s.clock.mainPower = false then s
    else if lcyAddress addr = true ∨ s.lcs ≠ .production then s.debugDo write addr v ecc
    else
      let zero (s : State) : State := if write then s else s.emit (.debugData addr 0)
      if s.unlockAdmits write addr = false then zero (s.alarmEvent 23)
      else
        let k : Access := if write then .write else .read
        match s.gateCheck 119 k addr 8 (if write then [word v .pub] else []) with
        | some bad => zero (s.refuse 119 k bad)
        | none => s.debugDo write addr v ecc

end Sys2Proof.Machine
end

