-- ==== Sys2Proof/Machine/Dispatch.lean ====
section
/-! DEFINITION. One arm per command: a direct call of its meaning. -/

namespace Sys2Proof.Machine

def exec (i : Instr) (s : State) : Host.Outcome State Fault Refusal :=
  match i with
  | .registerWrite path addr size v => Sys2Proof.Machine.execRegisterWrite path addr size v s
  | .misalignedRegisterAccess path write addr size => Sys2Proof.Machine.execMisalignedRegisterAccess path write addr size s
  | .glbTimeLowRead path => Sys2Proof.Machine.execGlbTimeLowRead path s
  | .doorbellSqTail ring tail head => Sys2Proof.Machine.execDoorbellSqTail ring tail head s
  | .doorbellCqHead ring head tail => Sys2Proof.Machine.execDoorbellCqHead ring head tail s
  | .slotFetch ring => Sys2Proof.Machine.execSlotFetch ring s
  | .slotReadDone ring r => Sys2Proof.Machine.execSlotReadDone ring r s
  | .admitBarge => Sys2Proof.Machine.execAdmitBarge s
  | .dispatch core => Sys2Proof.Machine.execDispatch core s
  | .basinRefill r => Sys2Proof.Machine.execBasinRefill r s
  | .deadlineExpire barge => Sys2Proof.Machine.execDeadlineExpire barge s
  | .pageTimeoutExpire barge => Sys2Proof.Machine.execPageTimeoutExpire barge s
  | .bargeFinish core => Sys2Proof.Machine.execBargeFinish core s
  | .completionWrite ring ok => Sys2Proof.Machine.execCompletionWrite ring ok s
  | .coalTimerExpire ring => Sys2Proof.Machine.execCoalTimerExpire ring s
  | .pendingMsixSend fn vec => Sys2Proof.Machine.execPendingMsixSend fn vec s
  | .ringOpen ring v => Sys2Proof.Machine.execRingOpen ring v s
  | .ringClose ring v => Sys2Proof.Machine.execRingClose ring v s
  | .ringDrained ring => Sys2Proof.Machine.execRingDrained ring s
  | .abortAll ring => Sys2Proof.Machine.execAbortAll ring s
  | .abortSeq ring seq => Sys2Proof.Machine.execAbortSeq ring seq s
  | .telWindowRoll => Sys2Proof.Machine.execTelWindowRoll s
  | .pinTranslate core hw => Sys2Proof.Machine.execPinTranslate core hw s
  | .pinVerify3624 core hw => Sys2Proof.Machine.execPinVerify3624 core hw s
  | .pinVerifyPvv core hw => Sys2Proof.Machine.execPinVerifyPvv core hw s
  | .offsetGenerate core hw => Sys2Proof.Machine.execOffsetGenerate core hw s
  | .pvvGenerate core hw => Sys2Proof.Machine.execPvvGenerate core hw s
  | .pinChange3624 core hw => Sys2Proof.Machine.execPinChange3624 core hw s
  | .pinChangePvv core hw => Sys2Proof.Machine.execPinChangePvv core hw s
  | .pinGenerate core hw => Sys2Proof.Machine.execPinGenerate core hw s
  | .pinMailer core hw => Sys2Proof.Machine.execPinMailer core hw s
  | .cvvGenerate core hw => Sys2Proof.Machine.execCvvGenerate core hw s
  | .cvvVerify core hw => Sys2Proof.Machine.execCvvVerify core hw s
  | .cvc3Verify core hw => Sys2Proof.Machine.execCvc3Verify core hw s
  | .dukptInitialKeyExport core hw => Sys2Proof.Machine.execDukptInitialKeyExport core hw s
  | .dukptPinTranslate core hw => Sys2Proof.Machine.execDukptPinTranslate core hw s
  | .dukptMacVerify core hw => Sys2Proof.Machine.execDukptMacVerify core hw s
  | .arqcVerify core hw => Sys2Proof.Machine.execArqcVerify core hw s
  | .arqcVerifyArpc core hw => Sys2Proof.Machine.execArqcVerifyArpc core hw s
  | .scriptMac core hw => Sys2Proof.Machine.execScriptMac core hw s
  | .scriptEncrypt core hw => Sys2Proof.Machine.execScriptEncrypt core hw s
  | .macGenerate core hw => Sys2Proof.Machine.execMacGenerate core hw s
  | .macVerify core hw => Sys2Proof.Machine.execMacVerify core hw s
  | .encrypt core hw => Sys2Proof.Machine.execEncrypt core hw s
  | .decrypt core hw => Sys2Proof.Machine.execDecrypt core hw s
  | .randomBytes core hw => Sys2Proof.Machine.execRandomBytes core hw s
  | .hash core hw => Sys2Proof.Machine.execHash core hw s
  | .keyGenerate core hw => Sys2Proof.Machine.execKeyGenerate core hw s
  | .keyImport core hw => Sys2Proof.Machine.execKeyImport core hw s
  | .keyExport core hw => Sys2Proof.Machine.execKeyExport core hw s
  | .keyTranslate core hw => Sys2Proof.Machine.execKeyTranslate core hw s
  | .keyCheckValue core hw => Sys2Proof.Machine.execKeyCheckValue core hw s
  | .componentOpen core hw => Sys2Proof.Machine.execComponentOpen core hw s
  | .componentAdd core hw => Sys2Proof.Machine.execComponentAdd core hw s
  | .componentClose core hw => Sys2Proof.Machine.execComponentClose core hw s
  | .componentSessionExpire session => Sys2Proof.Machine.execComponentSessionExpire session s
  | .keyDelete core hw => Sys2Proof.Machine.execKeyDelete core hw s
  | .tr34Import core hw => Sys2Proof.Machine.execTr34Import core hw s
  | .tr34Export core hw => Sys2Proof.Machine.execTr34Export core hw s
  | .permitLodge core hw => Sys2Proof.Machine.execPermitLodge core hw s
  | .permitWithdraw core hw => Sys2Proof.Machine.execPermitWithdraw core hw s
  | .tenantCreate core hw => Sys2Proof.Machine.execTenantCreate core hw s
  | .tenantPolicy core hw => Sys2Proof.Machine.execTenantPolicy core hw s
  | .tenantDelete core hw => Sys2Proof.Machine.execTenantDelete core hw s
  | .tenantReclaimDone tenant => Sys2Proof.Machine.execTenantReclaimDone tenant s
  | .officerEnrol core hw => Sys2Proof.Machine.execOfficerEnrol core hw s
  | .officerRevoke core hw => Sys2Proof.Machine.execOfficerRevoke core hw s
  | .calendarSet core hw => Sys2Proof.Machine.execCalendarSet core hw s
  | .journalQuery core hw => Sys2Proof.Machine.execJournalQuery core hw s
  | .backupOpen core hw => Sys2Proof.Machine.execBackupOpen core hw s
  | .backupRead core hw => Sys2Proof.Machine.execBackupRead core hw s
  | .backupClose core hw => Sys2Proof.Machine.execBackupClose core hw s
  | .restoreOpen core hw => Sys2Proof.Machine.execRestoreOpen core hw s
  | .restoreShare core hw => Sys2Proof.Machine.execRestoreShare core hw s
  | .restoreWrite core hw => Sys2Proof.Machine.execRestoreWrite core hw s
  | .restoreClose core hw => Sys2Proof.Machine.execRestoreClose core hw s
  | .cargoSessionEnd core hw => Sys2Proof.Machine.execCargoSessionEnd core hw s
  | .cargoFormat core hw => Sys2Proof.Machine.execCargoFormat core hw s
  | .drydockEnter core hw => Sys2Proof.Machine.execDrydockEnter core hw s
  | .drydockDrainDone => Sys2Proof.Machine.execDrydockDrainDone s
  | .drydockExit core hw => Sys2Proof.Machine.execDrydockExit core hw s
  | .functionGrant core hw => Sys2Proof.Machine.execFunctionGrant core hw s
  | .firmwareUpdate core hw flashOk => Sys2Proof.Machine.execFirmwareUpdate core hw flashOk s
  | .versionMigrate core hw bad => Sys2Proof.Machine.execVersionMigrate core hw bad s
  | .rawRngOn core hw => Sys2Proof.Machine.execRawRngOn core hw s
  | .rawRngOff core hw => Sys2Proof.Machine.execRawRngOff core hw s
  | .endOfLife core hw => Sys2Proof.Machine.execEndOfLife core hw s
  | .auditRead core hw => Sys2Proof.Machine.execAuditRead core hw s
  | .auditSeal core hw => Sys2Proof.Machine.execAuditSeal core hw s
  | .auditAck core hw => Sys2Proof.Machine.execAuditAck core hw s
  | .auditStatus core hw => Sys2Proof.Machine.execAuditStatus core hw s
  | .asymKeygen core hw => Sys2Proof.Machine.execAsymKeygen core hw s
  | .pubkeyRead core hw => Sys2Proof.Machine.execPubkeyRead core hw s
  | .sign core hw => Sys2Proof.Machine.execSign core hw s
  | .verify core hw => Sys2Proof.Machine.execVerify core hw s
  | .rsaEncrypt core hw => Sys2Proof.Machine.execRsaEncrypt core hw s
  | .rsaDecrypt core hw => Sys2Proof.Machine.execRsaDecrypt core hw s
  | .agree core hw => Sys2Proof.Machine.execAgree core hw s
  | .pqKeygen core hw => Sys2Proof.Machine.execPqKeygen core hw s
  | .mlkemEncaps core hw => Sys2Proof.Machine.execMlkemEncaps core hw s
  | .mlkemDecaps core hw => Sys2Proof.Machine.execMlkemDecaps core hw s
  | .mldsaSign core hw => Sys2Proof.Machine.execMldsaSign core hw s
  | .mldsaVerify core hw => Sys2Proof.Machine.execMldsaVerify core hw s
  | .attestReport core hw => Sys2Proof.Machine.execAttestReport core hw s
  | .certRead core hw => Sys2Proof.Machine.execCertRead core hw s
  | .clusterHome core hw => Sys2Proof.Machine.execClusterHome core hw s
  | .clusterRelay core hw => Sys2Proof.Machine.execClusterRelay core hw s
  | .laneDiag core mism => Sys2Proof.Machine.execLaneDiag core mism s
  | .hashDiag core => Sys2Proof.Machine.execHashDiag core s
  | .tileDiag core mism => Sys2Proof.Machine.execTileDiag core mism s
  | .pageInReturn handle r => Sys2Proof.Machine.execPageInReturn handle r s
  | .mooringWaitRetry handle => Sys2Proof.Machine.execMooringWaitRetry handle s
  | .cacheFillRetry handle => Sys2Proof.Machine.execCacheFillRetry handle s
  | .mooringEccError m => Sys2Proof.Machine.execMooringEccError m s
  | .mooringMove m bank => Sys2Proof.Machine.execMooringMove m bank s
  | .tugSelfcheckFail tug => Sys2Proof.Machine.execTugSelfcheckFail tug s
  | .tugTransferDone core write r => Sys2Proof.Machine.execTugTransferDone core write r s
  | .leaseCommit core => Sys2Proof.Machine.execLeaseCommit core s
  | .groupWriteStart poisoned => Sys2Proof.Machine.execGroupWriteStart poisoned s
  | .commitTick drive => Sys2Proof.Machine.execCommitTick drive s
  | .volatileCommitDone r => Sys2Proof.Machine.execVolatileCommitDone r s
  | .checkpointStart => Sys2Proof.Machine.execCheckpointStart s
  | .checkpointComplete => Sys2Proof.Machine.execCheckpointComplete s
  | .driveFail drive => Sys2Proof.Machine.execDriveFail drive s
  | .rebuildComplete => Sys2Proof.Machine.execRebuildComplete s
  | .nvmeCommandTimeout drive => Sys2Proof.Machine.execNvmeCommandTimeout drive s
  | .sectorReadDone handle drive lba r => Sys2Proof.Machine.execSectorReadDone handle drive lba r s
  | .pinAdd => Sys2Proof.Machine.execPinAdd s
  | .pinRemove => Sys2Proof.Machine.execPinRemove s
  | .laneOpen core cmd data => Sys2Proof.Machine.execLaneOpen core cmd data s
  | .laneLoad core cmd data => Sys2Proof.Machine.execLaneLoad core cmd data s
  | .kduLoadDone disagree poisoned => Sys2Proof.Machine.execKduLoadDone disagree poisoned s
  | .enc core cmd data mism => Sys2Proof.Machine.execEnc core cmd data mism s
  | .dec core cmd data label mism => Sys2Proof.Machine.execDec core cmd data label mism s
  | .zkey core cmd data mism => Sys2Proof.Machine.execZkey core cmd data mism s
  | .nonce core cmd data => Sys2Proof.Machine.execNonce core cmd data s
  | .kstream core cmd data mism => Sys2Proof.Machine.execKstream core cmd data mism s
  | .kstreamD core cmd data mism => Sys2Proof.Machine.execKstreamD core cmd data mism s
  | .tag core cmd data mism => Sys2Proof.Machine.execTag core cmd data mism s
  | .tagchk core cmd data mism => Sys2Proof.Machine.execTagchk core cmd data mism s
  | .store core cmd data => Sys2Proof.Machine.execStore core cmd data s
  | .free core cmd data => Sys2Proof.Machine.execFree core cmd data s
  | .hold core cmd data => Sys2Proof.Machine.execHold core cmd data s
  | .put core cmd data label => Sys2Proof.Machine.execPut core cmd data label s
  | .loadt core cmd data => Sys2Proof.Machine.execLoadt core cmd data s
  | .laneClose core cmd data => Sys2Proof.Machine.execLaneClose core cmd data s
  | .heldBufferZeroed core => Sys2Proof.Machine.execHeldBufferZeroed core s
  | .mismatchWindowEnd => Sys2Proof.Machine.execMismatchWindowEnd s
  | .laneSelftest lane pass sparePass => Sys2Proof.Machine.execLaneSelftest lane pass sparePass s
  | .laneDrainRetire lane sparePass => Sys2Proof.Machine.execLaneDrainRetire lane sparePass s
  | .init core cmd data => Sys2Proof.Machine.execInit core cmd data s
  | .absorb core cmd data => Sys2Proof.Machine.execAbsorb core cmd data s
  | .hashKey core cmd data => Sys2Proof.Machine.execHashKey core cmd data s
  | .final core cmd data => Sys2Proof.Machine.execFinal core cmd data s
  | .squeeze core cmd data => Sys2Proof.Machine.execSqueeze core cmd data s
  | .cmp core cmd data => Sys2Proof.Machine.execCmp core cmd data s
  | .hashReset core cmd data => Sys2Proof.Machine.execHashReset core cmd data s
  | .hashSelftest engine pass => Sys2Proof.Machine.execHashSelftest engine pass s
  | .cphDiagEnable v => Sys2Proof.Machine.execCphDiagEnable v s
  | .cphDiagCmd v mism => Sys2Proof.Machine.execCphDiagCmd v mism s
  | .hshDiagEnable v => Sys2Proof.Machine.execHshDiagEnable v s
  | .hshDiagCmd v => Sys2Proof.Machine.execHshDiagCmd v s
  | .bgnDiagEnable v => Sys2Proof.Machine.execBgnDiagEnable v s
  | .bgnDiagCmd v mism => Sys2Proof.Machine.execBgnDiagCmd v mism s
  | .mac core cmd data mism => Sys2Proof.Machine.execMac core cmd data mism s
  | .macp core cmd data mism => Sys2Proof.Machine.execMacp core cmd data mism s
  | .rdacc core cmd data mism => Sys2Proof.Machine.execRdacc core cmd data mism s
  | .clr core cmd data => Sys2Proof.Machine.execClr core cmd data s
  | .jopen core cmd data => Sys2Proof.Machine.execJopen core cmd data s
  | .jclose core cmd data => Sys2Proof.Machine.execJclose core cmd data s
  | .keyin core cmd data => Sys2Proof.Machine.execKeyin core cmd data s
  | .wput core cmd data => Sys2Proof.Machine.execWput core cmd data s
  | .wget core cmd data => Sys2Proof.Machine.execWget core cmd data s
  | .jobClearDone tile base => Sys2Proof.Machine.execJobClearDone tile base s
  | .tileSelftest tile pass sparePass => Sys2Proof.Machine.execTileSelftest tile pass sparePass s
  | .settleEnd cluster => Sys2Proof.Machine.execSettleEnd cluster s
  | .startupTestEnd cluster h => Sys2Proof.Machine.execStartupTestEnd cluster h s
  | .collectionEnd cluster h => Sys2Proof.Machine.execCollectionEnd cluster h s
  | .healthTestFail cluster h => Sys2Proof.Machine.execHealthTestFail cluster h s
  | .seedBlockReady cluster => Sys2Proof.Machine.execSeedBlockReady cluster s
  | .drbgSeeded drbg => Sys2Proof.Machine.execDrbgSeeded drbg s
  | .drbgDue drbg => Sys2Proof.Machine.execDrbgDue drbg s
  | .drbgBlocked drbg => Sys2Proof.Machine.execDrbgBlocked drbg s
  | .drbgRequest core n => Sys2Proof.Machine.execDrbgRequest core n s
  | .rngStartupComplete => Sys2Proof.Machine.execRngStartupComplete s
  | .rawSourceSelect v => Sys2Proof.Machine.execRawSourceSelect v s
  | .rawDataRead path => Sys2Proof.Machine.execRawDataRead path s
  | .lineRead master core addr r => Sys2Proof.Machine.execLineRead master core addr r s
  | .fullLineWrite master core addr words r => Sys2Proof.Machine.execFullLineWrite master core addr words r s
  | .partialWrite master core addr words r => Sys2Proof.Machine.execPartialWrite master core addr words r s
  | .patrolScrub channel words r => Sys2Proof.Machine.execPatrolScrub channel words r s
  | .linkFrameReceive link f acked => Sys2Proof.Machine.execLinkFrameReceive link f acked s
  | .nakReceived link lseq => Sys2Proof.Machine.execNakReceived link lseq s
  | .declass core fetch src dst n cls ecc => Sys2Proof.Machine.execDeclass core fetch src dst n cls ecc s
  | .gateBarrier gate => Sys2Proof.Machine.execGateBarrier gate s
  | .gateBarrierDone gate => Sys2Proof.Machine.execGateBarrierDone gate s
  | .yuhildRequest scope => Sys2Proof.Machine.execYuhildRequest scope s
  | .yuhildSubmit => Sys2Proof.Machine.execYuhildSubmit s
  | .yuhildVerifyDone => Sys2Proof.Machine.execYuhildVerifyDone s
  | .debugAccess write addr v ecc => Sys2Proof.Machine.execDebugAccess write addr v ecc s
  | .alarmSample samples => Sys2Proof.Machine.execAlarmSample samples s
  | .latchHoldExpire source => Sys2Proof.Machine.execLatchHoldExpire source s
  | .latchClearWrite v => Sys2Proof.Machine.execLatchClearWrite v s
  | .cellSample samples => Sys2Proof.Machine.execCellSample samples s
  | .mainPowerLost vbatOk => Sys2Proof.Machine.execMainPowerLost vbatOk s
  | .mainPowerReturn => Sys2Proof.Machine.execMainPowerReturn s
  | .sentryPowerLost => Sys2Proof.Machine.execSentryPowerLost s
  | .resetNLow cycles pwrgoodLow vbatOk => Sys2Proof.Machine.execResetNLow cycles pwrgoodLow vbatOk s
  | .launch env => Sys2Proof.Machine.execLaunch env s
  | .dramTrainingDone ok => Sys2Proof.Machine.execDramTrainingDone ok s
  | .dormantRequest path => Sys2Proof.Machine.execDormantRequest path s
  | .dormantDrainDone => Sys2Proof.Machine.execDormantDrainDone s
  | .drainTimeout => Sys2Proof.Machine.execDrainTimeout s
  | .resumeRequest path => Sys2Proof.Machine.execResumeRequest path s
  | .resumeComplete images trained lanes tiles engines => Sys2Proof.Machine.execResumeComplete images trained lanes tiles engines s
  | .haltRequest path => Sys2Proof.Machine.execHaltRequest path s
  | .haltFlushDone failed => Sys2Proof.Machine.execHaltFlushDone failed s
  | .resetRequest path => Sys2Proof.Machine.execResetRequest path s
  | .fnStop => Sys2Proof.Machine.execFnStop s
  | .fnChange => Sys2Proof.Machine.execFnChange s
  | .fnRestart => Sys2Proof.Machine.execFnRestart s
  | .domainIdleGate domain => Sys2Proof.Machine.execDomainIdleGate domain s
  | .domainWake domain => Sys2Proof.Machine.execDomainWake domain s
  | .domainWakeDone domain pass => Sys2Proof.Machine.execDomainWakeDone domain pass s
  | .domainPowerFail domain => Sys2Proof.Machine.execDomainPowerFail domain s
  | .avsUpdate => Sys2Proof.Machine.execAvsUpdate s
  | .supplyReading mv ma10 => Sys2Proof.Machine.execSupplyReading mv ma10 s
  | .droopDetect => Sys2Proof.Machine.execDroopDetect s
  | .stretchEnd => Sys2Proof.Machine.execStretchEnd s
  | .thermalSample temps => Sys2Proof.Machine.execThermalSample temps s
  | .powerCapStep => Sys2Proof.Machine.execPowerCapStep s
  | .functionLevelReset fn => Sys2Proof.Machine.execFunctionLevelReset fn s
  | .hotReset => Sys2Proof.Machine.execHotReset s
  | .vfEnableClear => Sys2Proof.Machine.execVfEnableClear s
  | .pcieLinkDown => Sys2Proof.Machine.execPcieLinkDown s
  | .pcieLinkUp gen width vfs bme masked => Sys2Proof.Machine.execPcieLinkUp gen width vfs bme masked s
  | .tcpConnect port => Sys2Proof.Machine.execTcpConnect port s
  | .controlPacket port => Sys2Proof.Machine.execControlPacket port s
  | .tlsClientHello session hello => Sys2Proof.Machine.execTlsClientHello session hello s
  | .handshakeTimeout session => Sys2Proof.Machine.execHandshakeTimeout session s
  | .tlsSessionClose session => Sys2Proof.Machine.execTlsSessionClose session s
  | .bind session ring cqLog => Sys2Proof.Machine.execBind session ring cqLog s
  | .unbind session ring close => Sys2Proof.Machine.execUnbind session ring close s
  | .ltpBarge session ring barge input => Sys2Proof.Machine.execLtpBarge session ring barge input s
  | .ltpV1Barge session ring descriptor params input => Sys2Proof.Machine.execLtpV1Barge session ring descriptor params input s
  | .ltpAck session ring head => Sys2Proof.Machine.execLtpAck session ring head s
  | .ltpAbort session ring arg => Sys2Proof.Machine.execLtpAbort session ring arg s
  | .loopbackStart v => Sys2Proof.Machine.execLoopbackStart v s
  | .loopbackEnd checked errors => Sys2Proof.Machine.execLoopbackEnd checked errors s
  | .partnerLoopback iface => Sys2Proof.Machine.execPartnerLoopback iface s
  | .towpathRead path addr ready => Sys2Proof.Machine.execTowpathRead path addr ready s
  | .towpathReadTimeout path => Sys2Proof.Machine.execTowpathReadTimeout path s
  | .towpathWrite path addr v => Sys2Proof.Machine.execTowpathWrite path addr v s
  | .gpioInputChange pin level => Sys2Proof.Machine.execGpioInputChange pin level s
  | .linkUpAttempt link trained peer => Sys2Proof.Machine.execLinkUpAttempt link trained peer s
  | .linkUpRetry link => Sys2Proof.Machine.execLinkUpRetry link s
  | .heartbeatSend => Sys2Proof.Machine.execHeartbeatSend s
  | .heartbeatTimeout link => Sys2Proof.Machine.execHeartbeatTimeout link s
  | .pairKeyAgree dev peer => Sys2Proof.Machine.execPairKeyAgree dev peer s
  | .mapSwitch => Sys2Proof.Machine.execMapSwitch s
  | .haltNoticeReceive dev withdraw => Sys2Proof.Machine.execHaltNoticeReceive dev withdraw s
  | .forwardBarge barge r => Sys2Proof.Machine.execForwardBarge barge r s
  | .forwardedBargeReceive link fb => Sys2Proof.Machine.execForwardedBargeReceive link fb s
  | .forwardedCompletionReceive home ring seq comp output => Sys2Proof.Machine.execForwardedCompletionReceive home ring seq comp output s
  | .abortFrameReceive head ring arg => Sys2Proof.Machine.execAbortFrameReceive head ring arg s
  | .replicationReceive dev sealed => Sys2Proof.Machine.execReplicationReceive dev sealed s
  | .replicationAckReceive dev commit => Sys2Proof.Machine.execReplicationAckReceive dev commit s
  | .clusterJoin => Sys2Proof.Machine.execClusterJoin s
  | .resyncComplete bucket => Sys2Proof.Machine.execResyncComplete bucket s
  | .timeSyncSend => Sys2Proof.Machine.execTimeSyncSend s
  | .timeSyncReceive link masterTime delay => Sys2Proof.Machine.execTimeSyncReceive link masterTime delay s
  | .logRecordEnter => Sys2Proof.Machine.execLogRecordEnter s
  | .archiveCopy r => Sys2Proof.Machine.execArchiveCopy r s
  | .rateWindowRefill => Sys2Proof.Machine.execRateWindowRefill s
  | .logCursorSeek v => Sys2Proof.Machine.execLogCursorSeek v s
  | .logNextRead path => Sys2Proof.Machine.execLogNextRead path s
  | .tcpKeepalive session => Sys2Proof.Machine.execTcpKeepalive session s
  | .clientFinished session chain flight => Sys2Proof.Machine.execClientFinished session chain flight s
  | .tlsKeyUpdate session => Sys2Proof.Machine.execTlsKeyUpdate session s
  | .ltpMalformedMessage session => Sys2Proof.Machine.execLtpMalformedMessage session s
  | .rawBufferFeed v => Sys2Proof.Machine.execRawBufferFeed v s

end Sys2Proof.Machine
end

