-- ==== Sys2Proof/Machine/Tick.lean ====
section
/-! DEFINITION. What the block does when no command waits: time passes (R16, R419, R338, R349; notes/assumptions/2.md and
notes/assumptions/9.md), and a challenge that waits for random data is issued (R263), and a unit's command that waited begins. -/

namespace Sys2Proof.Machine

/-- What device time adds in one CLK_TIME cycle (R16, R419): 1, nothing while a joining device is held, or what a correction gives.
Log 9, DESIGN CHOICE. -/
def Clock.adds (c : Clock) : Nat := if c.hold = 0 then c.correct.getD 1 else 0

/-- What one sentry tick takes of the phase, of which a device tick gives 4,096: the ratio of 32.768 kHz to 100 MHz, with CLK_TIME slower
by half the down-spread of `spread` hundredths of a percent (R14, R15). Log 9. -/
def sentrySpan (spread : Nat) : Nat := 12500000 - 625 * spread

/-- One CLK_TIME cycle with main power, under a down-spread (R15): the sentry crystal is not spread. Log 2, DESIGN CHOICE. Log 9. -/
def Clock.tick (spread : Nat) (c : Clock) : Clock :=
  let phase := c.phase + 4096
  { c with
    dtime := c.dtime + c.adds
    correct := if c.hold = 0 then none else c.correct
    hold := c.hold - 1
    phase := if sentrySpan spread ≤ phase then phase - sentrySpan spread else phase
    stime := if sentrySpan spread ≤ phase then c.stime + 1 else c.stime }

/-- What the block's units do in a tick: gate 112 reports the messages that it refused (R299), a link direction that has reached 2^48 frames
goes down (R292), a challenge that waits for random data is issued (R263), and a command that waits for a unit which another barge has left
begins (R202, R222, R228). -/
def State.unitsTick (s : State) : State := s.reportMsix.wornLinks.retryChallenge.runUnits

/-- Time passes: one device tick with main power, one sentry tick on the cell, nothing with neither (R16, R338, R349).
Log 2, DESIGN CHOICE. -/
def State.tick (s : State) : State :=
  if s.clock.mainPower then { s with clock := s.clock.tick s.cfg.spread }.unitsTick
  else if s.len.powered then { s with clock := { s.clock with stime := s.clock.stime + 1 } }
  else s

end Sys2Proof.Machine
end

