-- ==== Sys2Proof/Safety.lean ====
section
/-! DEFINITION. What a safe run is and the terms claims use: a command completes, the parts of the state a command may change, and the
invariants that every step keeps. -/

namespace Sys2Proof.Machine

/-- The parts of the state, one for each field of `State`. -/
inductive Part where
  | clock
  | glb
  | rings
  | lkm
  | cores
  | mor
  | adm
  | cph
  | hsh
  | bgn
  | rng
  | slu
  | sram
  | gte
  | root
  | lcy
  | len
  | pwr
  | kwm
  | wharf
  | brv
  | log
  | cfg
  | out
  | free
  | pending
  deriving DecidableEq, Repr

/-- Two states agree on a part. -/
def Part.same : Part → State → State → Prop
  | .clock, s, t => t.clock = s.clock
  | .glb, s, t => t.glb = s.glb
  | .rings, s, t => t.rings = s.rings
  | .lkm, s, t => t.lkm = s.lkm
  | .cores, s, t => t.cores = s.cores
  | .mor, s, t => t.mor = s.mor
  | .adm, s, t => t.adm = s.adm
  | .cph, s, t => t.cph = s.cph
  | .hsh, s, t => t.hsh = s.hsh
  | .bgn, s, t => t.bgn = s.bgn
  | .rng, s, t => t.rng = s.rng
  | .slu, s, t => t.slu = s.slu
  | .sram, s, t => t.sram = s.sram
  | .gte, s, t => t.gte = s.gte
  | .root, s, t => t.root = s.root
  | .lcy, s, t => t.lcy = s.lcy
  | .len, s, t => t.len = s.len
  | .pwr, s, t => t.pwr = s.pwr
  | .kwm, s, t => t.kwm = s.kwm
  | .wharf, s, t => t.wharf = s.wharf
  | .brv, s, t => t.brv = s.brv
  | .log, s, t => t.log = s.log
  | .cfg, s, t => t.cfg = s.cfg
  | .out, s, t => t.out = s.out
  | .free, s, t => t.free = s.free
  | .pending, s, t => t.pending = s.pending

/-- Every part but those listed is unchanged: the frame of a command. -/
def Only (parts : List Part) (s t : State) : Prop := ∀ p, p ∉ parts → p.same s t

/-- The parts that an alarm raised by a unit can change (R341 to R347). -/
def raiseParts : List Part := [.len, .mor, .lcy, .pwr, .glb, .out, .wharf, .log, .rng]

/-- A command completes on a state, in a next state of which `after` holds. -/
def Completes (i : Instr) (s : State) (after : State → Prop) : Prop := ∃ t, exec i s = .next t ∧ after t

/-- A step ends in a fault or a refusal: what a safe run never meets. -/
def Stops (s : State) : Prop := (∀ t, step s ≠ .next t)

/-- The on-chip SRAM has its canonical form: words strictly rising, and none listed that reads as an unlisted word does (R26, R28). -/
def MemoryInv (s : State) : Prop := Memory.wf s.sram = true

/-! ### Units that a core commands -/

/-- Core `k` holds the lane context `c`, its barge is not aborted, and nothing waits there: its next command runs (R202, R208). -/
def LaneOpen (s : State) (k : Nat) (c : LaneCtx) : Prop :=
  (s.coreAt k).lane = some c ∧ (s.coreAt k).aborted = none ∧ (s.coreAt k).laneIn = [] ∧ c.waiting = false ∧ c.holdWaits = false ∧
    c.nonceWaits = none ∧ c.closing = false

/-- As `LaneOpen`, for a context that is no diagnostic one. -/
def LaneReady (s : State) (k : Nat) (c : LaneCtx) : Prop := LaneOpen s k c ∧ c.diag = false

/-- Crew core `k` has no lane context and waits for none, and its barge is not aborted (R202). -/
def LaneFree (s : State) (k : Nat) : Prop :=
  k ≠ 96 ∧ (s.coreAt k).lane = none ∧ (s.coreAt k).aborted = none ∧ (s.coreAt k).laneIn = [] ∧ ∀ w ∈ s.cph.waiting, w.1 ≠ k

/-- Core `k`'s barge is not aborted, and no command waits for its hash engine (R223). -/
def HashIdle (s : State) (k : Nat) : Prop := (s.coreAt k).aborted = none ∧ (s.coreAt k).hashIn = []

/-- Core `k` holds hash engine `e`, which is `g`, runs algorithm `alg`, is no diagnostic one and waits for no key (R223). -/
def HashReady (s : State) (k e : Nat) (g : Eng) (alg : Nat) (hmac : Bool) : Prop :=
  HashIdle s k ∧ (s.coreAt k).eng = some e ∧ s.engAt e = g ∧ g.waiting = false ∧ g.closing = false ∧ g.st ≠ .diag ∧ g.alg = some (alg, hmac)

/-- Core `k` holds the tile job `j`, no diagnostic one, its barge is not aborted, and nothing waits there (R228, R230). -/
def TileReady (s : State) (k : Nat) (j : Job) : Prop :=
  (s.coreAt k).tile = some j ∧ (s.coreAt k).aborted = none ∧ (s.coreAt k).tileIn = [] ∧ j.diag = false ∧ j.waiting = false ∧
    j.closing = false

/-- Crew core `k` has no tile job and waits for none, and its barge is not aborted (R228). -/
def TileFree (s : State) (k : Nat) : Prop :=
  k ≠ 96 ∧ (s.coreAt k).tile = none ∧ (s.coreAt k).aborted = none ∧ (s.coreAt k).tileIn = [] ∧ ∀ w ∈ s.bgn.waiting, w.1 ≠ k

/-- No core has a unit command that waits behind another (R208, R223, R230). -/
def UnitsIdle (s : State) : Prop := ∀ p ∈ s.cores, p.2.laneIn = [] ∧ p.2.hashIn = [] ∧ p.2.tileIn = []

/-- The words of a command's data arrive sound: their check codes hold, and they are valid and not poisoned (R27, R28). -/
def Sound (ws : List TWord) : Prop := ∀ w ∈ ws, w.v = true ∧ w.p = false ∧ w.chk = chkOf w.data

/-! ### Services -/

/-- Core `k` holds the barge of run `r`, of opcode `op`, whose units fail as `r.hw` says; it runs on this device, and no mooring waits for its
commit (R60, R411). -/
def Runs (s : State) (k op : Nat) (r : Run) : Prop :=
  s.runOf k op r.hw = some r ∧ (r.e.origin.isSome = true ∨ s.runsAt r.tenant r.b (some r.input) = .here) ∧ (s.coreAt k).stored = []

/-- The barge's permit, if its action takes one, holds: it is `p`, no barge admitted earlier can still claim it in this tick, and `s1` is the
state with it used (R163). -/
def Permitted (s : State) (r : Run) (action : Nat) (device : Bool) (p : Option Permit) (s1 : State) : Prop :=
  firstFail (r.reads (s.keySteps r)) = none ∧ s.usePermit r action device = ((none, p), s1) ∧ s1.unsure r = false

/-- Command `i` ends in `t` where every check passes and no word that a step reads is poisoned; else the service of run `r` leaves the status
of the first step that fails, no output and no other change to `s0` (R82). -/
def Ends (i : Instr) (s s0 : State) (r : Run) (checks : List (Bool × Nat)) (t : State) : Prop :=
  exec i s = .next (match firstFail (r.reads checks) with
    | some st => s0.leave r (failed st)
    | none => t)

/-- What a service leaves of a draw: with its bytes, `done`; else it waits and has changed nothing, or ends ENTROPY_UNAVAILABLE. -/
def drawn (d : Drawn × State) (s : State) (r : Run) (done : Bytes → State → State) : State :=
  match d.1 with
  | .bytes bs => done bs d.2
  | .wait => s
  | .none_ => d.2.leave r (failed stEntropy)

/-- What a service leaves of random values: with them, `done`; else it waits and has changed nothing, or ends with `st`. -/
def drawnValues (x : (Option (List Nat × Pool) × Bool) × State) (s : State) (r : Run) (st : Nat) (done : List Nat → Pool → State → State) :
    State :=
  match x.1 with
  | (some (vs, p), _) => done vs p x.2
  | (none, true) => s
  | (none, false) => x.2.leave r (failed st)

/-- What a service leaves of a nonce: with it, `done`; else it waits for its lease, or ends with the nonce's status, its keys `hs` loaded. -/
def nonced (x : NonceRes × State) (r : Run) (hs : List Nat) (done : Bytes → State → State) : State :=
  match x.1 with
  | .nonce n => done n x.2
  | .wait => x.2
  | .status st => (x.2.loadKeys hs).leave r (failed st)

/-- What a service leaves of a draw of `n` bytes that it accepts, none drawn for 0. -/
def drawnRandom (s before : State) (r : Run) (n : Nat) (done : Bytes → State → State) (accept : Bytes → Bool := fun _ => true) : State :=
  if n = 0 then done [] s else drawn (s.drawAccepted r n accept 256) before r done

/-- What a service that commits nothing leaves. -/
def ended (x : Res × State) (r : Run) : State :=
  match x.1 with
  | .wait => x.2
  | .ended o _ => x.2.leave r o

end Sys2Proof.Machine
end

