-- ==== Sys2Proof/Certificates/Slice0/Obligations.lean ====
section
/-! DEFINITION. The statements for the provers (OBLIGATIONS.json). Each holds for every state and operand that meets its hypotheses. -/

open Sys2Proof Sys2Proof.Machine

/-! ### The block as a whole -/

/-- For every command c and every state whose queue is c followed by rest, a step answers exactly what exec answers for c on that state with the queue's rest. -/
def Obligations.StepRunsFrontCommand : Prop :=
  ∀ (s : State) (c : Instr) (rest : List Instr), s.pending = c :: rest → step s = exec c { s with pending := rest }

/-- On an empty queue a step answers a next state in which, with main power and no unit's work waiting for the tick (no challenge that waits for random data, no refused MSI-X message to report, no link direction at 2^48 frames, no unit command behind another), device time has advanced by 1, by nothing while a joining device is held, or by what a cluster correction gives, and no part but the clock has changed; on the cell alone sentry time advances by 1; with neither nothing changes. That an empty queue is a tick is the model's choice (log 2). -/
def Obligations.EmptyQueueIsOneTick : Prop :=
  ∀ s : State, s.pending = [] →
    (s.clock.mainPower = true → s.lcy.nextReq = none → s.wharf.msixRefused = [] →
      (∀ p ∈ s.brv.links, p.2.rxCtr < 2 ^ 48 ∧ p.2.txCtr < 2 ^ 48) →
      UnitsIdle s →
      ∃ t, step s = .next t ∧ Only [.clock] s t ∧
        t.clock.dtime = s.clock.dtime + (if s.clock.hold = 0 then s.clock.correct.getD 1 else 0) ∧
        t.clock.stime = s.clock.stime + (if 12500000 - 625 * s.cfg.spread ≤ s.clock.phase + 4096 then 1 else 0)) ∧
    (s.clock.mainPower = false → s.len.powered = true →
      step s = .next { s with clock := { s.clock with stime := s.clock.stime + 1 } }) ∧
    (s.clock.mainPower = false → s.len.powered = false → step s = .next s)

/-- For every command and every state, exec answers a next state and neither faults nor refuses; so no step of any state stops. -/
def Obligations.NoCommandStops : Prop :=
  (∀ (c : Instr) (s : State), ∃ t, exec c s = .next t) ∧ ∀ s : State, ¬ Stops s

/-- From every state, a step leaves the queue as its tail: the command at the front is gone, and those behind it stand in their order, whatever the command did. -/
def Obligations.QueueFirstInFirstOut : Prop :=
  ∀ s t : State, step s = .next t → t.pending = s.pending.tail

/-- From every state whose on-chip SRAM is in canonical form (word numbers strictly rising, no listed word equal to the not-valid word of R28 that an unlisted word reads as), every step that answers a next state leaves it in canonical form. -/
def Obligations.StepKeepsMemoryCanonical : Prop :=
  ∀ s t : State, MemoryInv s → step s = .next t → MemoryInv t

/-- The state right after reset meets the invariant of StepKeepsMemoryCanonical. -/
def Obligations.ResetMemoryCanonical : Prop := MemoryInv State.reset

/-- Right after reset the registers named read the values their Reset columns give: GLB_ID (with GRADE 1, the model's choice, log 18), GLB_TIME 0, GLB_INT_STATUS, GLB_INT_ENABLE and GLB_INT_VECTOR 0, RING_CTL 0, LKM_COUNT_A 0, MOR_OCC with 262,144 moorings free, CPH_STATUS with 64 lanes in service and 4 spare, HSH_STATUS with 32, 16 and 4, BGN_STATUS with 24 tiles in service and 2 spare, RNG_STATUS with 16 healthy clusters, PWR_THROTTLE 8 eighths in each field, PWR_AVS with target 750 mV, BRV_LIVE 0, and LOG_SEQ 0. -/
def Obligations.ResetRegisterValues : Prop :=
  let r := State.reset
  r.regGlb 0x00 = 0x7200B10100000000 ∧ r.regGlb 0x10 = 0 ∧ r.regGlb 0x20 = 0 ∧ r.regGlb 0x28 = 0 ∧ r.regGlb 0x30 = 0 ∧
  (∀ n, r.regRing n 0x30 = 0) ∧ r.regLkm 0x00 = 0 ∧ r.regMor 0x08 = BitVec.ofNat 64 (262144 * 2 ^ 19) ∧
  r.regCph 0x00 = 0x400400 ∧ r.regHsh 0x00 = 0x201004 ∧ r.regBgn 0x00 = 0x180200 ∧ r.regRng 0x00 = 0x100000 ∧
  r.regPwr 0x208 = 0x8888 ∧ r.regPwr 0x210 = 750 ∧ r.regBrv 0x08 = 0 ∧ r.regLog .pf 0x08 = 0

/-- For every barge whose fields have the widths R37 gives them and whose lighter bytes are the 64 bytes of each lighter that FLAGS names, decoding the bytes of its slots gives the barge back, field by field, and its slots are 64 bytes each. -/
def Obligations.BargeBytesRoundTrip : Prop :=
  ∀ b : Barge, b.opcode < 2 ^ 16 → b.flags < 2 ^ 8 → b.format < 2 ^ 8 → b.seq < 2 ^ 32 → b.deadline < 2 ^ 32 → b.permit < 2 ^ 32 →
    b.h0 < 2 ^ 64 → b.h1 < 2 ^ 64 → b.h2 < 2 ^ 64 → b.lights.length = 64 * b.lighters →
    bargeOfBytes (bytesOfBarge b) = b ∧ (bytesOfBarge b).length = 64 * (1 + b.lighters)

/-- For every key label whose fields have the widths R137 gives them (DCLASS in bits 1:0), decoding its 32 bytes gives the label back. -/
def Obligations.LabelBytesRoundTrip : Prop :=
  ∀ l : KLabel, l.usage < 2 ^ 16 → l.alg < 2 ^ 8 → l.mode < 2 ^ 8 → l.exportability < 2 ^ 8 → l.size < 2 ^ 8 → l.dclass < 4 →
    l.handle < 2 ^ 64 → l.notBefore < 2 ^ 32 → l.notAfter < 2 ^ 32 → l.chainIdx < 2 ^ 16 → l.chainLen < 2 ^ 16 →
    labelOfBytes l.bytes = l ∧ l.bytes.length = 32

/-! ### Words, statuses and rings -/

/-- R27: CHK bit i is the complement of the exclusive-OR of the data bits in column i. A word delivered with the right check code is delivered unchanged; if any one data bit of it is flipped, it is delivered with P = 1 and its data as it stands. -/
def Obligations.CheckCodeGuardsData : Prop :=
  ∀ (d : W64) (c : SecClass) (p : Bool),
    (word d c p).delivered = word d c p ∧
    (∀ i < 4, (chkOf d).getLsbD i = !((List.range 16).foldl (fun acc k => xor acc (d.getLsbD (4 * k + i))) false)) ∧
    ∀ j < 64, ({ word d c p with data := d ^^^ (1 <<< j) } : TWord).delivered
      = { word d c p with data := d ^^^ (1 <<< j), p := true }

/-- R47: a completion released after its absolute deadline on a COMPLETE_LATE ring has status DONE_LATE if its status is DONE and keeps every other status; one released in the tick equal to its deadline or earlier keeps its status. -/
def Obligations.DoneLateReplacesOnlyDone : Prop :=
  ∀ status deadline tick : Nat,
    releaseStatus status false deadline tick = (if status = stDone ∧ deadline < tick then stDoneLate else status) ∧
    releaseStatus stDone false deadline deadline = stDone ∧
    (status ≠ stDone → releaseStatus status false deadline tick = status)

/-- R48: on an OPEN PCIe ring in SERVICE or DRYDOCK with ERR 0, a doorbell write offering SQ_TAIL, CQ_HEAD or both (whichever command carries it) accepts each value that its check does not reject, against the counters before the write; a rejected value leaves its counter, puts the ring in FAULTED and sets ERR, the SQ_TAIL code first, then DB_CQ_BACK, then DB_CQ_AHEAD. Nothing else changes. A write to a ring that is not OPEN changes no ring. -/
def Obligations.DoorbellChecksEachValue : Prop :=
  ∀ (s : State) (r : Nat) (tail head : Option W32) (i : Instr),
    ((∃ t, tail = some t ∧ i = .doorbellSqTail r t head) ∨ (∃ h, head = some h ∧ i = .doorbellCqHead r h tail)) →
    let g := s.ringAt r
    let badTail := tail.any fun t => decide (2 ^ g.sqLog < (t - g.sqHead).toNat)
    let back := head.any fun h => decide (2 ^ 31 ≤ (h - g.cqHead).toNat)
    let ahead := head.any fun h => decide ((g.cqTail - g.cqHead).toNat < (h - g.cqHead).toNat)
    (g.st = .opened → (s.ringCfg r).transport = 0 → s.serving = true → g.err = 0 →
      exec i s = .next (s.setRing r { g with
        sqTail := if badTail then g.sqTail else tail.getD g.sqTail
        cqHead := if back || ahead then g.cqHead else head.getD g.cqHead
        st := if badTail || back || ahead then .faulted else .opened
        err := if badTail then 1 else if back then 3 else if ahead then 2 else 0 })) ∧
    (g.st ≠ .opened → Completes i s fun t => Only [.log] s t)

/-- R49: an OPEN PCIe ring in SERVICE or DRYDOCK with slots that SQ_TAIL covers, no read outstanding, Bus Master Enable set, the endpoint not STOPPED and gate 112 allowing the reads, issues the reads of the covered slots of the next barge, at most four. When they return, a barge whose head and lighters they cover is presented at the ring's port, in ring order, and counts as fetched. R49: a PCIe error or a poisoned word on a slot read of an OPEN or STOPPED ring with ERR 0 puts the ring in FAULTED with ERR = SQ_READ (4); the slot counts as not fetched and no other ring changes. -/
def Obligations.SlotsAreFetchedAndPresented : Prop :=
  (∀ (s : State) (r : Nat), let g := s.ringAt r
    g.st = .opened → (s.ringCfg r).transport = 0 → s.serving = true → g.fetching = 0 → 0 < fetchable g →
    s.pwr.stopped.contains 0x28 = false → (∀ a ∈ slotReads g, s.gateCheck 112 .read (hostAddr a) 64 [] = none) →
    s.wharf.bme.contains (s.ringCfg r).func = true →
    exec (.slotFetch r) s = .next
      ((s.setRing r { g with fetching := fetchable g }).emits ((slotReads g).map fun a => .hostRead (s.ringCfg r).func a 64))) ∧
  (∀ (s : State) (r : Nat) (bs : Bytes), let g := s.ringAt r
    let b := bargeOfBytes (fixLen (64 * g.fetching) bs)
    g.st = .opened ∨ g.st = .stopped → g.fetching ≠ 0 → 1 + b.lighters ≤ g.fetching →
    exec (.slotReadDone r (.data bs)) s = .next ((s.slotReturned r).setRing r { g with
      fetching := 0
      fetched := g.fetched + BitVec.ofNat 32 (1 + b.lighters)
      port := g.port ++ [⟨b, none, false⟩] })) ∧
  (∀ (s : State) (r : Nat) (ret : SlotReturn), let g := s.ringAt r
    g.st = .opened ∨ g.st = .stopped → g.fetching ≠ 0 → g.err = 0 → ret = .pcieError ∨ ret = .poisoned →
    Completes (.slotReadDone r ret) s fun t =>
      t.ringAt r = { g with fetching := 0, st := .faulted, err := 4 } ∧ (∀ q, q ≠ r → t.ringAt q = s.ringAt q) ∧
      Only [.rings, .wharf, .gte] s t)

/-- R50: on an OPEN PCIe ring that holds nothing back and whose next released completion is p, outside HALT, with the link up, Bus Master Enable set, the endpoint not STOPPED and gate 112 allowing the write, the 32 bytes of p with the current PHASE leave for the slot at CQ_TAIL; CQ_TAIL and in_flight change together by one and the barge-table entry is freed. COAL_TIME after the first unsignalled completion, the ring's interrupt falls due: its count and timer restart, and the message is sent or, while the function may not send, pended (R53, R384); a pended message is sent once its function may send. A message that gate 112 refuses is not sent and waits to be reported (R294). -/
def Obligations.CompletionsAreWrittenInOrder : Prop :=
  (∀ (s : State) (r : Nat) (p : Pending) (rest : List Pending), let g := s.ringAt r
    (s.ringCfg r).transport = 0 → g.st = .opened → g.holding = false → s.glb.mode ≠ .halt → g.epochComp = none → g.relq = p :: rest →
    s.pwr.stopped.contains 0x28 = false → s.gateCheck 112 .write (hostAddr (compAddr g)) 32 (wordsOf (zeros 32) .pub) = none →
    s.wharf.bme.contains (s.ringCfg r).func = true → s.wharf.pcieUp = true →
    Completes (.completionWrite r true) s fun t =>
      (t.ringAt r).cqTail = g.cqTail + 1 ∧ (t.ringAt r).inFlight = g.inFlight - 1 ∧ (t.ringAt r).relq = rest ∧
      Emit.hostWrite (s.ringCfg r).func (compAddr g) (compBytes p.comp (phaseOf g.cqTail.toNat g.cqLog)) ∈ t.out ∧
      (∀ i, p.idx = some i → t.entryAt i = none) ∧ (∀ q, q ≠ r → t.ringAt q = s.ringAt q) ∧
      Only [.rings, .lkm, .out, .wharf] s t) ∧
  (∀ (s : State) (r from_ : Nat), let g := s.ringAt r
    let fn := (s.ringCfg r).func
    (s.ringCfg r).transport = 0 → g.coalFrom = some from_ → 0 < g.coalTime → from_ + 100 * g.coalTime ≤ s.now →
    Completes (.coalTimerExpire r) s fun t =>
      t.ringAt r = { g with unsig := 0, coalFrom := none } ∧ Only [.rings, .out, .wharf] s t ∧
      (if s.msixReady fn g.msixVec then
        (match s.gateCheck 112 .write (msixAddr fn g.msixVec) 4 [] with
          | none => t.out = s.out ++ [.msix fn g.msixVec]
          | some b => t.out = s.out ∧ t.wharf.msixRefused = s.wharf.msixRefused ++ [b.1])
       else t.out = s.out ∧ t.wharf.msixPending.contains (fn, g.msixVec) = true)) ∧
  (∀ (s : State) (fn vec : Nat), s.wharf.msixPending.contains (fn, vec) = true → s.msixReady fn vec = true →
    exec (.pendingMsixSend fn vec) s = .next (match s.gateCheck 112 .write (msixAddr fn vec) 4 [] with
      | none => { s with
          wharf := { s.wharf with msixPending := s.wharf.msixPending.erase (fn, vec) }
          out := s.out ++ [.msix fn vec] }
      | some b => { s with wharf := { s.wharf with
          msixPending := s.wharf.msixPending.erase (fn, vec)
          msixRefused := s.wharf.msixRefused ++ [b.1] } }))

/-- R51, R52: OPEN on a CLOSED PCIe ring in SERVICE or DRYDOCK that has a RING record, legal sizes, non-zero bases and room for what it holds makes it OPEN with all four counters and ERR 0, the interrupt fields as written, and at its first open in the epoch the epoch-change completion to write. CLOSE on an OPEN, STOPPED or FAULTED ring makes it DRAINING and drops what waits at its port. A DRAINING ring (no function reset pending) with every admitted barge finished becomes CLOSED. No other part of the state changes. -/
def Obligations.RingsOpenAndClose : Prop :=
  (∀ (s : State) (r : Nat) (v : W64), let g := s.ringAt r
    wbit 1 v = false → (s.ringCfg r).transport = 0 → s.serving = true → g.st = .closed → (Tbl.find r s.cfg.rings).isSome = true →
    4 ≤ g.sqLog → g.sqLog ≤ 16 → 4 ≤ g.cqLog → g.cqLog ≤ 17 → g.sqBase ≠ 0 → g.cqBase ≠ 0 → g.held < 2 ^ g.cqLog →
    Completes (.ringOpen r v) s fun t =>
      (t.ringAt r).st = .opened ∧ (t.ringAt r).err = 0 ∧ (t.ringAt r).sqTail = 0 ∧ (t.ringAt r).sqHead = 0 ∧ (t.ringAt r).cqTail = 0 ∧
      (t.ringAt r).cqHead = 0 ∧ (t.ringAt r).fetched = 0 ∧ (t.ringAt r).coalCount = wbits 47 32 v ∧ (t.ringAt r).coalTime = wbits 31 16 v ∧
      (g.openedInEpoch = false → (t.ringAt r).epochComp = some s.epochCompletion ∧ (t.ringAt r).inFlight = 1) ∧
      (∀ q, q ≠ r → t.ringAt q = s.ringAt q) ∧ Only [.rings] s t) ∧
  (∀ (s : State) (r : Nat) (v : W64), let g := s.ringAt r
    wbit 0 v = false → s.serving = true → g.st = .opened ∨ g.st = .stopped ∨ g.st = .faulted →
    Completes (.ringClose r v) s fun t =>
      (t.ringAt r).st = .draining ∧ (t.ringAt r).port = [] ∧ (t.ringAt r).inFlight = g.inFlight ∧ (∀ q, q ≠ r → t.ringAt q = s.ringAt q) ∧
      Only [.rings] s t) ∧
  (∀ (s : State) (r : Nat), let g := s.ringAt r
    g.st = .draining → s.unfinished r = 0 → g.flr = false →
    exec (.ringDrained r) s = .next (s.setRing r { g with st := .closed, store := [] }))

/-- R57: in SERVICE or DRYDOCK, ABORT_ALL applies to every open barge of the ring that the device admitted on it, and ABORT_SEQ to those of them whose SEQ is the one named, in barge-table order. A queued or parked barge completes ABORTED; one dispatched whose commit has not begun is marked, with the tick, to stop at the end of its current command; one whose commit has begun, or whose completion is formed, stands. -/
def Obligations.AbortsByState : Prop :=
  (∀ (s : State) (r seq : Nat), s.serving = true →
    let mine (e : Entry) : Bool := decide (e.ring = r) && e.origin.isNone
    exec (.abortAll r) s = .next
      (((s.lkm.tbl.filter fun x => mine x.2 && x.2.open).map Prod.fst).foldl (fun (t : State) (i : Nat) => t.abortBarge i) s) ∧
    exec (.abortSeq r seq) s = .next
      (((s.lkm.tbl.filter fun x => mine x.2 && decide (x.2.b.seq = seq) && x.2.open).map Prod.fst).foldl
        (fun (t : State) (i : Nat) => t.abortBarge i) s)) ∧
  (∀ (s : State) (i : Nat) (e : Entry), s.entryAt i = some e →
    (∀ p, e.ph = .queued p → s.abortBarge i = s.failBarge i stAborted) ∧
    (∀ n w, e.ph = .parked n w → s.abortBarge i = s.failBarge i stAborted) ∧
    (∀ k, e.ph = .running k → e.committing = false → e.committed = false →
      s.abortBarge i = s.setCore k { s.coreAt k with aborted := (s.coreAt k).aborted.or (some s.now) }) ∧
    (∀ k, e.ph = .running k → e.committing = true ∨ e.committed = true → s.abortBarge i = s) ∧
    (e.ph = .done → s.abortBarge i = s))

/-! ### The Lockmaster -/

/-- R12: where the port next in turn has one ring whose first waiting barge may be admitted, its head checks pass, its tenant is ACTIVE, it names no handle and the device is in no cluster, ADMIT_BARGE takes the barge from the port into the lowest free barge-table entry, queued with its admission tick, order and deadline; in_flight rises by 1, SQ_HEAD by the barge's slots on PCIe, and that port is the last served; nothing else changes but, with all 28,672 general entries taken, what the spill of an entry to the basin's DRAM line changes. R64, R381: a free, powered core in SERVICE or DRYDOCK whose list has an eligible entry takes the first one once the dispatch credit reaches 8 eighths, and its waiting time is counted; below 8 only the credit changes. -/
def Obligations.BargesAreAdmittedAndDispatched : Prop :=
  (∀ (s : State) (p r : Nat) (w : Waiting) (rest : List Waiting), let c := s.ringCfg r
    s.nextPort = some p → p ≤ 2 ∨ p = 7 → s.readyAt p = [r] → (s.ringAt r).port = w :: rest →
    headCheck s.glb.mode c.tenant c.maint (c.transport ≠ 0) w.b = none → (s.tenantAt c.tenant).st = .active →
    w.b.handles = [] → s.cfg.cluster = none →
    Completes .admitBarge s fun t =>
      (∃ q, t.entryAt (firstGap 0 s.lkm.tbl) = some { s.newEntry r w with ph := .queued q }) ∧
      (t.ringAt r).inFlight = (s.ringAt r).inFlight + 1 ∧ (t.ringAt r).port = rest ∧
      (t.ringAt r).sqHead = (s.ringAt r).sqHead + (if c.transport = 0 then BitVec.ofNat 32 (1 + w.b.lighters) else 0) ∧
      t.lkm.nextOrder = s.lkm.nextOrder + 1 ∧ t.lkm.lastPort = p ∧
      Only (if (s.inPlace .general).length < 28672 then [.rings, .lkm] else [.rings, .lkm, .slu, .free] ++ raiseParts) s t) ∧
  (∀ (s : State) (k i : Nat) (e : Entry) (admin : Bool),
    k < 80 ∧ admin = false ∨ 88 ≤ k ∧ admin = true → s.serving = true → s.coreFree k = true → (s.domAt (k / 8)).st = .on →
    s.nextFor admin = some (i, e) →
    (8 ≤ s.pwr.dispatchCredit + s.effectiveEighths → Completes (.dispatch k) s fun t =>
      t.entryAt i = some { e with ph := .running k, chamber := s.takesChamber i e } ∧ (t.coreAt k).job = some i ∧
      (t.coreAt k).input = e.input ∧ (t.coreAt k).res = none ∧
      t.pwr.dispatchCredit = s.pwr.dispatchCredit + s.effectiveEighths - 8 ∧
      (let key := 16 * bitsOf 13 10 e.ring + waitBucket (s.now - e.admitTick)
       tget 0 key t.lkm.hist = tget 0 key s.lkm.hist + 1) ∧
      (∀ j, j ≠ i → t.entryAt j = s.entryAt j) ∧ Only [.cores, .lkm, .pwr] s t) ∧
    (s.pwr.dispatchCredit + s.effectiveEighths < 8 →
      exec (.dispatch k) s = .next { s with pwr := { s.pwr with dispatchCredit := s.pwr.dispatchCredit + s.effectiveEighths } }))

/-- R63, R64: the entry a free core of a list takes is an eligible barge of that list that executes here, and no other such barge has an earlier absolute deadline, or the same deadline and an earlier admission; where no such barge exists there is nothing to take. -/
def Obligations.EarliestDeadlineFirst : Prop :=
  ∀ (s : State) (admin : Bool),
    let fits (x : Nat × Entry) : Prop := x ∈ s.lkm.tbl ∧ s.eligible x.1 x.2 = true ∧ adminList x.2.b.opcode = admin ∧
      (x.2.origin.isSome = true ∨ s.runsAt x.2.tenant x.2.b x.2.input = .here)
    (∀ i e, s.nextFor admin = some (i, e) → fits (i, e) ∧
      ∀ x, fits x → ¬ (x.2.deadline < e.deadline ∨ (x.2.deadline = e.deadline ∧ x.2.order < e.order))) ∧
    (s.nextFor admin = none → ∀ x, ¬ fits x)

/-- R65, R66: outside HALT, a queued barge of a FAIL_EXPIRED ring fails EXPIRED once its deadline tick has passed, and so does a parked one whose page limit is not the earlier; a parked barge whose page limit governs fails KEY_PAGE_TIMEOUT once that has passed; before that tick nothing changes. R76, R77: with fewer than 28,160 general entries in use the line of the earliest basin entry that is not held back is read through the SLU; verified, the entry moves on-chip; where the line is lost or not its domain's the barge fails DATA_POISONED, and an INTEGRITY event leaves it where it was. R79: at a new 1 ms window the per-window fields take the values of the window just ended and its counts restart. -/
def Obligations.LimitsEndWaitingBarges : Prop :=
  (∀ (s : State) (i : Nat) (e : Entry), s.entryAt i = some e → e.failExpired = true → s.glb.mode ≠ .halt →
    (∀ p, e.ph = .queued p →
      exec (.deadlineExpire i) s = .next (if e.deadline < s.now then s.failBarge i stExpired else s)) ∧
    (∀ t w, e.ph = .parked t w → e.deadline ≤ t + e.pageTimeout →
      exec (.deadlineExpire i) s = .next (if e.deadline < s.now then s.failBarge i stExpired else s))) ∧
  (∀ (s : State) (i : Nat) (e : Entry) (t : Nat) (w : List Nat), s.entryAt i = some e → e.ph = .parked t w → s.glb.mode ≠ .halt →
    e.failExpired = false ∨ t + e.pageTimeout < e.deadline →
    exec (.pageTimeoutExpire i) s = .next (if t + e.pageTimeout < s.now then
      ({ s with lkm := { s.lkm with timeouts := s.lkm.timeouts + 1 } }).failBarge i stKeyPageTimeout else s)) ∧
  (∀ (s : State) (i : Nat) (e : Entry) (d : DramReturn), (s.inPlace .general).length < 28160 →
    firstByDeadline ((s.inPlace .basin).filter fun x => !s.heldBack x.1 x.2) = some (i, e) →
    exec (.basinRefill d) s = .next (match s.refillRead i d with
      | (.good, t) => { t with lkm := { t.lkm with
          tbl := Tbl.put i { e with ph := .queued .general } t.lkm.tbl, refills := t.lkm.refills + 1 } }
      | (.poisoned, t) => t.failBarge i stPoisoned
      | (.broken, t) => t)) ∧
  (∀ s : State, s.lkm.curWindow < s.now / 100000 →
    Completes .telWindowRoll s fun t =>
      t.lkm.curWindow = s.now / 100000 ∧ t.lkm.windowNo = s.now / 100000 - 1 ∧ t.lkm.returnsLast = s.lkm.returns ∧
      t.lkm.timeoutsLast = s.lkm.timeouts ∧ t.lkm.returns = 0 ∧ t.lkm.timeouts = 0 ∧ t.lkm.engBusyLast = s.lkm.engBusy ∧
      t.mor.bankLast = s.mor.bankNow ∧ (∀ k, (t.coreAt k).busyLast = (s.coreAt k).busy ∧ (t.coreAt k).busy = 0) ∧
      Only [.lkm, .mor, .cores] s t)

/-- R42, R74: a barge of a ring with no flow, not forwarded and not on a ring under FLR, that fails with a status joins its ring's completions with that status, OUT_LEN 0 and a zero result at the tick of release; its eviction locks end. BARGE_FINISH does the same with what the service of a core left (once its output is written and no commit is in progress), or with ABORTED where an abort is recorded (R57), but for one released in the very tick of its abort, which stands (R73), and the core is free again. -/
def Obligations.FailedBargesComplete : Prop :=
  (∀ (s : State) (i st : Nat) (e : Entry), let g := s.ringAt e.ring
    s.entryAt i = some e → e.flow = none → e.origin = none → g.flr = false →
    let t := s.failBarge i st
    t.entryAt i = some { e with ph := .done, comp := none, outBytes := none, locks := [], chamber := false } ∧
    t.ringAt e.ring = { g with relq := g.relq ++
      [⟨some i, ⟨e.b.seq, releaseStatus st e.failExpired e.deadline s.now, false, false, false, 0, s.now % 2 ^ 32, zeros 16⟩,
        e.b.irq, none, e.v1⟩] } ∧ Only [.lkm, .rings] s t) ∧
  (∀ (s : State) (k i : Nat) (e : Entry), let g := s.ringAt e.ring
    let host := decide ((s.ringCfg e.ring).transport = 0)
    (s.coreAt k).job = some i → s.entryAt i = some e → s.glb.mode ≠ .halt → e.flow = none → e.origin = none → g.flr = false →
    (∀ o, (s.coreAt k).aborted = none ∨ (s.coreAt k).aborted = some s.now → (s.coreAt k).res = some o → e.b.opcode ≠ 0x0C78 → s.commitsDone i = true →
      host = false ∨ o.out = none ∨ (s.coreAt k).written = true →
      Completes (.bargeFinish k) s fun t => (t.coreAt k).job = none ∧
        t.ringAt e.ring = { g with relq := g.relq ++
          [⟨some i, ⟨e.b.seq, releaseStatus o.status e.failExpired e.deadline s.now, false, false, o.out.isSome, o.outLen,
            s.now % 2 ^ 32, fixLen 16 o.result⟩, e.b.irq, if host then none else o.out, e.v1⟩] }) ∧
    (∀ n, (s.coreAt k).aborted = some n → n ≠ s.now ∨ (s.coreAt k).res = none → e.committing = false → e.committed = false →
      Completes (.bargeFinish k) s fun t => (t.coreAt k).job = none ∧
        t.ringAt e.ring = { g with relq := g.relq ++
          [⟨some i, ⟨e.b.seq, stAborted, false, false, false, 0, s.now % 2 ^ 32, zeros 16⟩, e.b.irq, none, e.v1⟩] }))

/-! ### The logbook and the gates -/

/-- R425: the next record enters the ring, where there is room, with the next SEQ, and leaves the ingress queue; an audit-critical one counts as outstanding. R430, R432: the next record in SEQ order is copied to the archive's lines in DRAM, through the SLU, where there is room; an audit-critical record that finds the archive full stops admission. R428, R429: in a new 1 ms window every bucket gains REFILL tokens for each window begun, up to CAPACITY, and with no suppressed record nothing else changes. -/
def Obligations.LogbookRecords : Prop :=
  (∀ (s : State) (r : Rec) (ring : List Rec) (lost : Nat), s.nextRec = some r →
    makeRoom r.words s.log.nextCopy s.log.ring.length s.log.ring = some (ring, lost) →
    Completes .logRecordEnter s fun t =>
      t.log.ring = ring ++ [{ r with seq := s.log.nextSeq }] ∧ t.log.ingress = s.log.ingress.erase r ∧
      t.log.seqCount = s.log.seqCount + 1 ∧ t.log.outstanding = s.log.outstanding + (if r.audit then r.words else 0) ∧
      Only [.log, .glb, .out, .wharf] s t) ∧
  (∀ (s : State) (r : Rec) (d : DramReturn), s.slu.ready = true → s.slu.stopped = false → (s.log.ring.find? fun x => decide (s.log.nextCopy ≤ x.seq)) = some r →
    (∀ kept lost, archiveRoom r.words s.log.archCap s.log.ackTo s.log.archive.length s.log.archive = some (kept, lost) →
      let t := s.archiveLines r d
      exec (.archiveCopy d) s = .next { t with log := { t.log with
        archive := kept ++ [r], nextCopy := r.seq + 1, lostArchive := satAdd 32 t.log.lostArchive lost } }) ∧
    (archiveRoom r.words s.log.archCap s.log.ackTo s.log.archive.length s.log.archive = none → r.audit = true →
      exec (.archiveCopy d) s = .next { s with log := { s.log with auditStop := true } })) ∧
  (∀ s : State, s.log.lastRefill < s.now / 100000 → (∀ p ∈ s.log.rates, p.2.suppressed = 0) →
    exec .rateWindowRefill s = .next { s with log := { s.log with
      rates := s.log.rates.map fun p => (p.1, { p.2 with
        tokens := min p.2.capacity (p.2.tokens + (s.now / 100000 - s.log.lastRefill) * p.2.refill) })
      lastRefill := s.now / 100000 } })

/-- R436: a PF write of LOG_CURSOR (in a mode in which it is taken) sets the cursor to the record with that SEQ, or to the next retained after it, at offset 0, and copies from there. A read of LOG_NEXT by a path that has a cursor and reads LOG advances the cursor by the words of its window along the record stream, takes a new copy and returns the words advanced; where the cursor's record has been overwritten it does not advance: the cursor moves to the oldest record at offset 0, SKIPPED is set, a fresh copy is taken and ADVANCED reads 0. -/
def Obligations.LogCursorMoves : Prop :=
  (∀ (s : State) (v : W64), s.glb.mode = .service ∨ s.glb.mode = .drydock →
    Completes (.logCursorSeek v) s fun t =>
      (t.cursorAt 0).seq = ((s.log.ring.find? fun r => decide (v.toNat ≤ r.seq)).map (·.seq)).getD s.log.nextSeq ∧
      (t.cursorAt 0).off = 0 ∧ (t.cursorAt 0).win = (s.log.stream (t.cursorAt 0).seq 0).take 64 ∧ Only [.log] s t) ∧
  (∀ (s : State) (p : Path) (n : Nat), let c := s.cursorAt n
    cursorPath p = some n → s.reads p 0xF = true →
    (c.overwritten s.log = false → Completes (.logNextRead p) s fun t =>
      ((t.cursorAt n).seq, (t.cursorAt n).off) =
        advanceBy s.log.nextSeq (s.log.ring.filter fun r => decide (c.seq ≤ r.seq)) c.off c.win.length ∧
      (t.cursorAt n).win = (s.log.stream (t.cursorAt n).seq (t.cursorAt n).off).take 64 ∧
      t.out = s.out ++ [.regData p logNextAddr (BitVec.ofNat 64 c.win.length)] ∧ Only [.log, .out] s t) ∧
    (c.overwritten s.log = true → Completes (.logNextRead p) s fun t =>
      (t.cursorAt n).seq = s.log.oldest ∧ (t.cursorAt n).off = 0 ∧ (t.cursorAt n).skipped = true ∧
      (t.cursorAt n).win = (s.log.stream s.log.oldest 0).take 64 ∧
      t.out = s.out ++ [.regData p logNextAddr 0] ∧ Only [.log, .out] s t))

/-- R302: a write of 1 to GTE_GATE[g].BARRIER, in DRYDOCK where GTE takes writes, starts a barrier on gate g and changes nothing else, the gate's table included; one requested while a barrier runs on the gate merges with it: nothing changes. A barrier waits for the accesses that the gate had checked and that are not finished, gate 112's slot reads (R301): while one is out it goes on; then it is done and no longer runs, and outside a RESTART nothing else changes; with the last barrier that a RESTART waits for, the RESTART completes and the summary interrupt tells it (R370). -/
def Obligations.GateBarriersRunAndEnd : Prop :=
  ∀ (s : State) (g : Nat), s.glb.mode = .drydock →
    (Tbl.find g s.gte.barriers = none → Completes (.gateBarrier g) s fun t =>
      Tbl.find g t.gte.barriers = some (s.outstanding g) ∧ t = { s with gte := { s.gte with barriers := t.gte.barriers } } ∧
      ∀ h, h ≠ g → Tbl.find h t.gte.barriers = Tbl.find h s.gte.barriers) ∧
    ((Tbl.find g s.gte.barriers).isSome = true → exec (.gateBarrier g) s = .next s) ∧
    (Tbl.find g s.gte.barriers = some [] → s.pwr.restarting = [] → Completes (.gateBarrierDone g) s fun t =>
      Tbl.find g t.gte.barriers = none ∧ t = { s with gte := { s.gte with barriers := t.gte.barriers } } ∧
      ∀ h, h ≠ g → Tbl.find h t.gte.barriers = Tbl.find h s.gte.barriers) ∧
    (∀ r rs, Tbl.find g s.gte.barriers = some (r :: rs) → exec (.gateBarrierDone g) s = .next s) ∧
    (Tbl.find g s.gte.barriers = some [] → s.pwr.restarting = [g] →
      exec (.gateBarrierDone g) s = .next (({ s with
        gte := { s.gte with barriers := Tbl.del g s.gte.barriers }, pwr := { s.pwr with restarting := [] } } : State).setInt intRestarted))

/-- R307: for up to eight words and the class PUBLIC or CONFIDENTIAL, with source and destination in core scratch, aligned, the fetch address in regions that grant X and D, no source word HELD and the core's gate allowing the read and the write, word i of the destination becomes word i of the source with the class named, its data, V, P and CHK unchanged (P set where the source word's ECC finds an uncorrectable error, R305), every other word of on-chip SRAM is unchanged, and GTE_COUNT.DECLASS rises by 1. Where the fetch address does not qualify nothing is written. -/
def Obligations.DeclassCopiesWords : Prop :=
  (∀ (s : State) (core fetch src dst n : Nat) (cls : SecClass) (ecc : List Nat), n ≤ 8 → cls = .pub ∨ cls = .confidential →
    inScratch src n = true → inScratch dst n = true →
    let from_ (i : Nat) : TWord := eccRead (ecc.contains i) (s.sramAt (src / 8 + i))
    s.gateCheck core .declassify fetch 4 [] = none → (∀ i, i < n → (s.sramAt (src / 8 + i)).cls ≠ .held) →
    s.gateCheck core .read src (8 * n) [] = none →
    s.gateCheck core .write dst (8 * n) ((List.range n).map fun i => { from_ i with cls := cls }) = none →
    Completes (.declass core fetch src dst n cls ecc) s fun t =>
      (∀ i, i < n → t.sramAt (dst / 8 + i) = { from_ i with cls := cls }) ∧
      (∀ a, a < dst / 8 ∨ dst / 8 + n ≤ a → t.sramAt a = s.sramAt a) ∧
      t.gte = { s.gte with declass := satAdd 32 s.gte.declass 1 } ∧ Only [.sram, .gte] s t) ∧
  (∀ (s : State) (core fetch src dst n : Nat) (cls : SecClass) (ecc : List Nat) (b : Nat × Option Nat), n ≤ 8 →
    cls = .pub ∨ cls = .confidential → inScratch src n = true → inScratch dst n = true → s.gateCheck core .declassify fetch 4 [] = some b → core < 96 →
    Completes (.declass core fetch src dst n cls ecc) s fun t =>
      (∀ a, t.sramAt a = s.sramAt a) ∧ t.gte.violCount = (s.gte.violCount + 1) % 2 ^ 32)
/-! ### Cipher lanes -/

/-- R208, R209: for a crew core whose lane context waits for nothing, the data words that the command takes sound and no checker mismatch, each block command that the slot's key permits puts its output words and then a status word OK into the context's output FIFO, after the cycles of R220; the slot counts as used (R203), and nothing else changes but what is named. ENC and DEC give the block enciphered or deciphered (class PUBLIC, or the key's DCLASS and the input's class); ZKEY the cipher of zero, SECRET, or the key check value; KSTREAM and KSTREAM_D the input combined with the cipher of nonce and block index, or of the block given, the latter after HOLD as HELD words into the held buffer (R217); TAG the input combined with the cipher of nonce and 1, once under a nonce; TAGCHK MATCH_FAIL or OK, and ends the hold: a match releases the held buffer with the key's DCLASS, a mismatch zeroes it; NONCE, from a leased mooring counter N, the device prefix and N, and the counter becomes N + 1. -/
def Obligations.LaneBlockCommands : Prop :=
  ∀ (s : State) (k : Nat) (c : LaneCtx) (cmd : W64) (data label : List TWord) (p : Nat) (x : KSlot),
    LaneReady s k c → Sound data → s.ctxSlot c (cSlot cmd) = some (p, x) → (∀ w, x.kind ≠ .test w) →
    let b := s.laneWork c (cSlot cmd) (x.cycles (cSub cmd))
    let b0 := s.laneWork c (cSlot cmd) (x.cycles 0)
    let b2 := s.laneWork c (cSlot cmd) (x.cycles 0 + 2)
    let input := (dataBytes data 0 (x.block / 8)).take x.block
    (cSrc cmd = 0 → cDst cmd = 0 → cCmp cmd = false → x.may .enc (cSub cmd) = true → x.block / 8 ≤ data.length →
      exec (.enc k cmd data 0) s = .next (b.laneSay k (wordsOf (fixLen x.block (x.enc (cSub cmd) input)) .pub) uOk)) ∧
    (cSrc cmd = 0 → cDst cmd = 0 → cCmp cmd = false → x.may .dec (cSub cmd) = true → x.block / 8 ≤ data.length →
      exec (.dec k cmd data label 0) s = .next (b.laneSay k (wordsOf (fixLen x.block (x.dec (cSub cmd) input))
        (x.dclass.max (classOf (data.take (x.block / 8))))) uOk)) ∧
    (cProfile cmd ≠ 0xF → x.may .zkey (cSub cmd) = true →
      exec (.zkey k cmd data 0) s = .next (b.laneSay k (wordsOf (fixLen x.block (x.enc (cSub cmd) (zeros x.block))) .secret) uOk)) ∧
    (cProfile cmd = 0xF → x.mayCheck (cSub cmd) = true → exec (.zkey k cmd data 0) s = .next (b.laneSay k (wordsOf x.kcv .pub) uOk)) ∧
    (∀ nonce, c.nonce = some nonce → x.may .stream (cSub cmd) = true → x.isTdes = false → c.nonceSlot = cSlot cmd → 2 ≤ data.length →
      (c.lastIdx < cIdx cmd → exec (.kstream k cmd data 0) s = .next (((s.setCtx k { c with lastIdx := cIdx cmd }).laneWork c (cSlot cmd)
        (x.cycles 0)).laneSay k (wordsOf (xorBytes (dataBytes data 0 2) (x.enc 0 (fixLen 12 nonce ++ toBE 4 (cIdx cmd)))) .pub) uOk)) ∧
      (c.gcm = true → c.tagged = false → exec (.tag k cmd data 0) s = .next (((s.setCtx k { c with tagged := true }).laneWork c (cSlot cmd)
        (x.cycles 0 + 2)).laneSay k (wordsOf (xorBytes (dataBytes data 0 2) (x.enc 0 (fixLen 12 nonce ++ toBE 4 1))) .pub) uOk))) ∧
    (x.may .open_ (cSub cmd) = true → x.isTdes = false → 4 ≤ data.length →
      let plain := xorBytes (dataBytes data 2 2) (x.enc 0 (dataBytes data 0 2))
      let same := decide (fixLen 16 (x.enc 0 (dataBytes data 0 2)) = dataBytes data 2 2)
      (c.holding = false →
        exec (.kstreamD k cmd data 0) s = .next (b0.laneSay k (wordsOf plain (x.dclass.max (classOf (data.take 4)))) uOk) ∧
        exec (.tagchk k cmd data 0) s = .next (b2.laneSay k [] (if same then uOk else uMatchFail))) ∧
      (c.holding = true →
        ((s.coreAt k).held.length + 2 ≤ 8192 → exec (.kstreamD k cmd data 0) s =
          .next ((b0.setCore k { b0.coreAt k with held := (b0.coreAt k).held ++ wordsOf plain .held }).laneSay k [] uOk)) ∧
        exec (.tagchk k cmd data 0) s = .next ((b2.setCore k { b2.coreAt k with
          lane := some { c with holding := false }
          heldSt := if same then .released x.dclass else .zeroing
          held := if same then (b2.coreAt k).held else [] }).laneSay k [] (if same then uOk else uMatchFail)))) ∧
    (∀ l m mr, x.kind = .loaded l → x.dead = false → x.may .stream (cSub cmd) = true → s.mooringOf l.handle 0 = some (m, mr) →
      mr.krec.nonceCtr < nonceEnd → mr.leased = true →
      Completes (.nonce k cmd data) s fun t =>
        (t.coreAt k).laneOut = (s.coreAt k).laneOut ++ wordsOf (toBE 4 s.noncePrefix ++ toBE 8 mr.krec.nonceCtr) .pub ++ [statusWord uOk] ∧
        (t.coreAt k).lane = some { c with
          nonce := some (toBE 4 s.noncePrefix ++ toBE 8 mr.krec.nonceCtr), nonceSlot := cSlot cmd, gcm := cGcm cmd
          lastIdx := if cGcm cmd then 1 else 0, tagged := false, nonceWaits := none } ∧
        Tbl.find m t.mor.moorings = some { mr with
          krec := { mr.krec with nonceCtr := mr.krec.nonceCtr + 1 }
          leased := decide ((mr.krec.nonceCtr + 1) % 65536 ≠ 0) } ∧
        Only [.cores, .mor, .cph] s t)

/-- R202: OPEN on a core without a context takes the lane the allocator chooses for the tenant and answers OK. R203: LOAD of a handle of the context's tenant that the lane already holds takes that slot and answers OK; one that it does not hold takes a slot, asks the KDU for the key and waits. R213: PUT with PROFILE 9 into a number the context does not hold takes a free slot for the TLS key given. R207: STORE of a profile 0 key asks the KDU for the wrap and waits. R209: FREE of a context's own slot zeroes it and answers OK. R217: HOLD opens an empty held buffer, unless the last one is still being zeroed, when it waits; once the zeroing ends the waiting HOLD proceeds. R221: CLOSE ends the context and answers OK. LOADT loads a TEST key of a type that R106 lists into a diagnostic context and answers OK; on a crew core it is REFUSED (R226). -/
def Obligations.LaneContextsAndSlots : Prop :=
  (∀ (s : State) (k : Nat) (cmd : W64) (data : List TWord) (gs : List Nat) (n : Nat), Sound data →
    2 ≤ data.length → LaneFree s k → s.laneGroupsFor (le 0 2 (dataBytes data 0 1) % 4096) = some gs →
    s.laneChoice gs (le 0 8 (dataBytes data 1 1)) = some n →
    exec (.laneOpen k cmd data) s =
      .next ((s.setCtx k { lane := n, tenant := le 0 2 (dataBytes data 0 1) % 4096 }).laneSay k [] uOk)) ∧
  (∀ (s : State) (k : Nat) (c : LaneCtx) (cmd : W64) (data label : List TWord), LaneReady s k c → Sound data →
    (let h := le 0 8 (dataBytes data 0 1)
      let hit := (s.laneAt c.lane).slots.find? fun y => decide (y.2.handle = some h) && !y.2.dead && y.2.tenant == c.tenant
      data ≠ [] → handleTenant h = c.tenant → c.slots.length < 8 → Tbl.find (cSlot cmd) c.slots = none →
      (∀ p x, hit = some (p, x) →
        exec (.laneLoad k cmd data) s = .next (((s.setCtx k { c with slots := Tbl.put (cSlot cmd) p c.slots }).putSlot c.lane p
          { x with used := s.now }).laneSay k [] uOk)) ∧
      (∀ p, hit = none → s.slotFor c.lane = some p →
        exec (.laneLoad k cmd data) s = .next
          (((s.dropSlot c.lane p).setCtx k { c with slots := Tbl.put (cSlot cmd) p c.slots, waiting := true }).kduAsk
            ⟨k, .laneSlot p, h, 0, false, none, false⟩))) ∧
    (∀ p, cProfile cmd = 9 → cDst cmd = 1 → cPart cmd = 0 → data.length = 4 → Tbl.find (cSlot2 cmd) c.slots = none →
      c.slots.length < 8 → s.slotFor c.lane = some p →
      Completes (.put k cmd data label) s fun t =>
        (Tbl.find p (t.laneAt c.lane).slots).map (fun x => (x.key, x.tenant, x.kind)) =
          some (if cParity cmd then (dataBytes data 0 4).map oddParity else dataBytes data 0 4, c.tenant, .owned 9 ⟨usage "D0", chr "A", chr "B", chr "N", 32, 0, 0, 0, 0, 0, 1⟩) ∧
        (t.coreAt k).lane = some { c with slots := Tbl.put (cSlot2 cmd) p c.slots } ∧
        (t.coreAt k).laneOut = (s.coreAt k).laneOut ++ [statusWord uOk] ∧ Only [.cores, .cph] s t) ∧
    (∀ p x l, let label := labelOfBytes (dataBytes data 0 4)
      4 ≤ data.length → s.ctxSlot c (cSlot2 cmd) = some (p, x) → x.kind = .owned 0 l → handleTenant label.handle = c.tenant →
      exec (.store k cmd data) s = .next ((s.setCtx k { c with waiting := true }).kduAsk
        ⟨k, .storeSlot p label, label.handle, 0, false, none, false⟩)) ∧
    (∀ p x, s.ctxSlot c (cSlot2 cmd) = some (p, x) → x.owned = true →
      exec (.free k cmd data) s =
        .next (((s.setCtx k { c with slots := Tbl.del (cSlot2 cmd) c.slots }).dropSlot c.lane p).laneSay k [] uOk)) ∧
    ((s.coreAt k).heldSt ≠ .zeroing → exec (.hold k cmd data) s = .next ((s.setCore k { s.coreAt k with
        lane := some { c with holding := true }, heldSt := .holding, held := [] }).laneSay k [] uOk)) ∧
    ((s.coreAt k).heldSt = .zeroing → exec (.hold k cmd data) s = .next (s.setCtx k { c with holdWaits := true })) ∧
    exec (.laneClose k cmd data) s = .next ((s.closeLane k).laneSay k [] uOk) ∧
    exec (.loadt k cmd data) s = .next (s.laneSay k [] uRefused)) ∧
  (∀ (s : State) (k : Nat) (c : LaneCtx) (cmd : W64) (data : List TWord) (p : Nat), LaneOpen s k c → c.diag = true → Sound data →
    let n := if cProfile cmd = 0 ∨ cProfile cmd = 2 then 2 else if cProfile cmd = 4 then 4 else 3
    cProfile cmd ≤ 4 → n ≤ data.length → Tbl.find (cSlot cmd) c.slots = none → c.slots.length < 8 → s.slotFor c.lane = some p →
    exec (.loadt k cmd data) s = .next (((s.setCtx k { c with slots := Tbl.put (cSlot cmd) p c.slots }).putSlot c.lane p
      ⟨.test (cProfile cmd), 0, fixLen 32 (dataBytes data 0 n), false, s.now, [], 0, .pub⟩).laneSay k [] uOk)) ∧
  (∀ (s : State) (k : Nat), (s.coreAt k).heldSt = .zeroing →
    ((∀ x, (s.coreAt k).lane = some x → x.holdWaits = false) →
      exec (.heldBufferZeroed k) s = .next (s.setCore k { s.coreAt k with heldSt := .closed, held := [] })) ∧
    (∀ x, (s.coreAt k).lane = some x → x.holdWaits = true →
      exec (.heldBufferZeroed k) s = .next (((s.setCore k { s.coreAt k with
        lane := some { x with holdWaits := false, holding := true }, heldSt := .holding, held := [] }).laneSay k [] uOk).drainLane k)))

/-- R215, R216: a mismatch counts against the lane that ran the block. With one mismatch the block is retried on another lane and stands; with two, with no other lane, or where the key-bus copy to the other lane fails (which counts against no lane), the command answers FAULT and gives no output. -/
def Obligations.CheckersRetryThenFault : Prop :=
  ∀ (s : State) (n t : Nat),
    s.checkBlock n t 0 = (s, false) ∧
    (∀ m, (s.laneMismatch n).retryLane n t = some m →
      s.checkBlock n t 1 = (s.laneMismatch n, false) ∧ s.checkBlock n t 2 = ((s.laneMismatch n).laneMismatch m, true) ∧
      ∀ i, 3 ≤ i → s.checkBlock n t i = (s.laneMismatch n, true)) ∧
    ((s.laneMismatch n).retryLane n t = none → ∀ mism, 0 < mism → s.checkBlock n t mism = (s.laneMismatch n, true)) ∧
    (∀ (k : Nat) (c : LaneCtx) (cmd : W64) (data : List TWord) (p : Nat) (x : KSlot) (mism : Nat), LaneReady s k c →
      s.ctxSlot c (cSlot cmd) = some (p, x) → x.may .enc (cSub cmd) = true → cSrc cmd = 0 → cDst cmd = 0 →
      cCmp cmd = false ∨ (0 < cCmpLen cmd ∧ cCmpLen cmd ≤ x.block) →
      (s.checkBlock c.lane c.tenant mism).2 = true →
      exec (.enc k cmd data mism) s =
        .next (((s.checkBlock c.lane c.tenant mism).1.laneWork c (cSlot cmd) (x.cycles (cSub cmd))).laneSay k [] uFault))

/-- R218, R237: an idle lane or tile in service (no tile whose windows a diagnostic job waits for) that passes its self-test is tested anew in this tick and waiting opens are granted; one that fails is retired and the lowest remaining spare that passes takes its group; a draining lane is retired once its contexts have closed. R225: a failing idle hash engine is RETIRED with no spare, an engine of a KDU pair with its pair once a pair is idle, and one that passes changes nothing. R216: at a new mismatch window the counts of lanes, tiles and the device restart. -/
def Obligations.SelfTestsAndRetirement : Prop :=
  (∀ (s : State) (n : Nat) (sp : Bool), (s.laneAt n).serves = true → s.ctxsOn n = [] →
    exec (.laneSelftest n true sp) s = .next ((s.setLane n { s.laneAt n with tested := s.now }).grantLanes) ∧
    exec (.laneSelftest n false sp) s = .next (s.retireLane n sp) ∧
    ((s.laneAt n).st = .draining → exec (.laneDrainRetire n sp) s = .next (s.retireLane n sp))) ∧
  (∀ (s : State) (n : Nat) (sp : Bool), (s.tileAt n).serves = true → s.jobsOn n = [] →
    s.bgn.diag.opening = false ∨ s.bgn.diag.sel ≠ n →
    ((s.tileAt n).st = .active →
      exec (.tileSelftest n true sp) s = .next ((s.setTile n { s.tileAt n with tested := s.now }).grantTiles)) ∧
    exec (.tileSelftest n false sp) s = .next (s.retireTile n sp)) ∧
  (∀ (s : State) (e : Nat), (s.engAt e).st = .active → (s.engAt e).holder = none →
    exec (.hashSelftest e true) s = .next s ∧
    (isKduEngine e = false → Completes (.hashSelftest e false) s fun t =>
      (t.engAt e).st = .retired ∧ (∀ f, f ≠ e → t.engAt f = s.engAt f) ∧ Only [.hsh, .glb, .log, .out, .wharf] s t) ∧
    (isKduEngine e = true → s.hsh.queue.countP KduReq.started < s.hsh.pairs → Completes (.hashSelftest e false) s fun t =>
      (t.engAt (e - e % 2)).st = .retired ∧ (t.engAt (e - e % 2 + 1)).st = .retired ∧ t.hsh.pairs = s.hsh.pairs - 1 ∧
      (∀ f, f / 2 ≠ e / 2 → t.engAt f = s.engAt f) ∧ Only [.hsh, .glb, .log, .out, .wharf] s t)) ∧
  (∀ s : State, let w := s.now / (100000 * max 1 s.cph.windowMs)
    s.cph.window < w → Completes .mismatchWindowEnd s fun t =>
      t.cph.window = w ∧ t.cph.deviceWin = 0 ∧ t.cph.raisedWin = false ∧ (∀ p ∈ t.cph.lanes, p.2.mismatchWin = 0) ∧
      (∀ p ∈ t.bgn.tiles, p.2.mismatchWin = 0) ∧ t.cph.mismatches = s.cph.mismatches ∧ Only [.cph, .bgn] s t)

/-! ### Hash engines -/

/-- R222: INIT on a core that holds an engine of the right kind, or holds none and finds one free, starts the computation there. R223: ABSORB adds up to 168 bytes to the message and the highest class of its words; KEY asks the KDU for the key and waits; FINAL ends the message (with its key register set, where the function is keyed); SQUEEZE then gives the next N bytes of the output, SECRET or above where keyed, and the engine is free after the last; CMP answers OK or MATCH_FAIL over the leading N bytes and frees the engine; RESET zeroes state and key register. Each answers with a status word OK after the cycles of R224. -/
def Obligations.HashEngineCommands : Prop :=
  (∀ (s : State) (k e : Nat) (cmd : W64) (data : List TWord), HashIdle s k → algOn (hAlg cmd) e = true → e < 56 →
    ((s.coreAt k).eng = some e ∧ (s.engAt e).waiting = false ∧ (s.engAt e).closing = false) ∨
      (k ≠ 96 ∧ (s.coreAt k).eng = none ∧ s.freeEngines (hAlg cmd) = [e]) → hHmac cmd = false ∨ hmacAlg (hAlg cmd) = true →
    exec (.init k cmd data) s = .next ((((s.setEng e ((s.engAt e).start k (hAlg cmd) (hHmac cmd) (hOutLen cmd))).setCore k
      { s.coreAt k with eng := some e }).engineBusy (engIndex e) 2).hashSay k [] uOk)) ∧
  (∀ (s : State) (k e : Nat) (g : Eng) (alg : Nat) (hmac : Bool) (cmd : W64) (data : List TWord),
    HashReady s k e g alg hmac → Sound data → ceilDiv (hN cmd) 8 ≤ data.length →
    let ws := data.take (ceilDiv (hN cmd) 8)
    (g.final = false → 0 < hN cmd → hN cmd ≤ 168 →
      let msg := g.msg ++ slice 0 (hN cmd) (wordsBytes ws)
      exec (.absorb k cmd data) s = .next (((s.setEng e { g with msg := msg, cls := g.cls.max (classOf ws) }).engineBusy (engIndex e)
        ((msg.length / hashRate alg - g.msg.length / hashRate alg) * hashBlockCycles alg)).hashSay k [] uOk)) ∧
    (data ≠ [] → exec (.hashKey k cmd data) s =
      .next ((s.setEng e { g with waiting := true }).kduAsk ⟨k, .engine, le 0 8 (dataBytes data 0 1), 0, false, none, false⟩)) ∧
    (g.final = false → g.poison = false → keyed alg hmac = false ∨ g.key ≠ none →
      exec (.final k cmd data) s = .next (((s.setEng e { g with final := true }).engineBusy (engIndex e)
        ((1 + (if hmac then 3 else 0)) * hashBlockCycles alg)).hashSay k [] uOk)) ∧
    (g.final = true → g.poison = false → 0 < hN cmd → hN cmd ≤ 168 → g.squeezed + hN cmd ≤ hashOut alg g.outLen →
      let done := g.squeezed + hN cmd
      let s1 := (s.setEng e { g with squeezed := done }).engineBusy (engIndex e)
        (((done - 1) / hashRate alg - (g.squeezed - 1) / hashRate alg) * hashBlockCycles alg)
      exec (.squeeze k cmd data) s = .next ((if done = hashOut alg g.outLen then s1.releaseEng k else s1).hashSay k
        (wordsOf (slice g.squeezed (hN cmd) (Config.engineHash alg hmac (g.key.getD []) g.msg (hashOut alg g.outLen)))
          (if keyed alg hmac then g.cls.max .secret else g.cls)) uOk)) ∧
    (g.final = true → g.poison = false → 0 < hN cmd → hN cmd ≤ 64 → hN cmd ≤ hashOut alg g.outLen →
      exec (.cmp k cmd data) s = .next (((s.engineBusy (engIndex e) 4).releaseEng k).hashSay k []
        (if g.output 0 (hN cmd) = slice 0 (hN cmd) (wordsBytes ws) then uOk else uMatchFail))) ∧
    exec (.hashReset k cmd data) s =
      .next ((s.setEng e { st := g.st, before := g.before, holder := g.holder }).hashSay k [] uOk))

/-! ### Bignum tiles -/

/-- R228: JOPEN takes the tile and windows the allocator chooses. R231: with no residue mismatch, MAC adds the product of two limb strings shifted by OFF limbs to the accumulator modulo 2^10,752, RDACC writes its limbs to job words and may shift it down, CLR zeroes it and sets the mode, MACP adds products of 32-bit coefficients to 64-bit lanes, WPUT and WGET write and read job words, KEYIN asks the KDU for a link of a key's chain; each answers OK with its cycles, results take the highest class of their operands (R233). R236: JCLOSE ends the job and starts clearing its windows; when that is done the windows are free, and what waited for them goes on. -/
def Obligations.TileCommands : Prop :=
  (∀ (s : State) (k : Nat) (cmd : W64) (data : List TWord) (gs : List Nat) (n b : Nat), Sound data → data ≠ [] → TileFree s k →
    s.tileGroupsFor (le 0 2 (dataBytes data 0 1) % 4096) = some gs →
    s.tileChoice gs (2 ^ tM cmd) = some (n, b) →
    exec (.jopen k cmd data) s = .next ((s.setJob k
      { tile := n, base := b, size := 2 ^ tM cmd, tenant := le 0 2 (dataBytes data 0 1) % 4096 }).tileSay k [] uOk)) ∧
  (∀ (s : State) (k : Nat) (j : Job) (cmd : W64) (data : List TWord), TileReady s k j →
    let n := tN cmd
    let m := tM cmd + 1
    let a := j.read (tA cmd) n
    let b := j.read (tB cmd) m
    (0 < n → n ≤ 160 → j.has (tA cmd) n = true → j.has (tB cmd) m = true → tOff cmd + n + m ≤ 168 → j.macp = some false →
      j.poison = false → anyBad a = false → anyBad b = false →
      exec (.mac k cmd data 0) s = .next (((s.setJob k { j with
        acc := (j.acc + limbs a * limbs b * 2 ^ (64 * tOff cmd)) % 2 ^ 10752
        cls := j.cls.max ((classOf a).max (classOf b)) }).tileBusy j.tile (ceilDiv (n * m) 8 + 6)).tileSay k [] uOk)) ∧
    (0 < n → n ≤ 160 → j.has (tA cmd) n = true → j.has (tB cmd) n = true → tOff cmd + 2 * n ≤ 336 → j.macp = some true → tMode cmd = true →
      Completes (.macp k cmd data 0) s fun t => ∃ j', (t.coreAt k).tile = some j' ∧
        (∀ i, i < 2 * n → tget 0 (tOff cmd + i) j'.lanes =
          (tget 0 (tOff cmd + i) j.lanes + coeff a i * coeff (j.read (tB cmd) n) i) % 2 ^ 64) ∧
        (∀ i, i < tOff cmd ∨ tOff cmd + 2 * n ≤ i → tget 0 i j'.lanes = tget 0 i j.lanes) ∧ Only [.cores, .lkm] s t) ∧
    (0 < n → n ≤ 168 → j.macp = some false → j.has (tD cmd) n = true → tOff cmd + n ≤ 168 → j.poison = false →
      Completes (.rdacc k cmd data 0) s fun t => ∃ j', (t.coreAt k).tile = some j' ∧
        (∀ i, i < n → tget notValid (tD cmd + i) j'.words =
          word (BitVec.ofNat 64 (j.acc / 2 ^ (64 * (tOff cmd + i)) % 2 ^ 64)) j.cls) ∧
        (∀ i, i < tD cmd ∨ tD cmd + n ≤ i → tget notValid i j'.words = tget notValid i j.words) ∧
        j'.acc = (if tShift cmd then j.acc / 2 ^ (64 * (tOff cmd + n)) else j.acc) ∧ Only [.cores, .lkm] s t) ∧
    exec (.clr k cmd data) s = .next (((s.setJob k { j with
      acc := 0, lanes := [], cls := .pub, poison := false, macp := some (tMode cmd) }).tileBusy j.tile 4).tileSay k [] uOk) ∧
    exec (.jclose k cmd data) s = .next (((s.closeJob k).tileBusy j.tile 2).tileSay k [] uOk) ∧
    (Sound data → 2 ≤ data.length → j.has (tA cmd) 4 = true → exec (.keyin k cmd data) s =
      .next ((s.setJob k { j with waiting := true }).kduAsk
        ⟨k, .tileWords (tA cmd), le 0 8 (dataBytes data 0 1), le 0 8 (dataBytes data 1 1), false, none, false⟩)) ∧
    (Sound data → 0 < n → n ≤ 4 → j.has (tA cmd) n = true → n ≤ data.length →
      Completes (.wput k cmd data) s fun t => ∃ j', (t.coreAt k).tile = some j' ∧
        (∀ i, i < n → some (tget notValid (tA cmd + i) j'.words) = data[i]?) ∧
        (∀ i, i < tA cmd ∨ tA cmd + n ≤ i → tget notValid i j'.words = tget notValid i j.words) ∧ Only [.cores, .lkm] s t) ∧
    (0 < n → j.has (tA cmd) n = true →
      exec (.wget k cmd data) s = .next ((s.tileBusy j.tile (2 + n)).tileSay k (j.read (tA cmd) n) uOk))) ∧
  (∀ (s : State) (n b : Nat) (r : Nat × Nat), ((s.tileAt n).clearing.find? fun x => x.1 == b) = some r →
    exec (.jobClearDone n b) s =
      .next ((((s.setTile n { s.tileAt n with clearing := (s.tileAt n).clearing.erase r }).diagTile).grantTiles).runUnits))

/-- R206: with a pair in service and no disagreement, the oldest started load ends OK with its key field where the record read opens under its tenant's root and the delivery suits the label, DAMAGED where it does not open, REFUSED where it does not suit, UNKNOWN where no mooring held the handle, and POISONED where the words read were; two disagreements end it in FAULT. It leaves the queue, counts as a load, and a DAMAGED one counts in DAMAGED. A load into a lane slot that ends OK, with no other unit command waiting, leaves the slot loaded with the key under its label, DEAD where it was deleted meanwhile, and the context answers OK. -/
def Obligations.KduLoadsEnd : Prop :=
  (∀ (s : State) (q : KduReq) (r : KRec), s.hsh.pairs ≠ 0 → (∀ p l, q.dest ≠ .storeSlot p l) → q.read = some r →
    (∀ f, s.openRec r = some f → s.kduResult q 0 false = if s.kduSuits q r.label then (uOk, f) else (uRefused, [])) ∧
    (s.openRec r = none → s.kduResult q 0 false = (uDamaged, [])) ∧
    s.kduResult q 0 true = (uPoisoned, []) ∧ s.kduResult q 2 false = (uFault, [])) ∧
  (∀ (s : State) (q : KduReq) (n : Nat), s.hsh.pairs ≠ 0 → (∀ p l, q.dest ≠ .storeSlot p l) → q.read = none →
    s.kduResult q n false = (uUnknown, [])) ∧
  (∀ (s : State) (q : KduReq) (c : LaneCtx) (p : Nat) (f : Bytes) (r : KRec), s.kduHead = some q → q.dest = .laneSlot p →
    (s.coreAt q.who).lane = some c → c.closing = false → UnitsIdle s → s.hsh.pairs ≠ 0 →
    q.read = some r → s.openRec r = some f → s.kduSuits q r.label = true → Completes (.kduLoadDone 0 false) s fun t =>
      t.hsh.loads = s.hsh.loads + 1 ∧ t.hsh.damaged = s.hsh.damaged ∧
      (t.coreAt q.who).lane = some { c with waiting := false } ∧
      (t.coreAt q.who).laneOut = (s.coreAt q.who).laneOut ++ [statusWord uOk] ∧
      (Tbl.find p (t.laneAt c.lane).slots).map (fun x => (x.kind, x.key, x.tenant, x.dead)) = some (.loaded r.label, f, c.tenant, q.dead))

/-- R226, R254: in DRYDOCK, ENABLE 1 with no diagnostic context open selects an idle ACTIVE unit, which leaves service for the context; once the context has opened, a command runs on it with the diagnostic data words and leaves its output and status in the diagnostic registers, also after a CLOSE, when it answers REFUSED; ENABLE 0 gives the unit back in the state it had. Outside DRYDOCK the write is discarded, and logged where the block is invisible. -/
def Obligations.DiagnosticRegisters : Prop :=
  (∀ (s : State) (v : W64) (mism : Nat) (i : Instr), s.glb.mode ≠ .drydock →
    i = .cphDiagEnable v ∨ i = .cphDiagCmd v mism ∨ i = .hshDiagEnable v ∨ i = .hshDiagCmd v ∨ i = .bgnDiagEnable v ∨ i = .bgnDiagCmd v mism →
    Completes i s (Only [.log] s)) ∧
  (∀ (s : State) (v : W64), let n := wbits 14 8 v
    s.glb.mode = .drydock → wbit 0 v = true →
    (s.cph.diag.enable = false → n < 68 → (s.laneAt n).st = .active → s.ctxsOn n = [] → Completes (.cphDiagEnable v) s fun t =>
      (t.laneAt n).st = .diag ∧ (t.laneAt n).before = .active ∧ (t.laneAt n).slots = [] ∧
      (t.coreAt 96).lane = some { lane := n, tenant := 0, diag := true } ∧ t.cph.diag.enable = true ∧ t.cph.diag.sel = n ∧
      Only [.cph, .cores] s t) ∧
    (s.hsh.diag.enable = false → isKeccak n = true ∨ isSha2 n = true → (s.engAt n).st = .active → (s.engAt n).holder = none →
      Completes (.hshDiagEnable v) s fun t =>
        (t.engAt n).st = .diag ∧ (t.engAt n).holder = some 96 ∧ (t.coreAt 96).eng = some n ∧ t.hsh.diag.enable = true ∧
        Only [.hsh, .cores] s t) ∧
    (s.bgn.diag.enable = false → n < 26 → (s.tileAt n).st = .active → s.jobsOn n = [] → (s.tileAt n).clearing = [] →
      Completes (.bgnDiagEnable v) s fun t =>
        (t.tileAt n).st = .diag ∧ (t.coreAt 96).tile = some { tile := n, base := 0, size := 8, diag := true } ∧
        t.bgn.diag.enable = true ∧ Only [.bgn, .cores] s t)) ∧
  (∀ (s : State) (v : W64), s.glb.mode = .drydock → wbit 0 v = false →
    (s.cph.diag.enable = true → Completes (.cphDiagEnable v) s fun t =>
      (t.laneAt s.cph.diag.sel).st = (s.laneAt s.cph.diag.sel).before ∧ t.cph.diag.enable = false ∧ t.cph.diag.sel = s.cph.diag.sel) ∧
    (s.hsh.diag.enable = true → Completes (.hshDiagEnable v) s fun t =>
      (t.engAt s.hsh.diag.sel).st = (s.engAt s.hsh.diag.sel).before ∧ t.hsh.diag.enable = false ∧ t.hsh.diag.sel = s.hsh.diag.sel) ∧
    (s.bgn.diag.enable = true → Completes (.bgnDiagEnable v) s fun t =>
      (t.tileAt s.bgn.diag.sel).st = (s.tileAt s.bgn.diag.sel).before ∧ t.bgn.diag.enable = false ∧ t.bgn.diag.sel = s.bgn.diag.sel)) ∧
  (∀ (s : State) (v : W64) (mism : Nat), s.glb.mode = .drydock →
    (s.cph.diag.busy = false → s.cph.diag.enable = true → s.cph.diag.opening = false →
      let a := s.laneRun 96 ⟨wbits 63 60 v, v, s.cph.diag.words, [], mism⟩
      exec (.cphDiagCmd v mism) s = .next { a.st with cph := { a.st.cph with
        faults := a.st.cph.faults + (if a.code = some uFault then 1 else 0)
        diag := { a.st.cph.diag with out := diagOut a.out, code := a.code.getD 0 } } }) ∧
    (∀ e, s.hsh.diag.busy = false → (s.coreAt 96).eng = some e →
      let a := s.hashRun 96 ⟨wbits 63 60 v, v, s.hsh.diag.words, [], 0⟩
      exec (.hshDiagCmd v) s =
        .next { a.st with hsh := { a.st.hsh with diag := { a.st.hsh.diag with out := diagOut a.out, code := a.code.getD 0 } } }) ∧
    (s.bgn.diag.busy = false → s.bgn.diag.enable = true → s.bgn.diag.opening = false →
      let a := s.tileRun 96 ⟨wbits 63 60 v, v, s.bgn.diag.words, [], mism⟩
      exec (.bgnDiagCmd v mism) s = .next { a.st with bgn := { a.st.bgn with
        faults := a.st.bgn.faults + (if a.code = some uFault then 1 else 0)
        diag := { a.st.bgn.diag with out := diagOut a.out, code := a.code.getD 0 } } }))

/-! ### Moorings, paging and the cargo store -/

/-- R172: a page-in at its lookup, of a key whose links the cargo cache holds, reads their lines: verified, with a record that passes step 4, it installs them; an uncorrectable line or a record that fails sends it to step 2, and an INTEGRITY event ends it. One that misses the cache takes what a volatile store holds, its lines verified, or reads its bucket sector from a drive; with its sectors read, it takes what the store holds, or, with no source that passes step 4, is DAMAGED (R175). R178, R182: a page-in that waits for a mooring or for room in its set is tried again. R288, R289: a sector of a page-in whose tag, kind, zero bytes and generation verify is counted, and the chain's next sector is read or the reading ends; a wrong tag or kind, or a wrong generation, is an INTEGRITY event; a command error counts against the drive. R172, R173: a one-link key with a free mooring is installed there with its lease state in this tick, its page-in ends and counts as returned. -/
def Obligations.PageInsReturn : Prop :=
  (∀ (s : State) (h : Nat) (p : PageIn) (r : DramReturn), (s.mor.pageIns.find? fun x => x.handle == h) = some p →
    (p.stage = .lookup →
      (∀ ls, s.cachedLinks h = some ls → exec (.pageInReturn h r) s = .next (match s.cacheRead h r with
        | (.broken, t) => t
        | (.poisoned, t) => t.pageMiss h
        | (.good, t) => if headOk h ls then ({ t with mor := { t.mor with pageCache := t.mor.pageCache + 1 } }).pageInstall h ls
            else t.pageMiss h)) ∧
      (s.cachedLinks h = none → s.volatileStore = true → exec (.pageInReturn h r) s = .next (match s.holdRead h r with
        | (.broken, t) => t
        | (.poisoned, t) => ({ t with mor := { t.mor with pageStore := t.mor.pageStore + 1 } }).pageDamaged h
        | (.good, t) => ({ t with mor := { t.mor with pageStore := t.mor.pageStore + 1 } }).pageFromStore h)) ∧
      (s.cachedLinks h = none → s.driveStore = true →
        exec (.pageInReturn h r) s = .next (s.readSector h 0 (s.bucketLba h) none none))) ∧
    (∀ spoiled, p.stage = .read spoiled → s.pwr.stopped.contains 0x2B = false →
      let t := { s with mor := { s.mor with pageStore := s.mor.pageStore + 1 } }
      exec (.pageInReturn h r) s = .next (if spoiled then t.pageDamaged h else t.pageFromStore h)) ∧
    (∀ (n d lba : Nat) (tried : Option Nat), p.stage = .reading n lba d tried → (s.drive d).inService = true → s.driveStore = true →
      s.slu.stopped = false →
      exec (.sectorReadDone h d lba .commandError) s = .next (s.driveCommandFailed d) ∧
      ∀ (cipher tag : Bytes) (gen kind : Nat) (rest : Bytes),
        let good := Config.kmac256 (slice 64 32 (s.sectorKeys d lba))
          (toLE 8 lba ++ (toLE 8 gen ++ toLE 1 kind ++ fixLen 39 rest) ++ fixLen 4096 cipher) 128 (ascii "LT7200-SECTOR")
        let plain := s.sectorPlain d lba cipher
        let s1 := s.setDrive d { s.drive d with fails := 0 }
        let i := Instr.sectorReadDone h d lba (.sector cipher tag gen kind rest)
        (good = fixLen 16 tag → kind = s.sectorKind lba → allZero (fixLen 39 rest) = true →
          (gen = s.genOf lba → s.spoils h plain = false →
            (sectorNext plain = 0 → Completes i s fun t =>
              t.slu.sectorReads = s.slu.sectorReads + 1 ∧ (t.drive d).fails = 0 ∧
              t.mor.pageIns = (s.mor.pageIns.map fun x => if x.handle = h then { x with stage := .read false } else x) ∧
              Only [.slu, .mor] s t) ∧
            (sectorNext plain ≠ 0 → exec i s = .next (({ s1 with slu := { s1.slu with sectorReads := s1.slu.sectorReads + 1 } }).readSector
              h (n + 1) (sectorNext plain) none tried))) ∧
          (gen ≠ s.genOf lba → exec i s = .next (s1.integrity 4 2 lba 0))) ∧
        (good ≠ fixLen 16 tag ∨ kind ≠ s.sectorKind lba → exec i s = .next (s1.integrity 2 2 lba 0)))) ∧
  (∀ (s : State) (h : Nat) (p : PageIn), (s.mor.pageIns.find? fun x => x.handle == h) = some p →
    (p.stage = .cacheWait → exec (.cacheFillRetry h) s = .next (s.pageFromStore h)) ∧
    (∀ ls, p.stage = .mooringWait → (s.cachedLinks h).or ((s.storeLinks h).map fun l => l.map fun x => (x, false)) = some ls →
      exec (.mooringWaitRetry h) s = .next (s.pageInstall h ls))) ∧
  (∀ (s : State) (h m : Nat) (r : KRec) (leased : Bool), s.mooringChoice r.label.handle = some (m, none) →
    let t := s.pageInstall h [(r, leased)]
    Tbl.find m t.mor.moorings = some ⟨r, leased, s.now⟩ ∧ t.pagingIn h = false ∧ t.lkm.returns = s.lkm.returns + 1)

/-- R175: an ECC error in a mooring drops every mooring of its key, counts, is logged and touches no other mooring. R179: a mooring that no load reads moves to a free mooring of a bank of lower pressure. R169: a tug that fails its self-check is out of service, and no core's transfer and no page-in is on it any more. R40, R386: with a tug in service, its gate allowing the access, Bus Master Enable set and the link up, the input buffer's bytes reach the core or the output bytes leave for the output buffer. R177: with the pin-table function STOPPED and its copy open, ADD appends the handle of MOR_PIN_HANDLE once and REMOVE removes it. -/
def Obligations.MooringUpkeep : Prop :=
  (∀ (s : State) (m : Nat) (x : Mooring), Tbl.find m s.mor.moorings = some x →
    Completes (.mooringEccError m) s fun t =>
      t.mor.moorings = s.mor.moorings.filter (fun p => decide (p.2.krec.label.handle ≠ x.krec.label.handle)) ∧
      t.mor.eccRefetch = satAdd 16 s.mor.eccRefetch 1 ∧ Only [.mor, .log] s t) ∧
  (∀ (s : State) (m n bank : Nat) (x : Mooring), Tbl.find m s.mor.moorings = some x → s.freeIn bank = some n → n ≠ m →
    tget 0 bank s.mor.bankLast < tget 0 (bankOf m) s.mor.bankLast →
    s.loading x.krec.label = false →
    Completes (.mooringMove m bank) s fun t =>
      Tbl.find n t.mor.moorings = some x ∧ Tbl.find m t.mor.moorings = none ∧
      (∀ i, i ≠ m → i ≠ n → Tbl.find i t.mor.moorings = Tbl.find i s.mor.moorings) ∧ Only [.mor] s t) ∧
  (∀ (s : State) (n : Nat), s.glb.mode ≠ .sentry → s.mor.tugsOut.contains n = false →
    Completes (.tugSelfcheckFail n) s fun t =>
      t.mor.tugsOut = s.mor.tugsOut ++ [n] ∧ (∀ k, (t.coreAt k).tug ≠ some n) ∧ (∀ p ∈ t.mor.pageIns, p.tug ≠ some n) ∧
      t.mor.moorings = s.mor.moorings ∧ t.mor.store = s.mor.store ∧ Only [.mor, .cores, .glb, .log, .out, .wharf] s t) ∧
  (∀ (s : State) (k i tug : Nat) (e : Entry), (s.coreAt k).job = some i → s.entryAt i = some e → e.b.buf = true → e.origin = none →
    (s.ringCfg e.ring).transport = 0 → s.hostTug k = some tug → s.wharf.bme.contains (s.ringCfg e.ring).func = true →
    s.wharf.pcieUp = true →
    (∀ bs, (s.coreAt k).input = none → (s.coreAt k).res = none → e.b.inLen ≠ 0 →
      s.gateCheck (96 + tug) .read (hostAddr e.b.inAddr) e.b.inLen [] = none →
      exec (.tugTransferDone k false (.ok bs)) s =
        .next ((s.emit (.hostRead (s.ringCfg e.ring).func e.b.inAddr e.b.inLen)).setCore k
          { s.coreAt k with input := some (fixLen e.b.inLen bs), tug := none })) ∧
    (∀ o out r, (s.coreAt k).res = some o → o.out = some out → (s.coreAt k).written = false → (s.ringAt e.ring).flr = false →
      s.gateCheck (96 + tug) .write (hostAddr e.b.outAddr) out.length (wordsOf out .pub) = none →
      exec (.tugTransferDone k true r) s =
        .next ((s.setCore k { s.coreAt k with written := true, tug := none }).emit (.hostWrite (s.ringCfg e.ring).func e.b.outAddr out)))) ∧
  (∀ (s : State) (m : Manifest), let h := s.mor.pinHandle.toNat
    s.pwr.pend = some (0x3B, m) → s.pwr.stopped.contains 0x3B = true →
    exec .pinAdd s = .next { s with pwr := { s.pwr with
      pend := some (0x3B, { m with pins := if m.pins.contains h then m.pins else m.pins ++ [h] }) } } ∧
    exec .pinRemove s = .next { s with pwr := { s.pwr with
      pend := some (0x3B, { m with pins := m.pins.filter fun x => x != h }) } })

/-- R189: with 16 commits gathered, or 8 µs after the first, no group write in flight, a tug free and room in the journal, the commits taken (at most 16) get the next numbers, their barges are committing, and one write goes to each drive that takes writes, in two ranges where it passes the end of the journal ring; a commit whose words arrive poisoned is not written, and its barge fails DATA_POISONED (R289). When the last drive acknowledges, the commits of the group have their commit ticks in number order: the journal holds them, the last one's number is LAST_COMMIT, its outcome entry stands and its barge has committed. R193: a volatile hold commits the oldest commit alone, once the SLU has taken its lines. R181: a nonce request that waits on a mooring that is not leased, with no lease commit pending, sends E = (⌊N ÷ 65,536⌋ + 1) × 65,536 to the journal. R290: a checkpoint falls due and starts; its completion frees its journal sectors and advances ROOT_GEN. -/
def Obligations.CommitsReachTheStore : Prop :=
  (∀ (s : State) (c : Commit) (cs : List Commit), (∀ x ∈ s.mor.gathered, s.stillWanted x = true) → s.driveStore = true →
    s.mor.flight = [] → s.pwr.stopped.contains 0x2B = false → s.freeTug 12 4 ≠ none →
    16 ≤ s.mor.gathered.length ∨ (∃ f, s.mor.gathered.head? = some f ∧ f.joined + 800 ≤ s.now) →
    takeCommits 16 (262144 - s.mor.fill) s.mor.gathered = c :: cs →
    Completes (.groupWriteStart []) s fun t =>
      t.mor.flight = numberFrom (s.mor.lastCommit + 1) (c :: cs) ∧ t.mor.gathered = s.mor.gathered.drop (cs.length + 1) ∧
      t.mor.fill = s.mor.fill + ((c :: cs).map (·.sectors)).sum ∧
      t.out = s.out ++ (s.writeDrives.flatMap fun d => journalWrites d s.mor.journalPos ((c :: cs).map (·.sectors)).sum) ∧
      (∀ i e, c.barge = some i → s.entryAt i = some e → ∃ e', t.entryAt i = some e' ∧ e'.committing = true) ∧
      Only [.mor, .lkm, .out] s t) ∧
  (∀ (s : State) (c : Commit) (i k : Nat) (e : Entry), s.mor.gathered = [c] → s.stillWanted c = true → s.driveStore = true →
    s.mor.flight = [] → s.pwr.stopped.contains 0x2B = false → s.freeTug 12 4 ≠ none → c.joined + 800 ≤ s.now →
    c.barge = some i → c.replicated = false → s.entryAt i = some e → e.ph = .running k → (s.coreAt k).job.isSome = true →
    Completes (.groupWriteStart [0]) s fun t =>
      (t.coreAt k).res = some ⟨stPoisoned, [], 0, none⟩ ∧ t.mor.gathered = [] ∧ t.mor.flight = [] ∧ t.out = s.out ∧
      t.mor.journal = s.mor.journal ∧ Only [.mor, .log, .lkm, .cores] s t) ∧
  (∀ (s : State) (d : Nat) (c : Commit) (cs : List Commit), s.mor.flight = cs ++ [c] → (s.drive d).inService = true →
    s.mor.awaiting &&& ~~~(BitVec.ofNat 2 (2 ^ d)) = 0 →
    Completes (.commitTick d) s fun t =>
      t.mor.flight = [] ∧ t.mor.awaiting = 0 ∧ t.mor.journal = s.mor.journal ++ (cs ++ [c]) ∧ t.mor.lastCommit = c.number ∧
      (c.opcode ≠ 0 → (⟨c.head, c.epoch, c.ring, c.seq, c.opcode, c.time⟩ : OutcomeEntry) ∈ t.mor.outcomes) ∧
      (∀ i e, c.barge = some i → s.entryAt i = some e →
        ∃ e', t.entryAt i = some e' ∧ e'.committed = true ∧ e'.committing = false)) ∧
  (∀ (s : State) (c : Commit) (rest : List Commit) (r : DramReturn), (∀ x ∈ s.mor.gathered, s.stillWanted x = true) →
    s.volatileStore = true → s.mor.gathered = c :: rest →
    let t := (s.regather rest).holdWrite c r
    exec (.volatileCommitDone r) s =
      .next (if t.slu.stopped then t else t.commitNow { c with number := t.mor.lastCommit + 1 })) ∧
  (∀ (s : State) (k i m h p : Nat) (gcm : Bool) (x : LaneCtx) (sl : KSlot) (mr : Mooring), (s.coreAt k).lane = some x →
    x.nonceWaits = some (i, gcm) → s.ctxSlot x i = some (p, sl) → sl.handle = some h → s.mooringOf h 0 = some (m, mr) →
    mr.leased = false → s.storeUp = true → s.leasePending h = false →
    Completes (.leaseCommit k) s fun t =>
      (∃ c, t.mor.gathered = s.mor.gathered ++ [c] ∧ c.changes = [.lease h ((mr.krec.nonceCtr / 65536 + 1) * 65536)] ∧
        c.barge = none ∧ c.opcode = 0) ∧ Only [.mor] s t) ∧
  (∀ s : State, s.driveStore = true → s.mor.ckpt = none → 131072 ≤ s.mor.fill ∨ s.mor.ckptAt + 1000000000 ≤ s.now →
    exec .checkpointStart s = .next { s with mor := { s.mor with
      ckpt := some s.mor.journal.length
      keelReg := { s.mor.keelReg with pending := s.mor.keelReg.rootGen + 1 } } }) ∧
  (∀ (s : State) (n : Nat), s.mor.ckpt = some n → Completes .checkpointComplete s fun t =>
    t.mor.ckpt = none ∧ t.mor.journal = s.mor.journal.drop n ∧ t.mor.keelReg.rootGen = s.mor.keelReg.rootGen + 1 ∧
    t.mor.keelReg.pending = 0 ∧ t.mor.fill = s.mor.fill - ((s.mor.journal.take n).map Commit.sectors).sum ∧
    t.mor.store = s.mor.store ∧ Only [.mor, .log, .slu, .out] s t)

/-- R186: an ONLINE mirror that loses one of its two drives is DEGRADED with the other in service; with the last drive gone the store is OFFLINE and no commit is gathered or in flight (R192); what was in flight stands in the journal, where a later LAUNCH may find it. R388: a command that times out is aborted and counts as the drive's first failure. R186: a completed rebuild has copied every sector to the replacement, puts every present drive in service and the store ONLINE. -/
def Obligations.DrivesFailAndRebuild : Prop :=
  (∀ (s : State) (d : Nat), d < 2 → s.mor.storeSt = .online → s.drivesIn = [0, 1] →
    Completes (.driveFail d) s fun t =>
      (t.drive d).inService = false ∧ t.drivesIn = [1 - d] ∧ t.mor.storeSt = .degraded ∧ t.mor.flight = s.mor.flight ∧
      Only [.mor, .log, .out] s t) ∧
  (∀ (s : State) (d : Nat), d < 2 → s.driveStore = true → s.drivesIn = [d] →
    Completes (.driveFail d) s fun t =>
      t.drivesIn = [] ∧ t.mor.storeSt = .offline ∧ t.mor.flight = [] ∧ t.mor.gathered = [] ∧ t.mor.gatherFrom = none ∧
      t.mor.journal = s.mor.journal ++ s.mor.flight) ∧
  (∀ (s : State) (d : Nat), d < 2 → (s.drive d).inService = true → (s.drive d).fails = 0 →
    Completes (.nvmeCommandTimeout d) s fun t =>
      t.wharf.cmdTimeouts = satAdd 32 s.wharf.cmdTimeouts 1 ∧ t.drive d = { s.drive d with fails := 1 } ∧
      (s.out ++ [.nvme d 3 0 0]) <+: t.out ∧ t.mor.storeSt = s.mor.storeSt ∧ Only [.wharf, .mor, .out] s t) ∧
  (∀ s : State, s.mor.storeSt = .rebuilding → Completes .rebuildComplete s fun t =>
    t.mor.storeSt = .online ∧ t.mor.rebuildFrom = none ∧
    t.mor.driveA.inService = (s.mor.driveA.inService || s.mor.driveA.present) ∧
    t.mor.driveB.inService = (s.mor.driveB.inService || s.mor.driveB.present) ∧ t.mor.store = s.mor.store ∧ Only [.mor, .log, .slu, .out] s t)
/-! ### Random generation -/

/-- R257: SETTLE leads to STARTUP and that, when no test of R256 fails on 1,024 samples or more, to COLLECT. R259: a collection on whose last 768 samples no test fails gives the 512-bit SHAKE256 conditioning of them, which once ready goes to the DRBG that waits, lowest at home in the cluster first, or is held, two at most. R256, R257: a test of a STARTUP or COLLECT cluster that fails on the data seen, with the tests that fail as its cause, is counted, discards the collection and starts the cluster up again; the third in a row retires it; in raw-sample mode it is only counted. R266: in raw-sample mode a source selection empties the buffer, each read of RNG_RAW_DATA takes its oldest word, and a feed appends a word while fewer than 1,024 are held and else counts as dropped. -/
def Obligations.EntropyClustersWork : Prop :=
  (∀ (s : State) (n : Nat), let x := s.clusterAt n
    (x.st = .settle → exec (.settleEnd n) s = .next (s.setCluster n { x with st := .startup })) ∧
    (∀ h : HealthData, x.st = .startup → 1024 ≤ h.samples.length → s.healthCause h = 0 → exec (.startupTestEnd n h) s
      = .next (s.setCluster n { x with st := .collect, passed := true })) ∧
    (∀ h : HealthData, x.st = .collect → 768 ≤ h.samples.length → s.healthCause h = 0 → exec (.collectionEnd n h) s =
      .next (s.setCluster n { x with cond := x.cond ++ [Config.shake256 (h.samples.drop (h.samples.length - 768)) 64] })) ∧
    (∀ b rest, x.cond = b :: rest → s.rng.fatal = false → s.rng.raw = false →
      (s.blockTarget n = none → Completes (.seedBlockReady n) s fun t =>
        t.clusterAt n = { x with cond := rest, held := (if x.held.length < 2 then x.held else x.held.drop 1) ++ [b] } ∧
        Only [.rng] s t) ∧
      (∀ d, s.blockTarget n = some d → Completes (.seedBlockReady n) s fun t =>
        t.drbgAt d = { s.drbgAt d with seeding := some b, waits := false } ∧
        t.clusterAt n = { x with cond := rest, consec := 0 } ∧ t.rng.accepted = s.rng.accepted + 1 ∧ Only [.rng] s t)) ∧
    (∀ h : HealthData, s.healthCause h ≠ 0 → x.st = .startup ∨ x.st = .collect → x.consec < 2 → Completes (.healthTestFail n h) s fun t =>
      t.clusterAt n = { x with fails := satAdd 32 x.fails 1, cause := s.healthCause h, consec := x.consec + 1, st := .startup } ∧
      t.rng.discarded = s.rng.discarded + 1 ∧ (∀ m, m ≠ n → t.clusterAt m = s.clusterAt m) ∧ Only [.rng] s t) ∧
    (∀ h : HealthData, s.healthCause h ≠ 0 → x.st = .collect → x.consec = 2 → Completes (.healthTestFail n h) s fun t =>
      (t.clusterAt n).st = .retired ∧ (t.clusterAt n).consec = 3) ∧
    (∀ h : HealthData, s.healthCause h ≠ 0 → x.st = .raw → exec (.healthTestFail n h) s =
      .next (s.setCluster n { x with fails := satAdd 32 x.fails 1, cause := s.healthCause h }))) ∧
  (∀ (s : State) (v : W64) (p : Path), s.rng.raw = true →
    exec (.rawSourceSelect v) s = .next { s with rng := { s.rng with
      rawCluster := wbits 7 4 v, rawOsc := wbits 3 0 v, rawBuf := [], rawDropped := 0, rawEmpty := false } } ∧
    (s.rng.rawOsc ≤ 8 → exec (.rawBufferFeed v) s = .next { s with rng := (if s.rng.rawBuf.length < 1024
      then { s.rng with rawBuf := s.rng.rawBuf ++ [v] } else { s.rng with rawDropped := satAdd 32 s.rng.rawDropped 1 }) }) ∧
    (∀ w rest, s.answers p = true → s.reads p 0x7 = true → s.rng.rawBuf = w :: rest → exec (.rawDataRead p) s =
      .next { s with rng := { s.rng with rawBuf := rest }, out := s.out ++ [.regData p 0x70808 w] }) ∧
    (s.answers p = true → s.reads p 0x7 = true → s.rng.rawBuf = [] → exec (.rawDataRead p) s =
      .next { s with rng := { s.rng with rawEmpty := true }, out := s.out ++ [.regData p 0x70808 0] }))

/-- R261: a delivered block instantiates an UNSEEDED DRBG with its personalisation string, or reseeds one, from its first 384 bits; the DRBG is SERVING with its request count at 0. R262: at 65,536 requests or 1 s after its seeding it is DUE and waits for a block; at 131,072 or 2 s it is BLOCKED. R263: a request of 1 to 65,536 bytes to a core's home DRBG that serves gives that many bytes as SECRET words, advances its state and counts; otherwise a not-valid word. R264: the start-up condition holds once 12 clusters have passed and all 64 DRBGs are SERVING. -/
def Obligations.DrbgsSeedAndServe : Prop :=
  (∀ (s : State) (n : Nat) (b : Bytes), let d := s.drbgAt n
    d.seeding = some b → exec (.drbgSeeded n) s = .next (s.setDrbg n { d with
      st := .serving
      v := if d.st = .unseeded then Config.drbgInstantiate (slice 0 48 b) (s.personalisation n) else Config.drbgReseed d.v (slice 0 48 b)
      seeding := none, requests := 0, seedings := (d.seedings + 1) % 2 ^ 32, seededAt := s.now, waits := false })) ∧
  (∀ (s : State) (n : Nat), let d := s.drbgAt n
    (d.st = .serving → 65536 ≤ d.requests ∨ d.seededAt + 100000000 ≤ s.now → (∀ c, (s.clusterAt c).held = []) →
      exec (.drbgDue n) s = .next (s.setDrbg n { d with st := .due, waits := true })) ∧
    (d.st = .serving → d.requests < 65536 → s.now < d.seededAt + 100000000 → exec (.drbgDue n) s = .next s) ∧
    (d.st = .due → 131072 ≤ d.requests ∨ d.seededAt + 200000000 ≤ s.now →
      exec (.drbgBlocked n) s = .next (s.setDrbg n { d with st := .blocked }))) ∧
  (∀ (s : State) (k n : Nat), let d := s.drbgAt (k % 64)
    0 < n → n ≤ 65536 →
    (s.serves (k % 64) = true → Completes (.drbgRequest k n) s fun t =>
      (t.coreAt k).drbg = wordsOf (fixLen n (Config.drbgGenerate d.v n)) .secret ∧
      t.drbgAt (k % 64) = { d with v := Config.drbgNext d.v n, requests := d.requests + 1 } ∧ Only [.cores, .rng] s t) ∧
    (s.serves (k % 64) = false →
      exec (.drbgRequest k n) s = .next (s.setCore k { s.coreAt k with drbg := [notValid] }))) ∧
  (∀ s : State, s.rng.ready = false → 12 ≤ (clusterNumbers.countP fun c => (s.clusterAt c).passed) →
    (∀ d, d < 64 → (s.drbgAt d).st = .serving) →
    exec .rngStartupComplete s = .next { s with rng := { s.rng with ready := true } })

/-! ### Inline memory encryption -/

/-- R284, R275: with the SLU taking accesses in the line's half, the line below P, its leaf counter block cached, DRAM returning what it holds and the master's gate allowing it, a full-line write gives the line the words, under check codes computed anew (R273), and the key domain of the address, and, away from a rollover, no other line changes. R286: a read of that line right after it, by a master whose gate allows it, returns those words under the same key domain (a HELD word as not valid, R306), and eight poisoned words, counted as a domain violation, under another. R276: a line whose counter is 0 reads as eight not-valid words. R284: a partial write of such a line writes its words and leaves the others not-valid. -/
def Obligations.DramLinesReadBack : Prop :=
  ∀ (s : State) (m core addr kd off : Nat) (words : List TWord), let leaf := blockKey (sluHalf off) 0 (sluLine off / 64)
    lineOf addr = some (kd, off) → s.sluTakes (sluHalf off) = true → off < 2 ^ s.slu.protLog → s.blockCached leaf = true →
    (wholeLine words = true → s.gateCheck m .write (addr - addr % 64) 64 words = none →
      Completes (.fullLineWrite m core addr words .asStored) s fun t =>
        Tbl.find (off / 64) t.slu.lines = some ⟨words.map TWord.stored, kd⟩ ∧
        (tget 0 (sluLine off % 64) (s.blockAt leaf).minors < 127 →
          ∀ o, o ≠ off / 64 → Tbl.find o t.slu.lines = Tbl.find o s.slu.lines) ∧
        (∀ m' core', s.gateCheck m' .read (addr - addr % 64) 64 [] = none → Completes (.lineRead m' core' addr .asStored) t fun u =>
          tget [] m' u.slu.returned = (words.map TWord.stored).map unheld ∧ Only [.slu, .gte] t u) ∧
        (∀ m' core' addr' kd', lineOf addr' = some (kd', off) → kd' ≠ kd → s.gateCheck m' .read (addr' - addr' % 64) 64 [] = none →
          Completes (.lineRead m' core' addr' .asStored) t fun u =>
            tget [] m' u.slu.returned = poisonedLine ∧ u.slu.domainViol = satAdd 32 t.slu.domainViol 1)) ∧
    (s.lineCtr (sluHalf off) (sluLine off) = 0 →
      (s.gateCheck m .read (addr - addr % 64) 64 [] = none → Completes (.lineRead m core addr .asStored) s fun t =>
        tget [] m t.slu.returned = List.replicate 8 notValid ∧ Only [.slu] s t) ∧
      (∀ i w, i < 8 → s.gateScan m .write [addr - addr % 64 + 8 * i] [(addr - addr % 64 + 8 * i, w)] = none →
        Completes (.partialWrite m core addr [(i, w)] .asStored) s fun t =>
          ∃ ws, Tbl.find (off / 64) t.slu.lines = some ⟨ws, kd⟩ ∧ ws[i]? = some w.stored ∧
            ∀ j, j < 8 → j ≠ i → ws[j]? = some notValid.stored))

/-- R282: a patrol scrub of a channel that takes accesses counts corrected data and node words and each uncorrectable data line, and adds to the pass of its channel; a pass over half of the DRAM fitted counts in PASSES; an uncorrectable counter block is an INTEGRITY event. R283: an INTEGRITY event stops every SLU path, its cause joins the report and it is counted. -/
def Obligations.ScrubAndEccCount : Prop :=
  (∀ (s : State) (ch n : Nat) (r : DramReturn), let total := s.slu.fitted / 16
    let sum := tget 0 ch s.slu.scrubbed + n
    s.sluTakes ch = true →
    (r.lostNodes = [] → Completes (.patrolScrub ch n r) s fun t =>
      t.slu.ceData = satAdd 32 s.slu.ceData r.dataCorrected ∧ t.slu.ceNode = satAdd 16 s.slu.ceNode r.nodeCorrected ∧
      t.slu.ueData = satAdd 16 s.slu.ueData r.lostLines.length ∧
      tget 0 ch t.slu.scrubbed = (if 0 < total ∧ total ≤ sum then sum - total else sum) ∧
      t.slu.passes = (if 0 < total ∧ total ≤ sum then s.slu.passes + 1 else s.slu.passes) ∧ Only [.slu] s t) ∧
    (r.lostNodes ≠ [] → Completes (.patrolScrub ch n r) s fun t =>
      t.slu.stopped = true ∧ t.slu.cause = s.slu.cause ||| 1 ∧ t.slu.integrityCount = s.slu.integrityCount + 1)) ∧
  (∀ (s : State) (cause : BitVec 3) (path addr kd : Nat), let t := s.integrity cause path addr kd
    t.slu.stopped = true ∧ t.slu.cause = s.slu.cause ||| cause ∧ t.slu.integrityCount = s.slu.integrityCount + 1 ∧
    (s.glb.mode ≠ .sentry → t.glb.mode = .halt))

/-! ### The Yuhild unlock -/

/-- R334: in PRODUCTION, with a DRBG of cluster 11 serving and no response being verified, a request for a non-zero scope makes a new challenge of 112 bytes for it, replacing any earlier one. R337: while a response is being verified a request waits. R335: SUBMIT takes the challenge and the response as they stand, a second one merges; the end of the verification sets RESULT, and where it is 1 the scope is unlocked and the challenge is used up; any other RESULT unlocks nothing. -/
def Obligations.YuhildUnlocks : Prop :=
  (∀ (s : State) (scope : BitVec 4), scope ≠ 0 →
    (s.lcy.busy = none → s.lcs = .production → s.serves 24 = true → (s.drbgAt 24).st ≠ .rawBlocked →
      Completes (.yuhildRequest scope) s fun t => ∃ nonce, nonce.length = 32 ∧ t.lcy.chal = some (s.challenge scope nonce) ∧
        t.lcy.nextReq = none ∧ (s.challenge scope nonce).length = 112 ∧ Only [.lcy, .rng] s t) ∧
    (∀ b, s.lcy.busy = some b → exec (.yuhildRequest scope) s = .next { s with lcy := { s.lcy with nextReq := some scope } })) ∧
  (∀ s : State, (s.lcy.busy = none →
      exec .yuhildSubmit s = .next { s with lcy := { s.lcy with busy := some (s.lcy.chal, s.lcy.response) } }) ∧
    (∀ b, s.lcy.busy = some b → exec .yuhildSubmit s = .next s)) ∧
  (∀ (s : State) (chal : Option Bytes) (resp : Bytes), s.lcy.busy = some (chal, resp) → s.lcy.nextReq = none →
    let code := s.yuhildResult chal resp
    Completes .yuhildVerifyDone s fun t =>
      t.lcy.result = code ∧ t.lcy.busy = none ∧
      (∀ c, chal = some c → code = 1 → t.lcy.unlocked = some (BitVec.ofNat 4 (le 2 1 c)) ∧ t.lcy.chal = none) ∧
      (code ≠ 1 → t.lcy.unlocked = s.lcy.unlocked ∧ t.lcy.chal = s.lcy.chal ∧ Only [.lcy] s t))
/-! ### The lengthsman and power -/

/-- R351: with a free place among the 64, a new entry takes one; else it replaces the oldest REPORTED entry; failing that the oldest entry neither PROTECTED nor REPORTED; failing that, for a PROTECTED new entry only, the oldest PROTECTED entry, which OVERFLOW counts; else it is dropped, which OVERFLOW counts too. An oldest entry is one that no entry of its kind is older than. -/
def Obligations.SentryRecordPlaces : Prop :=
  ∀ (t : Tbl SEntry) (isProtected : Bool), let pl := srecPlace t isProtected
    let full := ∀ i, i < 64 → Tbl.find i t ≠ none
    let oldest (p : SEntry → Bool) (i : Nat) : Prop := ∃ e, (i, e) ∈ t ∧ p e = true ∧ ∀ x ∈ t, p x.2 = true → e.order ≤ x.2.order
    let none_ (p : SEntry → Bool) : Prop := ∀ x ∈ t, p x.2 = false
    let plain (e : SEntry) : Bool := !e.isProtected && !e.reported
    (¬ full → ∃ i, pl = (some i, false) ∧ i < 64 ∧ Tbl.find i t = none) ∧
    (full → ¬ none_ (fun e => e.reported) → ∃ i, pl = (some i, false) ∧ oldest (fun e => e.reported) i) ∧
    (full → none_ (fun e => e.reported) → ¬ none_ plain → ∃ i, pl = (some i, false) ∧ oldest plain i) ∧
    (full → none_ (fun e => e.reported) → none_ plain → isProtected = true →
      ∃ i, pl = (some i, true) ∧ oldest (fun e => e.isProtected) i) ∧
    (full → none_ (fun e => e.reported) → none_ plain → isProtected = false → pl = (none, true))

/-- R340, R342: a sample that meets the threshold of a watched source with N = 1 and no latch is counted, makes the condition present and latches the source at its level; one of a latched source is counted and renews its hold, and does nothing else; a sample below the threshold of a source without a latch ends its condition. R342, R343: a latch at level 0 to 3 whose condition has been absent for the hold clears, and not before it; with the last latch at QUIESCE or above, admission resumes in the next sentry tick. In DRYDOCK a write of 1 to a latch's bit clears it where its level is 3 or less and its condition is absent; bits written 0 keep their latches. R348: on the cell, a source due in the tick that has had CELL_N hits in a row is latched with its cell response, and ERASE erases the keel secret; a sample below the threshold restarts its count. -/
def Obligations.AlarmsLatchAndClear : Prop :=
  (∀ (s : State) (src : Nat), src < 18 → s.watched src = true →
    (Tbl.find src s.len.latches = none →
      ((s.srcRow src).n = 1 → Completes (.alarmSample [(src, true)]) s fun t =>
        tget 0 src t.len.counts = satAdd 16 (tget 0 src s.len.counts) 1 ∧ t.len.cond.getLsbD src = true ∧
        Tbl.find src t.len.latches = some ⟨(s.srcRow src).level, s.clock.stime⟩ ∧
        ((s.srcRow src).level = 5 → s.len.tickLevel = none → t.len.keelValid = false ∧ t.len.keel = zeros 32) ∧
        (4 ≤ (s.srcRow src).level → s.glb.mode ≠ .sentry → t.glb.mode = .halt) ∧
        Only raiseParts s t) ∧
      (src ≠ 17 → exec (.alarmSample [(src, false)]) s =
        .next { s with len := { s.len with cond := s.len.cond &&& ~~~(BitVec.ofNat 24 (2 ^ src)) } })) ∧
    (∀ l, Tbl.find src s.len.latches = some l → exec (.alarmSample [(src, true)]) s = .next { s with len := { s.len with
      cond := s.len.cond ||| BitVec.ofNat 24 (2 ^ src)
      counts := Tbl.put src (satAdd 16 (tget 0 src s.len.counts) 1) s.len.counts
      latches := Tbl.put src { l with lastSeen := s.clock.stime } s.len.latches } })) ∧
  (∀ (s : State) (src : Nat) (l : Latch), Tbl.find src s.len.latches = some l → l.level ≤ 3 → s.conditionAbsent src l = true →
    (l.lastSeen + 1 + holdTicks (s.srcRow src).holdMs ≤ s.clock.stime → Completes (.latchHoldExpire src) s fun t =>
      t.len.latches = Tbl.del src s.len.latches ∧
      (s.latchedAt 3 = true → t.latchedAt 3 = false → t.len.resumeAt = s.clock.stime + 1) ∧ Only [.len] s t) ∧
    (s.clock.stime < l.lastSeen + 1 + holdTicks (s.srcRow src).holdMs → exec (.latchHoldExpire src) s = .next s)) ∧
  (∀ (s : State) (v : W64), s.glb.mode = .drydock → Completes (.latchClearWrite v) s fun t => Only [.len] s t ∧ ∀ src,
    (wbit src v = false → Tbl.find src t.len.latches = Tbl.find src s.len.latches) ∧
    (∀ l, wbit src v = true → Tbl.find src s.len.latches = some l → l.level ≤ 3 → s.conditionAbsent src l = true →
      Tbl.find src t.len.latches = none)) ∧
  (∀ (s : State) (src : Nat), s.clock.mainPower = false → s.len.powered = true → s.cellDue src = true →
    Tbl.find src s.len.latches = none →
    ((s.srcRow src).cellN ≤ tget 0 src s.len.cellHits + 1 → Completes (.cellSample [(src, true)]) s fun t =>
      Tbl.find src t.len.latches = some ⟨s.cellLevel src, s.clock.stime⟩ ∧
      ((s.srcRow src).cellErase = true → t.len.keelValid = false ∧ t.len.keel = zeros 32) ∧ Only [.len, .mor, .lcy] s t) ∧
    exec (.cellSample [(src, false)]) s = .next { s with len := { s.len with
      cond := s.len.cond &&& ~~~(BitVec.ofNat 24 (2 ^ src)), cellHits := Tbl.put src 0 s.len.cellHits } })

/-- R349: losing main power puts the device in SENTRY with device time 0; with a cell the sentry record gains an entry, the latches, the keel secret and the sentry time stay, and the cell schedule starts at the next sentry tick; without a cell the secret and the record are gone. Fuses, the tenants, officers and what the drives hold stay. When main power returns, with the sentry domain's power kept, LAUNCH begins at device time 0 with COLD 0; without it, or at SENTRY_POWER_LOST, the keel secret is invalid, COLD reads 1 and the record holds one entry. R361, R450: RESET_N low for 250 reference cycles or more with PWRGOOD high leads to LAUNCH from step 1 with PREV_MODE the old mode (the model's reading, log 49), the logbook ring kept and the end cause written: 2 from HALT, else 0 with every ring CLOSED and 3 otherwise. -/
def Obligations.PowerComesAndGoes : Prop :=
  (∀ s : State, s.clock.mainPower = true →
    Completes (.mainPowerLost true) s (fun t =>
      t.clock.mainPower = false ∧ t.glb.mode = .sentry ∧ t.clock.dtime = 0 ∧ t.clock.stime = s.clock.stime ∧
      t.len.latches = s.len.latches ∧ t.len.keel = s.len.keel ∧ t.len.keelValid = s.len.keelValid ∧
      t.len.nextOrder = s.len.nextOrder + 1 ∧ t.len.cellStart = s.clock.stime + 1 ∧
      t.root.slots = s.root.slots ∧ t.adm.tenants = s.adm.tenants ∧ t.adm.officers = s.adm.officers ∧ t.mor.base = s.mor.base ∧
      t.mor.journal = s.mor.journal ++ s.mor.flight ∧ Only [.clock, .glb, .rings, .lkm, .cores, .mor, .adm, .cph, .hsh, .bgn, .rng,
        .slu, .sram, .gte, .root, .lcy, .len, .pwr, .kwm, .wharf, .brv, .log, .cfg] s t) ∧
    Completes (.mainPowerLost false) s (fun t =>
      t.clock.mainPower = false ∧ t.glb.mode = .sentry ∧ t.len.keelValid = false ∧ t.len.powered = false ∧ t.len.srec.length = 1 ∧
      t.clock.stime = 0 ∧ t.root.slots = s.root.slots)) ∧
  (∀ s : State, s.clock.mainPower = false →
    (s.len.powered = true → Completes .mainPowerReturn s fun t =>
      t.clock.mainPower = true ∧ t.glb.mode = .launch ∧ t.clock.dtime = 0 ∧ t.clock.stime = s.clock.stime ∧ t.len.cold = false ∧
      t.len.keel = s.len.keel ∧ t.len.keelValid = s.len.keelValid ∧ t.len.latches = s.len.latches ∧
      t.len.table = TamperTable.boot ∧ t.len.nextOrder = s.len.nextOrder + 1) ∧
    Completes .sentryPowerLost s (fun t =>
      t.clock.mainPower = true ∧ t.glb.mode = .launch ∧ t.clock.stime = 0 ∧ t.len.cold = true ∧ t.len.keelValid = false ∧
      t.len.srec.length = 1 ∧ t.mor.keelReg = {} ∧ t.root.slots = s.root.slots)) ∧
  (∀ (s : State) (cycles : Nat) (v : Bool), s.clock.mainPower = true → 250 ≤ cycles → Completes (.resetNLow cycles false v) s fun t =>
    t.glb.mode = .launch ∧ t.glb.prevMode = s.glb.mode ∧ t.log.ring = s.log.ring ∧ t.root.slots = s.root.slots ∧
    t.len.keel = s.len.keel ∧ t.pwr.launch = .notBegun ∧ t.rings = [] ∧ t.lkm.tbl = [] ∧
    t.pwr.epochState = .ended (if s.glb.mode = .halt then 2 else if s.rings.all fun p => decide (p.2.st = .closed) then 0 else 3))

/-! ### LAUNCH, modes, functions and the power loops -/

/-- R360, R361: the first LAUNCH command in LAUNCH on a part whose life cycle is not END_OF_LIFE at step 3 advances the epoch and records the end cause of the last one; with no manifest copy accepted it ends in HALT; with one, and while no step before the eighth halts, the copy's configuration is active and it waits at step 8 for the DRAM and the RNG. Training done is recorded, and training failed is HALT with reason 7. The next LAUNCH command then, with the RNG started, its draws served, the roots there, no migration to settle, and neither cargo drives nor a cluster configured, brings the device to SERVICE: the SLU has new keys and no line is written, every ring is CLOSED, admission is enabled and the epoch is RUNNING. In a cluster the command that finds the device a member takes step 14 and the device is in SERVICE. -/
def Obligations.LaunchBringsUp : Prop :=
  (∀ (s : State) (env : LaunchEnv), let t3 := s.launchStep3 env
    s.clock.mainPower = true → s.glb.mode = .launch → s.pwr.launch = .notBegun → t3.lcs ≠ .endOfLife →
    Completes (.launch env) s fun t =>
      t.pwr.epoch = (s.pwr.epoch + 1) % 2 ^ 64 ∧ t.pwr.epochEnd = s.pwr.epochState.cause ∧
      ((t3.selectCopy env).used = none → t.glb.mode = .halt) ∧
      (∀ b c, (t3.selectCopy env).used = some (b, c) → t.glb.mode = .launch →
        t.cfg = copyManifest c ∧ t.kwm.step = 8 ∧ t.pwr.launch = .training env false)) ∧
  (∀ (s : State) (env : LaunchEnv), s.glb.mode = .launch → s.pwr.launch = .training env false →
    exec (.dramTrainingDone true) s = .next { s with pwr := { s.pwr with launch := .training env true } } ∧
    Completes (.dramTrainingDone false) s (fun t => t.glb.mode = .halt ∧ t.pwr.halt = some (s.haltReport 7 8 0))) ∧
  (∀ (s s1 : State) (env env' : LaunchEnv) (keel seed keys : Bytes),
    s.clock.mainPower = true → s.glb.mode = .launch → s.pwr.launch = .training env true →
    (s.kwm.step = 8 → s.rng.ready = true → s.launchDraw = (some (keel, seed, keys), s1) →
      (s.lcs = .production → s.keelOk = true ∧ (s.current .seed).isSome = true) → (s.current .uds).isSome = true →
      (s.current .signer).isSome = true → s.kwm.migration = none → s.cfg.iface = none → s.cfg.cluster = none →
      Completes (.launch env') s fun t =>
        t.glb.mode = .service ∧ t.glb.prevMode = .launch ∧ t.glb.admitting = true ∧ t.rings = [] ∧ t.pwr.epochState = .running ∧
        t.pwr.launch = .ended ∧ t.kwm.done = true ∧ t.kwm.step = 14 ∧ t.slu.keys = keys ∧ t.slu.lines = [] ∧ t.slu.ready = true ∧
        t.mor.storeSt = .volatileHold ∧ t.mor.store = []) ∧
    (s.kwm.step ≠ 8 → s.brv.st = .member → Completes (.launch env') s fun t =>
      t.glb.mode = .service ∧ t.glb.admitting = true ∧ t.rings = [] ∧ t.pwr.epochState = .running ∧ t.pwr.launch = .ended))

/-- R363: a path that may request reads BUSY in RESULT while a transition runs (a HALT request excepted) and WRONG_MODE where the mode does not allow the request; nothing else changes but the log. R366, R367: a DORMANT request in SERVICE with no function STOPPED, outside a cluster, stops admission and drains; once drained, within the limit, the device is DORMANT, its domains in the states of R375 (a FAILED one stays so), permits, grants, component and TLS sessions, an unlock, the SRAM and the RNG's state are gone; past the limit admission resumes with DRAIN_TIMEOUT. R368: a resume from DORMANT starts the RNG and, once it has started, with images and training good and the self-test minima of step 7 of R360 met by the units that pass, ends in SERVICE, the lanes and tiles that fail out of service; a mismatch runs LAUNCH with end cause 3. R364, R59: a HALT request enters HALT with its report; the flush leaves no barge, ring completion, mooring, line, session or SRAM word. R361: from HALT or DORMANT a reset request leads to LAUNCH with the end cause. -/
def Obligations.ModesChangeOnRequest : Prop :=
  (∀ (s : State) (p : Path), s.mayRequest p = true →
    (∀ c, c ∈ [(1, Instr.dormantRequest p, decide (s.glb.mode = .service)), (2, .resumeRequest p, decide (s.glb.mode = .dormant)),
        (4, .resetRequest p, decide (s.glb.mode = .halt ∨ s.glb.mode = .dormant))] →
      (s.inTransition = true → Completes c.2.1 s fun t => t.pwr.req = c.1 ∧ t.pwr.result = 4 ∧ Only [.pwr, .log] s t) ∧
      (s.inTransition = false → c.2.2 = false → Completes c.2.1 s fun t => t.pwr.req = c.1 ∧ t.pwr.result = 3 ∧ Only [.pwr, .log] s t)) ∧
    (s.inTransition = false → s.glb.mode = .service → s.pwr.stopped = [] → s.cfg.cluster = none ∨ s.brv.st ≠ .member →
      Completes (.dormantRequest p) s fun t => t.glb.admitting = false ∧ t.pwr.trans = some (.drain (s.now + 100000 * s.cfg.power.drainMs)) ∧
        t.pwr.req = 1 ∧ t.pwr.result = 2 ∧ t.glb.mode = .service ∧ Only [.glb, .pwr, .log] s t) ∧
    (s.inTransition = false → s.glb.mode = .dormant → Completes (.resumeRequest p) s fun t =>
      t.pwr.trans = some .resume ∧ t.pwr.req = 2 ∧ t.pwr.result = 2 ∧ t.glb.mode = .dormant ∧ t.rng.ready = false ∧
      t.lkm.tbl = s.lkm.tbl ∧ Only [.pwr, .rng, .log, .lkm, .wharf] s t) ∧
    (s.glb.mode ≠ .halt → s.glb.mode ≠ .sentry → Completes (.haltRequest p) s fun t =>
      t.glb.mode = .halt ∧ t.glb.prevMode = s.glb.mode ∧ t.glb.admitting = false ∧ t.pwr.flushing = true ∧ t.pwr.trans = none ∧
      t.pwr.halt = some (s.haltReport 3 0 0) ∧ t.pwr.result = 1 ∧ Only [.glb, .pwr, .rng, .log, .out, .wharf] s t) ∧
    (s.inTransition = false → s.glb.mode = .halt ∨ s.glb.mode = .dormant → Completes (.resetRequest p) s fun t =>
      t.glb.mode = .launch ∧ t.glb.prevMode = s.glb.mode ∧ t.pwr.epochState = .ended s.endCause ∧ t.pwr.launch = .notBegun ∧
      t.root.slots = s.root.slots ∧ t.len.keel = s.len.keel)) ∧
  (∀ (s : State) (limit : Nat), s.pwr.trans = some (.drain limit) →
    (s.drained = true → s.now ≤ limit → Completes .dormantDrainDone s fun t =>
      t.glb.mode = .dormant ∧ t.pwr.trans = none ∧ t.pwr.result = 1 ∧ t.sram = [] ∧ t.adm.permits = [] ∧ t.adm.comps = [] ∧
      t.pwr.grants = [] ∧ t.lcy.unlocked = none ∧ t.wharf.sessions = [] ∧ t.rng.ready = false ∧ t.slu.ready = false ∧
      ∀ d, d < 72 → (t.domAt d).st = dormantDomain d ∨ (t.domAt d).st = .failed) ∧
    (s.drained = false ∨ limit < s.now → exec .dormantDrainDone s = .next s) ∧
    (limit < s.now → Completes .drainTimeout s fun t =>
      t.glb = { s.glb with admitting := true } ∧ t.pwr.trans = none ∧ t.pwr.result = 5 ∧ Only [.glb, .pwr, .log] s t) ∧
    (s.now ≤ limit → exec .drainTimeout s = .next s)) ∧
  (∀ (s : State) (images : List Bytes) (lanes tiles engines : List Nat), s.pwr.trans = some .resume →
    let pass := (s.resumeChecked lanes tiles engines).selfTestsPass
    (s.imagesMatch images = true → pass = true →
      (s.rng.ready = true → Completes (.resumeComplete images true lanes tiles engines) s fun t =>
        t.glb.mode = .service ∧ t.glb.admitting = true ∧ t.pwr.trans = none ∧ t.pwr.result = 1 ∧ t.slu.ready = true ∧ t.slu.half0 = true ∧
        t.slu.half1 = true ∧ (∀ n ∈ lanes, (t.laneAt n).serves = false) ∧ ∀ n ∈ tiles, (t.tileAt n).serves = false) ∧
      (s.rng.ready = false → exec (.resumeComplete images true lanes tiles engines) s = .next s)) ∧
    (∀ trained, s.imagesMatch images = false ∨ trained = false ∨ pass = false →
      Completes (.resumeComplete images trained lanes tiles engines) s fun t =>
        t.glb.mode = .launch ∧ t.pwr.result = 7 ∧ t.pwr.epochState = .ended 3 ∧ t.pwr.trans = none)) ∧
  (∀ (s : State) (failed : List (Nat × Nat)), s.pwr.flushing = true → Completes (.haltFlushDone failed) s fun t =>
    t.pwr.flushing = false ∧ t.lkm.tbl = [] ∧ t.sram = [] ∧ t.mor.moorings = [] ∧ t.slu.lines = [] ∧ t.slu.keys = [] ∧ t.root.cr = none ∧
    t.wharf.sessions = [] ∧ t.adm.permits = [] ∧ (∀ r g, (r, g) ∈ s.rings → (t.ringAt r).relq = [] ∧ (t.ringAt r).inFlight = 0) ∧
    ∀ d, d < 72 → (t.domAt d).st = haltDomain d ∨ (t.domAt d).st = .failed)

/-- R370: where PF may write PWR and the selected function is valid and may be driven, STOP stops it: its open rings read STOPPED and no other function changes. CHANGE on it, STOPPED, opens its pending copy as its active one; while another function's copy is open REASON is 22. RESTART refuses a running function with 20 and, in SERVICE without a grant, 21; a pending copy that fails a check leaves the active copy, the function STOPPED and the check's code in REASON; one that passes is latched: the function runs, its grant is gone, REASON is 0 and MR7 is extended. While a RESTART of the gate tables waits for its barriers RESTART reads 1, and a write of 1 changes nothing (R6, R301). -/
def Obligations.FunctionsStopChangeRestart : Prop :=
  ∀ s : State, let f := s.pwr.fnSel
    s.vis .pf 0xD = .full → fnValid f = true →
    (s.fnGranted f = true →
      (s.fnStopped f = false → Completes .fnStop s fun t =>
        t.fnStopped f = true ∧ (∀ g, g ≠ f → t.fnStopped g = s.fnStopped g) ∧
        (∀ r, t.ringAt r = if r / 1024 = f ∧ (s.ringAt r).st = .opened then { s.ringAt r with st := .stopped } else s.ringAt r) ∧
        Only [.pwr, .rings, .brv] s t) ∧
      (s.fnStopped f = true →
        exec .fnStop s = .next s ∧
        (s.pwr.pend = none ∨ (∃ m, s.pwr.pend = some (f, m)) →
          exec .fnChange s = .next { s with pwr := { s.pwr with pend := some (f, s.cfg), fnBuf := [], fnBufLen := 0 } }) ∧
        (∀ g m, s.pwr.pend = some (g, m) → g ≠ f →
          exec .fnChange s = .next { s with pwr := { s.pwr with reasons := Tbl.put f 22 s.pwr.reasons } }) ∧
        (∀ m m', s.pwr.pend = some (f, m) → s.bufApplied f m = some m' → f ≠ 0x39 ∨ s.pwr.restarting = [] →
          (s.restartReason f m' = 0 → Completes .fnRestart s fun t =>
            t.cfg = m' ∧ t.fnStopped f = false ∧ t.pwr.grants.contains f = false ∧ t.pwr.pend = none ∧ tget 1 f t.pwr.reasons = 0 ∧
            t.mr 7 = Config.shake256 (s.mr 7 ++ Config.shake256 (Config.measureItem 7 [1, f] []) 64) 64) ∧
          (s.restartReason f m' ≠ 0 → Completes .fnRestart s fun t =>
            t.cfg = s.cfg ∧ t.fnStopped f = true ∧ tget 0 f t.pwr.reasons = s.restartReason f m' ∧
            Only [.pwr, .glb, .out, .wharf] s t))) ∧
      (s.fnStopped f = false → exec .fnChange s = .next s ∧ (f ≠ 0x39 ∨ s.pwr.restarting = [] → Completes .fnRestart s fun t =>
        tget 0 f t.pwr.reasons = 20 ∧ t.cfg = s.cfg ∧ Only [.pwr, .glb, .out, .wharf] s t))) ∧
    (s.fnGranted f = false → f ≠ 0x39 ∨ s.pwr.restarting = [] → Completes .fnRestart s fun t =>
      tget 0 f t.pwr.reasons = 21 ∧ t.cfg = s.cfg ∧ Only [.pwr, .glb, .out, .wharf] s t) ∧
    (f = 0x39 → s.pwr.restarting ≠ [] → exec .fnRestart s = .next s)

/-- R377: a policy-gated domain of a family above its floor, idle for IDLE_US, is GATED; at the floor FLOOR_HELD counts the refusal and the domain stays ON (its idle time starts again: the model's reading, log 52). A GATED domain that work needs wakes and counts it; 30 µs later, its self-check passed, it is ON. R376: a domain without power-good 100 µs after its ramp is FAILED. R378: the target voltage lies in 650 to 850 mV in steps of 5 and goes out when it changes; a reading is recorded. R379: a droop stretches the clock and is counted once until the stretch ends. R380, R381: the hottest sensor's reading sets TEMP.MAX; a lower fraction takes effect at once and counts a step; the fraction is whole again after 10 ms below 97 °C (both steps at once: the model's reading, log 51). The cap's fraction goes a step down after 1 ms above the cap and a step up after 10 ms below it less 2 W. -/
def Obligations.PowerLoopsAct : Prop :=
  (∀ (s : State) (d : Nat) (family : List Nat) (floor : Nat), let x := s.domAt d
    s.gateFamily d = some (family, floor) → s.serving = true →
    (0 < s.cfg.power.idleUs → x.st = .on → s.domainBusy d = false → x.idleFrom + 100 * s.cfg.power.idleUs ≤ s.now →
      (floor < (family.countP fun q => decide ((s.domAt q).st = .on)) → Completes (.domainIdleGate d) s fun t =>
        t.domAt d = { x with st := .gated } ∧ (∀ q, q ≠ d → t.domAt q = s.domAt q) ∧ Only [.pwr, .sram, .cph, .hsh] s t) ∧
      ((family.countP fun q => decide ((s.domAt q).st = .on)) ≤ floor → Completes (.domainIdleGate d) s fun t =>
        t.domAt d = { x with idleFrom := s.now } ∧ t.pwr.floorHeld = satAdd 16 s.pwr.floorHeld 1 ∧
        Only [.pwr, .log, .glb, .out, .wharf] s t)) ∧
    (x.st = .gated → s.wakeWanted d = true →
      exec (.domainWake d) s = .next (s.setDom d { x with st := .waking, wakes := x.wakes + 1, since := s.now })) ∧
    (x.st = .waking → x.since + 3000 ≤ s.now → Completes (.domainWakeDone d true) s fun t =>
      t.domAt d = { x with st := .on, idleFrom := s.now } ∧ Only [.pwr, .cph, .bgn, .cores] s t)) ∧
  (∀ (s : State) (d : Nat), (s.domAt d).st = .waking → (s.domAt d).since + 10000 ≤ s.now → s.pwr.trans ≠ some .resume →
    Completes (.domainPowerFail d) s fun t => (t.domAt d).st = .failed) ∧
  (∀ (s : State) (mv ma10 : Nat), let w := s.cfg.power.capW
    s.clock.mainPower = true →
    Completes .avsUpdate s (fun t => 650 ≤ t.pwr.targetMv ∧ t.pwr.targetMv ≤ 850 ∧ t.pwr.targetMv % 5 = 0 ∧
      t.out = (if t.pwr.targetMv = s.pwr.targetMv then s.out else s.out ++ [.avs t.pwr.targetMv]) ∧ Only [.pwr, .out] s t) ∧
    exec (.supplyReading mv ma10) s = .next { s with pwr := { s.pwr with
      measMv := mv % 2 ^ 16
      current := ma10 % 2 ^ 16
      aboveFrom := if 0 < w ∧ 100000 * w < mv * ma10 then s.pwr.aboveFrom.or (some s.now) else none
      belowFrom := if 0 < w ∧ mv * ma10 < 100000 * (w - 2) then s.pwr.belowFrom.or (some s.now) else none } } ∧
    (s.pwr.stretching = false → exec .droopDetect s =
      .next { s with pwr := { s.pwr with stretching := true, stretches := satAdd 32 s.pwr.stretches 1 } }) ∧
    (s.pwr.stretching = true → exec .droopDetect s = .next s) ∧
    exec .stretchEnd s = .next { s with pwr := { s.pwr with stretching := false } } ∧
    (∀ temps : List Int, temps.length = 8 → Completes (.thermalSample temps) s fun t =>
      (∀ x ∈ temps, x ≤ t.pwr.tempMax) ∧ temps[t.pwr.tempSensor]? = some t.pwr.tempMax ∧
      (thermalFraction t.pwr.tempMax < s.pwr.thermal →
        t.pwr.thermal = thermalFraction t.pwr.tempMax ∧ t.pwr.steps = satAdd 16 s.pwr.steps 1) ∧
      (s.pwr.thermal ≤ thermalFraction t.pwr.tempMax → t.pwr.thermal =
        if t.pwr.tempMax < 388 ∧ (s.pwr.coolFrom.getD s.now) + 1000000 ≤ s.now then 8 else s.pwr.thermal) ∧
      Only [.pwr, .glb, .log, .out, .wharf] s t) ∧
    (w = 0 → exec .powerCapStep s = .next { s with pwr := { s.pwr with cap := 8, aboveFrom := none, belowFrom := none } }) ∧
    (∀ since, w ≠ 0 → s.pwr.aboveFrom = some since → since + 100000 ≤ s.now → 1 < s.pwr.cap →
      Completes .powerCapStep s fun t => t.pwr.cap = capLower s.pwr.cap ∧ t.pwr.steps = satAdd 16 s.pwr.steps 1 ∧
        Only [.pwr, .glb, .log, .out, .wharf] s t) ∧
    (∀ since, w ≠ 0 → s.pwr.aboveFrom = none → s.pwr.belowFrom = some since → since + 1000000 ≤ s.now → s.pwr.cap < 8 →
      exec .powerCapStep s = .next { s with pwr := { s.pwr with cap := capHigher s.pwr.cap, belowFrom := some s.now } }))

/-! ### The Wharf, the pins and register accesses -/

/-- R387: with the link up, a function-level reset of a VF acts on its rings, one of the PF and a hot reset on those of every function: a CLOSED one has its bases and sizes cleared, any other is DRAINING with nothing at its port; the rings of no reset function keep their state, and the reset functions lose bus mastership (the model's reading, log 47). Clearing VF Enable does the same to all of them and ends the VFs. R386: a link that goes down outside DORMANT is counted and faults every OPEN PCIe ring with CQ_WRITE, and changes no other ring; it comes up with an enabled and powered endpoint that no loopback holds. R446: an input pin takes its new level, whose change has no other effect on the pins without a use; a drive-presence pin tells whether a drive is seated. R399: a START that the PF may write and whose conditions hold begins a loopback with RESULT 1; one whose conditions fail has RESULT 4 and begins none. DURATION_MS later a loopback at a depth below 3 ends with RESULT 2 without errors and 3 with some, and its counts, one at depth 3 with RESULT 5; the interface's link trains again, an enabled Broviry link's among them. In DRYDOCK with the endpoint STOPPED the endpoint follows its partner's loopback with its link down. -/
def Obligations.PcieFunctionsResetAndLink : Prop :=
  (∀ (s : State) (i : Instr) (p : Nat → Bool), s.wharf.pcieUp = true →
    ((∃ fn, i = .functionLevelReset fn ∧ p = fun f => fn == 0 || f == fn) ∨ (i = .hotReset ∧ p = fun _ => true) ∨
      (i = .vfEnableClear ∧ p = fun _ => true)) →
    Completes i s fun t =>
      (∀ r ∈ s.pcieRings p,
        ((s.ringAt r).st = .closed → (t.ringAt r).st = .closed ∧ (t.ringAt r).sqBase = 0 ∧ (t.ringAt r).sqLog = 0 ∧
          (t.ringAt r).cqBase = 0 ∧ (t.ringAt r).cqLog = 0 ∧ (t.ringAt r).msixVec = 0) ∧
        ((s.ringAt r).st ≠ .closed → (t.ringAt r).st = .draining ∧ (t.ringAt r).port = [] ∧ (t.ringAt r).flr = true)) ∧
      (∀ r, r ∉ s.pcieRings p → (t.ringAt r).st = (s.ringAt r).st) ∧
      (i ≠ .vfEnableClear → t.wharf.bme = s.wharf.bme.filter fun f => !p f) ∧ (i = .vfEnableClear → t.wharf.vfs = 0)) ∧
  (∀ s : State, s.wharf.pcieUp = true → s.glb.mode ≠ .dormant → Completes .pcieLinkDown s fun t =>
    t.wharf = { s.wharf with pcieUp := false, gen := 0, width := 0, linkDowns := satAdd 16 s.wharf.linkDowns 1, vfs := 0, bme := [] } ∧
    (∀ r ∈ s.pcieRings fun _ => true, (s.ringAt r).st = .opened → (t.ringAt r).st = .faulted ∧ (t.ringAt r).err = 5) ∧
    (∀ r, (s.ringAt r).st ≠ .opened → t.ringAt r = s.ringAt r) ∧ Only [.wharf, .rings] s t) ∧
  (∀ (s : State) (i : IfaceCfg) (gen width vfs : Nat) (bme : List Nat) (masked : List (Nat × Nat)), s.cfg.iface = some i →
    i.pcieEnable = true → s.wharf.loop = none → s.clock.mainPower = true → (s.domAt 55).st = .on →
    exec (.pcieLinkUp gen width vfs bme masked) s = .next { s with wharf := { s.wharf with
      pcieUp := true, gen := min gen i.pcieGen, width := min width i.pcieWidth, vfs := min vfs i.vfCount
      bme := bme.filter fun f => decide (f ≤ min vfs i.vfCount), masked := masked } }) ∧
  (∀ (s : State) (pin : Nat) (level : Bool), s.wharf.gpio.getLsbD pin ≠ level →
    (pin ∈ [8, 9, 10, 11, 14, 15] → exec (.gpioInputChange pin level) s =
      .next { s with wharf := { s.wharf with gpio := s.wharf.gpio ^^^ BitVec.ofNat 16 (2 ^ pin) } }) ∧
    (pin = 2 ∨ pin = 5 → Completes (.gpioInputChange pin level) s fun t =>
      t.wharf = { s.wharf with gpio := s.wharf.gpio ^^^ BitVec.ofNat 16 (2 ^ pin) } ∧ Only [.wharf, .log] s t) ∧
    (pin = 12 ∨ pin = 13 → s.clock.mainPower = true → Completes (.gpioInputChange pin level) s fun t =>
      t.wharf.gpio = s.wharf.gpio ^^^ BitVec.ofNat 16 (2 ^ pin) ∧ (t.drive (pin - 12)).present = !level) ∧
    (pin = 0 ∨ pin = 3 → s.clock.mainPower = true → level = true → Completes (.gpioInputChange pin level) s fun t =>
      t.wharf.gpio = s.wharf.gpio ^^^ BitVec.ofNat 16 (2 ^ pin) ∧ t.ethUp (pin / 3) = false ∧
      ∀ n x, Tbl.find n t.wharf.sessions = some x → x.port ≠ pin / 3)) ∧
  (∀ (s : State) (v : W64), s.vis .pf 0x1 = .full → s.wharf.loop = none → wbit 0 v = true → Completes (.loopbackStart v) s fun t =>
    t.wharf.loopMs = wbits 63 32 v ∧ t.wharf.loopIface = wbits 19 16 v ∧ t.wharf.loopDepth = wbits 9 8 v ∧
    (s.loopAllowed (wbits 19 16 v) (wbits 9 8 v) (wbits 63 32 v) = true →
      t.wharf.loop = some ⟨s.now, wbits 63 32 v, wbits 19 16 v, wbits 9 8 v⟩ ∧ t.wharf.loopResult = 1) ∧
    (s.loopAllowed (wbits 19 16 v) (wbits 9 8 v) (wbits 63 32 v) = false →
      t.wharf.loop = none ∧ t.wharf.loopResult = 4 ∧ Only [.wharf] s t)) ∧
  (∀ (s : State) (l : LoopRun) (checked errors : Nat), s.wharf.loop = some l → l.since + 100000 * l.ms ≤ s.now →
    Completes (.loopbackEnd checked errors) s fun t =>
      t.wharf.loop = none ∧
      (l.depth ≠ 3 → t.wharf.loopResult = (if errors = 0 then 2 else 3) ∧ t.wharf.loopChecked = checked % 2 ^ 32 ∧
        t.wharf.loopErrors = min errors 65535) ∧
      (l.depth = 3 → t.wharf.loopResult = 5 ∧ t.wharf.loopChecked = 0 ∧ t.wharf.loopErrors = 0) ∧
      (∀ i, l.iface = 4 + i → i < 4 → (s.cfg.cluster.map fun c => s.linkEnabled c i).getD false = true → (t.linkAt i).st = .training) ∧
      (l.iface < 3 ∨ 7 < l.iface → Only [.wharf] s t) ∧ Only [.wharf, .brv, .free] s t) ∧
  (∀ s : State, s.glb.mode = .drydock → s.pwr.stopped.contains 0x28 = true → Completes (.partnerLoopback 0) s fun t =>
    t.wharf.partnerLoop = true ∧ t.wharf.pcieUp = false ∧ Only [.wharf, .rings] s t)

/-- R389: on a port that is up and not STOPPED a connection becomes the next session and is answered, or with 4,096 sessions is reset; a control packet is answered from the port's MAC address and counted, at most 1,000 in a second; a connection 60 s without traffic is probed. R390: a ClientHello on a session without a transcript fails the handshake where it is not acceptable or names no enabled protocol; where it is acceptable with a key share, the server key resident and the draw served, the server flight goes out and the transcript holds both; R391: the client's flight opens the session for its tenant where chain and Finished verify, and fails it with no chain or one of more than three certificates. A failed or late handshake is counted and the session is gone. A KeyUpdate takes the next receive key; a closed session is gone and its rings are bound to none. -/
def Obligations.TcpAndTlsSessions : Prop :=
  (∀ (s : State) (port : Nat), s.ethUp port = true → let n := s.wharf.sessionNext
    (port < 2 → s.pwr.stopped.contains (0x29 + port) = false →
      (4096 ≤ s.wharf.sessions.length → exec (.tcpConnect port) s = .next { s with out := s.out ++ [.tcp port n 1] }) ∧
      (s.wharf.sessions.length < 4096 → exec (.tcpConnect port) s = .next { s with
        wharf := { s.wharf with sessions := Tbl.put n { port := port, traffic := s.now } s.wharf.sessions, sessionNext := n + 1 }
        out := s.out ++ [.tcp port n 0] })) ∧
    (let sec := s.now / 100000000
     let c := tget (sec, 0) port s.wharf.control
     let k := if c.1 = sec then c.2 else 0
     (k < 1000 → exec (.controlPacket port) s = .next { s with
       wharf := { s.wharf with control := Tbl.put port (sec, k + 1) s.wharf.control }, out := s.out ++ [.control port (s.macOf port)] }) ∧
     (1000 ≤ k → exec (.controlPacket port) s = .next s))) ∧
  (∀ (s : State) (n : Nat) (x : Session), Tbl.find n s.wharf.sessions = some x →
    (x.traffic + 6000000000 ≤ s.now → exec (.tcpKeepalive n) s = .next { s with out := s.out ++ [.tcp x.port n 3] }) ∧
    (x.stage = .opened → exec (.tlsKeyUpdate n) s = .next { s with wharf := { s.wharf with sessions := (Tbl.put n
      { x with rxKey := Config.tlsTrafficKey x.rxKey (x.rxGen + 4), rxGen := x.rxGen + 1, traffic := s.now } s.wharf.sessions) } }) ∧
    Completes (.tlsSessionClose n) s (fun t => Tbl.find n t.wharf.sessions = none ∧
      (∀ r, t.ringAt r = if (s.ringAt r).bound = some n then { s.ringAt r with bound := none } else s.ringAt r) ∧
      t.out = s.out ++ [.tls n 3, .tcp x.port n 2] ∧ Only [.wharf, .rings, .out] s t) ∧
    (∀ since, x.stage = .handshake since → since + 100000 * (s.cfg.iface.map (·.hsMs)).getD 0 ≤ s.now →
      Completes (.handshakeTimeout n) s fun t => Tbl.find n t.wharf.sessions = none ∧
        t.wharf.hsFailed = satAdd 16 s.wharf.hsFailed 1 ∧ Only [.wharf, .rings, .out] s t) ∧
    (∀ (i : IfaceCfg) (hello : Bytes), s.cfg.iface = some i → x.stage ≠ .opened → x.transcript = [] →
      let known := (Config.helloAlpn hello == 2 && i.ltpV2) || (Config.helloAlpn hello == 1 && i.ltpV1)
      Completes (.tlsClientHello n hello) s fun t =>
        (Config.helloOk hello = false ∨ known = false → Tbl.find n t.wharf.sessions = none ∧
          t.wharf.hsFailed = satAdd 16 s.wharf.hsFailed 1) ∧
        (∀ bs, Config.helloOk hello = true → known = true → Config.helloShare hello = true → s.resident i.serverKey = true →
          (s.draw 80 64).1 = .bytes bs → ∃ y, Tbl.find n t.wharf.sessions = some y ∧ y.transcript = hello ++ bs ∧ y.stage ≠ .opened ∧
            y.v2 = (Config.helloAlpn hello == 2) ∧ t.out = s.out ++ [.tls n 0])) ∧
    (∀ (i : IfaceCfg) (since : Nat) (chain : List Bytes) (flight : Bytes), s.cfg.iface = some i → x.stage = .handshake since →
      x.transcript ≠ [] → Completes (.clientFinished n chain flight) s fun t =>
        (chain = [] ∨ 3 < chain.length → Tbl.find n t.wharf.sessions = none ∧ t.wharf.hsFailed = satAdd 16 s.wharf.hsFailed 1) ∧
        (∀ tenant, chain ≠ [] → chain.length ≤ 3 → tenant < 4096 → Config.tlsFinishedOk (x.transcript ++ flight) = true →
          Config.tlsClientTenant (chain.flatMap fun c => toLE 4 c.length ++ c) i.anchors i.oid s.calendarNow = some tenant →
          ∃ y, Tbl.find n t.wharf.sessions = some y ∧ y.stage = .opened ∧ y.tenant = tenant ∧ y.transcript = [])))

/-- R394: on an open session a BIND of an LTP ring of its tenant that is open binds it with its credits counted anew, of a CLOSED one with a legal size that fits opens it first; of a ring without a record or on PCIe, of another tenant, or DRAINING, it is answered with code 1, 2 or 4 and binds nothing. UNBIND unbinds, and with CLOSE closes. R395, R397: a barge of a bound ring with a credit, its input of the right length, joins the port of an OPEN ring and takes the credit; of a ring that is not OPEN it is completed RING_CLOSED (R54); without a credit it is ERROR 3, on a ring not bound to the session ERROR 2. An acknowledgement that the checks of R48 accept advances CQ_HEAD, frees the store and returns its credits in a CREDIT message. R57: an abort treats the ring's admitted barges, all or those of the SEQ. R396: a malformed message is ERROR 1 and ends the session. -/
def Obligations.LtpRingsAndMessages : Prop :=
  ∀ (s : State) (n r : Nat) (x : Session), s.openSession n = some x → let g := s.ringAt r
    let isLtp := (Tbl.find r s.cfg.rings).isSome = true ∧ (s.ringCfg r).transport = 1
    (∀ cqLog,
      (isLtp → (s.ringCfg r).tenant = x.tenant →
        (g.st ≠ .closed → g.st ≠ .draining → Completes (.bind n r cqLog) s fun t =>
          t.ringAt r = { g with bound := some n, received := 0, creditLimit := BitVec.ofNat 32 (credits g) } ∧
          (∀ q, q ≠ r → t.ringAt q = s.ringAt q) ∧ Only [.rings, .wharf, .out] s t) ∧
        (g.st = .closed → 4 ≤ cqLog → cqLog ≤ 17 → g.held < 2 ^ cqLog → s.storeFits cqLog = true →
          Completes (.bind n r cqLog) s fun t => (t.ringAt r).st = .opened ∧ (t.ringAt r).bound = some n ∧ (t.ringAt r).cqLog = cqLog ∧
            (t.ringAt r).cqHead = 0 ∧ (t.ringAt r).cqTail = 0 ∧ Only [.rings, .wharf, .out] s t)) ∧
      (∀ code, (¬ isLtp ∧ code = 1) ∨ (isLtp ∧ (s.ringCfg r).tenant ≠ x.tenant ∧ code = 2) ∨
          (isLtp ∧ (s.ringCfg r).tenant = x.tenant ∧ g.st = .draining ∧ code = 4) →
        Completes (.bind n r cqLog) s fun t => (∃ body, t.out = s.out ++ [.ltp n 0x02 r code body]) ∧ Only [.wharf, .out] s t)) ∧
    (g.bound = some n →
      (∀ close, Completes (.unbind n r close) s fun t => (t.ringAt r).bound = none ∧
        (close = true → g.st = .opened ∨ g.st = .stopped ∨ g.st = .faulted → (t.ringAt r).st = .draining ∧ (t.ringAt r).port = []) ∧
        (close = false → (t.ringAt r).st = g.st) ∧ (∀ q, q ≠ r → t.ringAt q = s.ringAt q) ∧ Only [.rings, .wharf] s t) ∧
      (∀ barge input : Bytes, let b := bargeOfBytes barge
        x.v2 = true → barge.length = 64 + 64 * b.lighters → input.length = (if b.buf then b.inLen else 0) → input.length ≤ 16777216 →
        (hasCredit g = true → Completes (.ltpBarge n r barge input) s fun t =>
          (∀ q, q ≠ r → t.ringAt q = s.ringAt q) ∧
          (g.st = .opened → Only [.rings, .wharf] s t ∧ t.ringAt r =
            { g with received := g.received + 1, port := g.port ++ [⟨b, if b.buf then some input else none, false⟩] }) ∧
          (g.st ≠ .opened → Only [.rings, .wharf, .out] s t ∧ t.ringAt r = { g with received := g.received + 1 } ∧
            t.out = s.out ++ [.ltp n 0x11 r 0 (ltpCompBody { failComp b.seq stRingClosed with time := s.now % 2 ^ 32 }
              (phaseOf g.cqTail.toNat g.cqLog) none false)])) ∧
        (hasCredit g = false → Completes (.ltpBarge n r barge input) s fun t =>
          t.out = s.out ++ [.ltp n 0x20 r 3 []] ∧ t.wharf.ltpErrors = satAdd 16 s.wharf.ltpErrors 1 ∧ Only [.wharf, .out] s t)) ∧
      (∀ descriptor params input : Bytes, let d := fixLen 32 descriptor
        let h := match g.v1Last with
          | some last => if le 4 2 d < last then (g.v1High + 1) % 65536 else g.v1High
          | none => g.v1High
        let b := v1Barge h d params
        x.v2 = false → le 2 1 d < 2 → le 3 1 d ≤ 24 → params.length = 8 * le 3 1 d → le 28 4 d ≤ 65536 →
        input.length = (if b.buf then b.inLen else 0) → hasCredit g = true → g.st = .opened →
        Completes (.ltpV1Barge n r descriptor params input) s fun t =>
          t.ringAt r = { g with v1High := h, v1Last := some (le 4 2 d), received := g.received + 1
                                port := g.port ++ [⟨b, if b.buf then some input else none, true⟩] } ∧ Only [.rings, .wharf] s t) ∧
      (∀ head, let k := diff32 head g.cqHead
        let limit := g.creditLimit + BitVec.ofNat 32 k
        cqReject g head = none → 0 < k → Completes (.ltpAck n r head) s fun t =>
          t.ringAt r = { g with cqHead := head, store := g.store.drop k, creditLimit := limit } ∧
          t.out = s.out ++ [.ltp n 0x13 r limit.toNat []] ∧ (∀ q, q ≠ r → t.ringAt q = s.ringAt q) ∧ Only [.rings, .wharf, .out] s t) ∧
      (∀ arg, exec (.ltpAbort n r arg) s = .next
        (((s.lkm.tbl.filter fun e => decide (e.2.ring = r) && e.2.origin.isNone && (wbit 63 arg || decide (e.2.b.seq = wbits 31 0 arg))
            && e.2.open).map Prod.fst).foldl (fun (t : State) (i : Nat) => t.abortBarge i) (s.sessionTraffic n)))) ∧
    (g.bound ≠ some n → ∀ i, (∃ head, i = Instr.ltpAck n r head) ∨ (∃ arg, i = .ltpAbort n r arg) → Completes i s fun t =>
      t.out = s.out ++ [.ltp n 0x20 r 2 []] ∧ t.wharf.ltpErrors = satAdd 16 s.wharf.ltpErrors 1 ∧ Only [.wharf, .out] s t) ∧
    Completes (.ltpMalformedMessage n) s (fun t => Tbl.find n t.wharf.sessions = none ∧
      t.wharf.ltpErrors = satAdd 16 s.wharf.ltpErrors 1 ∧ Only [.rings, .wharf, .out] s t)

/-- R6, R25: in SERVICE or DRYDOCK a PF write of GLB_INT_STATUS clears exactly the causes written 1, and one of GLB_INT_ENABLE sets the enables; a write of a CLOSED ring's submission base stores its fields; one of a block that SERVICE hides changes nothing but the log (R22). Of every path that answers: an aligned write to a block that the path may write is the write of that register with the addressed half or halves (R4), one to a block that it may only read and one to unassigned space change nothing, one to a block it does not reach changes only the log; a VF writes the entries of its own rings, and a towpath target only PWR_MODE_REQ. A write of a register that has a command of its own is that command (loopback, diagnostics, raw source, pin edits, Yuhild, latches, seek, mode and function requests, barriers, ring OPEN, CLOSE and ABORT), and one of a plain register stores its fields (pin handle, selection and record buffer, telemetry window, Yuhild response, views, threshold, rate limits, completion base). R4: a misaligned access is logged, a write of it is discarded, and a read returns zero. R16: a read of GLB_TIME's low half returns it and latches the high half for the path. R400: a towpath read recorded by its limit returns the register's data, otherwise it stays outstanding and past the limit it times out and is counted; a towpath write of PWR_MODE_REQ is its request, any other is discarded, one at an offset that is no multiple of 8 with a log record (R4). R332: with debug OPEN a read of a cluster SRAM word that is not HELD returns its data; R306: a HELD word of a held buffer reads as zero and is counted; in PRODUCTION without an unlock a read outside the LCY registers returns zero and is a DEBUG_ATTEMPT event. -/
def Obligations.RegistersByAccess : Prop :=
  (∀ (s : State) (v : W64) (r : Nat), s.clock.mainPower = true → s.glb.mode = .service ∨ s.glb.mode = .drydock →
    Completes (.registerWrite .pf 0x20 8 v) s (fun t =>
      t.glb = { s.glb with intStatus := s.glb.intStatus &&& ~~~(v.setWidth 6) } ∧ Only [.glb, .out, .wharf] s t) ∧
    Completes (.registerWrite .pf 0x28 8 v) s (fun t => t.glb = { s.glb with intEnable := v.setWidth 6 } ∧ Only [.glb, .out, .wharf] s t) ∧
    (r < 16384 → (s.ringAt r).st = .closed → exec (.registerWrite .pf (0x800000 + 64 * r) 8 v) s =
      .next (s.setRing r { s.ringAt r with sqBase := 4096 * wbits 42 12 v, sqLog := wbits 4 0 v })) ∧
    (s.glb.mode = .service → Completes (.registerWrite .pf 0x40000 8 v) s fun t => Only [.log] s t)) ∧
  (∀ (s : State) (p : Path) (addr size : Nat) (v : W64), s.answers p = true →
    (aligned addr size = false → Completes (.registerWrite p addr size v) s fun t => Only [.log] s t) ∧
    (aligned addr size = true →
      (∀ b, p = .pf ∨ p = .debug → regBlock (addr - addr % 8) = some b →
        (s.vis p b = .full → exec (.registerWrite p addr size v) s =
          .next (s.writeReg p (addr - addr % 8) (accessValue addr size v) (accessMask addr size))) ∧
        (s.vis p b = .read → exec (.registerWrite p addr size v) s = .next s) ∧
        (s.vis p b = .hidden → Completes (.registerWrite p addr size v) s fun t => Only [.log] s t)) ∧
      (p = .pf ∨ p = .debug → regBlock (addr - addr % 8) = none → exec (.registerWrite p addr size v) s = .next s) ∧
      (∀ n r, p = .vf n → 0 < n → n ≤ s.wharf.vfs → s.serving = true → 0x10000 ≤ addr →
        (s.pcieRings (· == n))[(addr - addr % 8 - 0x10000) / 64]? = some r → exec (.registerWrite p addr size v) s =
          .next (s.writeRing r ((addr - addr % 8) % 64) (accessValue addr size v) (accessMask addr size))) ∧
      (isTowpath p = true → addr - addr % 8 ≠ 0xD0000 → exec (.registerWrite p addr size v) s = .next s))) ∧
  (∀ (s : State) (v : W64), s.answers .pf = true →
    (∀ a b i, (a, b, i) ∈ [(0x10200, 0x1, Instr.loopbackStart v), (0x40800, 0x4, .cphDiagEnable v), (0x40808, 0x4, .cphDiagCmd v 0),
        (0x50800, 0x5, .hshDiagEnable v), (0x50808, 0x5, .hshDiagCmd v), (0x60800, 0x6, .bgnDiagEnable v), (0x60808, 0x6, .bgnDiagCmd v 0),
        (0x70800, 0x7, .rawSourceSelect v), (0xB0008, 0xB, .yuhildRequest (v.setWidth 4)), (0xC0010, 0xC, .latchClearWrite v),
        (0xF0020, 0xF, .logCursorSeek v)] →
      s.vis .pf b = .full → exec (.registerWrite .pf a 8 v) s = exec i s) ∧
    (∀ a b i, (a, b, i) ∈ [(0x30058, 0x3, Instr.pinAdd), (0xB0010, 0xB, .yuhildSubmit), (0xD0108, 0xD, .fnStop)] →
      s.vis .pf b = .full → v = 1 → exec (.registerWrite .pf a 8 v) s = exec i s) ∧
    (s.vis .pf 0x3 = .full → exec (.registerWrite .pf 0x30058 8 2) s = exec .pinRemove s ∧
      exec (.registerWrite .pf 0x30050 8 v) s = .next { s with mor := { s.mor with pinHandle := v } }) ∧
    (s.vis .pf 0xD = .full → exec (.registerWrite .pf 0xD0108 8 2) s = exec .fnChange s ∧
      exec (.registerWrite .pf 0xD0108 8 4) s = exec .fnRestart s ∧
      (∀ c, c ∈ [(1, Instr.dormantRequest .pf), (2, .resumeRequest .pf), (3, .haltRequest .pf), (4, .resetRequest .pf)] → wbits 2 0 v = c.1 →
        exec (.registerWrite .pf 0xD0000 8 v) s = exec c.2 s) ∧
      (fnValid (wbits 7 0 v) = true →
        exec (.registerWrite .pf 0xD0100 8 v) s = .next { s with pwr := { s.pwr with fnSel := wbits 7 0 v } }) ∧
      (s.pwr.pend.isSome = true →
        exec (.registerWrite .pf 0xD0118 8 v) s = .next { s with pwr := { s.pwr with fnBufLen := wbits 12 0 v } } ∧
        ∀ k, k < 512 → exec (.registerWrite .pf (0xD1000 + 8 * k) 8 v) s =
          .next { s with pwr := { s.pwr with fnBuf := Tbl.put k v s.pwr.fnBuf } })) ∧
    (s.vis .pf 0x2 = .full →
      exec (.registerWrite .pf 0x20020 8 v) s = .next { s with lkm := { s.lkm with telWindow := wbits 1 0 v } }) ∧
    (s.vis .pf 0xB = .full → ∀ w, w < 23 → exec (.registerWrite .pf (0xB0200 + 8 * w) 8 v) s =
      .next { s with lcy := { s.lcy with resp := Tbl.put w v s.lcy.resp } }) ∧
    (s.vis .pf 0x9 = .full →
      exec (.registerWrite .pf 0x90008 8 v) s = .next { s with gte := { s.gte with viewPending := wbit 0 v } } ∧
      ∀ g, g < 120 → exec (.registerWrite .pf (0x90400 + 8 * g) 8 1) s = exec (.gateBarrier g) s) ∧
    (s.vis .pf 0xF = .full →
      exec (.registerWrite .pf 0xF0018 8 v) s = .next { s with log := { s.log with threshold := wbits 63 56 v } } ∧
      ∀ c, c < 1024 → exec (.registerWrite .pf (0xF2000 + 8 * c) 8 v) s = .next { s with log := { s.log with
        rates := Tbl.put c { tget {} c s.log.rates with refill := wbits 15 8 v, capacity := wbits 7 0 v } s.log.rates } }) ∧
    (∀ r, s.vis .pf 0x80 = .full → r < 16384 →
      ((s.ringAt r).st = .closed → exec (.registerWrite .pf (0x800000 + 64 * r + 8) 8 v) s =
        .next (s.setRing r { s.ringAt r with cqBase := 4096 * wbits 42 12 v, cqLog := wbits 4 0 v })) ∧
      (wbit 0 v = true → exec (.registerWrite .pf (0x800000 + 64 * r + 0x30) 8 v) s = exec (.ringOpen r v) s) ∧
      (wbit 0 v = false → wbit 1 v = true → exec (.registerWrite .pf (0x800000 + 64 * r + 0x30) 8 v) s = exec (.ringClose r v) s) ∧
      (wbit 63 v = true → exec (.registerWrite .pf (0x800000 + 64 * r + 0x38) 8 v) s = exec (.abortAll r) s) ∧
      (wbit 63 v = false → exec (.registerWrite .pf (0x800000 + 64 * r + 0x38) 8 v) s = exec (.abortSeq r (wbits 31 0 v)) s))) ∧
  (∀ (s : State) (p : Path) (addr size : Nat), s.answers p = true → aligned addr size = false →
    Completes (.misalignedRegisterAccess p true addr size) s (fun t => Only [.log] s t) ∧
    Completes (.misalignedRegisterAccess p false addr size) s (fun t => t.out = s.out ++ [.regData p addr 0] ∧ Only [.log, .out] s t)) ∧
  (∀ (s : State) (p : Path), s.answers p = true → s.reads p 0 = true → exec (.glbTimeLowRead p) s = .next { s with
    clock := { s.clock with latched := Tbl.put (pathNumber p) (BitVec.ofNat 32 (s.now / 2 ^ 32)) s.clock.latched }
    out := s.out ++ [.regData p 0x10 (BitVec.ofNat 64 (s.now % 2 ^ 32))] }) ∧
  (∀ (s : State) (p : Path) (addr : Nat) (v : W64), s.clock.mainPower = true → isTowpath p = true →
    (s.wharf.towRead p = none →
      Completes (.towpathRead p addr true) s (fun t =>
        t.out = s.out ++ [.regData p (addr % 2 ^ 24) (s.towData p (addr % 2 ^ 24)).1] ∧ t.wharf.towRead p = none) ∧
      exec (.towpathRead p addr false) s = .next (s.setTow p (some ⟨addr % 2 ^ 24, s.towLimit p⟩))) ∧
    (∀ rd, s.wharf.towRead p = some rd → rd.limit < s.now → Completes (.towpathReadTimeout p) s fun t =>
      t.wharf.towRead p = none ∧ t.out = s.out ++ [.towTimeout p] ∧
      (p = .smbus → t.wharf.smbTimeouts = satAdd 32 s.wharf.smbTimeouts 1) ∧
      (p = .spi → t.wharf.spiTimeouts = satAdd 32 s.wharf.spiTimeouts 1) ∧ Only [.wharf, .out] s t) ∧
    (∀ c, c ∈ [(1, Instr.dormantRequest p), (2, .resumeRequest p), (3, .haltRequest p), (4, .resetRequest p)] → wbits 2 0 v = c.1 →
      exec (.towpathWrite p 0xD0000 v) s = exec c.2 s) ∧
    (addr % 8 = 0 → addr ≠ 0xD0000 → exec (.towpathWrite p addr v) s = .next s) ∧
    (addr % 8 ≠ 0 → Completes (.towpathWrite p addr v) s fun t => Only [.log] s t)) ∧
  (∀ (s : State) (addr : Nat) (v : W64) (ecc : Bool), s.clock.mainPower = true → lcyAddress addr = false →
    (s.lcs ≠ .production → targetOf addr = some .clusterSram →
      ((s.wordAt addr).cls ≠ .held →
        exec (.debugAccess false addr v ecc) s = .next (s.emit (.debugData addr (s.wordAt addr).delivered.data))) ∧
      (∀ k i w, heldPlace addr = some (k, i) → (s.coreAt k).heldSt = .holding → (s.coreAt k).held[i]? = some w → w.cls = .held →
        exec (.debugAccess false addr v ecc) s = .next
          ({ s with gte := { s.gte with heldReads := satAdd 16 s.gte.heldReads 1 } }.emit (.debugData addr 0)))) ∧
    (s.lcs = .production → s.lcy.unlocked = none →
      exec (.debugAccess false addr v ecc) s = .next ((s.alarmEvent 23).emit (.debugData addr 0))))

/-! ### Broviry links and clusters -/

/-- R402, R292: on a link that is UP or STOPPED of a device in a cluster, a frame with a bad CRC or out of sequence is answered with a NAK and changes nothing else; one whose MAC differs takes the link DOWN with reason 8; a good heartbeat, with nothing waiting to be sent, is acknowledged, advances LSEQ and counter and is recorded. A NAK has the frames from its LSEQ on sent again, and the ninth in a row takes the link DOWN with reason 6. R403, R406: a link that fails to train is DOWN with reason 1; one whose partner passes every check comes UP, or STOPPED with its function, keyed with that partner; 1 ms after it went down an enabled link whose function runs trains again; every link that is up sends a heartbeat each 10 µs, and without one for the limit is DOWN with reason 7. R419: time sync is sent each 10 µs; a device other than the coordinator that is behind or ahead records the offset and corrects its time by a tick; while the cluster forms it jumps forward to a time ahead of its own. -/
def Obligations.BroviryLinksCarryFrames : Prop :=
  (∀ (s : State) (c : ClusterCfg) (l : Nat) (f : Frame) (acked : Nat), let k := s.linkAt l
    s.cfg.cluster = some c → k.st = .up ∨ k.st = .stopped →
    let mac := frameMac k.rxKeys k.rxCtr (frameHeader f.typ f.vc f.src f.dst f.lseq f.used) f.payload
    (f.crcOk = false ∨ f.lseq ≠ k.rxSeq → exec (.linkFrameReceive l f acked) s = .next { s with out := s.out ++ [.linkAck l k.rxSeq true] }) ∧
    (f.crcOk = true → f.lseq = k.rxSeq →
      (f.mac ≠ mac → Completes (.linkFrameReceive l f acked) s fun t => (t.linkAt l).st = .down ∧ (t.linkAt l).reason = 8) ∧
      (f.mac = mac → f.typ = 0x01 → f.dst = 0xFF → k.waiting = [] → k.rxCtr + 1 < 2 ^ 48 → k.txCtr < 2 ^ 48 →
        Completes (.linkFrameReceive l f acked) s fun t =>
          (t.linkAt l).rxSeq = (k.rxSeq + 1) % 2 ^ 16 ∧ (t.linkAt l).rxCtr = k.rxCtr + 1 ∧ (t.linkAt l).heartbeat = s.now ∧
          t.out = s.out ++ [.linkAck l f.lseq false] ∧ (∀ q, q ≠ l → t.linkAt q = s.linkAt q) ∧ Only [.brv, .out] s t))) ∧
  (∀ (s : State) (l lseq : Nat), let k := s.linkAt l
    k.st = .up ∨ k.st = .stopped →
    (∀ p before after, k.replays < 8 → k.unacked = before ++ p :: after → p.1.lseq = lseq → (∀ q ∈ before, q.1.lseq ≠ lseq) →
      exec (.nakReceived l lseq) s = .next ((s.setLink l { k with
        unacked := p :: after, replays := k.replays + 1, retries := satAdd 16 k.retries 1 }).emits
          ((p :: after).map fun q => Emit.frame l q.1))) ∧
    (8 ≤ k.replays → Completes (.nakReceived l lseq) s fun t => (t.linkAt l).st = .down ∧ (t.linkAt l).reason = 6) ∧
    (k.heartbeat + 10000 < s.now → Completes (.heartbeatTimeout l) s fun t => (t.linkAt l).st = .down ∧ (t.linkAt l).reason = 7) ∧
    (s.now ≤ k.heartbeat + 10000 → exec (.heartbeatTimeout l) s = .next s)) ∧
  (∀ (s : State) (c : ClusterCfg) (l : Nat) (p : PeerHello), let k := s.linkAt l
    s.cfg.cluster = some c → s.linkEnabled c l = true →
    (k.st = .training →
      Completes (.linkUpAttempt l false p) s (fun t => (t.linkAt l).st = .down ∧ (t.linkAt l).reason = 1 ∧ Only [.brv, .log] s t) ∧
      Completes (.linkUpAttempt l true p) s (fun t => ∀ sent z digest s1,
        s.attest c (neighbourOf c l) p = (some (sent, .inr (z, digest)), s1) → s1.timeAhead p = false →
          ((t.linkAt l).st = if s.pwr.stopped.contains (0x2C + l) then .stopped else .up) ∧ (t.linkAt l).peer = p.index)) ∧
    (k.st = .down → k.downFrom + 100000 ≤ s.now → s.pwr.stopped.contains (0x2C + l) = false →
      exec (.linkUpRetry l) s = .next (s.setLink l { k with st := .training }))) ∧
  (∀ s : State, let sent (t : State) (typ : Nat) (body : Bytes) : Prop := ∀ l ∈ s.linksUp, (s.linkAt l).waiting = [] →
      (s.linkAt l).unacked.length < 128 → (s.linkAt l).txCtr < 2 ^ 48 → Emit.frame l ((s.linkAt l).frame ⟨typ, 0, s.index, 0xFF, body⟩) ∈ t.out
    (s.brv.hbSent + 1000 ≤ s.now → Completes .heartbeatSend s fun t =>
      t.brv.hbSent = s.now ∧ sent t 0x01 [] ∧ Only [.brv, .out] s t) ∧
    (s.brv.syncSent + 1000 ≤ s.now → Completes .timeSyncSend s fun t =>
      t.brv.syncSent = s.now ∧ sent t 0x02 (toLE 8 s.now) ∧ Only [.brv, .out] s t)) ∧
  (∀ (s : State) (l masterTime delay : Nat), let k := s.linkAt l
    k.st = .up ∨ k.st = .stopped → s.brv.coord ≠ s.index → Completes (.timeSyncReceive l masterTime delay) s fun t =>
      (t.linkAt l).delay = delay ∧ Only [.brv, .clock] s t ∧
      (s.brv.st = .forming → t.clock = { s.clock with dtime := max s.now (masterTime + delay) }) ∧
      (s.brv.st ≠ .forming → t.brv.offset = 10 * ((s.now : Int) - ((masterTime + delay : Nat) : Int)) ∧
        (s.now ≠ masterTime + delay → s.clock.corrected = 0 ∨ s.clock.corrected + 1000 ≤ s.now →
          t.clock = { s.clock with correct := some (if s.now < masterTime + delay then 2 else 0), corrected := s.now } ∧
          t.brv.corrections = s.brv.corrections + 1)))

/-- R408, R416: on a founded cluster the next map update, in its switch tick, advances the map version and gives the members, the coordinator and the map the update makes: a bucket homed on a lost device fails over to its replica, one replicated there is DEGRADED, one with no holder left is UNAVAILABLE. R416, R418: the next head in line that hears of a member's halt declares it lost, and the coordinator returns a resynced bucket to NORMAL, by an update 2,000 ticks on; a joining device forgets the keys it founded and asks to join. R411, R412: an eligible barge whose home is another member leaves for it with a credit and its chamber entry; the home takes it at its link's port and admits it when it may. R413, R417: once a switch whose tick has passed is settled, the completion of a forwarded barge returns the credit and finishes it with FORWARDED set; a late one is counted; an abort frame treats the head's barges of the ring. R407, R414: a partner that passes every check gives a pair key; a record that verifies is committed here and acknowledged; the last acknowledgement has the home commit. -/
def Obligations.ClustersShareBuckets : Prop :=
  (∀ (k : Bucket) (n b d : Nat),
    (k.home = d → k.replica ≠ 0xFF → k.replica ≠ d → k.lose n b d = ⟨k.replica, 0xFF, .failedOver⟩) ∧
    (k.home = d → k.replica = 0xFF → k.lose n b d = ⟨0xFF, 0xFF, .unavailable⟩) ∧
    (k.home ≠ d → k.replica = d → k.lose n b d = ⟨k.home, 0xFF, .degraded⟩)) ∧
  (∀ (s : State) (c : ClusterCfg), s.cfg.cluster = some c →
    (∀ (u : MapUpdate) (rest : List MapUpdate), s.brv.updates = u :: rest → u.tick ≤ s.now → s.brv.st ≠ .withdrawn → s.brv.settle = none →
      s.brv.mapVersion ≠ 0 → u.lost.contains c.index = false → Completes .mapSwitch s fun t =>
        let away := u.lost ++ u.leaving
        let live := (s.members.filter fun d => !away.contains d) ++ u.joined
        t.brv.updates = rest ∧ t.brv.mapVersion = (s.brv.mapVersion + 1) % 2 ^ 16 ∧ t.brv.map = mapAfter (c.x * c.y) u s.brv.map ∧
        t.brv.live = BitVec.ofNat 64 (maskOf live) ∧ t.brv.coord = (lowestHead c live).getD 0xFF) ∧
    (∀ (d : Nat) (w : Bool), s.brv.st = .member → s.isMember d = true → s.deciding d = false →
      lowestHead c (s.members.filter (· != d)) = some c.index → Completes (.haltNoticeReceive d w) s fun t =>
        t.brv.updates = s.brv.updates ++ [⟨[d], [], [], [], s.now + 2000⟩] ∧ Only [.brv, .out, .log] s t) ∧
    (∀ b : Nat, s.brv.st = .member → (s.bucketAt b).st = .resync → s.brv.coord = c.index →
      (s.brv.updates.any fun u => u.resynced.contains b) = false → Completes (.resyncComplete b) s fun t =>
        t.brv.updates = s.brv.updates ++ [⟨[], [], [], [b], s.now + 2000⟩] ∧ Only [.brv, .out, .log] s t) ∧
    (s.brv.st = .forming ∨ s.brv.st = .joining ∨ s.brv.st = .left → Completes .clusterJoin s fun t =>
      t.brv.st = .joining ∧ t.brv.linked = [] ∧ t.brv.updates = [] ∧
      ∀ p ∈ t.mor.store, foundingHome (c.x * c.y) (bucketOf p.1) ≠ c.index ∧ foundingReplica (c.x * c.y) (bucketOf p.1) ≠ c.index) ∧
    (∀ (dev : Nat) (p : PeerHello), s.brv.st = .member → s.isMember dev = true → dev ≠ c.index → Completes (.pairKeyAgree dev p) s fun t =>
      ∀ sent z digest s1, s.attest c (some dev) p = (some (sent, .inr (z, digest)), s1) →
        Tbl.find dev t.brv.pairs = some (fixLen 32 (Config.kmac256 z digest 256 (ascii "LT7200-PAIR")))) ∧
    (∀ (i d : Nat) (e : Entry) (bs : Bytes) (r : XferReturn), s.entryAt i = some e → s.glb.mode = .service → s.brv.st = .member →
      e.origin = none → s.eligible i e = true → s.runsAt e.tenant e.b e.input = .device d → s.isMember d = true →
      s.hasCredit c d = true → e.input = some bs → Completes (.forwardBarge i r) s fun t =>
        t.entryAt i = some { e with ph := .forwarded d, chamber := s.takesChamber i e } ∧ t.brv.forwarded = s.brv.forwarded + 1 ∧
        tget 0 d t.brv.fwdUsed = tget 0 d s.brv.fwdUsed + 1 ∧ Only [.lkm, .brv, .out] s t) ∧
    (∀ (l : Nat) (fb : FwdBarge), s.glb.mode = .service → s.brv.st = .member → s.isMember fb.head = true → c.heads.contains fb.head = true →
      (s.glb.admitting = false → exec (.forwardedBargeReceive l fb) s = .next { s with
        brv := { s.brv with ports := Tbl.put l (tget [] l s.brv.ports ++ [fb]) s.brv.ports } }) ∧
      (s.glb.admitting = true → s.quiesced = false → Completes (.forwardedBargeReceive l fb) s fun t =>
        t.lkm.nextOrder = s.lkm.nextOrder + 1))) ∧
  (∀ (o : State) (home ring seq : Nat) (comp : Comp) (out : Option Bytes), let s := o.settled
    (∀ i e, s.forwardedAt home ring seq = some (i, e) → (s.ringCfg ring).transport ≠ 0 ∨ out = none →
      exec (.forwardedCompletionReceive home ring seq comp out) o = .next
        (State.finish { s with brv := { s.brv with fwdUsed := Tbl.put home (tget 0 home s.brv.fwdUsed - 1) s.brv.fwdUsed } } i
          { comp with seq := seq, forwarded := true, epoch := false } out)) ∧
    (s.forwardedAt home ring seq = none → s.askingAt home ring seq = none →
      exec (.forwardedCompletionReceive home ring seq comp out) o = .next { s with brv := { s.brv with late := satAdd 16 s.brv.late 1 } })) ∧
  (∀ (s : State) (head ring : Nat) (arg : W64), exec (.abortFrameReceive head ring arg) s = .next
    (((s.lkm.tbl.filter fun x => (match x.2.origin with
        | some o => decide (o.head = head) && decide (o.ring = ring) && (wbit 63 arg || decide (x.2.b.seq = wbits 31 0 arg))
        | none => false) && x.2.open).map Prod.fst).foldl (fun (t : State) (i : Nat) => t.abortBarge i) s)) ∧
  (∀ (s : State) (dev : Nat) (record : Bytes), Completes (.replicationReceive dev record) s fun t =>
    (∀ bs, s.unseal dev record = some bs → s.storeUp = true → ∃ c, t.mor.gathered = s.mor.gathered ++ [c] ∧ c.replicated = true ∧
      c.changes = (s.commitOf bs).changes ∧ (c.opcode ≠ 0 → c.ack = some (dev, c.number)) ∧ Only [.mor] s t) ∧
    (s.unseal dev record = none ∨ s.storeUp = false → Only [.log] s t)) ∧
  (∀ (s : State) (dev number : Nat) (c : Commit), s.brv.awaiting = [(c, dev)] → c.number = number → s.storeUp = true →
    Completes (.replicationAckReceive dev number) s fun t =>
      t.brv.awaiting = [] ∧ t.brv.replicated = s.brv.replicated + 1 ∧ t.mor.gathered = s.mor.gathered ++ [{ c with replicated := true, joined := s.now }] ∧
      Only [.mor, .brv] s t)

/-! ### Services -/

/-- R82, R93 to R98, R103, R104, R110, R111: a barge of each opcode of groups 0x01, 0x02 and 0x03 that its core runs on this device passes the opcode's checks in order and then leaves exactly its own outcome, its keys loaded and its cycles spent, and nothing else changed: a PIN written in the output format (PIN_TRANSLATE, DUKPT_PIN_TRANSLATE, PIN_GENERATE), the comparison with REF or the new reference value (PIN_VERIFY, OFFSET_GENERATE, PVV_GENERATE, PIN_CHANGE), the sealed mailer record, the CVV, the CVC3, the DUKPT MAC or the initial key's block; a PIN block that does not read as a PIN ends PIN_BLOCK_ERROR. A check that fails leaves its status, no output and no other change. -/
def Obligations.PinAndCardServicesAnswer : Prop :=
  ∀ (o : State) (k : Nat) (r : Run),
    let s := o.noted r
    let a := pinArgs (r.lighter 0)
    let t0 := s.isTdes r.b.h0
    let one := s.loadKeys [r.b.h0]
    let two := s.loadKeys [r.b.h0, r.b.h1]
    let o3624 : PinOp := { refOffset := true, m3624 := true }
    let oPvv : PinOp := { refPvv := true, mPvv := true }
    let pinAnswer (f h : Nat) (pin : Option (List Nat)) (pan fill : List Nat) : Outcome := match pin with
      | none => failed stPinBlock
      | some pin => answered (writePin f (s.isTdes h) (s.keyOf h) pin pan fill)
    (Runs o k 0x0100 r → Ends (.pinTranslate k r.hw) o s r (s.translateChecks r ++ s.lanes r)
      (let pin := s.pinIn r a.blockA
       drawnValues (two.poolValues r (fillByte a.outFmt) (fillNeed a.outFmt (pin.getD [0, 0, 0, 0]).length) 256 {}) s r
         (if pin.isNone then stPinBlock else stEntropy) fun fill p s1 =>
           (s1.spend k (translateCycles t0 (s.isTdes r.b.h1) + p.cost)).leave r (pinAnswer a.outFmt r.b.h1 pin a.pan fill))) ∧
    (Runs o k 0x0101 r → Ends (.pinVerify3624 k r.hw) o s r (s.referenceChecks o3624 "VC" r ++ s.lanes r)
      ((two.spend k (if t0 then 7200 else 7900)).leave r (match s.pinIn r a.blockA with
        | none => failed stPinBlock
        | some pin => if a.checkLen ≤ pin.length ∧ s.offsetOf r pin = a.ref.take 6 then answered [] else failed stVerifyFail))) ∧
    (Runs o k 0x0102 r → Ends (.pinVerifyPvv k r.hw) o s r (s.referenceChecks oPvv "VC" r ++ s.lanes r)
      ((two.spend k (if t0 then 7200 else 7900)).leave r (match s.pinIn r a.blockA with
        | none => failed stPinBlock
        | some pin => if s.pvvFor r pin = a.ref.take 2 then answered [] else failed stVerifyFail))) ∧
    (Runs o k 0x0103 r → Ends (.offsetGenerate k r.hw) o s r (s.referenceChecks { m3624 := true } "GC" r ++ s.lanes r)
      ((two.spend k (if t0 then 7200 else 7900)).leave r (match s.pinIn r a.blockA with
        | none => failed stPinBlock
        | some pin => if pin.length < a.checkLen then failed stPinBlock else answered (s.offsetOf r pin)))) ∧
    (Runs o k 0x0104 r → Ends (.pvvGenerate k r.hw) o s r (s.referenceChecks { mPvv := true } "GC" r ++ s.lanes r)
      ((two.spend k (if t0 then 7200 else 7900)).leave r (match s.pinIn r a.blockA with
        | none => failed stPinBlock
        | some pin => answered (s.pvvFor r pin)))) ∧
    (Runs o k 0x0105 r → Ends (.pinChange3624 k r.hw) o s r (s.referenceChecks { o3624 with change := true } "C" r ++ s.lanes r)
      ((two.spend k (if t0 then 11800 else 13200)).leave r (match s.pinIn r a.blockA, s.pinIn r a.blockB with
        | some old, some new =>
          if new.length < a.checkLen then failed stPinBlock
          else if a.checkLen ≤ old.length ∧ s.offsetOf r old = a.ref.take 6 then answered (s.offsetOf r new) else failed stVerifyFail
        | _, _ => failed stPinBlock))) ∧
    (Runs o k 0x0106 r → Ends (.pinChangePvv k r.hw) o s r (s.referenceChecks { oPvv with change := true } "C" r ++ s.lanes r)
      ((two.spend k (if t0 then 11800 else 13200)).leave r (match s.pinIn r a.blockA, s.pinIn r a.blockB with
        | some old, some new => if s.pvvFor r old = a.ref.take 2 then answered (s.pvvFor r new) else failed stVerifyFail
        | _, _ => failed stPinBlock))) ∧
    (Runs o k 0x0107 r → Ends (.pinGenerate k r.hw) o s r (s.pinGenerateChecks r ++ s.lanes r)
      (drawnValues (one.poolValues r pinDigit a.checkLen 256 {}) s r stEntropy fun pin p s1 =>
        drawnValues (s1.poolValues r (fillByte a.outFmt) (fillNeed a.outFmt pin.length) 256 p) s r stEntropy fun fill q s2 =>
          (s2.spend k ((if t0 then 5200 else 6100) + q.cost)).leave r (pinAnswer a.outFmt r.b.h0 (some pin) a.pan fill))) ∧
    (Runs o k 0x0108 r → Ends (.pinMailer k r.hw) o s r (s.mailerChecks r ++ s.lanes r) (match s.pinIn r a.blockA with
      | none => (two.spend k (if t0 then 10400 else 11100)).leave r (failed stPinBlock)
      | some pin => nonced (s.issueNonce r.b.h1) r [r.b.h0, r.b.h1] fun n s1 =>
          ((s1.loadKeys [r.b.h0, r.b.h1]).spend k (if t0 then 10400 else 11100)).leave r (withOutput r (s.mailerRecord r pin n)))) ∧
    (Runs o k 0x0200 r → Ends (.cvvGenerate k r.hw) o s r (s.cvvChecks false r ++ s.lanes r)
      ((one.spend k 5700).leave r (answered (s.cvvFor r)))) ∧
    (Runs o k 0x0201 r → Ends (.cvvVerify k r.hw) o s r (s.cvvChecks true r ++ s.lanes r)
      ((one.spend k 5700).leave r (if s.cvvFor r = slice 16 2 (r.lighter 0) then answered [] else failed stVerifyFail))) ∧
    (Runs o k 0x0202 r → Ends (.cvc3Verify k r.hw) o s r (s.cvc3Checks r ++ s.lanes r)
      ((one.spend k 9400).leave r
        (if s.cvc3For r = (nibbles (slice 22 3 (r.lighter 0))).take (le 13 1 (r.lighter 0)) then answered [] else failed stVerifyFail))) ∧
    (Runs o k 0x0300 r → Ends (.dukptInitialKeyExport k r.hw) o s r (s.dukptExportChecks r ++ s.lanes r)
      (drawn (s.drawFor r 32) s r fun pad s1 =>
        ((s1.loadKeys [r.b.h0, r.b.h1]).spend k (if t0 then 17200 else 16000 + 900 * dukptBlocks false (s.labelOf r.b.h0).size)).leave r
          (withOutput r (s.dukptBlock r pad) (kcvOf t0 (s.dukptInitial r))))) ∧
    (Runs o k 0x0301 r → Ends (.dukptPinTranslate k r.hw) o s r (s.dukptPinChecks r ++ s.lanes r)
      (let f := le 29 1 (r.lighter 0)
       let pin := s.dukptPin r
       drawnValues (two.poolValues r (fillByte f) (fillNeed f (pin.getD [0, 0, 0, 0]).length) 256 {}) s r
         (if pin.isNone then stPinBlock else stEntropy) fun fill p s1 =>
           (s1.spend k ((if t0 then 7500 else 9000) + s.dukptCost r + p.cost)).leave r
             (pinAnswer f r.b.h1 pin (dukptPan (r.lighter 0)) fill))) ∧
    (Runs o k 0x0302 r → Ends (.dukptMacVerify k r.hw) o s r (s.dukptMacChecks r ++ s.lanes r)
      ((one.spend k ((if t0 then 6500 else 8000) + s.dukptCost r
          + if t0 then 90 * ceilDiv r.input.length 8 else 60 * ceilDiv r.input.length 16)).leave r
        (if s.dukptMac r = slice 48 (le 28 1 (r.lighter 0)) (r.lighter 0) then answered [] else failed stVerifyFail)))

/-- R114, R121, R122, R125, R126, R129 to R131, R133, R134: a barge of each opcode of groups 0x04, 0x05, 0x06, 0x0A and 0x0B that its core runs on this device passes the opcode's checks in order and then leaves exactly its own outcome: the ARQC's verdict and the ARPC, the script's MAC or cipher text, the MAC or its verdict, the cipher's output under the mode and nonce, random bytes, the digest; output that does not fit its buffer ends BAD_LENGTH with the length needed. A hash, HMAC or KMAC waits for a free engine (R222), a GCM decryption for the held buffer (R217). R226, R254: LANE_DIAG, HASH_DIAG and TILE_DIAG wait while another context, holder or job has the unit and then leave the words their stream put out, or fail where a word may not leave, the others leaving unless the gate refuses the transfer (R303, R308); the unit is back in service as it was. -/
def Obligations.DataServicesAnswer : Prop :=
  ∀ (o : State) (k : Nat) (r : Run),
    let s := o.noted r
    let l := r.lighter 0
    let a := emvArgs l
    let t0 := s.isTdes r.b.h0
    let one := s.loadKeys [r.b.h0]
    let n := r.input.length
    let out (x : List TWord × State) : State := match egressStatus x.1, r.fits (8 * x.1.length) with
      | some st, true =>
        let y := (x.2.spend k 4000).stopOutput r x.1
        y.2.endService r (if y.1 then ⟨st, [], 8 * x.1.length, some (egressed x.1)⟩ else failed st) none
      | _, _ => (x.2.spend k 4000).endService r (withOutput r (wordsBytes x.1)) none
    (Runs o k 0x0400 r → Ends (.arqcVerify k r.hw) o s r (s.arqcChecks false r ++ s.lanes r)
      ((one.spend k (a.arqcCycles false t0)).leave r (if s.arqcOf r = a.arqc then answered [] else failed stVerifyFail))) ∧
    (Runs o k 0x0401 r → Ends (.arqcVerifyArpc k r.hw) o s r (s.arqcChecks true r ++ s.lanes r)
      ((one.spend k (a.arqcCycles true t0)).leave r
        (if s.arqcOf r = a.arqc then answered (a.arpc t0 (s.emvKey r (a.atc ++ zeros 6))) else failed stVerifyFail))) ∧
    (Runs o k 0x0402 r → Ends (.scriptMac k r.hw) o s r (s.scriptChecks true r ++ s.lanes r)
      ((one.spend k (a.scriptCycles t0 (paddedBlocks t0 2 n))).leave r (answered (s.scriptMac r)))) ∧
    (Runs o k 0x0403 r → r.fits (scriptLen t0 n) = true → Ends (.scriptEncrypt k r.hw) o s r (s.scriptChecks false r ++ s.lanes r)
      ((one.spend k (a.scriptCycles t0 (scriptLen t0 n / blockLen t0))).leave r (withOutput r (s.scriptOut r)))) ∧
    (Runs o k 0x0500 r → le 2 1 l ≤ 16 ∨ r.fits (le 2 1 l) = true →
      (s.macWaits r = false → Ends (.macGenerate k r.hw) o s r (s.macChecks false r ++ s.macUnits r)
        ((s.macWork r).leave r (if le 2 1 l ≤ 16 then answered (s.macFor r) else withOutput r (s.macFor r)))) ∧
      (s.macWaits r = true → Ends (.macGenerate k r.hw) o s r (s.macChecks false r) s)) ∧
    (Runs o k 0x0501 r →
      (s.macWaits r = false → Ends (.macVerify k r.hw) o s r (s.macChecks true r ++ s.macUnits r)
        ((s.macWork r).leave r
          (if s.macFor r = slice 0 (le 2 1 l) (r.lighter 1) then answered [] else failed stVerifyFail))) ∧
      (s.macWaits r = true → Ends (.macVerify k r.hw) o s r (s.macChecks true r) s)) ∧
    (Runs o k 0x0500 r → (s.macWork r).coreAt k = (one.spend k (macCycles (le 0 1 l) (le 1 1 l) n)).coreAt k) ∧
    (Runs o k 0x0600 r → r.fits (cipherLen true r) = true → Ends (.encrypt k r.hw) o s r (s.cipherChecks true r ++ s.lanes r)
      (if le 0 1 l < 2 then (one.spend k (s.cipherCost true r)).leave r (s.cipherAnswer true r [])
       else nonced (s.issueNonce r.b.h0) r [r.b.h0] fun nonce s1 =>
         ((s1.loadKeys [r.b.h0]).spend k (s.cipherCost true r)).leave r (s.cipherAnswer true r nonce))) ∧
    (Runs o k 0x0601 r → r.fits (cipherLen false r) = true → let gcm := le 0 1 l = 3
      (¬ gcm ∨ (s.coreAt k).heldSt ≠ .zeroing → Ends (.decrypt k r.hw) o s r (s.cipherChecks false r ++ s.lanes r)
        (((one.spend k (s.cipherCost false r)).heldAfter k (decide gcm)).leave r (s.cipherAnswer false r []))) ∧
      (gcm → (s.coreAt k).heldSt = .zeroing → Ends (.decrypt k r.hw) o s r (s.cipherChecks false r) s)) ∧
    (∀ i e, (i = .scriptEncrypt k r.hw ∧ Runs o k 0x0403 r ∧ e = (s.scriptChecks false r, scriptLen t0 n)) ∨
        (i = .macGenerate k r.hw ∧ Runs o k 0x0500 r ∧ 16 < le 2 1 l ∧ e = (s.macChecks false r, le 2 1 l)) ∨
        (i = .encrypt k r.hw ∧ Runs o k 0x0600 r ∧ e = (s.cipherChecks true r, cipherLen true r)) ∨
        (i = .decrypt k r.hw ∧ Runs o k 0x0601 r ∧ e = (s.cipherChecks false r, cipherLen false r)) ∨
        (i = .hash k r.hw ∧ Runs o k 0x0B00 r ∧ 16 < hashLen l ∧ e = (s.hashChecks r, hashLen l)) →
      r.fits e.2 = false → Ends i o s r e.1 (s.leave r ⟨stBadLength, [], e.2, none⟩)) ∧
    (Runs o k 0x0A00 r → Ends (.randomBytes k r.hw) o s r (s.randomChecks r)
      (drawn (s.drawFor r (randomLen r.b)) s r fun bs s1 =>
        (s1.spend k (3000 + 20 * ceilDiv (randomLen r.b) 16)).leave r (if r.b.buf then withOutput r bs else answered bs))) ∧
    (Runs o k 0x0B00 r → hashLen l ≤ 16 ∨ r.fits (hashLen l) = true → Ends (.hash k r.hw) o s r (s.hashChecks r)
      (if s.freeEngines (le 0 1 l) = [] then s
       else
         let m := hashCycles (le 0 1 l) n (hashLen l) (le 4 1 l + le 5 1 l)
         ((s.spend k (3500 + m)).engineWork (le 0 1 l) m).leave r
           (if hashLen l ≤ 16 then answered (hashFor r) else withOutput r (hashFor r)))) ∧
    (∀ mism, Runs o k 0x0F10 r → r.hw = {} →
      Ends (.laneDiag k mism) o s r (diagChecks r (decide (diagUnit r < 68) && decide ((s.laneAt (diagUnit r)).st ≠ .diag)))
        (if s.ctxsOn (diagUnit r) ≠ [] then s else out (s.laneDiagRun r mism)) ∧
      ((s.laneDiagRun r mism).2.laneAt (diagUnit r)).st = (s.laneAt (diagUnit r)).st ∧
      ((s.laneDiagRun r mism).2.laneAt (diagUnit r)).slots = []) ∧
    (Runs o k 0x0F11 r → r.hw = {} →
      Ends (.hashDiag k) o s r
          (diagChecks r ((isKeccak (diagUnit r) || isSha2 (diagUnit r)) && decide ((s.engAt (diagUnit r)).st ≠ .diag)))
        (if (s.engAt (diagUnit r)).holder.isSome then s else out (s.hashDiagRun r)) ∧
      (s.hashDiagRun r).2.engAt (diagUnit r) = { st := (s.engAt (diagUnit r)).st }) ∧
    (∀ mism, Runs o k 0x0F12 r → r.hw = {} →
      Ends (.tileDiag k mism) o s r (diagChecks r (decide (diagUnit r < 26) && decide ((s.tileAt (diagUnit r)).st ≠ .diag)))
        (if s.jobsOn (diagUnit r) ≠ [] ∨ (s.tileAt (diagUnit r)).clearing ≠ [] then s else out (s.tileDiagRun r mism)) ∧
      ((s.tileDiagRun r mism).2.tileAt (diagUnit r)).st = (s.tileAt (diagUnit r)).st)

/-- R146, R149 to R157: a barge of each opcode of group 0x07 that its core runs on this device, its permit holding, passes the opcode's checks in order and then leaves exactly its own outcome and, where it makes or deletes a key, submits that one change: the generated, imported, joined or received key with its check value, the block or token written under the protecting key, a component session opened, given its next component or closed, a key deleted. A required handle position that is zero ends it BAD_FORMAT. A component session ends after its permit's NOT_AFTER. R60: a state-changing barge that is DONE reserves its audit record's 7 words and submits one commit of its changes and the keys its lane stored; without audit space it ends AUDIT_FULL, without room for its outcome entry KEY_LIMIT (R191), and commits nothing; nor does one whose output is poisoned or may not be released (R82, R307). The action a TR-34 export takes is the model's reading (log 23). -/
def Obligations.KeyServicesAnswer : Prop :=
  ∀ (o s1 : State) (k : Nat) (r : Run) (p : Option Permit),
    let s := o.noted r
    let l := labelAsked r
    (Runs o k 0x0700 r → Permitted s r 0x0001 false p s1 → Ends (.keyGenerate k r.hw) o s1 r (s1.keyGenerateChecks r ++ s1.lanes r)
      (drawn (s1.drawFor r l.size) s1 r fun bs s2 =>
        ((s2.spend k 9500).countLoads 1).endService r (answered (checkValue l (keyFrom l bs))) (some [s1.putKey l (keyFrom l bs)]))) ∧
    (Runs o k 0x0701 r → r.b.h0 ≠ 0 → Permitted s r 0x0002 false p s1 → Ends (.keyImport k r.hw) o s1 r (s1.keyImportChecks r ++ s1.lanes r)
      (let s2 := (s1.loadKeys [r.b.h0]).spend k (14000 + 60 * ceilDiv r.input.length 16)
       let l := importLabel r
       match firstFail (r.reads (s1.keyImportPlace r)) with
       | some st => s2.leave r (failed st)
       | none => (s2.countLoads 1).endService r (answered (checkValue l (s1.keyInBlock r l.size))) (some [s1.putKey l (s1.keyInBlock r l.size)]))) ∧
    (Runs o k 0x0702 r → r.b.h0 ≠ 0 → r.b.h1 ≠ 0 → Permitted s r (exportAction (s.labelOf r.b.h0).exportability) false p s1 →
      Ends (.keyExport k r.hw) o s1 r (s1.keyExportChecks r ++ s1.lanes r)
        (drawn ((s1.loadKeys [r.b.h0, r.b.h1]).drawFor r 32) s1 r fun pad s2 =>
          let out := s1.wrapAsBlock r r.b.h1 (s.labelOf r.b.h0) (s1.keyOf r.b.h0) pad
          (s2.spend k (14000 + 60 * ceilDiv out.length 16)).leave r (withOutput r out))) ∧
    (Runs o k 0x0703 r → r.b.h0 ≠ 0 → r.b.h1 ≠ 0 → Permitted s r (exportAction (headLabel r.input).exportability) false p s1 →
      Ends (.keyTranslate k r.hw) o s1 r (s1.keyTranslateChecks r ++ s1.lanes r)
        (let s2 := s1.loadKeys [r.b.h0, r.b.h1]
         if Config.keyBlockMacOk (s1.keyOf r.b.h0) r.input = false then s2.leave r (failed stVerifyFail)
         else drawn (s2.drawFor r 32) s1 r fun pad s3 =>
           let out := s1.wrapAsBlock r r.b.h1 (headLabel r.input) (s1.keyInBlock r (headLabel r.input).size) pad
           (s3.spend k (24000 + 120 * ceilDiv out.length 16)).leave r (withOutput r out))) ∧
    (Runs o k 0x0704 r → Ends (.keyCheckValue k r.hw) o s r (s.keyCheckChecks r ++ s.lanes r)
      (((s.loadKeys [r.b.h0]).spend k 4800).leave r (answered (checkValue (s.labelOf r.b.h0) (s.keyOf r.b.h0))))) ∧
    (Runs o k 0x0705 r → Permitted s r 0x0005 false p s1 → s1.adm.comps.countP (fun c => decide (s1.now ≤ c.notAfter)) < 16 →
      Ends (.componentOpen k r.hw) o s1 r (s1.componentOpenChecks r ++ s1.tiles r false false)
        (if r.fits 56 = false then s1.leave r ⟨stBadLength, [], 56, none⟩ else drawn (s1.drawFor r 56) s1 r fun x s2 =>
          let c := s1.newComponents r p x
          ((s2.spend k (12000 + Config.variableCycles 0x0705 0 [])).addComponents c).leave r
            (withOutput r (fixLen 56 (Config.x448Public x)) (toLE 4 c.number)))) ∧
    (∀ c, Runs o k 0x0706 r → s.componentFor r = some c → Ends (.componentAdd k r.hw) o s r
      (s.componentAddChecks r ++ s.lanes r ++ s.tiles r false false)
      (let s2 := s.spend k (12000 + 130000 + 242000)
       match c.openPart r.input with
       | none => s2.leave r (failed stVerifyFail)
       | some part => (s2.addPart c.number part).leave r (answered (checkValue c.label part)))) ∧
    (∀ c, Runs o k 0x0707 r → s.componentToClose r = some c → Ends (.componentClose k r.hw) o s r (s.componentCloseChecks r ++ s.lanes r)
      ((((s.spend k 12000).setComps (s.adm.comps.filter fun y => y.number != c.number)).countLoads 1).endService r
        (answered (checkValue c.label c.key)) (some [s.putKey c.label c.key]))) ∧
    (∀ n, exec (.componentSessionExpire n) s
      = .next (s.setComps (s.adm.comps.filter fun c => !(c.number == n && decide (c.notAfter < s.now))))) ∧
    (Runs o k 0x0708 r → r.b.h0 ≠ 0 → Permitted s r 0x0006 false p s1 →
      Ends (.keyDelete k r.hw) o s1 r (s1.keyDeleteChecks r)
        ((s1.spend k 6000).endService r (answered []) (some [.delete r.b.h0]))) ∧
    (Runs o k 0x0709 r → r.b.h0 ≠ 0 → r.b.h1 ≠ 0 → Permitted s r 0x0007 false p s1 →
      Ends (.tr34Import k r.hw) o s1 r (s1.tr34ImportChecks r ++ s1.tiles r true true)
      (let s2 := (s1.loadChains r.b.h0 r.b.h1).spend k (12000 + Config.variableCycles 0x0709 0 [])
       match s1.tr34Key r with
       | none => s2.leave r (failed stVerifyFail)
       | some (l, key) => match firstFail (r.reads (s1.tr34Place r l)) with
         | some st => s2.leave r (failed st)
         | none => (s2.countLoads 1).endService r (answered (checkValue l key)) (some [s1.putKey l key]))) ∧
    (Runs o k 0x070A r → r.b.h0 ≠ 0 → r.b.h1 ≠ 0 → r.b.h2 ≠ 0 →
      Permitted s r (exportAction (s.labelOf r.b.h0).exportability) false p s1 → Ends (.tr34Export k r.hw) o s1 r
        (s1.tr34ExportChecks r ++ s1.tiles r true true)
        (let s2 := ((s1.loadKeys [r.b.h0]).loadChains r.b.h1 r.b.h2).spend k
          (12000 + Config.variableCycles 0x070A 0 [])
         if s1.tr34Trusts r.b.h2 r.input = false then s2.leave r (failed stVerifyFail)
         else drawn (s2.drawFor r 64) s1 r fun rnd s3 => s3.leave r (withOutput r (s1.tr34Token r rnd)))) ∧
    (∀ i op, (i = .keyImport k r.hw ∧ op = 0x0701 ∧ r.b.h0 = 0) ∨ (i = .keyExport k r.hw ∧ op = 0x0702 ∧ (r.b.h0 = 0 ∨ r.b.h1 = 0)) ∨
        (i = .keyTranslate k r.hw ∧ op = 0x0703 ∧ (r.b.h0 = 0 ∨ r.b.h1 = 0)) ∨ (i = .keyDelete k r.hw ∧ op = 0x0708 ∧ r.b.h0 = 0) ∨
        (i = .tr34Import k r.hw ∧ op = 0x0709 ∧ (r.b.h0 = 0 ∨ r.b.h1 = 0)) ∨
        (i = .tr34Export k r.hw ∧ op = 0x070A ∧ (r.b.h0 = 0 ∨ r.b.h1 = 0 ∨ r.b.h2 = 0)) →
      Runs o k op r → Ends i o s r (s.keySteps r) (s.leave r (failed stBadFormat))) ∧
    (∀ (x : Outcome) (cs : List Change), x.status = stDone →
      (s.stands r x = true →
        let exempt := auditExempt r.b.opcode = true ∨ r.b.opcode = 0x0C75
        (exempt ∨ s.auditRoom 7 = true → r.b.opcode = 0x0C75 ∨ s.outcomeRoom = true → s.endService r x (some cs) =
          let s2 := { s with log := { s.log with reserved := s.log.reserved + 7 } }
          (s2.leave r x).submitCommit
            (s2.commitFor r.idx r.e (cs ++ (s.coreAt r.core).stored.map fun y => Change.put [y]))) ∧
        (¬ exempt → s.auditRoom 7 = false → s.endService r x (some cs) = s.leave r (failed stAuditFull)) ∧
        (exempt ∨ s.auditRoom 7 = true → r.b.opcode ≠ 0x0C75 → s.outcomeRoom = false →
          s.endService r x (some cs) = s.leave r (failed stKeyLimit))) ∧
      (s.stands r x = false → s.endService r x (some cs) = s.leave r x))

/-- R240, R242 to R252: a barge of each opcode of groups 0x08, 0x09 and 0x0D that its core runs on this device passes the opcode's checks in order and then leaves exactly its own outcome and, where it makes a key, submits the change that stores it: a new key pair's public key, a stored key's public part, a signature that has passed its self check, a signature's verdict, RSA-OAEP's ciphertext or plaintext, the check value of an agreed or decapsulated key, a ciphertext with the key encapsulated, the signed report, a certificate. Output that would not fit its buffer ends BAD_LENGTH with the length needed. -/
def Obligations.AsymmetricServicesAnswer : Prop :=
  ∀ (o s1 : State) (k : Nat) (r : Run) (p : Option Permit),
    let s := o.noted r
    let a := asymArgs (r.lighter 0)
    let l := labelNext r
    let h := s.labelOf r.b.h0
    let pk := s.pubKey r a
    let commit (n : Nat) (c : Change) : Option (List Change) := if r.fits n then some [c] else none
    (∀ i op algs, (i = .asymKeygen k r.hw ∧ op = 0x0800 ∧ algs = ["R", "E"]) ∨ (i = .pqKeygen k r.hw ∧ op = 0x0900 ∧ algs = ["M", "Q"]) →
      Runs o k op r → Permitted s r 0x0001 false p s1 → r.fits (pubLen l.alg l.size) = true →
      Ends i o s1 r (keygenChecks algs r ++ s1.placeSteps l.handle (chainLenOf l.alg l.size) ++ s1.tiles r false true)
        (drawnRandom s1 s1 r (privLen l.alg l.size) fun rnd s2 =>
          let pub := newPublic l.alg l.size (newPrivate l rnd)
          ((s2.spend k (asymCycles op 0 l.size rnd)).countLoads ((newChain l rnd).length / 32)).endService r
            (withOutput r pub (if op = 0x0800 then toLE 2 ((newChain l rnd).length / 32) else []))
            (commit pub.length (s1.putChain l (newChain l rnd))))) ∧
    (∀ i op algs, (i = .asymKeygen k r.hw ∧ op = 0x0800 ∧ algs = ["R", "E"]) ∨ (i = .pqKeygen k r.hw ∧ op = 0x0900 ∧ algs = ["M", "Q"]) →
      Runs o k op r → Permitted s r 0x0001 false p s1 → r.fits (pubLen l.alg l.size) = false →
      Ends i o s1 r (keygenChecks algs r) (s1.leave r ⟨stBadLength, [], pubLen l.alg l.size, none⟩)) ∧
    (Runs o k 0x0801 r → r.fits (pubLen h.alg h.size) = true → Ends (.pubkeyRead k r.hw) o s r (s.pubkeyChecks r ++ s.tiles r true false)
      (((s.loadLinks r.b.h0 (max 1 (publicLinks h.alg h.size))).spend k (asymCycles 0x0801 0 h.size [])).leave r
        (withOutput r (s.publicOf r.b.h0)))) ∧
    (∀ i op usages algs schemes,
        (i = .sign k r.hw ∧ op = 0x0802 ∧ usages = ["S0", "S1"] ∧ algs = [rsaKeys, edKeys, dsaKeys] ∧ schemes = [1, 2, 4, 5, 6]) ∨
          (i = .mldsaSign k r.hw ∧ op = 0x0903 ∧ usages = ["S0"] ∧ algs = [dsaKeys] ∧ schemes = [17]) →
      Runs o k op r → r.fits (sigLen h.alg h.size) = true →
      Ends i o s r (s.signChecks usages algs r ++ a.selectors schemes false h ++ s.tiles r true false)
        (drawnRandom (s.loadLinks r.b.h0 h.chainLen) s r (a.signRandom h.size) (accept := s.takesRandom r) fun rnd s2 =>
          (s2.spend k (a.cycles op h.size r.input.length rnd)).leave r
            (if h.alg = chr "R" ∧ Config.rsaSelfCheck (s.publicOf r.b.h0) (s.signature r rnd) = false then failed stLaneFault
             else withOutput r (s.signature r rnd)))) ∧
    (∀ i op usages algs schemes,
        (i = .verify k r.hw ∧ op = 0x0803 ∧ usages = ["S0", "S1"] ∧ algs = [rsaKeys, edKeys, dsaKeys] ∧ schemes = [1, 2, 4, 5, 6]) ∨
          (i = .mldsaVerify k r.hw ∧ op = 0x0904 ∧ usages = ["S0"] ∧ algs = [dsaKeys] ∧ schemes = [17]) →
      Runs o k op r → Ends i o s r (s.verifyChecks usages algs schemes r ++ s.tiles r (!pk.given) false)
        (((if pk.given then s else s.loadLinks r.b.h0 (max 1 (publicLinks pk.alg pk.size))).spend k
            (a.cycles op pk.size (r.input.length - (pk.len + sigLen pk.alg pk.size)) [])).leave r
          (if s.verifies r then answered [] else failed stVerifyFail))) ∧
    (Runs o k 0x0804 r → r.fits (if rsaKnown a pk then 32 * pk.size else 0) = true →
      Ends (.rsaEncrypt k r.hw) o s r (s.rsaEncryptChecks r ++ s.rsaEncryptRange r ++ s.tiles r (!pk.given) false)
        (drawnRandom (if pk.given then s else s.loadLinks r.b.h0 (publicLinks pk.alg pk.size)) s r (hashOut a.hash 0) fun seed s2 =>
          (s2.spend k (asymCycles 0x0804 3 pk.size [])).leave r
            (withOutput r (fixLen (32 * pk.size) (Config.oaepEnc a.hash a.ctx pk.pub seed (r.input.drop pk.len)))))) ∧
    (Runs o k 0x0805 r → Ends (.rsaDecrypt k r.hw) o s r (s.rsaDecryptChecks r ++ s.tiles r true false)
      (((s.loadLinks r.b.h0 h.chainLen).spend k (asymCycles 0x0805 3 h.size [])).leave r (s.rsaPlain r))) ∧
    (Runs o k 0x0806 r → Ends (.agree k r.hw) o s r (s.agreeChecks r ++ s.tiles r true true)
      ((((s.loadLinks r.b.h0 h.chainLen).spend k (asymCycles 0x0806 a.scheme h.size [])).countLoads 1).endService r
        (answered (checkValue l (s.agreedKey r))) (some [s.putKey l (s.agreedKey r)]))) ∧
    (Runs o k 0x0901 r → r.fits (if a.keySize = 1 ∨ a.keySize = 2 then kemLen a.keySize else 0) = true →
      Ends (.mlkemEncaps k r.hw) o s r (s.encapsChecks r ++ s.encapsRange r ++ s.tiles r false true)
        (drawnRandom s s r 32 fun rnd s2 =>
          let key := secretKey r (kemPair r rnd).2
          ((s2.spend k (asymCycles 0x0901 16 a.keySize [])).countLoads 1).endService r
            (withOutput r (fixLen (kemLen a.keySize) (kemPair r rnd).1) (checkValue l key))
            (commit (kemLen a.keySize) (s.putKey l key)))) ∧
    (Runs o k 0x0902 r → Ends (.mlkemDecaps k r.hw) o s r (s.decapsChecks r ++ s.tiles r true true)
      (let key := secretKey r (s.kemSecret r)
       (((s.loadLinks r.b.h0 h.chainLen).spend k (asymCycles 0x0902 16 h.size [])).countLoads 1).endService r
        (answered (checkValue l key)) (some [s.putKey l key]))) ∧
    (Runs o k 0x0D00 r → r.fits ((s.reportFor r).length + 114) = true → Ends (.attestReport k r.hw) o s r (attestChecks r ++ s.tiles r false false)
      ((s.spend k (asymCycles 0x0D00 6 5 [])).leave r (withOutput r (s.reportFor r ++ s.reportSig (s.reportFor r))))) ∧
    (Runs o k 0x0D01 r → Ends (.certRead k r.hw) o s r (certChecks r)
      ((s.spend k (asymCycles 0x0D01 0 0 [])).leave r
        (withOutput r (if le 0 1 (r.lighter 0) = 0 then s.root.devIdCert else s.root.aliasCert)))) ∧
    (∀ i e, (i = .pubkeyRead k r.hw ∧ Runs o k 0x0801 r ∧ e = (s.pubkeyChecks r, pubLen h.alg h.size)) ∨
        (i = .sign k r.hw ∧ Runs o k 0x0802 r ∧ e = (s.signChecks ["S0", "S1"] [rsaKeys, edKeys, dsaKeys] r, sigLen h.alg h.size)) ∨
        (i = .mldsaSign k r.hw ∧ Runs o k 0x0903 r ∧ e = (s.signChecks ["S0"] [dsaKeys] r, sigLen h.alg h.size)) ∨
        (i = .rsaEncrypt k r.hw ∧ Runs o k 0x0804 r ∧ rsaKnown a pk = true ∧ e = (s.rsaEncryptChecks r, 32 * pk.size)) ∨
        (i = .mlkemEncaps k r.hw ∧ Runs o k 0x0901 r ∧ (a.keySize = 1 ∨ a.keySize = 2) ∧ e = (s.encapsChecks r, kemLen a.keySize)) ∨
        (i = .attestReport k r.hw ∧ Runs o k 0x0D00 r ∧ e = (attestChecks r, (s.reportFor r).length + 114)) →
      r.fits e.2 = false → Ends i o s r e.1 (s.leave r ⟨stBadLength, [], e.2, none⟩))

/-- R162, R163, R166 to R168, R61, R433, R434, R423: a barge of each opcode 0x0C00 to 0x0C40, 0x0C60 to 0x0C63, 0x0E00 and 0x0E01 that its core runs on this device passes the opcode's checks in order and then leaves exactly its own outcome and changes: a permit lodged once its signatures verify, every outcome logged; a number withdrawn; a tenant made, changed or begun to be deleted; an officer enrolled or revoked; the calendar set; what the journal knows of a barge; the audit records, a seal over them, their acknowledgement and their state; a bucket's home; a relay's inner barge run here or sent on, and its answer. A permit that covers a barge is spent by it; of two barges that claim it in one tick the earlier admitted has it. R411, R415: at the head of a cluster a withdrawal or a query is asked of every member and the answers are joined. A tenant's last key gone, the tenant is FREE. The tenant rule of OFFICER_ENROL is the model's reading (log 24). -/
def Obligations.AdminAndAuditServicesAnswer : Prop :=
  ∀ (o s1 : State) (k : Nat) (r : Run) (p : Option Permit),
    let s := o.noted r
    let answers (cs : List Comp) : List Outcome := cs.map fun c => ⟨c.status, c.result, c.outLen, none⟩
    (Runs o k 0x0C00 r →
      let q := permitOf r.input
      let w := s.now / 100000
      let n := if s.adm.lodges.1 = w then s.adm.lodges.2 else 0
      let refused (s : State) (st : Nat) : State := (s.logPermit 2 r.tenant q.no q.action q.officerA q.officerB st).leave r (failed st)
      let counted : State := { s with adm := { s.adm with lodges := (w, n + 1) } }
      Ends (.permitLodge k r.hw) o s r [noPermit r] (match firstFail (r.reads (s.lodgeChecks r.tenant r.input)) with
        | some st => refused s st
        | none =>
          if 20 ≤ n then refused s stPermitRate
          else if s.permitSigned r.input = false then refused counted stPermitInvalid
          else if 4096 ≤ s.adm.permits.length ∨ 64 ≤ s.adm.permits.countP (fun x => x.1 == r.tenant) then refused counted stPermitTableFull
          else (({ counted with adm := { counted.adm with permits := s.adm.permits ++ [(r.tenant, q)] } } : State).logPermit 0 r.tenant
            q.no q.action q.officerA q.officerB stDone).leave r (answered []))) ∧
    (Runs o k 0x0C01 r →
      let cs := [noPermit r, (wbits 31 0 r.b.p0 != 0 && wbits 63 32 r.b.p0 == 0 && r.b.p1 == 0 && r.b.p2 == 0, stRange)]
      let x := s.withdrawHere r.tenant (wbits 31 0 r.b.p0)
      (r.e.asked = none → s.isHead = false ∨ r.e.origin.isSome = true ∨ s.otherMembers = [] →
        Ends (.permitWithdraw k r.hw) o s r cs (x.2.leave r x.1)) ∧
      (r.e.asked = none → s.isHead = true → r.e.origin = none → s.otherMembers ≠ [] → Ends (.permitWithdraw k r.hw) o s r cs
        ((x.2.setEntry r.idx { r.e with asked := some (s.otherMembers, [x.1.comp r.b.seq]) }).otherMembers.foldl
          (fun (s : State) d => s.sendBarge d r.e [])
          (x.2.setEntry r.idx { r.e with asked := some (s.otherMembers, [x.1.comp r.b.seq]) }))) ∧
      (∀ as, r.e.asked = some ([], as) → Ends (.permitWithdraw k r.hw) o s r cs
        (s.leave r (if (answers as).all fun o => decide (o.status = stPermitInvalid) then failed stPermitInvalid
          else answered [if (answers as).any fun o => decide (o.status = stDone) && le 0 1 o.result == 1 then 1 else 0])))) ∧
    (∀ i op action cs ch, (let t := le 0 2 (r.lighter 0)
        (i = .tenantCreate k r.hw ∧ op = 0x0C10 ∧ action = 0x0010 ∧ cs = s1.tenantCreateChecks r t ∧ ch = s1.tenantCreation r t) ∨
        (i = .tenantPolicy k r.hw ∧ op = 0x0C11 ∧ action = 0x0011 ∧ cs = s1.tenantPolicyChecks r t ∧
          ch = [.tenant t ((s1.tenantAt t).withLighter (r.lighter 0))]) ∨
        (i = .tenantDelete k r.hw ∧ op = 0x0C12 ∧ action = 0x0012 ∧ cs = s1.tenantDeleteChecks t ∧ ch = s1.tenantDeletion t)) →
      Runs o k op r → Permitted s r action true p s1 →
      Ends i o s1 r (tenantSteps r ++ cs) (s1.endService r (answered []) (some ch))) ∧
    (∀ t, (s.tenantAt t).st = .deleting → Completes (.tenantReclaimDone t) s fun u =>
      (u.tenantAt t) = { s.tenantAt t with st := .free } ∧ (∀ q, q ≠ t → u.tenantAt q = s.tenantAt q) ∧
      u.mor.store = s.mor.store.filter (fun x => handleTenant x.1 != t) ∧ u.mor.base = s.mor.base.filter (fun x => handleTenant x.1 != t) ∧
      Only [.adm, .mor] s u) ∧
    (Runs o k 0x0C20 r → Permitted s r 0x0020 false p s1 → Ends (.officerEnrol k r.hw) o s1 r (s1.enrolChecks r)
      (s1.endService r (answered (toLE 2 (s1.freeOfficers.headD 0))) (some (s1.enrolment r)))) ∧
    (Runs o k 0x0C21 r → Permitted s r 0x0021 false p s1 → Ends (.officerRevoke k r.hw) o s1 r (s1.revokeChecks r p)
      (s1.endService r (answered [])
        (some [.officer (revoked r) { s1.officerSoon (revoked r) with st := .revoked }, .discardOfficerPermits (revoked r)]))) ∧
    (Runs o k 0x0C30 r → Permitted s r 0x0030 false p s1 →
      let t := s1.claimTick r
      let v := wbits 31 0 r.b.p0
      let x := answered (toLE 4 ((s1.calendarAt t).getD 0))
      Ends (.calendarSet k r.hw) o s1 r (calendarChecks r (s1.calendarAt t))
        (if s1.cfg.cluster.isSome then s1.endService r x (some [.calendar v t])
         else ({ s1 with adm := { s1.adm with calendar := some (v, t) } } : State).leave r x)) ∧
    (Runs o k 0x0C40 r →
      let ring := wbits 13 0 r.b.p1
      let owner := (Tbl.find ring s.cfg.rings).any fun c => c.tenant == r.tenant
      let cs := [noPermit r, (wbits 31 14 r.b.p1 == 0 && r.b.p2 == 0
        && (r.e.origin.isSome || (owner && decide (r.b.p0.toNat ≤ s.pwr.epoch))), stRange)]
      let own : Outcome := ⟨stDone, s.query ((r.e.origin.map (·.head)).getD s.index) ((r.e.origin.map (·.epoch)).getD s.pwr.epoch)
        r.b.p0.toNat ring (wbits 63 32 r.b.p1), 16, none⟩
      (s.isHead = false ∨ r.e.origin.isSome = true → Ends (.journalQuery k r.hw) o s r cs (s.leave r own)) ∧
      (r.e.asked = none → s.isHead = true → r.e.origin = none → s.otherMembers = [] → Ends (.journalQuery k r.hw) o s r cs (s.leave r own)) ∧
      (r.e.asked = none → s.isHead = true → r.e.origin = none → s.otherMembers ≠ [] → Ends (.journalQuery k r.hw) o s r cs
        ((s.otherMembers).foldl (fun (s : State) d => s.sendBarge d r.e r.input)
          (s.setEntry r.idx { r.e with asked := some (s.otherMembers, []) }))) ∧
      (∀ as, r.e.asked = some ([], as) → s.isHead = true → r.e.origin = none →
        Ends (.journalQuery k r.hw) o s r cs (ended (joinQuery (own :: answers as) s) r))) ∧
    (Runs o k 0x0C60 r →
      let got := s.auditRecs r
      let next := (got.getLast?).elim s.freshNat fun x => (x.seq + 1, s)
      Ends (.auditRead k r.hw) o s r (s.auditReadChecks r)
        (next.2.leave r (withOutput r (got.flatMap fun x => ofWords x.image) (toLE 8 next.1 ++ toLE 4 got.length)))) ∧
    (Runs o k 0x0C61 r → r.fits 202 = true → Ends (.auditSeal k r.hw) o s r (s.auditSealChecks r ++ s.tiles r false false)
      (({ s with log := s.log.addSeal (le 0 8 (r.lighter 0)) (le 8 8 (r.lighter 0)) (r.tenant == 0) } : State).leave r
        (withOutput r (s.sealText r ++ fixLen 114 (s.aliasSign (ascii "LT7200 audit") (s.sealText r))) (toLE 4 s.log.sealNext)))) ∧
    (Runs o k 0x0C61 r → r.fits 202 = false → Ends (.auditSeal k r.hw) o s r (s.auditSealChecks r) (s.leave r ⟨stBadLength, [], 202, none⟩)) ∧
    (∀ x, Runs o k 0x0C62 r → Permitted s r 0x0040 true p s1 → s1.sealNamed r = some x → Ends (.auditAck k r.hw) o s1 r (s1.auditAckChecks r)
      (s1.endService r (answered (toLE 8 (recWords (s1.log.unackedRecs.filter fun y => decide (y.seq ≤ x.last)))))
        (some [.ackLog x.last]))) ∧
    (Runs o k 0x0C63 r → Ends (.auditStatus k r.hw) o s r (s.auditStatusChecks r) (s.leave r (answered (s.auditStatus r.tenant)))) ∧
    (Runs o k 0x0E00 r → Ends (.clusterHome k r.hw) o s r (homeChecks r) (s.leave r (answered (s.homeResult r.b.p0.toNat)))) ∧
    (o.runOf k 0x0E01 r.hw = some r →
      let inner := relayInner r.b
      let d := le 0 1 (r.lighter 0)
      (∀ st, r.e.asked = none → o.relayFails r = some st → exec (.clusterRelay k r.hw) o = .next (o.leave r (failed st))) ∧
      (∀ svc, r.e.asked = none → o.relayFails r = none → d = o.index → relayed inner.opcode = some svc →
        exec (.clusterRelay k r.hw) o = .next ((o.setEntry r.idx { r.e with b := inner }).serve k inner.opcode r.hw svc)) ∧
      (r.e.asked = none → o.relayFails r = none → d ≠ o.index → exec (.clusterRelay k r.hw) o
        = .next ((o.setEntry r.idx { r.e with asked := some ([d], []) }).sendBarge d { r.e with b := inner } r.input)) ∧
      (∀ c as, r.e.asked = some ([], c :: as) →
        exec (.clusterRelay k r.hw) o = .next (o.leave r ⟨c.status, c.result, c.outLen, r.e.outBytes⟩))) ∧
    (∀ action device q, r.b.permit ≠ 0 → ((s.quorumOf action).getD ⟨0, 0, 0⟩).signers ≠ 0 → (s.coreAt r.core).claimed = none →
      let lodged := s.adm.permits.find? fun x => x.1 == r.tenant && x.2.no == r.b.permit
      lodged = some (r.tenant, q) ∧ s.outclaimed r = none ∨ lodged = none ∧ (∃ j, s.outclaimed r = some (j, q)) → q.action = action →
      (device = true → q.scopeKind = 0) → q.covers (bargeHandles r.b) = true → allZero q.arg = true ∨ q.arg = argOf r →
      s.officerActive q.officerA = true → q.signers = 1 ∨ s.officerActive q.officerB = true → q.notBefore ≤ s.now → s.now ≤ q.notAfter →
      let u := s.usePermit r action device
      u.1 = (none, some q) ∧ (u.2.coreAt r.core).claimed = some (s.now, q) ∧ Only [.adm, .cores, .log] s u.2 ∧
      (s.outclaimed r = none → u.2.adm.spent = s.adm.spent ++ [(r.tenant, r.b.permit)] ∧
        u.2.adm.permits = s.adm.permits.erase (r.tenant, q)) ∧
      (∀ j, s.outclaimed r = some (j, q) → (u.2.coreAt j).claimed = none ∧ u.2.adm = s.adm))

/-- R194 to R199, R187, R322, R330, R365, R372, R373, R265: a barge of each opcode 0x0C50 to 0x0C57 and 0x0C70 to 0x0C78 that its core runs on this device, its permit holding, passes the opcode's checks in order and then leaves exactly its own outcome and changes: a backup or restore session opened, its next chunk sealed or stored, a share taken, a package summed, shared out and signed, a session closed; the store formatted; the store rewrapped 256 sectors at a run (the volatile hold at once) to a new version, a sector that fails R289 being an INTEGRITY event; DRYDOCK asked for and, the drain done, entered and left; a function granted; a firmware copy staged in DRAM and refused with its reason or written and measured; raw-sample mode on and off; END_OF_LIFE committed. -/
def Obligations.StoreAndDeviceServicesAnswer : Prop :=
  ∀ (o s1 : State) (k : Nat) (r : Run) (p : Option Permit),
    let s := o.noted r
    let audit (s : State) : List (Bool × Nat) := [(s.auditRoom 7, stAuditFull)]
    let rooms (s : State) : List (Bool × Nat) := audit s ++ [(s.outcomeRoom, stKeyLimit)]
    (Runs o k 0x0C50 r → Permitted s r 0x0050 false p s1 → s1.mor.sessions.length < 4 →
      Ends (.backupOpen k r.hw) o s1 r (s1.backupOpenChecks r p ++ s1.tiles r false false)
        (let s2 := s1.keepSnapshot k
         drawn (s2.drawFor r 48) s2 r fun bs s3 =>
          let c := s2.backupSession r bs
          ((s3.spend k (30000 + Config.variableCycles 0x0C50 c.n [])).newSession c).leave r (answered (toLE 4 c.number)))) ∧
    (∀ c, Runs o k 0x0C51 r → s.sessionIn r false = some c →
      (c.ended = true → Ends (.backupRead k r.hw) o s r (s.backupReadChecks r) (s.leave r (answered (fixLen 9 (toLE 4 c.chunk))))) ∧
      (c.ended = false → Ends (.backupRead k r.hw) o s r (s.backupReadChecks r ++ s.lanes r)
        (let s2 := (s.countLoads c.nextCount).spend k (20000 + 900 * c.nextCount)
         match s.chunkPlain c with
         | none => s2.leave r (failed stKeyDamaged)
         | some plain =>
           let x := c.seal plain
           (s2.setSession (c.after x.2)).leave r (withOutput r (x.1 ++ x.2)
             (toLE 4 c.chunk ++ toLE 4 c.nextCount ++ [if (c.after x.2).ended then 1 else 0]))))) ∧
    (∀ c, Runs o k 0x0C52 r → s.sessionIn r false = some c →
      Ends (.backupClose k r.hw) o s r (s.backupCloseChecks r ++ s.tiles r false false)
        (if r.fits (194 + 112 * c.n) = false then s.leave r ⟨stBadLength, [], 194 + 112 * c.n, none⟩ else drawn (s.drawFor r (56 * c.n + 32 * (c.k - 1))) s r fun rnd s2 =>
          ((s2.endSession c.number).spend k (30000 + Config.variableCycles 0x0C52 c.n [])).leave r
            (withOutput r (packageBody c rnd ++ fixLen 114 (s.aliasSign [] (packageBody c rnd)))))) ∧
    (Runs o k 0x0C53 r → Permitted s r 0x0051 false p s1 → s1.mor.sessions.length < 4 →
      Ends (.restoreOpen k r.hw) o s1 r (restoreOpenChecks r p ++ s1.tiles r false false)
        (if r.fits 56 = false then s1.leave r ⟨stBadLength, [], 56, none⟩ else drawn (s1.drawFor r 56) s1 r fun x s2 =>
          let c := s1.restoreSession r x
          ((s2.spend k (30000 + Config.variableCycles 0x0C53 c.n [])).newSession c).leave r
            (withOutput r (fixLen 56 (Config.x448Public x)) (toLE 4 c.number)))) ∧
    (∀ c, Runs o k 0x0C54 r → s.sessionIn r true = some c → Ends (.restoreShare k r.hw) o s r
      (s.restoreShareChecks r ++ s.lanes r ++ s.tiles r false false)
      (let s2 := s.spend k (30000 + 130000 + 242000)
       match c.openShare r.input with
       | none => s2.leave r (failed stVerifyFail)
       | some share => match c.withShare (le 4 1 r.input) ((s.shareSigner r).getD 0) share with
         | some c' => (s2.setSession c').leave r (answered [])
         | none => (s2.endSession c.number).leave r (failed stVerifyFail))) ∧
    (∀ c, Runs o k 0x0C55 r → s.sessionIn r true = some c → Ends (.restoreWrite k r.hw) o s r (s.restoreWriteChecks r ++ s.lanes r)
      (let n := le 20 4 (chunkIn r)
       let s2 := s.spend k (20000 + 1500 * n)
       match c.openChunk (chunkIn r) with
       | none => s2.leave r (failed stVerifyFail)
       | some plain =>
         let gs := s.addedGroups [] (groupParts (chunkParts n plain))
         let added := (gs.map fun g => g.2.length).sum
         if s.restoreRoom gs = false then (s2.countLoads n).leave r (failed stKeyLimit)
         else ((s2.countLoads n).setSession { c with chunk := c.chunk + 1, tags := c.tags ++ chunkTag (chunkIn r) }).endService r
           (answered (toLE 4 added ++ toLE 4 (n - added))) (some (gs.map s.restoreChange)))) ∧
    (∀ c, Runs o k 0x0C56 r → s.sessionParam r true = some c → Ends (.restoreClose k r.hw) o s r (s.restoreCloseChecks r)
      (((s.endSession c.number).spend k 30000).leave r (if c.whole then answered [] else failed stVerifyFail))) ∧
    (Runs o k 0x0C57 r → Ends (.cargoSessionEnd k r.hw) o s r (s.sessionEndChecks r)
      (((s.endSession (wbits 31 0 r.b.p0)).spend k 30000).leave r (answered []))) ∧
    (Runs o k 0x0C74 r → Permitted s r 0x0052 true p s1 → Ends (.cargoFormat k r.hw) o s1 r (s1.formatChecks r ++ audit s1)
      (s1.formatStore.endService r (answered []) (some []))) ∧
    (Runs o k 0x0C75 r → Permitted s r 0x0063 true p s1 →
      (∀ bad, s1.kwm.migration = none →
        Ends (.versionMigrate k r.hw bad) o s1 r (s1.migrateChecks r ++ rooms s1) (s1.migrateBegin r (versionAsked r))) ∧
      (∀ g lo, s1.kwm.migration = some (g, lo) → let cs := [(migrateForm r, stBadFormat), (g == versionAsked r, stRange)]
        Ends (.versionMigrate k r.hw none) o s1 r cs
          (let s2 := s1.migrateTo (s1.migrateGoal lo)
           if s1.migrateGoal lo < s2.storeSectors then s2
           else (s2.migrateEnd (versionAsked r)).endService r (answered []) (some [])) ∧
        ∀ cause lba, Ends (.versionMigrate k r.hw (some (cause, lba))) o s1 r cs (s1.integrity cause 2 lba 0))) ∧
    (Runs o k 0x0C78 r → Permitted s r 0x0065 true p s1 →
      Ends (.endOfLife k r.hw) o s1 r [(noParams r.b, stBadFormat)] (s1.endService r (answered []) (some []))) ∧
    (Runs o k 0x0C70 r → Permitted s r 0x0060 true p s1 → Ends (.drydockEnter k r.hw) o s1 r [(noParams r.b, stBadFormat)]
      (if s1.glb.mode = .drydock then s1.leave r (answered [])
       else if s1.pwr.drydockBy.isSome then s1
       else if s1.askLeave.1 = false then s1.askLeave.2.leave r (failed stRange)
       else { s1.askLeave.2 with pwr := { s1.askLeave.2.pwr with drydockBy := some k } })) ∧
    (o.pwr.drydockBy = some k → o.glb.mode = .service → o.servingOthers = false → o.brv.st = .single ∨ o.brv.st = .left →
      exec .drydockDrainDone o = .next
        (let s2 := ((o.extend 7 (Config.measureItem 7 [0] [])).toMode .drydock).logRec .fuse 1 0 0xFF [0]
         ({ s2 with pwr := { s2.pwr with drydockBy := none } } : State).leaveAt k (answered []))) ∧
    (Runs o k 0x0C71 r →
      Ends (.drydockExit k r.hw) o s r (s.keySteps r ++ [(noParams r.b, stBadFormat), (!s.pwr.stopped.any drydockOnly, stRange)])
        (((s.diagsClosed.rawOff.stopLoops).toMode .service).leave r (answered []))) ∧
    (Runs o k 0x0C72 r → Permitted s r 0x0061 true p s1 → Ends (.functionGrant k r.hw) o s1 r (s1.grantChecks r)
      (({ s1 with pwr := { s1.pwr with grants := s1.pwr.grants ++ [wbits 7 0 r.b.p0] } } : State).leave r (answered []))) ∧
    (∀ ok, Runs o k 0x0C73 r → Permitted s r 0x0062 true p s1 →
      exec (.firmwareUpdate k r.hw ok) o = .next (
        let s2 := s1.stageCopy r.input
        let s3 := s2.emit (.flashWrite (!s2.kwm.copyB) (r.input.take (copyLen r.input)))
        if s2.updateReason r.input ≠ 0 then s2.leave r (updateRefused (s2.updateReason r.input))
        else match firstFail (r.reads (s2.updateChecks r.input ++ rooms s2)) with
          | some st => s2.leave r (failed st)
          | none =>
            if ok = false then s3.leave r (failed stFlashFault)
            else (s3.extend 7 (Config.measureItem 7 [2] [copyDigest r.input])).endService r (answered []) (some []))) ∧
    (Runs o k 0x0C76 r → Permitted s r 0x0064 true p s1 →
      Ends (.rawRngOn k r.hw) o s1 r [(noParams r.b, stBadFormat)] (s1.rawOn.leave r (answered []))) ∧
    (Runs o k 0x0C77 r → Ends (.rawRngOff k r.hw) o s r (s.keySteps r ++ [(noParams r.b, stBadFormat)]) (s.rawOff.leave r (answered [])))
end

