-- ==== Sys2Proof/Laws/Keys.lean ====
section
/-! SUPPORT. Byte strings and the key wrap: exclusive-OR twice gives the string back, and a wrapped key unwraps to its field (R144). -/

namespace Sys2Proof.Machine

/-- `fixLen` gives the length asked for. -/
@[simp] theorem fixLen_length (n : Nat) (bs : Bytes) : (fixLen n bs).length = n := by
  simp [fixLen, zeros]
  omega

/-- A string of the length asked for is unchanged. -/
theorem fixLen_self (bs : Bytes) : fixLen bs.length bs = bs := by
  simp [fixLen, zeros]

/-- Exclusive-OR keeps the length of its first operand. -/
@[simp] theorem xorBytes_length (a b : Bytes) : (xorBytes a b).length = a.length := by
  simp [xorBytes]

/-- Exclusive-OR with the same string twice gives the first operand back. -/
theorem xorBytes_cancel (a b : Bytes) : xorBytes (xorBytes a b) b = a := by
  have go : ∀ (a g : Bytes), g.length = a.length →
      List.zipWith (· ^^^ ·) (List.zipWith (· ^^^ ·) a g) g = a := by
    intro a
    induction a with
    | nil => intro g hg; cases g <;> simp_all
    | cons x xs ih =>
      intro g hg
      cases g with
      | nil => simp at hg
      | cons y ys =>
        simp only [List.zipWith_cons_cons]
        rw [ih ys (by simpa using hg), BitVec.xor_assoc, BitVec.xor_self, BitVec.xor_zero]
  have h := go a (fixLen a.length b) (by simp)
  unfold xorBytes
  rw [List.length_zipWith, fixLen_length, Nat.min_self]
  exact h

/-- A wrapped key field unwraps under the same tenant root (R144). -/
theorem unwrap_wrap (tr : Bytes) (l : KLabel) (f : Bytes) (n u d : Nat) (hz : allZero (f.drop l.keyLen) = true) :
    unwrapKey tr ⟨l, (wrapKey tr l f).1, (wrapKey tr l f).2, n, u, d⟩ = some f := by
  simp only [unwrapKey, wrapKey, xorBytes_cancel, hz, and_self, if_true]

/-- A record that this device has wrapped opens outside a version migration (R144). -/
theorem openRec_newRec (s : State) (l : KLabel) (f : Bytes) (hm : s.root.crNew = none)
    (hz : allZero ((fixLen 32 f).drop l.keyLen) = true) : s.openRec (s.newRec l f) = some (fixLen 32 f) := by
  have hr : s.rootFor l.handle = s.tenantRootUnder (s.root.cr.getD (zeros 32)) (handleTenant l.handle) := by
    simp [State.rootFor, State.crOf, hm]
  simp only [State.openRec, State.newRec, hr]
  rw [unwrap_wrap _ _ _ _ _ _ hz]
  rfl

/-- A wrapped key field that holds a byte past the length its label states does not unwrap (R144). -/
theorem unwrap_long (tr : Bytes) (l : KLabel) (f : Bytes) (n u d : Nat) (hz : allZero (f.drop l.keyLen) = false) :
    unwrapKey tr ⟨l, (wrapKey tr l f).1, (wrapKey tr l f).2, n, u, d⟩ = none := by
  simp [unwrapKey, wrapKey, xorBytes_cancel, hz]

/-- A record made of such a field does not open (R144). -/
theorem openRec_long (s : State) (l : KLabel) (f : Bytes) (hm : s.root.crNew = none)
    (hz : allZero ((fixLen 32 f).drop l.keyLen) = false) : s.openRec (s.newRec l f) = none := by
  have hr : s.rootFor l.handle = s.tenantRootUnder (s.root.cr.getD (zeros 32)) (handleTenant l.handle) := by
    simp [State.rootFor, State.crOf, hm]
  simp only [State.openRec, State.newRec, hr]
  rw [unwrap_long _ _ _ _ _ _ hz]
  simp [hm]

/-- A resident key of one link that this device has wrapped is whole (steps 1 and 2 of R82). -/
theorem keyStatus_whole {s : State} {h m : Nat} {l : KLabel} {f : Bytes} {b : Bool} {n : Nat}
    (hm : s.mooringOf h 0 = some (m, ⟨s.newRec l f, b, n⟩)) (hc : l.chainLen ≤ 1) (hn : s.root.crNew = none)
    (hz : allZero ((fixLen 32 f).drop l.keyLen) = true) : s.keyStatus h = none := by
  have ho := openRec_newRec s l f hn hz
  have hl : max 1 (s.newRec l f).label.chainLen = 1 := by simp [State.newRec]; omega
  simp only [State.keyStatus, hm, hl, List.range_one, List.all_cons, List.all_nil, Option.map_some, ho, Option.isSome_some,
    Option.getD_some, Bool.and_true, if_true]

end Sys2Proof.Machine
end

