-- ==== Sys2Proof/Laws/Tables.lean ====
section
/-! SUPPORT. Keyed tables: reading back what was put or deleted, and the canonical form. -/

namespace Sys2Proof

variable {α : Type}

@[simp] theorem Tbl.find_put (k : Nat) (a : α) (t : Tbl α) : Tbl.find k (Tbl.put k a t) = some a := by
  induction t with
  | nil => simp [Tbl.put, Tbl.find]
  | cons p t ih =>
    obtain ⟨j, b⟩ := p
    simp only [Tbl.put]
    split
    · simp [Tbl.find]
    · split
      · simp [Tbl.find]
      · rename_i h; simp [Tbl.find, ih, Ne.symm h]

@[simp] theorem Tbl.find_put_ne (k q : Nat) (a : α) (t : Tbl α) (h : q ≠ k) : Tbl.find q (Tbl.put k a t) = Tbl.find q t := by
  induction t with
  | nil => simp [Tbl.put, Tbl.find, Ne.symm h]
  | cons p t ih =>
    obtain ⟨j, b⟩ := p
    simp only [Tbl.put]
    split
    · simp [Tbl.find, Ne.symm h]
    · split
      · subst_vars; simp [Tbl.find, Ne.symm h]
      · simp [Tbl.find, ih]

@[simp] theorem Tbl.find_del (k : Nat) (t : Tbl α) : Tbl.find k (Tbl.del k t) = none := by
  induction t with
  | nil => rfl
  | cons p t ih =>
    obtain ⟨j, b⟩ := p
    simp only [Tbl.del]
    split
    · exact ih
    · rename_i h; simp [Tbl.find, h, ih]

@[simp] theorem Tbl.find_del_ne (k q : Nat) (t : Tbl α) (h : q ≠ k) : Tbl.find q (Tbl.del k t) = Tbl.find q t := by
  induction t with
  | nil => rfl
  | cons p t ih =>
    obtain ⟨j, b⟩ := p
    simp only [Tbl.del]
    split
    · subst_vars; simp [Tbl.find, ih, Ne.symm h]
    · simp [Tbl.find, ih]

/-- Keys that a table lists. -/
theorem Tbl.mem_put {k : Nat} {a : α} {t : Tbl α} {p : Nat × α} (h : p ∈ Tbl.put k a t) : p = (k, a) ∨ p ∈ t := by
  induction t with
  | nil => simp_all [Tbl.put]
  | cons q t ih =>
    obtain ⟨j, b⟩ := q
    simp only [Tbl.put] at h
    split at h
    · simpa using h
    · split at h
      · simp only [List.mem_cons] at h ⊢; tauto
      · simp only [List.mem_cons] at h ⊢
        rcases h with h | h
        · tauto
        · rcases ih h with h | h <;> tauto

theorem Tbl.mem_del {k : Nat} {t : Tbl α} {p : Nat × α} (h : p ∈ Tbl.del k t) : p ∈ t := by
  induction t with
  | nil => simp [Tbl.del] at h
  | cons q t ih =>
    obtain ⟨j, b⟩ := q
    simp only [Tbl.del] at h
    split at h
    · exact List.mem_cons_of_mem _ (ih h)
    · simp only [List.mem_cons] at h ⊢
      rcases h with h | h
      · exact .inl h
      · exact .inr (ih h)

/-- The canonical form says that the keys are strictly rising. -/
theorem Tbl.wf_iff (t : Tbl α) : Tbl.wf t = true ↔ t.Pairwise (fun p q => p.1 < q.1) := by
  induction t with
  | nil => simp [Tbl.wf]
  | cons p t ih =>
    obtain ⟨j, b⟩ := p
    cases t with
    | nil => simp [Tbl.wf]
    | cons q t =>
      obtain ⟨k, c⟩ := q
      simp only [Tbl.wf, Bool.and_eq_true, decide_eq_true_eq, ih, List.pairwise_cons, List.mem_cons, forall_eq_or_imp]
      constructor
      · rintro ⟨h1, h2, h3⟩
        exact ⟨⟨h1, fun r hr => lt_trans h1 (h2 r hr)⟩, h2, h3⟩
      · rintro ⟨⟨h1, _⟩, h2, h3⟩
        exact ⟨h1, h2, h3⟩

/-- A put keeps the canonical form. -/
theorem Tbl.wf_put {k : Nat} {a : α} {t : Tbl α} (h : Tbl.wf t = true) : Tbl.wf (Tbl.put k a t) = true := by
  rw [Tbl.wf_iff] at *
  induction t with
  | nil => simp [Tbl.put]
  | cons p t ih =>
    obtain ⟨j, b⟩ := p
    rw [List.pairwise_cons] at h
    simp only [Tbl.put]
    split
    · rename_i hk
      refine List.pairwise_cons.2 ⟨?_, List.pairwise_cons.2 h⟩
      intro r hr
      rcases List.mem_cons.1 hr with rfl | hr
      · exact hk
      · exact lt_trans hk (h.1 r hr)
    · split
      · subst_vars; exact List.pairwise_cons.2 h
      · rename_i h1 h2
        refine List.pairwise_cons.2 ⟨?_, ih h.2⟩
        intro r hr
        rcases Tbl.mem_put hr with rfl | hr
        · show j < k; omega
        · exact h.1 r hr

/-- A deletion keeps the canonical form. -/
theorem Tbl.wf_del {k : Nat} {t : Tbl α} (h : Tbl.wf t = true) : Tbl.wf (Tbl.del k t) = true := by
  rw [Tbl.wf_iff] at *
  induction t with
  | nil => simp [Tbl.del]
  | cons p t ih =>
    obtain ⟨j, b⟩ := p
    rw [List.pairwise_cons] at h
    simp only [Tbl.del]
    split
    · exact ih h.2
    · exact List.pairwise_cons.2 ⟨fun r hr => h.1 r (Tbl.mem_del hr), ih h.2⟩

namespace Machine

@[simp] theorem tget_put (d : α) (k : Nat) (a : α) (t : Tbl α) : tget d k (Tbl.put k a t) = a := by simp [tget]

@[simp] theorem tget_put_ne (d : α) (k q : Nat) (a : α) (t : Tbl α) (h : q ≠ k) : tget d q (Tbl.put k a t) = tget d q t := by
  simp [tget, h]

@[simp] theorem tget_del (d : α) (k : Nat) (t : Tbl α) : tget d k (Tbl.del k t) = d := by simp [tget]

@[simp] theorem tget_del_ne (d : α) (k q : Nat) (t : Tbl α) (h : q ≠ k) : tget d q (Tbl.del k t) = tget d q t := by
  simp [tget, h]

/-- Memory's canonical form in two parts: rising addresses, and nothing listed that reads as an unlisted word. -/
theorem Memory.wf_iff (m : Tbl TWord) : Memory.wf m = true ↔ Tbl.wf m = true ∧ ∀ p ∈ m, p.2 ≠ notValid := by
  simp [Memory.wf]

theorem Memory.wf_put {m : Tbl TWord} {w : Nat} {x : TWord} (h : Memory.wf m = true) (hx : x ≠ notValid) :
    Memory.wf (Tbl.put w x m) = true := by
  rw [Memory.wf_iff] at *
  refine ⟨Tbl.wf_put h.1, fun p hp => ?_⟩
  rcases Tbl.mem_put hp with rfl | hp
  · exact hx
  · exact h.2 p hp

theorem Memory.wf_del {m : Tbl TWord} {w : Nat} (h : Memory.wf m = true) : Memory.wf (Tbl.del w m) = true := by
  rw [Memory.wf_iff] at *
  exact ⟨Tbl.wf_del h.1, fun p hp => h.2 p (Tbl.mem_del hp)⟩

end Machine

end Sys2Proof
end

