-- ==== Sys2Proof/Laws/State.lean ====
section
/-! SUPPORT. One lemma per field per update: what each named replacement of a part of the state leaves alone, and reading back what it
wrote. -/

set_option Elab.async false

namespace Sys2Proof.Machine

/-! ### setRing -/

@[simp] theorem State.setRing_clock (s : State) (r : Nat) (g : Ring) : (s.setRing r g).clock = s.clock := rfl
@[simp] theorem State.setRing_glb (s : State) (r : Nat) (g : Ring) : (s.setRing r g).glb = s.glb := rfl
@[simp] theorem State.setRing_lkm (s : State) (r : Nat) (g : Ring) : (s.setRing r g).lkm = s.lkm := rfl
@[simp] theorem State.setRing_cores (s : State) (r : Nat) (g : Ring) : (s.setRing r g).cores = s.cores := rfl
@[simp] theorem State.setRing_mor (s : State) (r : Nat) (g : Ring) : (s.setRing r g).mor = s.mor := rfl
@[simp] theorem State.setRing_adm (s : State) (r : Nat) (g : Ring) : (s.setRing r g).adm = s.adm := rfl
@[simp] theorem State.setRing_cph (s : State) (r : Nat) (g : Ring) : (s.setRing r g).cph = s.cph := rfl
@[simp] theorem State.setRing_hsh (s : State) (r : Nat) (g : Ring) : (s.setRing r g).hsh = s.hsh := rfl
@[simp] theorem State.setRing_bgn (s : State) (r : Nat) (g : Ring) : (s.setRing r g).bgn = s.bgn := rfl
@[simp] theorem State.setRing_rng (s : State) (r : Nat) (g : Ring) : (s.setRing r g).rng = s.rng := rfl
@[simp] theorem State.setRing_slu (s : State) (r : Nat) (g : Ring) : (s.setRing r g).slu = s.slu := rfl
@[simp] theorem State.setRing_sram (s : State) (r : Nat) (g : Ring) : (s.setRing r g).sram = s.sram := rfl
@[simp] theorem State.setRing_gte (s : State) (r : Nat) (g : Ring) : (s.setRing r g).gte = s.gte := rfl
@[simp] theorem State.setRing_root (s : State) (r : Nat) (g : Ring) : (s.setRing r g).root = s.root := rfl
@[simp] theorem State.setRing_lcy (s : State) (r : Nat) (g : Ring) : (s.setRing r g).lcy = s.lcy := rfl
@[simp] theorem State.setRing_len (s : State) (r : Nat) (g : Ring) : (s.setRing r g).len = s.len := rfl
@[simp] theorem State.setRing_pwr (s : State) (r : Nat) (g : Ring) : (s.setRing r g).pwr = s.pwr := rfl
@[simp] theorem State.setRing_kwm (s : State) (r : Nat) (g : Ring) : (s.setRing r g).kwm = s.kwm := rfl
@[simp] theorem State.setRing_wharf (s : State) (r : Nat) (g : Ring) : (s.setRing r g).wharf = s.wharf := rfl
@[simp] theorem State.setRing_brv (s : State) (r : Nat) (g : Ring) : (s.setRing r g).brv = s.brv := rfl
@[simp] theorem State.setRing_log (s : State) (r : Nat) (g : Ring) : (s.setRing r g).log = s.log := rfl
@[simp] theorem State.setRing_cfg (s : State) (r : Nat) (g : Ring) : (s.setRing r g).cfg = s.cfg := rfl
@[simp] theorem State.setRing_out (s : State) (r : Nat) (g : Ring) : (s.setRing r g).out = s.out := rfl
@[simp] theorem State.setRing_free (s : State) (r : Nat) (g : Ring) : (s.setRing r g).free = s.free := rfl
@[simp] theorem State.setRing_pending (s : State) (r : Nat) (g : Ring) : (s.setRing r g).pending = s.pending := rfl

/-! ### setCore -/

@[simp] theorem State.setCore_clock (s : State) (k : Nat) (c : Core) : (s.setCore k c).clock = s.clock := rfl
@[simp] theorem State.setCore_glb (s : State) (k : Nat) (c : Core) : (s.setCore k c).glb = s.glb := rfl
@[simp] theorem State.setCore_rings (s : State) (k : Nat) (c : Core) : (s.setCore k c).rings = s.rings := rfl
@[simp] theorem State.setCore_lkm (s : State) (k : Nat) (c : Core) : (s.setCore k c).lkm = s.lkm := rfl
@[simp] theorem State.setCore_mor (s : State) (k : Nat) (c : Core) : (s.setCore k c).mor = s.mor := rfl
@[simp] theorem State.setCore_adm (s : State) (k : Nat) (c : Core) : (s.setCore k c).adm = s.adm := rfl
@[simp] theorem State.setCore_cph (s : State) (k : Nat) (c : Core) : (s.setCore k c).cph = s.cph := rfl
@[simp] theorem State.setCore_hsh (s : State) (k : Nat) (c : Core) : (s.setCore k c).hsh = s.hsh := rfl
@[simp] theorem State.setCore_bgn (s : State) (k : Nat) (c : Core) : (s.setCore k c).bgn = s.bgn := rfl
@[simp] theorem State.setCore_rng (s : State) (k : Nat) (c : Core) : (s.setCore k c).rng = s.rng := rfl
@[simp] theorem State.setCore_slu (s : State) (k : Nat) (c : Core) : (s.setCore k c).slu = s.slu := rfl
@[simp] theorem State.setCore_sram (s : State) (k : Nat) (c : Core) : (s.setCore k c).sram = s.sram := rfl
@[simp] theorem State.setCore_gte (s : State) (k : Nat) (c : Core) : (s.setCore k c).gte = s.gte := rfl
@[simp] theorem State.setCore_root (s : State) (k : Nat) (c : Core) : (s.setCore k c).root = s.root := rfl
@[simp] theorem State.setCore_lcy (s : State) (k : Nat) (c : Core) : (s.setCore k c).lcy = s.lcy := rfl
@[simp] theorem State.setCore_len (s : State) (k : Nat) (c : Core) : (s.setCore k c).len = s.len := rfl
@[simp] theorem State.setCore_pwr (s : State) (k : Nat) (c : Core) : (s.setCore k c).pwr = s.pwr := rfl
@[simp] theorem State.setCore_kwm (s : State) (k : Nat) (c : Core) : (s.setCore k c).kwm = s.kwm := rfl
@[simp] theorem State.setCore_wharf (s : State) (k : Nat) (c : Core) : (s.setCore k c).wharf = s.wharf := rfl
@[simp] theorem State.setCore_brv (s : State) (k : Nat) (c : Core) : (s.setCore k c).brv = s.brv := rfl
@[simp] theorem State.setCore_log (s : State) (k : Nat) (c : Core) : (s.setCore k c).log = s.log := rfl
@[simp] theorem State.setCore_cfg (s : State) (k : Nat) (c : Core) : (s.setCore k c).cfg = s.cfg := rfl
@[simp] theorem State.setCore_out (s : State) (k : Nat) (c : Core) : (s.setCore k c).out = s.out := rfl
@[simp] theorem State.setCore_free (s : State) (k : Nat) (c : Core) : (s.setCore k c).free = s.free := rfl
@[simp] theorem State.setCore_pending (s : State) (k : Nat) (c : Core) : (s.setCore k c).pending = s.pending := rfl

/-! ### setEntry -/

@[simp] theorem State.setEntry_clock (s : State) (i : Nat) (e : Entry) : (s.setEntry i e).clock = s.clock := rfl
@[simp] theorem State.setEntry_glb (s : State) (i : Nat) (e : Entry) : (s.setEntry i e).glb = s.glb := rfl
@[simp] theorem State.setEntry_rings (s : State) (i : Nat) (e : Entry) : (s.setEntry i e).rings = s.rings := rfl
@[simp] theorem State.setEntry_cores (s : State) (i : Nat) (e : Entry) : (s.setEntry i e).cores = s.cores := rfl
@[simp] theorem State.setEntry_mor (s : State) (i : Nat) (e : Entry) : (s.setEntry i e).mor = s.mor := rfl
@[simp] theorem State.setEntry_adm (s : State) (i : Nat) (e : Entry) : (s.setEntry i e).adm = s.adm := rfl
@[simp] theorem State.setEntry_cph (s : State) (i : Nat) (e : Entry) : (s.setEntry i e).cph = s.cph := rfl
@[simp] theorem State.setEntry_hsh (s : State) (i : Nat) (e : Entry) : (s.setEntry i e).hsh = s.hsh := rfl
@[simp] theorem State.setEntry_bgn (s : State) (i : Nat) (e : Entry) : (s.setEntry i e).bgn = s.bgn := rfl
@[simp] theorem State.setEntry_rng (s : State) (i : Nat) (e : Entry) : (s.setEntry i e).rng = s.rng := rfl
@[simp] theorem State.setEntry_slu (s : State) (i : Nat) (e : Entry) : (s.setEntry i e).slu = s.slu := rfl
@[simp] theorem State.setEntry_sram (s : State) (i : Nat) (e : Entry) : (s.setEntry i e).sram = s.sram := rfl
@[simp] theorem State.setEntry_gte (s : State) (i : Nat) (e : Entry) : (s.setEntry i e).gte = s.gte := rfl
@[simp] theorem State.setEntry_root (s : State) (i : Nat) (e : Entry) : (s.setEntry i e).root = s.root := rfl
@[simp] theorem State.setEntry_lcy (s : State) (i : Nat) (e : Entry) : (s.setEntry i e).lcy = s.lcy := rfl
@[simp] theorem State.setEntry_len (s : State) (i : Nat) (e : Entry) : (s.setEntry i e).len = s.len := rfl
@[simp] theorem State.setEntry_pwr (s : State) (i : Nat) (e : Entry) : (s.setEntry i e).pwr = s.pwr := rfl
@[simp] theorem State.setEntry_kwm (s : State) (i : Nat) (e : Entry) : (s.setEntry i e).kwm = s.kwm := rfl
@[simp] theorem State.setEntry_wharf (s : State) (i : Nat) (e : Entry) : (s.setEntry i e).wharf = s.wharf := rfl
@[simp] theorem State.setEntry_brv (s : State) (i : Nat) (e : Entry) : (s.setEntry i e).brv = s.brv := rfl
@[simp] theorem State.setEntry_log (s : State) (i : Nat) (e : Entry) : (s.setEntry i e).log = s.log := rfl
@[simp] theorem State.setEntry_cfg (s : State) (i : Nat) (e : Entry) : (s.setEntry i e).cfg = s.cfg := rfl
@[simp] theorem State.setEntry_out (s : State) (i : Nat) (e : Entry) : (s.setEntry i e).out = s.out := rfl
@[simp] theorem State.setEntry_free (s : State) (i : Nat) (e : Entry) : (s.setEntry i e).free = s.free := rfl
@[simp] theorem State.setEntry_pending (s : State) (i : Nat) (e : Entry) : (s.setEntry i e).pending = s.pending := rfl

/-! ### delEntry -/

@[simp] theorem State.delEntry_clock (s : State) (i : Nat) : (s.delEntry i).clock = s.clock := rfl
@[simp] theorem State.delEntry_glb (s : State) (i : Nat) : (s.delEntry i).glb = s.glb := rfl
@[simp] theorem State.delEntry_rings (s : State) (i : Nat) : (s.delEntry i).rings = s.rings := rfl
@[simp] theorem State.delEntry_cores (s : State) (i : Nat) : (s.delEntry i).cores = s.cores := rfl
@[simp] theorem State.delEntry_mor (s : State) (i : Nat) : (s.delEntry i).mor = s.mor := rfl
@[simp] theorem State.delEntry_adm (s : State) (i : Nat) : (s.delEntry i).adm = s.adm := rfl
@[simp] theorem State.delEntry_cph (s : State) (i : Nat) : (s.delEntry i).cph = s.cph := rfl
@[simp] theorem State.delEntry_hsh (s : State) (i : Nat) : (s.delEntry i).hsh = s.hsh := rfl
@[simp] theorem State.delEntry_bgn (s : State) (i : Nat) : (s.delEntry i).bgn = s.bgn := rfl
@[simp] theorem State.delEntry_rng (s : State) (i : Nat) : (s.delEntry i).rng = s.rng := rfl
@[simp] theorem State.delEntry_slu (s : State) (i : Nat) : (s.delEntry i).slu = s.slu := rfl
@[simp] theorem State.delEntry_sram (s : State) (i : Nat) : (s.delEntry i).sram = s.sram := rfl
@[simp] theorem State.delEntry_gte (s : State) (i : Nat) : (s.delEntry i).gte = s.gte := rfl
@[simp] theorem State.delEntry_root (s : State) (i : Nat) : (s.delEntry i).root = s.root := rfl
@[simp] theorem State.delEntry_lcy (s : State) (i : Nat) : (s.delEntry i).lcy = s.lcy := rfl
@[simp] theorem State.delEntry_len (s : State) (i : Nat) : (s.delEntry i).len = s.len := rfl
@[simp] theorem State.delEntry_pwr (s : State) (i : Nat) : (s.delEntry i).pwr = s.pwr := rfl
@[simp] theorem State.delEntry_kwm (s : State) (i : Nat) : (s.delEntry i).kwm = s.kwm := rfl
@[simp] theorem State.delEntry_wharf (s : State) (i : Nat) : (s.delEntry i).wharf = s.wharf := rfl
@[simp] theorem State.delEntry_brv (s : State) (i : Nat) : (s.delEntry i).brv = s.brv := rfl
@[simp] theorem State.delEntry_log (s : State) (i : Nat) : (s.delEntry i).log = s.log := rfl
@[simp] theorem State.delEntry_cfg (s : State) (i : Nat) : (s.delEntry i).cfg = s.cfg := rfl
@[simp] theorem State.delEntry_out (s : State) (i : Nat) : (s.delEntry i).out = s.out := rfl
@[simp] theorem State.delEntry_free (s : State) (i : Nat) : (s.delEntry i).free = s.free := rfl
@[simp] theorem State.delEntry_pending (s : State) (i : Nat) : (s.delEntry i).pending = s.pending := rfl

/-! ### setLane -/

@[simp] theorem State.setLane_clock (s : State) (n : Nat) (l : Lane) : (s.setLane n l).clock = s.clock := rfl
@[simp] theorem State.setLane_glb (s : State) (n : Nat) (l : Lane) : (s.setLane n l).glb = s.glb := rfl
@[simp] theorem State.setLane_rings (s : State) (n : Nat) (l : Lane) : (s.setLane n l).rings = s.rings := rfl
@[simp] theorem State.setLane_lkm (s : State) (n : Nat) (l : Lane) : (s.setLane n l).lkm = s.lkm := rfl
@[simp] theorem State.setLane_cores (s : State) (n : Nat) (l : Lane) : (s.setLane n l).cores = s.cores := rfl
@[simp] theorem State.setLane_mor (s : State) (n : Nat) (l : Lane) : (s.setLane n l).mor = s.mor := rfl
@[simp] theorem State.setLane_adm (s : State) (n : Nat) (l : Lane) : (s.setLane n l).adm = s.adm := rfl
@[simp] theorem State.setLane_hsh (s : State) (n : Nat) (l : Lane) : (s.setLane n l).hsh = s.hsh := rfl
@[simp] theorem State.setLane_bgn (s : State) (n : Nat) (l : Lane) : (s.setLane n l).bgn = s.bgn := rfl
@[simp] theorem State.setLane_rng (s : State) (n : Nat) (l : Lane) : (s.setLane n l).rng = s.rng := rfl
@[simp] theorem State.setLane_slu (s : State) (n : Nat) (l : Lane) : (s.setLane n l).slu = s.slu := rfl
@[simp] theorem State.setLane_sram (s : State) (n : Nat) (l : Lane) : (s.setLane n l).sram = s.sram := rfl
@[simp] theorem State.setLane_gte (s : State) (n : Nat) (l : Lane) : (s.setLane n l).gte = s.gte := rfl
@[simp] theorem State.setLane_root (s : State) (n : Nat) (l : Lane) : (s.setLane n l).root = s.root := rfl
@[simp] theorem State.setLane_lcy (s : State) (n : Nat) (l : Lane) : (s.setLane n l).lcy = s.lcy := rfl
@[simp] theorem State.setLane_len (s : State) (n : Nat) (l : Lane) : (s.setLane n l).len = s.len := rfl
@[simp] theorem State.setLane_pwr (s : State) (n : Nat) (l : Lane) : (s.setLane n l).pwr = s.pwr := rfl
@[simp] theorem State.setLane_kwm (s : State) (n : Nat) (l : Lane) : (s.setLane n l).kwm = s.kwm := rfl
@[simp] theorem State.setLane_wharf (s : State) (n : Nat) (l : Lane) : (s.setLane n l).wharf = s.wharf := rfl
@[simp] theorem State.setLane_brv (s : State) (n : Nat) (l : Lane) : (s.setLane n l).brv = s.brv := rfl
@[simp] theorem State.setLane_log (s : State) (n : Nat) (l : Lane) : (s.setLane n l).log = s.log := rfl
@[simp] theorem State.setLane_cfg (s : State) (n : Nat) (l : Lane) : (s.setLane n l).cfg = s.cfg := rfl
@[simp] theorem State.setLane_out (s : State) (n : Nat) (l : Lane) : (s.setLane n l).out = s.out := rfl
@[simp] theorem State.setLane_free (s : State) (n : Nat) (l : Lane) : (s.setLane n l).free = s.free := rfl
@[simp] theorem State.setLane_pending (s : State) (n : Nat) (l : Lane) : (s.setLane n l).pending = s.pending := rfl

/-! ### setEng -/

@[simp] theorem State.setEng_clock (s : State) (e : Nat) (g : Eng) : (s.setEng e g).clock = s.clock := rfl
@[simp] theorem State.setEng_glb (s : State) (e : Nat) (g : Eng) : (s.setEng e g).glb = s.glb := rfl
@[simp] theorem State.setEng_rings (s : State) (e : Nat) (g : Eng) : (s.setEng e g).rings = s.rings := rfl
@[simp] theorem State.setEng_lkm (s : State) (e : Nat) (g : Eng) : (s.setEng e g).lkm = s.lkm := rfl
@[simp] theorem State.setEng_cores (s : State) (e : Nat) (g : Eng) : (s.setEng e g).cores = s.cores := rfl
@[simp] theorem State.setEng_mor (s : State) (e : Nat) (g : Eng) : (s.setEng e g).mor = s.mor := rfl
@[simp] theorem State.setEng_adm (s : State) (e : Nat) (g : Eng) : (s.setEng e g).adm = s.adm := rfl
@[simp] theorem State.setEng_cph (s : State) (e : Nat) (g : Eng) : (s.setEng e g).cph = s.cph := rfl
@[simp] theorem State.setEng_bgn (s : State) (e : Nat) (g : Eng) : (s.setEng e g).bgn = s.bgn := rfl
@[simp] theorem State.setEng_rng (s : State) (e : Nat) (g : Eng) : (s.setEng e g).rng = s.rng := rfl
@[simp] theorem State.setEng_slu (s : State) (e : Nat) (g : Eng) : (s.setEng e g).slu = s.slu := rfl
@[simp] theorem State.setEng_sram (s : State) (e : Nat) (g : Eng) : (s.setEng e g).sram = s.sram := rfl
@[simp] theorem State.setEng_gte (s : State) (e : Nat) (g : Eng) : (s.setEng e g).gte = s.gte := rfl
@[simp] theorem State.setEng_root (s : State) (e : Nat) (g : Eng) : (s.setEng e g).root = s.root := rfl
@[simp] theorem State.setEng_lcy (s : State) (e : Nat) (g : Eng) : (s.setEng e g).lcy = s.lcy := rfl
@[simp] theorem State.setEng_len (s : State) (e : Nat) (g : Eng) : (s.setEng e g).len = s.len := rfl
@[simp] theorem State.setEng_pwr (s : State) (e : Nat) (g : Eng) : (s.setEng e g).pwr = s.pwr := rfl
@[simp] theorem State.setEng_kwm (s : State) (e : Nat) (g : Eng) : (s.setEng e g).kwm = s.kwm := rfl
@[simp] theorem State.setEng_wharf (s : State) (e : Nat) (g : Eng) : (s.setEng e g).wharf = s.wharf := rfl
@[simp] theorem State.setEng_brv (s : State) (e : Nat) (g : Eng) : (s.setEng e g).brv = s.brv := rfl
@[simp] theorem State.setEng_log (s : State) (e : Nat) (g : Eng) : (s.setEng e g).log = s.log := rfl
@[simp] theorem State.setEng_cfg (s : State) (e : Nat) (g : Eng) : (s.setEng e g).cfg = s.cfg := rfl
@[simp] theorem State.setEng_out (s : State) (e : Nat) (g : Eng) : (s.setEng e g).out = s.out := rfl
@[simp] theorem State.setEng_free (s : State) (e : Nat) (g : Eng) : (s.setEng e g).free = s.free := rfl
@[simp] theorem State.setEng_pending (s : State) (e : Nat) (g : Eng) : (s.setEng e g).pending = s.pending := rfl

/-! ### setTile -/

@[simp] theorem State.setTile_clock (s : State) (n : Nat) (t : Tile) : (s.setTile n t).clock = s.clock := rfl
@[simp] theorem State.setTile_glb (s : State) (n : Nat) (t : Tile) : (s.setTile n t).glb = s.glb := rfl
@[simp] theorem State.setTile_rings (s : State) (n : Nat) (t : Tile) : (s.setTile n t).rings = s.rings := rfl
@[simp] theorem State.setTile_lkm (s : State) (n : Nat) (t : Tile) : (s.setTile n t).lkm = s.lkm := rfl
@[simp] theorem State.setTile_cores (s : State) (n : Nat) (t : Tile) : (s.setTile n t).cores = s.cores := rfl
@[simp] theorem State.setTile_mor (s : State) (n : Nat) (t : Tile) : (s.setTile n t).mor = s.mor := rfl
@[simp] theorem State.setTile_adm (s : State) (n : Nat) (t : Tile) : (s.setTile n t).adm = s.adm := rfl
@[simp] theorem State.setTile_cph (s : State) (n : Nat) (t : Tile) : (s.setTile n t).cph = s.cph := rfl
@[simp] theorem State.setTile_hsh (s : State) (n : Nat) (t : Tile) : (s.setTile n t).hsh = s.hsh := rfl
@[simp] theorem State.setTile_rng (s : State) (n : Nat) (t : Tile) : (s.setTile n t).rng = s.rng := rfl
@[simp] theorem State.setTile_slu (s : State) (n : Nat) (t : Tile) : (s.setTile n t).slu = s.slu := rfl
@[simp] theorem State.setTile_sram (s : State) (n : Nat) (t : Tile) : (s.setTile n t).sram = s.sram := rfl
@[simp] theorem State.setTile_gte (s : State) (n : Nat) (t : Tile) : (s.setTile n t).gte = s.gte := rfl
@[simp] theorem State.setTile_root (s : State) (n : Nat) (t : Tile) : (s.setTile n t).root = s.root := rfl
@[simp] theorem State.setTile_lcy (s : State) (n : Nat) (t : Tile) : (s.setTile n t).lcy = s.lcy := rfl
@[simp] theorem State.setTile_len (s : State) (n : Nat) (t : Tile) : (s.setTile n t).len = s.len := rfl
@[simp] theorem State.setTile_pwr (s : State) (n : Nat) (t : Tile) : (s.setTile n t).pwr = s.pwr := rfl
@[simp] theorem State.setTile_kwm (s : State) (n : Nat) (t : Tile) : (s.setTile n t).kwm = s.kwm := rfl
@[simp] theorem State.setTile_wharf (s : State) (n : Nat) (t : Tile) : (s.setTile n t).wharf = s.wharf := rfl
@[simp] theorem State.setTile_brv (s : State) (n : Nat) (t : Tile) : (s.setTile n t).brv = s.brv := rfl
@[simp] theorem State.setTile_log (s : State) (n : Nat) (t : Tile) : (s.setTile n t).log = s.log := rfl
@[simp] theorem State.setTile_cfg (s : State) (n : Nat) (t : Tile) : (s.setTile n t).cfg = s.cfg := rfl
@[simp] theorem State.setTile_out (s : State) (n : Nat) (t : Tile) : (s.setTile n t).out = s.out := rfl
@[simp] theorem State.setTile_free (s : State) (n : Nat) (t : Tile) : (s.setTile n t).free = s.free := rfl
@[simp] theorem State.setTile_pending (s : State) (n : Nat) (t : Tile) : (s.setTile n t).pending = s.pending := rfl

/-! ### setCluster -/

@[simp] theorem State.setCluster_clock (s : State) (n : Nat) (c : Cluster) : (s.setCluster n c).clock = s.clock := rfl
@[simp] theorem State.setCluster_glb (s : State) (n : Nat) (c : Cluster) : (s.setCluster n c).glb = s.glb := rfl
@[simp] theorem State.setCluster_rings (s : State) (n : Nat) (c : Cluster) : (s.setCluster n c).rings = s.rings := rfl
@[simp] theorem State.setCluster_lkm (s : State) (n : Nat) (c : Cluster) : (s.setCluster n c).lkm = s.lkm := rfl
@[simp] theorem State.setCluster_cores (s : State) (n : Nat) (c : Cluster) : (s.setCluster n c).cores = s.cores := rfl
@[simp] theorem State.setCluster_mor (s : State) (n : Nat) (c : Cluster) : (s.setCluster n c).mor = s.mor := rfl
@[simp] theorem State.setCluster_adm (s : State) (n : Nat) (c : Cluster) : (s.setCluster n c).adm = s.adm := rfl
@[simp] theorem State.setCluster_cph (s : State) (n : Nat) (c : Cluster) : (s.setCluster n c).cph = s.cph := rfl
@[simp] theorem State.setCluster_hsh (s : State) (n : Nat) (c : Cluster) : (s.setCluster n c).hsh = s.hsh := rfl
@[simp] theorem State.setCluster_bgn (s : State) (n : Nat) (c : Cluster) : (s.setCluster n c).bgn = s.bgn := rfl
@[simp] theorem State.setCluster_slu (s : State) (n : Nat) (c : Cluster) : (s.setCluster n c).slu = s.slu := rfl
@[simp] theorem State.setCluster_sram (s : State) (n : Nat) (c : Cluster) : (s.setCluster n c).sram = s.sram := rfl
@[simp] theorem State.setCluster_gte (s : State) (n : Nat) (c : Cluster) : (s.setCluster n c).gte = s.gte := rfl
@[simp] theorem State.setCluster_root (s : State) (n : Nat) (c : Cluster) : (s.setCluster n c).root = s.root := rfl
@[simp] theorem State.setCluster_lcy (s : State) (n : Nat) (c : Cluster) : (s.setCluster n c).lcy = s.lcy := rfl
@[simp] theorem State.setCluster_len (s : State) (n : Nat) (c : Cluster) : (s.setCluster n c).len = s.len := rfl
@[simp] theorem State.setCluster_pwr (s : State) (n : Nat) (c : Cluster) : (s.setCluster n c).pwr = s.pwr := rfl
@[simp] theorem State.setCluster_kwm (s : State) (n : Nat) (c : Cluster) : (s.setCluster n c).kwm = s.kwm := rfl
@[simp] theorem State.setCluster_wharf (s : State) (n : Nat) (c : Cluster) : (s.setCluster n c).wharf = s.wharf := rfl
@[simp] theorem State.setCluster_brv (s : State) (n : Nat) (c : Cluster) : (s.setCluster n c).brv = s.brv := rfl
@[simp] theorem State.setCluster_log (s : State) (n : Nat) (c : Cluster) : (s.setCluster n c).log = s.log := rfl
@[simp] theorem State.setCluster_cfg (s : State) (n : Nat) (c : Cluster) : (s.setCluster n c).cfg = s.cfg := rfl
@[simp] theorem State.setCluster_out (s : State) (n : Nat) (c : Cluster) : (s.setCluster n c).out = s.out := rfl
@[simp] theorem State.setCluster_free (s : State) (n : Nat) (c : Cluster) : (s.setCluster n c).free = s.free := rfl
@[simp] theorem State.setCluster_pending (s : State) (n : Nat) (c : Cluster) : (s.setCluster n c).pending = s.pending := rfl

/-! ### setDrbg -/

@[simp] theorem State.setDrbg_clock (s : State) (n : Nat) (d : Drbg) : (s.setDrbg n d).clock = s.clock := rfl
@[simp] theorem State.setDrbg_glb (s : State) (n : Nat) (d : Drbg) : (s.setDrbg n d).glb = s.glb := rfl
@[simp] theorem State.setDrbg_rings (s : State) (n : Nat) (d : Drbg) : (s.setDrbg n d).rings = s.rings := rfl
@[simp] theorem State.setDrbg_lkm (s : State) (n : Nat) (d : Drbg) : (s.setDrbg n d).lkm = s.lkm := rfl
@[simp] theorem State.setDrbg_cores (s : State) (n : Nat) (d : Drbg) : (s.setDrbg n d).cores = s.cores := rfl
@[simp] theorem State.setDrbg_mor (s : State) (n : Nat) (d : Drbg) : (s.setDrbg n d).mor = s.mor := rfl
@[simp] theorem State.setDrbg_adm (s : State) (n : Nat) (d : Drbg) : (s.setDrbg n d).adm = s.adm := rfl
@[simp] theorem State.setDrbg_cph (s : State) (n : Nat) (d : Drbg) : (s.setDrbg n d).cph = s.cph := rfl
@[simp] theorem State.setDrbg_hsh (s : State) (n : Nat) (d : Drbg) : (s.setDrbg n d).hsh = s.hsh := rfl
@[simp] theorem State.setDrbg_bgn (s : State) (n : Nat) (d : Drbg) : (s.setDrbg n d).bgn = s.bgn := rfl
@[simp] theorem State.setDrbg_slu (s : State) (n : Nat) (d : Drbg) : (s.setDrbg n d).slu = s.slu := rfl
@[simp] theorem State.setDrbg_sram (s : State) (n : Nat) (d : Drbg) : (s.setDrbg n d).sram = s.sram := rfl
@[simp] theorem State.setDrbg_gte (s : State) (n : Nat) (d : Drbg) : (s.setDrbg n d).gte = s.gte := rfl
@[simp] theorem State.setDrbg_root (s : State) (n : Nat) (d : Drbg) : (s.setDrbg n d).root = s.root := rfl
@[simp] theorem State.setDrbg_lcy (s : State) (n : Nat) (d : Drbg) : (s.setDrbg n d).lcy = s.lcy := rfl
@[simp] theorem State.setDrbg_len (s : State) (n : Nat) (d : Drbg) : (s.setDrbg n d).len = s.len := rfl
@[simp] theorem State.setDrbg_pwr (s : State) (n : Nat) (d : Drbg) : (s.setDrbg n d).pwr = s.pwr := rfl
@[simp] theorem State.setDrbg_kwm (s : State) (n : Nat) (d : Drbg) : (s.setDrbg n d).kwm = s.kwm := rfl
@[simp] theorem State.setDrbg_wharf (s : State) (n : Nat) (d : Drbg) : (s.setDrbg n d).wharf = s.wharf := rfl
@[simp] theorem State.setDrbg_brv (s : State) (n : Nat) (d : Drbg) : (s.setDrbg n d).brv = s.brv := rfl
@[simp] theorem State.setDrbg_log (s : State) (n : Nat) (d : Drbg) : (s.setDrbg n d).log = s.log := rfl
@[simp] theorem State.setDrbg_cfg (s : State) (n : Nat) (d : Drbg) : (s.setDrbg n d).cfg = s.cfg := rfl
@[simp] theorem State.setDrbg_out (s : State) (n : Nat) (d : Drbg) : (s.setDrbg n d).out = s.out := rfl
@[simp] theorem State.setDrbg_free (s : State) (n : Nat) (d : Drbg) : (s.setDrbg n d).free = s.free := rfl
@[simp] theorem State.setDrbg_pending (s : State) (n : Nat) (d : Drbg) : (s.setDrbg n d).pending = s.pending := rfl

/-! ### setLink -/

@[simp] theorem State.setLink_clock (s : State) (l : Nat) (k : BLink) : (s.setLink l k).clock = s.clock := rfl
@[simp] theorem State.setLink_glb (s : State) (l : Nat) (k : BLink) : (s.setLink l k).glb = s.glb := rfl
@[simp] theorem State.setLink_rings (s : State) (l : Nat) (k : BLink) : (s.setLink l k).rings = s.rings := rfl
@[simp] theorem State.setLink_lkm (s : State) (l : Nat) (k : BLink) : (s.setLink l k).lkm = s.lkm := rfl
@[simp] theorem State.setLink_cores (s : State) (l : Nat) (k : BLink) : (s.setLink l k).cores = s.cores := rfl
@[simp] theorem State.setLink_mor (s : State) (l : Nat) (k : BLink) : (s.setLink l k).mor = s.mor := rfl
@[simp] theorem State.setLink_adm (s : State) (l : Nat) (k : BLink) : (s.setLink l k).adm = s.adm := rfl
@[simp] theorem State.setLink_cph (s : State) (l : Nat) (k : BLink) : (s.setLink l k).cph = s.cph := rfl
@[simp] theorem State.setLink_hsh (s : State) (l : Nat) (k : BLink) : (s.setLink l k).hsh = s.hsh := rfl
@[simp] theorem State.setLink_bgn (s : State) (l : Nat) (k : BLink) : (s.setLink l k).bgn = s.bgn := rfl
@[simp] theorem State.setLink_rng (s : State) (l : Nat) (k : BLink) : (s.setLink l k).rng = s.rng := rfl
@[simp] theorem State.setLink_slu (s : State) (l : Nat) (k : BLink) : (s.setLink l k).slu = s.slu := rfl
@[simp] theorem State.setLink_sram (s : State) (l : Nat) (k : BLink) : (s.setLink l k).sram = s.sram := rfl
@[simp] theorem State.setLink_gte (s : State) (l : Nat) (k : BLink) : (s.setLink l k).gte = s.gte := rfl
@[simp] theorem State.setLink_root (s : State) (l : Nat) (k : BLink) : (s.setLink l k).root = s.root := rfl
@[simp] theorem State.setLink_lcy (s : State) (l : Nat) (k : BLink) : (s.setLink l k).lcy = s.lcy := rfl
@[simp] theorem State.setLink_len (s : State) (l : Nat) (k : BLink) : (s.setLink l k).len = s.len := rfl
@[simp] theorem State.setLink_pwr (s : State) (l : Nat) (k : BLink) : (s.setLink l k).pwr = s.pwr := rfl
@[simp] theorem State.setLink_kwm (s : State) (l : Nat) (k : BLink) : (s.setLink l k).kwm = s.kwm := rfl
@[simp] theorem State.setLink_wharf (s : State) (l : Nat) (k : BLink) : (s.setLink l k).wharf = s.wharf := rfl
@[simp] theorem State.setLink_log (s : State) (l : Nat) (k : BLink) : (s.setLink l k).log = s.log := rfl
@[simp] theorem State.setLink_cfg (s : State) (l : Nat) (k : BLink) : (s.setLink l k).cfg = s.cfg := rfl
@[simp] theorem State.setLink_out (s : State) (l : Nat) (k : BLink) : (s.setLink l k).out = s.out := rfl
@[simp] theorem State.setLink_free (s : State) (l : Nat) (k : BLink) : (s.setLink l k).free = s.free := rfl
@[simp] theorem State.setLink_pending (s : State) (l : Nat) (k : BLink) : (s.setLink l k).pending = s.pending := rfl

/-! ### setDom -/

@[simp] theorem State.setDom_clock (s : State) (d : Nat) (x : Domain) : (s.setDom d x).clock = s.clock := rfl
@[simp] theorem State.setDom_glb (s : State) (d : Nat) (x : Domain) : (s.setDom d x).glb = s.glb := rfl
@[simp] theorem State.setDom_rings (s : State) (d : Nat) (x : Domain) : (s.setDom d x).rings = s.rings := rfl
@[simp] theorem State.setDom_lkm (s : State) (d : Nat) (x : Domain) : (s.setDom d x).lkm = s.lkm := rfl
@[simp] theorem State.setDom_cores (s : State) (d : Nat) (x : Domain) : (s.setDom d x).cores = s.cores := rfl
@[simp] theorem State.setDom_mor (s : State) (d : Nat) (x : Domain) : (s.setDom d x).mor = s.mor := rfl
@[simp] theorem State.setDom_adm (s : State) (d : Nat) (x : Domain) : (s.setDom d x).adm = s.adm := rfl
@[simp] theorem State.setDom_cph (s : State) (d : Nat) (x : Domain) : (s.setDom d x).cph = s.cph := rfl
@[simp] theorem State.setDom_hsh (s : State) (d : Nat) (x : Domain) : (s.setDom d x).hsh = s.hsh := rfl
@[simp] theorem State.setDom_bgn (s : State) (d : Nat) (x : Domain) : (s.setDom d x).bgn = s.bgn := rfl
@[simp] theorem State.setDom_rng (s : State) (d : Nat) (x : Domain) : (s.setDom d x).rng = s.rng := rfl
@[simp] theorem State.setDom_slu (s : State) (d : Nat) (x : Domain) : (s.setDom d x).slu = s.slu := rfl
@[simp] theorem State.setDom_sram (s : State) (d : Nat) (x : Domain) : (s.setDom d x).sram = s.sram := rfl
@[simp] theorem State.setDom_gte (s : State) (d : Nat) (x : Domain) : (s.setDom d x).gte = s.gte := rfl
@[simp] theorem State.setDom_root (s : State) (d : Nat) (x : Domain) : (s.setDom d x).root = s.root := rfl
@[simp] theorem State.setDom_lcy (s : State) (d : Nat) (x : Domain) : (s.setDom d x).lcy = s.lcy := rfl
@[simp] theorem State.setDom_len (s : State) (d : Nat) (x : Domain) : (s.setDom d x).len = s.len := rfl
@[simp] theorem State.setDom_kwm (s : State) (d : Nat) (x : Domain) : (s.setDom d x).kwm = s.kwm := rfl
@[simp] theorem State.setDom_wharf (s : State) (d : Nat) (x : Domain) : (s.setDom d x).wharf = s.wharf := rfl
@[simp] theorem State.setDom_brv (s : State) (d : Nat) (x : Domain) : (s.setDom d x).brv = s.brv := rfl
@[simp] theorem State.setDom_log (s : State) (d : Nat) (x : Domain) : (s.setDom d x).log = s.log := rfl
@[simp] theorem State.setDom_cfg (s : State) (d : Nat) (x : Domain) : (s.setDom d x).cfg = s.cfg := rfl
@[simp] theorem State.setDom_out (s : State) (d : Nat) (x : Domain) : (s.setDom d x).out = s.out := rfl
@[simp] theorem State.setDom_free (s : State) (d : Nat) (x : Domain) : (s.setDom d x).free = s.free := rfl
@[simp] theorem State.setDom_pending (s : State) (d : Nat) (x : Domain) : (s.setDom d x).pending = s.pending := rfl

/-! ### idleNow -/

@[simp] theorem State.idleNow_clock (s : State) (d : Nat) : (s.idleNow d).clock = s.clock := rfl
@[simp] theorem State.idleNow_glb (s : State) (d : Nat) : (s.idleNow d).glb = s.glb := rfl
@[simp] theorem State.idleNow_rings (s : State) (d : Nat) : (s.idleNow d).rings = s.rings := rfl
@[simp] theorem State.idleNow_lkm (s : State) (d : Nat) : (s.idleNow d).lkm = s.lkm := rfl
@[simp] theorem State.idleNow_cores (s : State) (d : Nat) : (s.idleNow d).cores = s.cores := rfl
@[simp] theorem State.idleNow_mor (s : State) (d : Nat) : (s.idleNow d).mor = s.mor := rfl
@[simp] theorem State.idleNow_adm (s : State) (d : Nat) : (s.idleNow d).adm = s.adm := rfl
@[simp] theorem State.idleNow_cph (s : State) (d : Nat) : (s.idleNow d).cph = s.cph := rfl
@[simp] theorem State.idleNow_hsh (s : State) (d : Nat) : (s.idleNow d).hsh = s.hsh := rfl
@[simp] theorem State.idleNow_bgn (s : State) (d : Nat) : (s.idleNow d).bgn = s.bgn := rfl
@[simp] theorem State.idleNow_rng (s : State) (d : Nat) : (s.idleNow d).rng = s.rng := rfl
@[simp] theorem State.idleNow_slu (s : State) (d : Nat) : (s.idleNow d).slu = s.slu := rfl
@[simp] theorem State.idleNow_sram (s : State) (d : Nat) : (s.idleNow d).sram = s.sram := rfl
@[simp] theorem State.idleNow_gte (s : State) (d : Nat) : (s.idleNow d).gte = s.gte := rfl
@[simp] theorem State.idleNow_root (s : State) (d : Nat) : (s.idleNow d).root = s.root := rfl
@[simp] theorem State.idleNow_lcy (s : State) (d : Nat) : (s.idleNow d).lcy = s.lcy := rfl
@[simp] theorem State.idleNow_len (s : State) (d : Nat) : (s.idleNow d).len = s.len := rfl
@[simp] theorem State.idleNow_kwm (s : State) (d : Nat) : (s.idleNow d).kwm = s.kwm := rfl
@[simp] theorem State.idleNow_wharf (s : State) (d : Nat) : (s.idleNow d).wharf = s.wharf := rfl
@[simp] theorem State.idleNow_brv (s : State) (d : Nat) : (s.idleNow d).brv = s.brv := rfl
@[simp] theorem State.idleNow_log (s : State) (d : Nat) : (s.idleNow d).log = s.log := rfl
@[simp] theorem State.idleNow_cfg (s : State) (d : Nat) : (s.idleNow d).cfg = s.cfg := rfl
@[simp] theorem State.idleNow_out (s : State) (d : Nat) : (s.idleNow d).out = s.out := rfl
@[simp] theorem State.idleNow_free (s : State) (d : Nat) : (s.idleNow d).free = s.free := rfl
@[simp] theorem State.idleNow_pending (s : State) (d : Nat) : (s.idleNow d).pending = s.pending := rfl

/-! ### setSram -/

@[simp] theorem State.setSram_clock (s : State) (w : Nat) (x : TWord) : (s.setSram w x).clock = s.clock := rfl
@[simp] theorem State.setSram_glb (s : State) (w : Nat) (x : TWord) : (s.setSram w x).glb = s.glb := rfl
@[simp] theorem State.setSram_rings (s : State) (w : Nat) (x : TWord) : (s.setSram w x).rings = s.rings := rfl
@[simp] theorem State.setSram_lkm (s : State) (w : Nat) (x : TWord) : (s.setSram w x).lkm = s.lkm := rfl
@[simp] theorem State.setSram_cores (s : State) (w : Nat) (x : TWord) : (s.setSram w x).cores = s.cores := rfl
@[simp] theorem State.setSram_mor (s : State) (w : Nat) (x : TWord) : (s.setSram w x).mor = s.mor := rfl
@[simp] theorem State.setSram_adm (s : State) (w : Nat) (x : TWord) : (s.setSram w x).adm = s.adm := rfl
@[simp] theorem State.setSram_cph (s : State) (w : Nat) (x : TWord) : (s.setSram w x).cph = s.cph := rfl
@[simp] theorem State.setSram_hsh (s : State) (w : Nat) (x : TWord) : (s.setSram w x).hsh = s.hsh := rfl
@[simp] theorem State.setSram_bgn (s : State) (w : Nat) (x : TWord) : (s.setSram w x).bgn = s.bgn := rfl
@[simp] theorem State.setSram_rng (s : State) (w : Nat) (x : TWord) : (s.setSram w x).rng = s.rng := rfl
@[simp] theorem State.setSram_slu (s : State) (w : Nat) (x : TWord) : (s.setSram w x).slu = s.slu := rfl
@[simp] theorem State.setSram_gte (s : State) (w : Nat) (x : TWord) : (s.setSram w x).gte = s.gte := rfl
@[simp] theorem State.setSram_root (s : State) (w : Nat) (x : TWord) : (s.setSram w x).root = s.root := rfl
@[simp] theorem State.setSram_lcy (s : State) (w : Nat) (x : TWord) : (s.setSram w x).lcy = s.lcy := rfl
@[simp] theorem State.setSram_len (s : State) (w : Nat) (x : TWord) : (s.setSram w x).len = s.len := rfl
@[simp] theorem State.setSram_pwr (s : State) (w : Nat) (x : TWord) : (s.setSram w x).pwr = s.pwr := rfl
@[simp] theorem State.setSram_kwm (s : State) (w : Nat) (x : TWord) : (s.setSram w x).kwm = s.kwm := rfl
@[simp] theorem State.setSram_wharf (s : State) (w : Nat) (x : TWord) : (s.setSram w x).wharf = s.wharf := rfl
@[simp] theorem State.setSram_brv (s : State) (w : Nat) (x : TWord) : (s.setSram w x).brv = s.brv := rfl
@[simp] theorem State.setSram_log (s : State) (w : Nat) (x : TWord) : (s.setSram w x).log = s.log := rfl
@[simp] theorem State.setSram_cfg (s : State) (w : Nat) (x : TWord) : (s.setSram w x).cfg = s.cfg := rfl
@[simp] theorem State.setSram_out (s : State) (w : Nat) (x : TWord) : (s.setSram w x).out = s.out := rfl
@[simp] theorem State.setSram_free (s : State) (w : Nat) (x : TWord) : (s.setSram w x).free = s.free := rfl
@[simp] theorem State.setSram_pending (s : State) (w : Nat) (x : TWord) : (s.setSram w x).pending = s.pending := rfl

/-! ### emit -/

@[simp] theorem State.emit_clock (s : State) (e : Emit) : (s.emit e).clock = s.clock := rfl
@[simp] theorem State.emit_glb (s : State) (e : Emit) : (s.emit e).glb = s.glb := rfl
@[simp] theorem State.emit_rings (s : State) (e : Emit) : (s.emit e).rings = s.rings := rfl
@[simp] theorem State.emit_lkm (s : State) (e : Emit) : (s.emit e).lkm = s.lkm := rfl
@[simp] theorem State.emit_cores (s : State) (e : Emit) : (s.emit e).cores = s.cores := rfl
@[simp] theorem State.emit_mor (s : State) (e : Emit) : (s.emit e).mor = s.mor := rfl
@[simp] theorem State.emit_adm (s : State) (e : Emit) : (s.emit e).adm = s.adm := rfl
@[simp] theorem State.emit_cph (s : State) (e : Emit) : (s.emit e).cph = s.cph := rfl
@[simp] theorem State.emit_hsh (s : State) (e : Emit) : (s.emit e).hsh = s.hsh := rfl
@[simp] theorem State.emit_bgn (s : State) (e : Emit) : (s.emit e).bgn = s.bgn := rfl
@[simp] theorem State.emit_rng (s : State) (e : Emit) : (s.emit e).rng = s.rng := rfl
@[simp] theorem State.emit_slu (s : State) (e : Emit) : (s.emit e).slu = s.slu := rfl
@[simp] theorem State.emit_sram (s : State) (e : Emit) : (s.emit e).sram = s.sram := rfl
@[simp] theorem State.emit_gte (s : State) (e : Emit) : (s.emit e).gte = s.gte := rfl
@[simp] theorem State.emit_root (s : State) (e : Emit) : (s.emit e).root = s.root := rfl
@[simp] theorem State.emit_lcy (s : State) (e : Emit) : (s.emit e).lcy = s.lcy := rfl
@[simp] theorem State.emit_len (s : State) (e : Emit) : (s.emit e).len = s.len := rfl
@[simp] theorem State.emit_pwr (s : State) (e : Emit) : (s.emit e).pwr = s.pwr := rfl
@[simp] theorem State.emit_kwm (s : State) (e : Emit) : (s.emit e).kwm = s.kwm := rfl
@[simp] theorem State.emit_wharf (s : State) (e : Emit) : (s.emit e).wharf = s.wharf := rfl
@[simp] theorem State.emit_brv (s : State) (e : Emit) : (s.emit e).brv = s.brv := rfl
@[simp] theorem State.emit_log (s : State) (e : Emit) : (s.emit e).log = s.log := rfl
@[simp] theorem State.emit_cfg (s : State) (e : Emit) : (s.emit e).cfg = s.cfg := rfl
@[simp] theorem State.emit_free (s : State) (e : Emit) : (s.emit e).free = s.free := rfl
@[simp] theorem State.emit_pending (s : State) (e : Emit) : (s.emit e).pending = s.pending := rfl

/-! ### emits -/

@[simp] theorem State.emits_clock (s : State) (es : List Emit) : (s.emits es).clock = s.clock := rfl
@[simp] theorem State.emits_glb (s : State) (es : List Emit) : (s.emits es).glb = s.glb := rfl
@[simp] theorem State.emits_rings (s : State) (es : List Emit) : (s.emits es).rings = s.rings := rfl
@[simp] theorem State.emits_lkm (s : State) (es : List Emit) : (s.emits es).lkm = s.lkm := rfl
@[simp] theorem State.emits_cores (s : State) (es : List Emit) : (s.emits es).cores = s.cores := rfl
@[simp] theorem State.emits_mor (s : State) (es : List Emit) : (s.emits es).mor = s.mor := rfl
@[simp] theorem State.emits_adm (s : State) (es : List Emit) : (s.emits es).adm = s.adm := rfl
@[simp] theorem State.emits_cph (s : State) (es : List Emit) : (s.emits es).cph = s.cph := rfl
@[simp] theorem State.emits_hsh (s : State) (es : List Emit) : (s.emits es).hsh = s.hsh := rfl
@[simp] theorem State.emits_bgn (s : State) (es : List Emit) : (s.emits es).bgn = s.bgn := rfl
@[simp] theorem State.emits_rng (s : State) (es : List Emit) : (s.emits es).rng = s.rng := rfl
@[simp] theorem State.emits_slu (s : State) (es : List Emit) : (s.emits es).slu = s.slu := rfl
@[simp] theorem State.emits_sram (s : State) (es : List Emit) : (s.emits es).sram = s.sram := rfl
@[simp] theorem State.emits_gte (s : State) (es : List Emit) : (s.emits es).gte = s.gte := rfl
@[simp] theorem State.emits_root (s : State) (es : List Emit) : (s.emits es).root = s.root := rfl
@[simp] theorem State.emits_lcy (s : State) (es : List Emit) : (s.emits es).lcy = s.lcy := rfl
@[simp] theorem State.emits_len (s : State) (es : List Emit) : (s.emits es).len = s.len := rfl
@[simp] theorem State.emits_pwr (s : State) (es : List Emit) : (s.emits es).pwr = s.pwr := rfl
@[simp] theorem State.emits_kwm (s : State) (es : List Emit) : (s.emits es).kwm = s.kwm := rfl
@[simp] theorem State.emits_wharf (s : State) (es : List Emit) : (s.emits es).wharf = s.wharf := rfl
@[simp] theorem State.emits_brv (s : State) (es : List Emit) : (s.emits es).brv = s.brv := rfl
@[simp] theorem State.emits_log (s : State) (es : List Emit) : (s.emits es).log = s.log := rfl
@[simp] theorem State.emits_cfg (s : State) (es : List Emit) : (s.emits es).cfg = s.cfg := rfl
@[simp] theorem State.emits_free (s : State) (es : List Emit) : (s.emits es).free = s.free := rfl
@[simp] theorem State.emits_pending (s : State) (es : List Emit) : (s.emits es).pending = s.pending := rfl

/-! ### engineBusy -/

@[simp] theorem State.engineBusy_clock (s : State) (e n : Nat) : (s.engineBusy e n).clock = s.clock := rfl
@[simp] theorem State.engineBusy_glb (s : State) (e n : Nat) : (s.engineBusy e n).glb = s.glb := rfl
@[simp] theorem State.engineBusy_rings (s : State) (e n : Nat) : (s.engineBusy e n).rings = s.rings := rfl
@[simp] theorem State.engineBusy_cores (s : State) (e n : Nat) : (s.engineBusy e n).cores = s.cores := rfl
@[simp] theorem State.engineBusy_mor (s : State) (e n : Nat) : (s.engineBusy e n).mor = s.mor := rfl
@[simp] theorem State.engineBusy_adm (s : State) (e n : Nat) : (s.engineBusy e n).adm = s.adm := rfl
@[simp] theorem State.engineBusy_cph (s : State) (e n : Nat) : (s.engineBusy e n).cph = s.cph := rfl
@[simp] theorem State.engineBusy_hsh (s : State) (e n : Nat) : (s.engineBusy e n).hsh = s.hsh := rfl
@[simp] theorem State.engineBusy_bgn (s : State) (e n : Nat) : (s.engineBusy e n).bgn = s.bgn := rfl
@[simp] theorem State.engineBusy_rng (s : State) (e n : Nat) : (s.engineBusy e n).rng = s.rng := rfl
@[simp] theorem State.engineBusy_slu (s : State) (e n : Nat) : (s.engineBusy e n).slu = s.slu := rfl
@[simp] theorem State.engineBusy_sram (s : State) (e n : Nat) : (s.engineBusy e n).sram = s.sram := rfl
@[simp] theorem State.engineBusy_gte (s : State) (e n : Nat) : (s.engineBusy e n).gte = s.gte := rfl
@[simp] theorem State.engineBusy_root (s : State) (e n : Nat) : (s.engineBusy e n).root = s.root := rfl
@[simp] theorem State.engineBusy_lcy (s : State) (e n : Nat) : (s.engineBusy e n).lcy = s.lcy := rfl
@[simp] theorem State.engineBusy_len (s : State) (e n : Nat) : (s.engineBusy e n).len = s.len := rfl
@[simp] theorem State.engineBusy_pwr (s : State) (e n : Nat) : (s.engineBusy e n).pwr = s.pwr := rfl
@[simp] theorem State.engineBusy_kwm (s : State) (e n : Nat) : (s.engineBusy e n).kwm = s.kwm := rfl
@[simp] theorem State.engineBusy_wharf (s : State) (e n : Nat) : (s.engineBusy e n).wharf = s.wharf := rfl
@[simp] theorem State.engineBusy_brv (s : State) (e n : Nat) : (s.engineBusy e n).brv = s.brv := rfl
@[simp] theorem State.engineBusy_log (s : State) (e n : Nat) : (s.engineBusy e n).log = s.log := rfl
@[simp] theorem State.engineBusy_cfg (s : State) (e n : Nat) : (s.engineBusy e n).cfg = s.cfg := rfl
@[simp] theorem State.engineBusy_out (s : State) (e n : Nat) : (s.engineBusy e n).out = s.out := rfl
@[simp] theorem State.engineBusy_free (s : State) (e n : Nat) : (s.engineBusy e n).free = s.free := rfl
@[simp] theorem State.engineBusy_pending (s : State) (e n : Nat) : (s.engineBusy e n).pending = s.pending := rfl

/-! ### msix -/

@[simp] theorem State.msix_clock (s : State) (fn vec : Nat) : (s.msix fn vec).clock = s.clock := by
  unfold State.msix State.sendMsix; split <;> split <;> rfl
@[simp] theorem State.msix_glb (s : State) (fn vec : Nat) : (s.msix fn vec).glb = s.glb := by
  unfold State.msix State.sendMsix; split <;> split <;> rfl
@[simp] theorem State.msix_rings (s : State) (fn vec : Nat) : (s.msix fn vec).rings = s.rings := by
  unfold State.msix State.sendMsix; split <;> split <;> rfl
@[simp] theorem State.msix_lkm (s : State) (fn vec : Nat) : (s.msix fn vec).lkm = s.lkm := by
  unfold State.msix State.sendMsix; split <;> split <;> rfl
@[simp] theorem State.msix_cores (s : State) (fn vec : Nat) : (s.msix fn vec).cores = s.cores := by
  unfold State.msix State.sendMsix; split <;> split <;> rfl
@[simp] theorem State.msix_mor (s : State) (fn vec : Nat) : (s.msix fn vec).mor = s.mor := by
  unfold State.msix State.sendMsix; split <;> split <;> rfl
@[simp] theorem State.msix_adm (s : State) (fn vec : Nat) : (s.msix fn vec).adm = s.adm := by
  unfold State.msix State.sendMsix; split <;> split <;> rfl
@[simp] theorem State.msix_cph (s : State) (fn vec : Nat) : (s.msix fn vec).cph = s.cph := by
  unfold State.msix State.sendMsix; split <;> split <;> rfl
@[simp] theorem State.msix_hsh (s : State) (fn vec : Nat) : (s.msix fn vec).hsh = s.hsh := by
  unfold State.msix State.sendMsix; split <;> split <;> rfl
@[simp] theorem State.msix_bgn (s : State) (fn vec : Nat) : (s.msix fn vec).bgn = s.bgn := by
  unfold State.msix State.sendMsix; split <;> split <;> rfl
@[simp] theorem State.msix_rng (s : State) (fn vec : Nat) : (s.msix fn vec).rng = s.rng := by
  unfold State.msix State.sendMsix; split <;> split <;> rfl
@[simp] theorem State.msix_slu (s : State) (fn vec : Nat) : (s.msix fn vec).slu = s.slu := by
  unfold State.msix State.sendMsix; split <;> split <;> rfl
@[simp] theorem State.msix_sram (s : State) (fn vec : Nat) : (s.msix fn vec).sram = s.sram := by
  unfold State.msix State.sendMsix; split <;> split <;> rfl
@[simp] theorem State.msix_gte (s : State) (fn vec : Nat) : (s.msix fn vec).gte = s.gte := by
  unfold State.msix State.sendMsix; split <;> split <;> rfl
@[simp] theorem State.msix_root (s : State) (fn vec : Nat) : (s.msix fn vec).root = s.root := by
  unfold State.msix State.sendMsix; split <;> split <;> rfl
@[simp] theorem State.msix_lcy (s : State) (fn vec : Nat) : (s.msix fn vec).lcy = s.lcy := by
  unfold State.msix State.sendMsix; split <;> split <;> rfl
@[simp] theorem State.msix_len (s : State) (fn vec : Nat) : (s.msix fn vec).len = s.len := by
  unfold State.msix State.sendMsix; split <;> split <;> rfl
@[simp] theorem State.msix_pwr (s : State) (fn vec : Nat) : (s.msix fn vec).pwr = s.pwr := by
  unfold State.msix State.sendMsix; split <;> split <;> rfl
@[simp] theorem State.msix_kwm (s : State) (fn vec : Nat) : (s.msix fn vec).kwm = s.kwm := by
  unfold State.msix State.sendMsix; split <;> split <;> rfl
@[simp] theorem State.msix_brv (s : State) (fn vec : Nat) : (s.msix fn vec).brv = s.brv := by
  unfold State.msix State.sendMsix; split <;> split <;> rfl
@[simp] theorem State.msix_log (s : State) (fn vec : Nat) : (s.msix fn vec).log = s.log := by
  unfold State.msix State.sendMsix; split <;> split <;> rfl
@[simp] theorem State.msix_cfg (s : State) (fn vec : Nat) : (s.msix fn vec).cfg = s.cfg := by
  unfold State.msix State.sendMsix; split <;> split <;> rfl
@[simp] theorem State.msix_free (s : State) (fn vec : Nat) : (s.msix fn vec).free = s.free := by
  unfold State.msix State.sendMsix; split <;> split <;> rfl
@[simp] theorem State.msix_pending (s : State) (fn vec : Nat) : (s.msix fn vec).pending = s.pending := by
  unfold State.msix State.sendMsix; split <;> split <;> rfl

/-! ### withGlb -/

@[simp] theorem State.withGlb_clock (s : State) (g : Glb) : (s.withGlb g).clock = s.clock := by
  unfold State.withGlb; split <;> simp
@[simp] theorem State.withGlb_rings (s : State) (g : Glb) : (s.withGlb g).rings = s.rings := by
  unfold State.withGlb; split <;> simp
@[simp] theorem State.withGlb_lkm (s : State) (g : Glb) : (s.withGlb g).lkm = s.lkm := by
  unfold State.withGlb; split <;> simp
@[simp] theorem State.withGlb_cores (s : State) (g : Glb) : (s.withGlb g).cores = s.cores := by
  unfold State.withGlb; split <;> simp
@[simp] theorem State.withGlb_mor (s : State) (g : Glb) : (s.withGlb g).mor = s.mor := by
  unfold State.withGlb; split <;> simp
@[simp] theorem State.withGlb_adm (s : State) (g : Glb) : (s.withGlb g).adm = s.adm := by
  unfold State.withGlb; split <;> simp
@[simp] theorem State.withGlb_cph (s : State) (g : Glb) : (s.withGlb g).cph = s.cph := by
  unfold State.withGlb; split <;> simp
@[simp] theorem State.withGlb_hsh (s : State) (g : Glb) : (s.withGlb g).hsh = s.hsh := by
  unfold State.withGlb; split <;> simp
@[simp] theorem State.withGlb_bgn (s : State) (g : Glb) : (s.withGlb g).bgn = s.bgn := by
  unfold State.withGlb; split <;> simp
@[simp] theorem State.withGlb_rng (s : State) (g : Glb) : (s.withGlb g).rng = s.rng := by
  unfold State.withGlb; split <;> simp
@[simp] theorem State.withGlb_slu (s : State) (g : Glb) : (s.withGlb g).slu = s.slu := by
  unfold State.withGlb; split <;> simp
@[simp] theorem State.withGlb_sram (s : State) (g : Glb) : (s.withGlb g).sram = s.sram := by
  unfold State.withGlb; split <;> simp
@[simp] theorem State.withGlb_gte (s : State) (g : Glb) : (s.withGlb g).gte = s.gte := by
  unfold State.withGlb; split <;> simp
@[simp] theorem State.withGlb_root (s : State) (g : Glb) : (s.withGlb g).root = s.root := by
  unfold State.withGlb; split <;> simp
@[simp] theorem State.withGlb_lcy (s : State) (g : Glb) : (s.withGlb g).lcy = s.lcy := by
  unfold State.withGlb; split <;> simp
@[simp] theorem State.withGlb_len (s : State) (g : Glb) : (s.withGlb g).len = s.len := by
  unfold State.withGlb; split <;> simp
@[simp] theorem State.withGlb_pwr (s : State) (g : Glb) : (s.withGlb g).pwr = s.pwr := by
  unfold State.withGlb; split <;> simp
@[simp] theorem State.withGlb_kwm (s : State) (g : Glb) : (s.withGlb g).kwm = s.kwm := by
  unfold State.withGlb; split <;> simp
@[simp] theorem State.withGlb_brv (s : State) (g : Glb) : (s.withGlb g).brv = s.brv := by
  unfold State.withGlb; split <;> simp
@[simp] theorem State.withGlb_log (s : State) (g : Glb) : (s.withGlb g).log = s.log := by
  unfold State.withGlb; split <;> simp
@[simp] theorem State.withGlb_cfg (s : State) (g : Glb) : (s.withGlb g).cfg = s.cfg := by
  unfold State.withGlb; split <;> simp
@[simp] theorem State.withGlb_free (s : State) (g : Glb) : (s.withGlb g).free = s.free := by
  unfold State.withGlb; split <;> simp
@[simp] theorem State.withGlb_pending (s : State) (g : Glb) : (s.withGlb g).pending = s.pending := by
  unfold State.withGlb; split <;> simp

/-! ### setInt -/

@[simp] theorem State.setInt_clock (s : State) (b : BitVec 6) : (s.setInt b).clock = s.clock := by
  unfold State.setInt; simp
@[simp] theorem State.setInt_rings (s : State) (b : BitVec 6) : (s.setInt b).rings = s.rings := by
  unfold State.setInt; simp
@[simp] theorem State.setInt_lkm (s : State) (b : BitVec 6) : (s.setInt b).lkm = s.lkm := by
  unfold State.setInt; simp
@[simp] theorem State.setInt_cores (s : State) (b : BitVec 6) : (s.setInt b).cores = s.cores := by
  unfold State.setInt; simp
@[simp] theorem State.setInt_mor (s : State) (b : BitVec 6) : (s.setInt b).mor = s.mor := by
  unfold State.setInt; simp
@[simp] theorem State.setInt_adm (s : State) (b : BitVec 6) : (s.setInt b).adm = s.adm := by
  unfold State.setInt; simp
@[simp] theorem State.setInt_cph (s : State) (b : BitVec 6) : (s.setInt b).cph = s.cph := by
  unfold State.setInt; simp
@[simp] theorem State.setInt_hsh (s : State) (b : BitVec 6) : (s.setInt b).hsh = s.hsh := by
  unfold State.setInt; simp
@[simp] theorem State.setInt_bgn (s : State) (b : BitVec 6) : (s.setInt b).bgn = s.bgn := by
  unfold State.setInt; simp
@[simp] theorem State.setInt_rng (s : State) (b : BitVec 6) : (s.setInt b).rng = s.rng := by
  unfold State.setInt; simp
@[simp] theorem State.setInt_slu (s : State) (b : BitVec 6) : (s.setInt b).slu = s.slu := by
  unfold State.setInt; simp
@[simp] theorem State.setInt_sram (s : State) (b : BitVec 6) : (s.setInt b).sram = s.sram := by
  unfold State.setInt; simp
@[simp] theorem State.setInt_gte (s : State) (b : BitVec 6) : (s.setInt b).gte = s.gte := by
  unfold State.setInt; simp
@[simp] theorem State.setInt_root (s : State) (b : BitVec 6) : (s.setInt b).root = s.root := by
  unfold State.setInt; simp
@[simp] theorem State.setInt_lcy (s : State) (b : BitVec 6) : (s.setInt b).lcy = s.lcy := by
  unfold State.setInt; simp
@[simp] theorem State.setInt_len (s : State) (b : BitVec 6) : (s.setInt b).len = s.len := by
  unfold State.setInt; simp
@[simp] theorem State.setInt_pwr (s : State) (b : BitVec 6) : (s.setInt b).pwr = s.pwr := by
  unfold State.setInt; simp
@[simp] theorem State.setInt_kwm (s : State) (b : BitVec 6) : (s.setInt b).kwm = s.kwm := by
  unfold State.setInt; simp
@[simp] theorem State.setInt_brv (s : State) (b : BitVec 6) : (s.setInt b).brv = s.brv := by
  unfold State.setInt; simp
@[simp] theorem State.setInt_log (s : State) (b : BitVec 6) : (s.setInt b).log = s.log := by
  unfold State.setInt; simp
@[simp] theorem State.setInt_cfg (s : State) (b : BitVec 6) : (s.setInt b).cfg = s.cfg := by
  unfold State.setInt; simp
@[simp] theorem State.setInt_free (s : State) (b : BitVec 6) : (s.setInt b).free = s.free := by
  unfold State.setInt; simp
@[simp] theorem State.setInt_pending (s : State) (b : BitVec 6) : (s.setInt b).pending = s.pending := by
  unfold State.setInt; simp

/-! ### Reading back -/

@[simp] theorem State.freshNat_snd_pending (s : State) : s.freshNat.2.pending = s.pending := rfl
@[simp] theorem State.emit_out (s : State) (e : Emit) : (s.emit e).out = s.out ++ [e] := rfl
@[simp] theorem State.emits_out (s : State) (es : List Emit) : (s.emits es).out = s.out ++ es := rfl
@[simp] theorem State.withGlb_glb (s : State) (g : Glb) : (s.withGlb g).glb = g := by
  unfold State.withGlb; simp only []; split
  · unfold State.msix State.sendMsix; split <;> split <;> rfl
  · rfl

@[simp] theorem State.ringAt_setRing (s : State) (r : Nat) (g : Ring) : (s.setRing r g).ringAt r = g := by
  simp [State.ringAt, State.setRing]

theorem State.ringAt_setRing_ne (s : State) (r q : Nat) (g : Ring) (h : q ≠ r) : (s.setRing r g).ringAt q = s.ringAt q := by
  simp [State.ringAt, State.setRing, h]

@[simp] theorem State.setCore_ringAt (s : State) (k : Nat) (c : Core) (q : Nat) : (s.setCore k c).ringAt q = s.ringAt q := rfl
@[simp] theorem State.setEntry_ringAt (s : State) (i : Nat) (e : Entry) (q : Nat) : (s.setEntry i e).ringAt q = s.ringAt q := rfl
@[simp] theorem State.delEntry_ringAt (s : State) (i : Nat) (q : Nat) : (s.delEntry i).ringAt q = s.ringAt q := rfl
@[simp] theorem State.setLane_ringAt (s : State) (n : Nat) (l : Lane) (q : Nat) : (s.setLane n l).ringAt q = s.ringAt q := rfl
@[simp] theorem State.setEng_ringAt (s : State) (e : Nat) (g : Eng) (q : Nat) : (s.setEng e g).ringAt q = s.ringAt q := rfl
@[simp] theorem State.setTile_ringAt (s : State) (n : Nat) (t : Tile) (q : Nat) : (s.setTile n t).ringAt q = s.ringAt q := rfl
@[simp] theorem State.setCluster_ringAt (s : State) (n : Nat) (c : Cluster) (q : Nat) : (s.setCluster n c).ringAt q = s.ringAt q := rfl
@[simp] theorem State.setDrbg_ringAt (s : State) (n : Nat) (d : Drbg) (q : Nat) : (s.setDrbg n d).ringAt q = s.ringAt q := rfl
@[simp] theorem State.setLink_ringAt (s : State) (l : Nat) (k : BLink) (q : Nat) : (s.setLink l k).ringAt q = s.ringAt q := rfl
@[simp] theorem State.setDom_ringAt (s : State) (d : Nat) (x : Domain) (q : Nat) : (s.setDom d x).ringAt q = s.ringAt q := rfl
@[simp] theorem State.idleNow_ringAt (s : State) (d : Nat) (q : Nat) : (s.idleNow d).ringAt q = s.ringAt q := rfl
@[simp] theorem State.setSram_ringAt (s : State) (w : Nat) (x : TWord) (q : Nat) : (s.setSram w x).ringAt q = s.ringAt q := rfl
@[simp] theorem State.emit_ringAt (s : State) (e : Emit) (q : Nat) : (s.emit e).ringAt q = s.ringAt q := rfl
@[simp] theorem State.emits_ringAt (s : State) (es : List Emit) (q : Nat) : (s.emits es).ringAt q = s.ringAt q := rfl
@[simp] theorem State.engineBusy_ringAt (s : State) (e n : Nat) (q : Nat) : (s.engineBusy e n).ringAt q = s.ringAt q := rfl

@[simp] theorem State.coreAt_setCore (s : State) (r : Nat) (g : Core) : (s.setCore r g).coreAt r = g := by
  simp [State.coreAt, State.setCore]

theorem State.coreAt_setCore_ne (s : State) (r q : Nat) (g : Core) (h : q ≠ r) : (s.setCore r g).coreAt q = s.coreAt q := by
  simp [State.coreAt, State.setCore, h]

@[simp] theorem State.setRing_coreAt (s : State) (r : Nat) (g : Ring) (q : Nat) : (s.setRing r g).coreAt q = s.coreAt q := rfl
@[simp] theorem State.setEntry_coreAt (s : State) (i : Nat) (e : Entry) (q : Nat) : (s.setEntry i e).coreAt q = s.coreAt q := rfl
@[simp] theorem State.delEntry_coreAt (s : State) (i : Nat) (q : Nat) : (s.delEntry i).coreAt q = s.coreAt q := rfl
@[simp] theorem State.setLane_coreAt (s : State) (n : Nat) (l : Lane) (q : Nat) : (s.setLane n l).coreAt q = s.coreAt q := rfl
@[simp] theorem State.setEng_coreAt (s : State) (e : Nat) (g : Eng) (q : Nat) : (s.setEng e g).coreAt q = s.coreAt q := rfl
@[simp] theorem State.setTile_coreAt (s : State) (n : Nat) (t : Tile) (q : Nat) : (s.setTile n t).coreAt q = s.coreAt q := rfl
@[simp] theorem State.setCluster_coreAt (s : State) (n : Nat) (c : Cluster) (q : Nat) : (s.setCluster n c).coreAt q = s.coreAt q := rfl
@[simp] theorem State.setDrbg_coreAt (s : State) (n : Nat) (d : Drbg) (q : Nat) : (s.setDrbg n d).coreAt q = s.coreAt q := rfl
@[simp] theorem State.setLink_coreAt (s : State) (l : Nat) (k : BLink) (q : Nat) : (s.setLink l k).coreAt q = s.coreAt q := rfl
@[simp] theorem State.setDom_coreAt (s : State) (d : Nat) (x : Domain) (q : Nat) : (s.setDom d x).coreAt q = s.coreAt q := rfl
@[simp] theorem State.idleNow_coreAt (s : State) (d : Nat) (q : Nat) : (s.idleNow d).coreAt q = s.coreAt q := rfl
@[simp] theorem State.setSram_coreAt (s : State) (w : Nat) (x : TWord) (q : Nat) : (s.setSram w x).coreAt q = s.coreAt q := rfl
@[simp] theorem State.emit_coreAt (s : State) (e : Emit) (q : Nat) : (s.emit e).coreAt q = s.coreAt q := rfl
@[simp] theorem State.emits_coreAt (s : State) (es : List Emit) (q : Nat) : (s.emits es).coreAt q = s.coreAt q := rfl
@[simp] theorem State.engineBusy_coreAt (s : State) (e n : Nat) (q : Nat) : (s.engineBusy e n).coreAt q = s.coreAt q := rfl

@[simp] theorem State.laneAt_setLane (s : State) (r : Nat) (g : Lane) : (s.setLane r g).laneAt r = g := by
  simp [State.laneAt, State.setLane]

theorem State.laneAt_setLane_ne (s : State) (r q : Nat) (g : Lane) (h : q ≠ r) : (s.setLane r g).laneAt q = s.laneAt q := by
  simp [State.laneAt, State.setLane, h]

@[simp] theorem State.setRing_laneAt (s : State) (r : Nat) (g : Ring) (q : Nat) : (s.setRing r g).laneAt q = s.laneAt q := rfl
@[simp] theorem State.setCore_laneAt (s : State) (k : Nat) (c : Core) (q : Nat) : (s.setCore k c).laneAt q = s.laneAt q := rfl
@[simp] theorem State.setEntry_laneAt (s : State) (i : Nat) (e : Entry) (q : Nat) : (s.setEntry i e).laneAt q = s.laneAt q := rfl
@[simp] theorem State.delEntry_laneAt (s : State) (i : Nat) (q : Nat) : (s.delEntry i).laneAt q = s.laneAt q := rfl
@[simp] theorem State.setEng_laneAt (s : State) (e : Nat) (g : Eng) (q : Nat) : (s.setEng e g).laneAt q = s.laneAt q := rfl
@[simp] theorem State.setTile_laneAt (s : State) (n : Nat) (t : Tile) (q : Nat) : (s.setTile n t).laneAt q = s.laneAt q := rfl
@[simp] theorem State.setCluster_laneAt (s : State) (n : Nat) (c : Cluster) (q : Nat) : (s.setCluster n c).laneAt q = s.laneAt q := rfl
@[simp] theorem State.setDrbg_laneAt (s : State) (n : Nat) (d : Drbg) (q : Nat) : (s.setDrbg n d).laneAt q = s.laneAt q := rfl
@[simp] theorem State.setLink_laneAt (s : State) (l : Nat) (k : BLink) (q : Nat) : (s.setLink l k).laneAt q = s.laneAt q := rfl
@[simp] theorem State.setDom_laneAt (s : State) (d : Nat) (x : Domain) (q : Nat) : (s.setDom d x).laneAt q = s.laneAt q := rfl
@[simp] theorem State.idleNow_laneAt (s : State) (d : Nat) (q : Nat) : (s.idleNow d).laneAt q = s.laneAt q := rfl
@[simp] theorem State.setSram_laneAt (s : State) (w : Nat) (x : TWord) (q : Nat) : (s.setSram w x).laneAt q = s.laneAt q := rfl
@[simp] theorem State.emit_laneAt (s : State) (e : Emit) (q : Nat) : (s.emit e).laneAt q = s.laneAt q := rfl
@[simp] theorem State.emits_laneAt (s : State) (es : List Emit) (q : Nat) : (s.emits es).laneAt q = s.laneAt q := rfl
@[simp] theorem State.engineBusy_laneAt (s : State) (e n : Nat) (q : Nat) : (s.engineBusy e n).laneAt q = s.laneAt q := rfl

@[simp] theorem State.engAt_setEng (s : State) (r : Nat) (g : Eng) : (s.setEng r g).engAt r = g := by
  simp [State.engAt, State.setEng]

theorem State.engAt_setEng_ne (s : State) (r q : Nat) (g : Eng) (h : q ≠ r) : (s.setEng r g).engAt q = s.engAt q := by
  simp [State.engAt, State.setEng, h]

@[simp] theorem State.setRing_engAt (s : State) (r : Nat) (g : Ring) (q : Nat) : (s.setRing r g).engAt q = s.engAt q := rfl
@[simp] theorem State.setCore_engAt (s : State) (k : Nat) (c : Core) (q : Nat) : (s.setCore k c).engAt q = s.engAt q := rfl
@[simp] theorem State.setEntry_engAt (s : State) (i : Nat) (e : Entry) (q : Nat) : (s.setEntry i e).engAt q = s.engAt q := rfl
@[simp] theorem State.delEntry_engAt (s : State) (i : Nat) (q : Nat) : (s.delEntry i).engAt q = s.engAt q := rfl
@[simp] theorem State.setLane_engAt (s : State) (n : Nat) (l : Lane) (q : Nat) : (s.setLane n l).engAt q = s.engAt q := rfl
@[simp] theorem State.setTile_engAt (s : State) (n : Nat) (t : Tile) (q : Nat) : (s.setTile n t).engAt q = s.engAt q := rfl
@[simp] theorem State.setCluster_engAt (s : State) (n : Nat) (c : Cluster) (q : Nat) : (s.setCluster n c).engAt q = s.engAt q := rfl
@[simp] theorem State.setDrbg_engAt (s : State) (n : Nat) (d : Drbg) (q : Nat) : (s.setDrbg n d).engAt q = s.engAt q := rfl
@[simp] theorem State.setLink_engAt (s : State) (l : Nat) (k : BLink) (q : Nat) : (s.setLink l k).engAt q = s.engAt q := rfl
@[simp] theorem State.setDom_engAt (s : State) (d : Nat) (x : Domain) (q : Nat) : (s.setDom d x).engAt q = s.engAt q := rfl
@[simp] theorem State.idleNow_engAt (s : State) (d : Nat) (q : Nat) : (s.idleNow d).engAt q = s.engAt q := rfl
@[simp] theorem State.setSram_engAt (s : State) (w : Nat) (x : TWord) (q : Nat) : (s.setSram w x).engAt q = s.engAt q := rfl
@[simp] theorem State.emit_engAt (s : State) (e : Emit) (q : Nat) : (s.emit e).engAt q = s.engAt q := rfl
@[simp] theorem State.emits_engAt (s : State) (es : List Emit) (q : Nat) : (s.emits es).engAt q = s.engAt q := rfl
@[simp] theorem State.engineBusy_engAt (s : State) (e n : Nat) (q : Nat) : (s.engineBusy e n).engAt q = s.engAt q := rfl

@[simp] theorem State.tileAt_setTile (s : State) (r : Nat) (g : Tile) : (s.setTile r g).tileAt r = g := by
  simp [State.tileAt, State.setTile]

theorem State.tileAt_setTile_ne (s : State) (r q : Nat) (g : Tile) (h : q ≠ r) : (s.setTile r g).tileAt q = s.tileAt q := by
  simp [State.tileAt, State.setTile, h]

@[simp] theorem State.setRing_tileAt (s : State) (r : Nat) (g : Ring) (q : Nat) : (s.setRing r g).tileAt q = s.tileAt q := rfl
@[simp] theorem State.setCore_tileAt (s : State) (k : Nat) (c : Core) (q : Nat) : (s.setCore k c).tileAt q = s.tileAt q := rfl
@[simp] theorem State.setEntry_tileAt (s : State) (i : Nat) (e : Entry) (q : Nat) : (s.setEntry i e).tileAt q = s.tileAt q := rfl
@[simp] theorem State.delEntry_tileAt (s : State) (i : Nat) (q : Nat) : (s.delEntry i).tileAt q = s.tileAt q := rfl
@[simp] theorem State.setLane_tileAt (s : State) (n : Nat) (l : Lane) (q : Nat) : (s.setLane n l).tileAt q = s.tileAt q := rfl
@[simp] theorem State.setEng_tileAt (s : State) (e : Nat) (g : Eng) (q : Nat) : (s.setEng e g).tileAt q = s.tileAt q := rfl
@[simp] theorem State.setCluster_tileAt (s : State) (n : Nat) (c : Cluster) (q : Nat) : (s.setCluster n c).tileAt q = s.tileAt q := rfl
@[simp] theorem State.setDrbg_tileAt (s : State) (n : Nat) (d : Drbg) (q : Nat) : (s.setDrbg n d).tileAt q = s.tileAt q := rfl
@[simp] theorem State.setLink_tileAt (s : State) (l : Nat) (k : BLink) (q : Nat) : (s.setLink l k).tileAt q = s.tileAt q := rfl
@[simp] theorem State.setDom_tileAt (s : State) (d : Nat) (x : Domain) (q : Nat) : (s.setDom d x).tileAt q = s.tileAt q := rfl
@[simp] theorem State.idleNow_tileAt (s : State) (d : Nat) (q : Nat) : (s.idleNow d).tileAt q = s.tileAt q := rfl
@[simp] theorem State.setSram_tileAt (s : State) (w : Nat) (x : TWord) (q : Nat) : (s.setSram w x).tileAt q = s.tileAt q := rfl
@[simp] theorem State.emit_tileAt (s : State) (e : Emit) (q : Nat) : (s.emit e).tileAt q = s.tileAt q := rfl
@[simp] theorem State.emits_tileAt (s : State) (es : List Emit) (q : Nat) : (s.emits es).tileAt q = s.tileAt q := rfl
@[simp] theorem State.engineBusy_tileAt (s : State) (e n : Nat) (q : Nat) : (s.engineBusy e n).tileAt q = s.tileAt q := rfl

@[simp] theorem State.clusterAt_setCluster (s : State) (r : Nat) (g : Cluster) : (s.setCluster r g).clusterAt r = g := by
  simp [State.clusterAt, State.setCluster]

theorem State.clusterAt_setCluster_ne (s : State) (r q : Nat) (g : Cluster) (h : q ≠ r) : (s.setCluster r g).clusterAt q = s.clusterAt q := by
  simp [State.clusterAt, State.setCluster, h]

@[simp] theorem State.setRing_clusterAt (s : State) (r : Nat) (g : Ring) (q : Nat) : (s.setRing r g).clusterAt q = s.clusterAt q := rfl
@[simp] theorem State.setCore_clusterAt (s : State) (k : Nat) (c : Core) (q : Nat) : (s.setCore k c).clusterAt q = s.clusterAt q := rfl
@[simp] theorem State.setEntry_clusterAt (s : State) (i : Nat) (e : Entry) (q : Nat) : (s.setEntry i e).clusterAt q = s.clusterAt q := rfl
@[simp] theorem State.delEntry_clusterAt (s : State) (i : Nat) (q : Nat) : (s.delEntry i).clusterAt q = s.clusterAt q := rfl
@[simp] theorem State.setLane_clusterAt (s : State) (n : Nat) (l : Lane) (q : Nat) : (s.setLane n l).clusterAt q = s.clusterAt q := rfl
@[simp] theorem State.setEng_clusterAt (s : State) (e : Nat) (g : Eng) (q : Nat) : (s.setEng e g).clusterAt q = s.clusterAt q := rfl
@[simp] theorem State.setTile_clusterAt (s : State) (n : Nat) (t : Tile) (q : Nat) : (s.setTile n t).clusterAt q = s.clusterAt q := rfl
@[simp] theorem State.setLink_clusterAt (s : State) (l : Nat) (k : BLink) (q : Nat) : (s.setLink l k).clusterAt q = s.clusterAt q := rfl
@[simp] theorem State.setDom_clusterAt (s : State) (d : Nat) (x : Domain) (q : Nat) : (s.setDom d x).clusterAt q = s.clusterAt q := rfl
@[simp] theorem State.idleNow_clusterAt (s : State) (d : Nat) (q : Nat) : (s.idleNow d).clusterAt q = s.clusterAt q := rfl
@[simp] theorem State.setSram_clusterAt (s : State) (w : Nat) (x : TWord) (q : Nat) : (s.setSram w x).clusterAt q = s.clusterAt q := rfl
@[simp] theorem State.emit_clusterAt (s : State) (e : Emit) (q : Nat) : (s.emit e).clusterAt q = s.clusterAt q := rfl
@[simp] theorem State.emits_clusterAt (s : State) (es : List Emit) (q : Nat) : (s.emits es).clusterAt q = s.clusterAt q := rfl
@[simp] theorem State.engineBusy_clusterAt (s : State) (e n : Nat) (q : Nat) : (s.engineBusy e n).clusterAt q = s.clusterAt q := rfl

@[simp] theorem State.drbgAt_setDrbg (s : State) (r : Nat) (g : Drbg) : (s.setDrbg r g).drbgAt r = g := by
  simp [State.drbgAt, State.setDrbg]

theorem State.drbgAt_setDrbg_ne (s : State) (r q : Nat) (g : Drbg) (h : q ≠ r) : (s.setDrbg r g).drbgAt q = s.drbgAt q := by
  simp [State.drbgAt, State.setDrbg, h]

@[simp] theorem State.setRing_drbgAt (s : State) (r : Nat) (g : Ring) (q : Nat) : (s.setRing r g).drbgAt q = s.drbgAt q := rfl
@[simp] theorem State.setCore_drbgAt (s : State) (k : Nat) (c : Core) (q : Nat) : (s.setCore k c).drbgAt q = s.drbgAt q := rfl
@[simp] theorem State.setEntry_drbgAt (s : State) (i : Nat) (e : Entry) (q : Nat) : (s.setEntry i e).drbgAt q = s.drbgAt q := rfl
@[simp] theorem State.delEntry_drbgAt (s : State) (i : Nat) (q : Nat) : (s.delEntry i).drbgAt q = s.drbgAt q := rfl
@[simp] theorem State.setLane_drbgAt (s : State) (n : Nat) (l : Lane) (q : Nat) : (s.setLane n l).drbgAt q = s.drbgAt q := rfl
@[simp] theorem State.setEng_drbgAt (s : State) (e : Nat) (g : Eng) (q : Nat) : (s.setEng e g).drbgAt q = s.drbgAt q := rfl
@[simp] theorem State.setTile_drbgAt (s : State) (n : Nat) (t : Tile) (q : Nat) : (s.setTile n t).drbgAt q = s.drbgAt q := rfl
@[simp] theorem State.setLink_drbgAt (s : State) (l : Nat) (k : BLink) (q : Nat) : (s.setLink l k).drbgAt q = s.drbgAt q := rfl
@[simp] theorem State.setDom_drbgAt (s : State) (d : Nat) (x : Domain) (q : Nat) : (s.setDom d x).drbgAt q = s.drbgAt q := rfl
@[simp] theorem State.idleNow_drbgAt (s : State) (d : Nat) (q : Nat) : (s.idleNow d).drbgAt q = s.drbgAt q := rfl
@[simp] theorem State.setSram_drbgAt (s : State) (w : Nat) (x : TWord) (q : Nat) : (s.setSram w x).drbgAt q = s.drbgAt q := rfl
@[simp] theorem State.emit_drbgAt (s : State) (e : Emit) (q : Nat) : (s.emit e).drbgAt q = s.drbgAt q := rfl
@[simp] theorem State.emits_drbgAt (s : State) (es : List Emit) (q : Nat) : (s.emits es).drbgAt q = s.drbgAt q := rfl
@[simp] theorem State.engineBusy_drbgAt (s : State) (e n : Nat) (q : Nat) : (s.engineBusy e n).drbgAt q = s.drbgAt q := rfl

@[simp] theorem State.linkAt_setLink (s : State) (r : Nat) (g : BLink) : (s.setLink r g).linkAt r = g := by
  simp [State.linkAt, State.setLink]

theorem State.linkAt_setLink_ne (s : State) (r q : Nat) (g : BLink) (h : q ≠ r) : (s.setLink r g).linkAt q = s.linkAt q := by
  simp [State.linkAt, State.setLink, h]

@[simp] theorem State.setRing_linkAt (s : State) (r : Nat) (g : Ring) (q : Nat) : (s.setRing r g).linkAt q = s.linkAt q := rfl
@[simp] theorem State.setCore_linkAt (s : State) (k : Nat) (c : Core) (q : Nat) : (s.setCore k c).linkAt q = s.linkAt q := rfl
@[simp] theorem State.setEntry_linkAt (s : State) (i : Nat) (e : Entry) (q : Nat) : (s.setEntry i e).linkAt q = s.linkAt q := rfl
@[simp] theorem State.delEntry_linkAt (s : State) (i : Nat) (q : Nat) : (s.delEntry i).linkAt q = s.linkAt q := rfl
@[simp] theorem State.setLane_linkAt (s : State) (n : Nat) (l : Lane) (q : Nat) : (s.setLane n l).linkAt q = s.linkAt q := rfl
@[simp] theorem State.setEng_linkAt (s : State) (e : Nat) (g : Eng) (q : Nat) : (s.setEng e g).linkAt q = s.linkAt q := rfl
@[simp] theorem State.setTile_linkAt (s : State) (n : Nat) (t : Tile) (q : Nat) : (s.setTile n t).linkAt q = s.linkAt q := rfl
@[simp] theorem State.setCluster_linkAt (s : State) (n : Nat) (c : Cluster) (q : Nat) : (s.setCluster n c).linkAt q = s.linkAt q := rfl
@[simp] theorem State.setDrbg_linkAt (s : State) (n : Nat) (d : Drbg) (q : Nat) : (s.setDrbg n d).linkAt q = s.linkAt q := rfl
@[simp] theorem State.setDom_linkAt (s : State) (d : Nat) (x : Domain) (q : Nat) : (s.setDom d x).linkAt q = s.linkAt q := rfl
@[simp] theorem State.idleNow_linkAt (s : State) (d : Nat) (q : Nat) : (s.idleNow d).linkAt q = s.linkAt q := rfl
@[simp] theorem State.setSram_linkAt (s : State) (w : Nat) (x : TWord) (q : Nat) : (s.setSram w x).linkAt q = s.linkAt q := rfl
@[simp] theorem State.emit_linkAt (s : State) (e : Emit) (q : Nat) : (s.emit e).linkAt q = s.linkAt q := rfl
@[simp] theorem State.emits_linkAt (s : State) (es : List Emit) (q : Nat) : (s.emits es).linkAt q = s.linkAt q := rfl
@[simp] theorem State.engineBusy_linkAt (s : State) (e n : Nat) (q : Nat) : (s.engineBusy e n).linkAt q = s.linkAt q := rfl

@[simp] theorem State.domAt_setDom (s : State) (r : Nat) (g : Domain) : (s.setDom r g).domAt r = g := by
  simp [State.domAt, State.setDom]

theorem State.domAt_setDom_ne (s : State) (r q : Nat) (g : Domain) (h : q ≠ r) : (s.setDom r g).domAt q = s.domAt q := by
  simp [State.domAt, State.setDom, h]

@[simp] theorem State.setRing_domAt (s : State) (r : Nat) (g : Ring) (q : Nat) : (s.setRing r g).domAt q = s.domAt q := rfl
@[simp] theorem State.setCore_domAt (s : State) (k : Nat) (c : Core) (q : Nat) : (s.setCore k c).domAt q = s.domAt q := rfl
@[simp] theorem State.setEntry_domAt (s : State) (i : Nat) (e : Entry) (q : Nat) : (s.setEntry i e).domAt q = s.domAt q := rfl
@[simp] theorem State.delEntry_domAt (s : State) (i : Nat) (q : Nat) : (s.delEntry i).domAt q = s.domAt q := rfl
@[simp] theorem State.setLane_domAt (s : State) (n : Nat) (l : Lane) (q : Nat) : (s.setLane n l).domAt q = s.domAt q := rfl
@[simp] theorem State.setEng_domAt (s : State) (e : Nat) (g : Eng) (q : Nat) : (s.setEng e g).domAt q = s.domAt q := rfl
@[simp] theorem State.setTile_domAt (s : State) (n : Nat) (t : Tile) (q : Nat) : (s.setTile n t).domAt q = s.domAt q := rfl
@[simp] theorem State.setCluster_domAt (s : State) (n : Nat) (c : Cluster) (q : Nat) : (s.setCluster n c).domAt q = s.domAt q := rfl
@[simp] theorem State.setDrbg_domAt (s : State) (n : Nat) (d : Drbg) (q : Nat) : (s.setDrbg n d).domAt q = s.domAt q := rfl
@[simp] theorem State.setLink_domAt (s : State) (l : Nat) (k : BLink) (q : Nat) : (s.setLink l k).domAt q = s.domAt q := rfl
@[simp] theorem State.setSram_domAt (s : State) (w : Nat) (x : TWord) (q : Nat) : (s.setSram w x).domAt q = s.domAt q := rfl
@[simp] theorem State.emit_domAt (s : State) (e : Emit) (q : Nat) : (s.emit e).domAt q = s.domAt q := rfl
@[simp] theorem State.emits_domAt (s : State) (es : List Emit) (q : Nat) : (s.emits es).domAt q = s.domAt q := rfl
@[simp] theorem State.engineBusy_domAt (s : State) (e n : Nat) (q : Nat) : (s.engineBusy e n).domAt q = s.domAt q := rfl

@[simp] theorem State.entryAt_setEntry (s : State) (i : Nat) (e : Entry) : (s.setEntry i e).entryAt i = some e := by
  simp [State.entryAt, State.setEntry]

theorem State.entryAt_setEntry_ne (s : State) (i j : Nat) (e : Entry) (h : j ≠ i) : (s.setEntry i e).entryAt j = s.entryAt j := by
  simp [State.entryAt, State.setEntry, h]

@[simp] theorem State.entryAt_delEntry (s : State) (i : Nat) : (s.delEntry i).entryAt i = none := by
  simp [State.entryAt, State.delEntry]

theorem State.entryAt_delEntry_ne (s : State) (i j : Nat) (h : j ≠ i) : (s.delEntry i).entryAt j = s.entryAt j := by
  simp [State.entryAt, State.delEntry, h]

@[simp] theorem State.sramAt_setSram (s : State) (w : Nat) (x : TWord) : (s.setSram w x).sramAt w = x := by
  simp only [State.sramAt, State.setSram, tget]
  split <;> simp_all

theorem State.sramAt_setSram_ne (s : State) (w v : Nat) (x : TWord) (h : v ≠ w) : (s.setSram w x).sramAt v = s.sramAt v := by
  simp only [State.sramAt, State.setSram, tget]
  split <;> simp [h]

/-- A write of one word keeps the canonical form of the on-chip SRAM. -/
theorem State.setSram_wf (s : State) (w : Nat) (x : TWord) (h : Memory.wf s.sram = true) : Memory.wf (s.setSram w x).sram = true := by
  simp only [State.setSram]
  split
  · exact Memory.wf_del h
  · exact Memory.wf_put h ‹_›

end Sys2Proof.Machine
end

