-- ==== Sys2Proof/Laws/Ops.lean ====
section
/-! SUPPORT. What each shared operation can change: one lemma per operation, in the terms of Safety.lean's `Only`. A proof cites these
and unfolds none of the operations. -/

set_option Elab.async false

namespace Sys2Proof.Machine

/-! ### Composing frames -/

theorem Part.same_refl (p : Part) (s : State) : p.same s s := by cases p <;> rfl

theorem Part.same_trans {p : Part} {s t u : State} (h1 : p.same s t) (h2 : p.same t u) : p.same s u := by
  cases p <;> exact Eq.trans h2 h1

theorem Only.refl (ps : List Part) (s : State) : Only ps s s := fun p _ => p.same_refl s

theorem Only.mono {a b : List Part} {s t : State} (h : Only a s t) (hs : ∀ p ∈ a, p ∈ b) : Only b s t :=
  fun p hp => h p fun x => hp (hs p x)

/-- Two operations in turn change at most what either may. -/
theorem Only.trans {ps : List Part} {s t u : State} (h1 : Only ps s t) (h2 : Only ps t u) : Only ps s u :=
  fun p hp => Part.same_trans (h1 p hp) (h2 p hp)

/-- A chain of operations over a list changes at most what each may. -/
theorem Only.foldl {ps : List Part} {f : State → α → State} (h : ∀ s a, Only ps s (f s a)) (as : List α) (s : State) :
    Only ps s (as.foldl f s) := by
  induction as generalizing s with
  | nil => exact Only.refl ps s
  | cons a as ih => exact (h s a).trans (ih _)

/-! ### Replacing one part -/

theorem only_glb (s : State) (x : Glb) : Only [.glb] s { s with glb := x } := by
  rintro (_ | _) hp <;> first | rfl | exact absurd (List.mem_singleton.2 rfl) hp
theorem only_lkm (s : State) (x : Lkm) : Only [.lkm] s { s with lkm := x } := by
  rintro (_ | _) hp <;> first | rfl | exact absurd (List.mem_singleton.2 rfl) hp
theorem only_mor (s : State) (x : Mor) : Only [.mor] s { s with mor := x } := by
  rintro (_ | _) hp <;> first | rfl | exact absurd (List.mem_singleton.2 rfl) hp
theorem only_adm (s : State) (x : Adm) : Only [.adm] s { s with adm := x } := by
  rintro (_ | _) hp <;> first | rfl | exact absurd (List.mem_singleton.2 rfl) hp
theorem only_cph (s : State) (x : Cph) : Only [.cph] s { s with cph := x } := by
  rintro (_ | _) hp <;> first | rfl | exact absurd (List.mem_singleton.2 rfl) hp
theorem only_hsh (s : State) (x : Hsh) : Only [.hsh] s { s with hsh := x } := by
  rintro (_ | _) hp <;> first | rfl | exact absurd (List.mem_singleton.2 rfl) hp
theorem only_bgn (s : State) (x : Bgn) : Only [.bgn] s { s with bgn := x } := by
  rintro (_ | _) hp <;> first | rfl | exact absurd (List.mem_singleton.2 rfl) hp
theorem only_root (s : State) (x : Root) : Only [.root] s { s with root := x } := by
  rintro (_ | _) hp <;> first | rfl | exact absurd (List.mem_singleton.2 rfl) hp
theorem only_len (s : State) (x : Len) : Only [.len] s { s with len := x } := by
  rintro (_ | _) hp <;> first | rfl | exact absurd (List.mem_singleton.2 rfl) hp
theorem only_pwr (s : State) (x : Pwr) : Only [.pwr] s { s with pwr := x } := by
  rintro (_ | _) hp <;> first | rfl | exact absurd (List.mem_singleton.2 rfl) hp
theorem only_wharf (s : State) (x : Wharf) : Only [.wharf] s { s with wharf := x } := by
  rintro (_ | _) hp <;> first | rfl | exact absurd (List.mem_singleton.2 rfl) hp
theorem only_brv (s : State) (x : Brv) : Only [.brv] s { s with brv := x } := by
  rintro (_ | _) hp <;> first | rfl | exact absurd (List.mem_singleton.2 rfl) hp
theorem only_log (s : State) (x : Log) : Only [.log] s { s with log := x } := by
  rintro (_ | _) hp <;> first | rfl | exact absurd (List.mem_singleton.2 rfl) hp
theorem only_out (s : State) (x : List Emit) : Only [.out] s { s with out := x } := by
  rintro (_ | _) hp <;> first | rfl | exact absurd (List.mem_singleton.2 rfl) hp
theorem only_cores (s : State) (x : Tbl Core) : Only [.cores] s { s with cores := x } := by
  rintro (_ | _) hp <;> first | rfl | exact absurd (List.mem_singleton.2 rfl) hp
theorem only_rings (s : State) (x : Tbl Ring) : Only [.rings] s { s with rings := x } := by
  rintro (_ | _) hp <;> first | rfl | exact absurd (List.mem_singleton.2 rfl) hp
theorem only_slu (s : State) (x : Slu) : Only [.slu] s { s with slu := x } := by
  rintro (_ | _) hp <;> first | rfl | exact absurd (List.mem_singleton.2 rfl) hp
theorem only_gte (s : State) (x : Gte) : Only [.gte] s { s with gte := x } := by
  rintro (_ | _) hp <;> first | rfl | exact absurd (List.mem_singleton.2 rfl) hp
theorem only_rng (s : State) (x : Rng) : Only [.rng] s { s with rng := x } := by
  rintro (_ | _) hp <;> first | rfl | exact absurd (List.mem_singleton.2 rfl) hp
theorem only_free (s : State) (x : Nat) : Only [.free] s { s with free := x } := by
  rintro (_ | _) hp <;> first | rfl | exact absurd (List.mem_singleton.2 rfl) hp
theorem only_lcy (s : State) (x : Lcy) : Only [.lcy] s { s with lcy := x } := by
  rintro (_ | _) hp <;> first | rfl | exact absurd (List.mem_singleton.2 rfl) hp

/-! ### The logbook, the sentry record and interrupts -/

/-- A record enters the ingress queue (R437): only the logbook changes. -/
theorem ingress_only (s : State) (r : Rec) : Only [.log] s (s.ingress r) := by
  unfold State.ingress
  dsimp only
  split <;> exact only_log s _

/-- The refill of the windows that have begun (R428, R429): only the logbook changes. -/
theorem refillDue_only (s : State) : Only [.log] s s.refillDue := by
  unfold State.refillDue
  extract_lets w told lg s1
  have h1 : Only [.log] s s1 := only_log s s1.log
  split
  · exact h1.trans (Only.foldl (fun s p => ingress_only s _) told _)
  · exact Only.refl _ s

/-- A record made or suppressed (R428): only the logbook changes. -/
theorem logRec_only (s : State) (k : LogKind) (sub tenant unit : Nat) (body : List W64) : Only [.log] s (s.logRec k sub tenant unit body) := by
  unfold State.logRec
  extract_lets s1 c r b
  refine (refillDue_only s).trans ?_
  split
  · exact ingress_only s1 r
  · split
    · exact Only.trans (t := _) (only_log s1 _) (ingress_only _ r)
    · exact only_log s1 _

theorem logEvent_only (s : State) (k : LogKind) (sub a b : Nat) : Only [.log] s (s.logEvent k sub a b) := logRec_only s k sub 0 0xFF _

/-- A register access error (R4, R22) changes only the logbook, if anything. -/
theorem logAccess_only (s : State) (addr what : Nat) : Only [.log] s (s.logAccess addr what) := by
  unfold State.logAccess State.logOn
  split
  · exact logEvent_only s _ _ _ _
  · exact Only.refl _ s

theorem logPermit_only (s : State) (what tenant no action a b st : Nat) : Only [.log] s (s.logPermit what tenant no action a b st) :=
  logRec_only s _ _ _ _ _

/-- An entry of the sentry record (R350): only the lengthsman changes. -/
theorem sentryAdd_only (s : State) (kind source level taken : Nat) (isProtected reported : Bool) (events : Nat) :
    Only [.len] s (s.sentryAdd kind source level taken isProtected reported events) := by
  unfold State.sentryAdd
  dsimp only
  split <;> exact only_len s _

/-- An MSI-X message leaves or stays pending (R384). -/
theorem msix_only (s : State) (fn vec : Nat) : Only [.out, .wharf] s (s.msix fn vec) := by
  unfold State.msix State.sendMsix
  split
  · split
    · exact (only_out s _).mono (by simp)
    · exact (only_wharf s _).mono (by simp)
  · split
    · exact Only.refl _ s
    · exact (only_wharf s _).mono (by simp)

/-- The GLB registers replaced (R25). -/
theorem withGlb_only (s : State) (g : Glb) : Only [.glb, .out, .wharf] s (s.withGlb g) := by
  unfold State.withGlb
  dsimp only
  split
  · exact ((only_glb s g).mono (by simp)).trans ((msix_only _ _ _).mono (by simp))
  · exact (only_glb s g).mono (by simp)

theorem setInt_only (s : State) (b : BitVec 6) : Only [.glb, .out, .wharf] s (s.setInt b) := withGlb_only s _

/-! ### Modes -/

/-- A mode change (R362): the mode, the one before, the interrupt cause and its record. -/
theorem toMode_only (s : State) (m : Mode) : Only [.glb, .out, .wharf, .log] s (s.toMode m) := by
  unfold State.toMode
  exact ((withGlb_only s _).mono (by simp)).trans ((logEvent_only _ _ _ _ _).mono (by simp))

/-- Raw-sample mode ends (R266): only the random generator changes. -/
theorem rawOff_only (s : State) : Only [.rng] s s.rawOff := by
  unfold State.rawOff
  split
  · exact Only.refl _ s
  · exact only_rng s _

/-- Entering HALT (R364) changes the mode, the power unit's halt report and pending work, raw-sample mode and the logbook. -/
theorem enterHalt_only (s : State) (reason step code : Nat) :
    Only [.pwr, .glb, .out, .wharf, .log, .rng] s (s.enterHalt reason step code) := by
  unfold State.enterHalt
  split
  · exact Only.refl _ s
  · extract_lets g p s1
    have h1 : Only [.pwr, .glb, .out, .wharf, .log, .rng] s s1 :=
      ((only_pwr s s1.pwr).mono (by simp)).trans ((only_glb _ s1.glb).mono (by simp))
    exact h1.trans (((rawOff_only s1).mono (by simp)).trans
      (((toMode_only _ _).mono (by simp)).trans ((logEvent_only _ _ _ _ _).mono (by simp))))

/-! ### Alarms, INTEGRITY and violations -/

/-- ERASE (R347): the keel secret and its register, and a Yuhild unlock. -/
theorem eraseKeel_only (s : State) : Only [.len, .mor, .lcy] s s.eraseKeel := by
  unfold State.eraseKeel
  rintro (_ | _) hp <;> first | rfl | exact absurd (by simp) hp

/-- An event in a filter (R340): only the lengthsman. -/
theorem filterEvent_only (s : State) (src : Nat) : Only [.len] s (s.filterEvent src).1 := by
  unfold State.filterEvent
  dsimp only
  split
  · exact (only_len s _).trans (only_len _ _)
  · split <;> exact (only_len s _).trans (only_len _ _)

/-- Sources raised (R346, R347): latches, the erased keel, the sentry record, HALT, interrupts and records. -/
theorem raise_only (s : State) (srcs : List (Nat × Nat)) : Only raiseParts s (s.raise srcs) := by
  unfold State.raise
  split
  · exact Only.refl _ s
  · extract_lets level prior prior' taken lowest latches events len0 s1 s2 s3 s4 pwr0 s5 s6
    have h1 : Only raiseParts s s1 := (only_len s _).mono (by simp [raiseParts])
    have h2 : Only raiseParts s1 s2 := by
      simp only [s2]
      split
      · exact (eraseKeel_only s1).mono (by simp [raiseParts])
      · exact Only.refl _ s1
    have h3 : Only raiseParts s2 s3 := Only.foldl (fun s p => by
      split
      · exact (sentryAdd_only s _ _ _ _ _ _ _).mono (by simp [raiseParts])
      · exact Only.refl _ s) srcs s2
    have h4 : Only raiseParts s3 s4 := by
      simp only [s4]
      split
      · exact (enterHalt_only s3 _ _ _).mono (by simp [raiseParts])
      · exact Only.refl _ s3
    have h5 : Only raiseParts s4 s5 := (only_pwr s4 _).mono (by simp [raiseParts])
    have h6 : Only raiseParts s5 s6 := Only.foldl (fun s p => (logRec_only s _ _ _ _ _).mono (by simp [raiseParts])) srcs s5
    have h : Only raiseParts s s6 := h1.trans (h2.trans (h3.trans (h4.trans (h5.trans h6))))
    refine h.trans ?_
    repeat' split
    all_goals first
      | exact Only.refl _ s6
      | exact (setInt_only s6 _).mono (by simp [raiseParts])

/-- An event raised by a unit (R341, R345). -/
theorem alarmEvent_only (s : State) (src : Nat) : Only raiseParts s (s.alarmEvent src) := by
  unfold State.alarmEvent
  extract_lets s1 f
  have h1 : Only raiseParts s s1 := by
    simp only [s1]
    split
    · exact (enterHalt_only s _ _ _).mono (by simp [raiseParts])
    · exact Only.refl _ s
  have hf : Only raiseParts s1 f.1 := (filterEvent_only s1 src).mono (by simp [raiseParts])
  split
  · exact h1.trans (hf.trans (raise_only _ _))
  · exact h1.trans hf

/-- INTEGRITY (R283): the SLU stops, HALT is entered and source 21 is raised. -/
theorem integrity_only (s : State) (cause : BitVec 3) (path addr kd : Nat) :
    Only (.slu :: raiseParts) s (s.integrity cause path addr kd) := by
  unfold State.integrity
  extract_lets slu0 s1 s2 s3 pwr0 first s4
  have h1 : Only (.slu :: raiseParts) s s1 := (only_slu s _).mono (by simp)
  have h2 : Only (.slu :: raiseParts) s1 s2 := (logRec_only s1 _ _ _ _ _).mono (by simp [raiseParts])
  have h3 : Only (.slu :: raiseParts) s2 s3 := (enterHalt_only s2 _ _ _).mono (by simp [raiseParts])
  have h4 : Only (.slu :: raiseParts) s3 s4 := (only_pwr s3 _).mono (by simp [raiseParts])
  have h5 : Only (.slu :: raiseParts) s4 (s4.alarmEvent 21) := (alarmEvent_only s4 21).mono fun _ hp => List.mem_cons_of_mem _ hp
  exact h1.trans (h2.trans (h3.trans (h4.trans h5)))

/-! ### The SLU's lines (R268 to R286) -/

/-- A replaced counter block, its mark, and the SLU's counters are parts of the SLU. -/
theorem setBlock_only (s : State) (k : Nat) (b : CtrBlock) : Only [.slu] s (s.setBlock k b) := only_slu s _
theorem dirty_only (s : State) (k : Nat) : Only [.slu] s (s.dirty k) := only_slu s _
theorem countEcc_only (s : State) (r : DramReturn) : Only [.slu] s (s.countEcc r) := only_slu s _
theorem countLost_only (s : State) : Only [.slu] s s.countLost := only_slu s _
theorem unitOutside_only (s : State) : Only [.slu] s s.unitOutside := only_slu s _
theorem unitForeign_only (s : State) : Only [.slu] s s.unitForeign := only_slu s _

/-- The parts that the counter tree can change: the SLU, and the free values of what the spec leaves open (log 20). -/
def treeParts : List Part := [.slu, .free]

/-- A change to the SLU alone is one to the tree's parts. -/
theorem slu_tree {s t : State} (h : Only [.slu] s t) : Only treeParts s t := h.mono (by simp [treeParts])

/-- A child line rewritten by a rollover (R281). -/
theorem rollLine_only (s : State) (k j : Nat) (r : DramReturn) (c : Nat) : Only treeParts s (s.rollLine k j r c) := by
  unfold State.rollLine
  extract_lets off put f
  split
  · exact Only.refl _ s
  · split
    · exact ((only_free s _).mono (by simp [treeParts])).trans (slu_tree (only_slu _ _))
    · split
      · exact slu_tree ((countLost_only s).trans (only_slu _ _))
      · split
        · exact slu_tree (only_slu s _)
        · exact Only.refl _ s

/-- A child counter block rewritten by a rollover (R281). -/
theorem rollBlock_only (s : State) (k j : Nat) (r : DramReturn) (c : Nat) : Only treeParts s (s.rollBlock k j r c) := by
  unfold State.rollBlock
  extract_lets child
  split
  · exact Only.refl _ s
  · split
    · exact slu_tree (setBlock_only s _ _)
    · exact Only.refl _ s

/-- A rollover (R281). -/
theorem rollover_only (s : State) (k j : Nat) (r : DramReturn) : Only treeParts s (s.rollover k j r) := by
  unfold State.rollover
  extract_lets s1 s2
  have h1 : Only treeParts s s1 := Only.foldl (fun t c => by
    split
    · exact rollLine_only t k j r c
    · exact rollBlock_only t k j r c) _ s
  have h2 : Only treeParts s1 s2 := slu_tree ((setBlock_only s1 _ _).trans (dirty_only _ k))
  exact h1.trans (h2.trans (slu_tree (only_slu s2 _)))

/-- A child's counter advanced (R280, R281). -/
theorem bump_only (s : State) (k j : Nat) (r : DramReturn) : Only treeParts s (s.bump k j r).2 := by
  unfold State.bump
  extract_lets b m
  split
  · exact slu_tree ((setBlock_only s _ _).trans (dirty_only _ k))
  · split
    · exact Only.refl _ s
    · exact rollover_only s k j r

/-- A block takes a place in the counter cache (R280). -/
theorem takePlace_only (s : State) (k : Nat) (keep : List Nat) : Only treeParts s (s.takePlace k keep).2 := by
  unfold State.takePlace
  extract_lets mine add may f
  have hf : Only treeParts s f.2 := (only_free s _).mono (by simp [treeParts])
  split
  · exact slu_tree (only_slu s _)
  · split
    · exact hf
    · exact hf.trans (slu_tree ((only_slu f.2 _).trans (only_slu _ _)))

/-- A block and its path brought into the counter cache (R280). -/
theorem bring_only (r : DramReturn) (fuel : Nat) : ∀ (keep : List Nat) (k : Nat) (s : State), Only treeParts s (State.bring r fuel keep k s).2 := by
  induction fuel with
  | zero => intro keep k s; exact Only.refl _ s
  | succ fuel ih =>
    intro keep k s
    simp only [State.bring]
    split
    · exact Only.refl _ s
    · have hu := ih keep (upKey k) s
      split
      · rename_i c t e; rw [e] at hu; exact hu
      · rename_i t e
        rw [e] at hu
        split
        · exact hu
        · rename_i b _
          have hp := hu.trans ((slu_tree (setBlock_only t k b)).trans (takePlace_only (t.setBlock k b) k keep))
          split
          · rename_i v _
            have hv := hp.trans (ih (k :: keep) (upKey v) ((t.setBlock k b).takePlace k keep).2)
            split
            · rename_i c u e2; rw [e2] at hv; exact hv
            · rename_i u e2; rw [e2] at hv; exact hv.trans (bump_only u _ _ r)
          · exact hp

/-- A line's counter path walked (R280, R282). -/
theorem walk_only (s : State) (half i : Nat) (r : DramReturn) : Only treeParts s (s.walk half i r).2 := by
  unfold State.walk
  extract_lets path stored missing slu0 s1 s2
  have h : Only treeParts s s2 := slu_tree ((only_slu s _).trans (countEcc_only s1 r))
  split
  · exact h
  · exact h.trans (bring_only r _ _ _ s2)

/-- A line read and verified (R274 to R276, R282). -/
theorem getLine_only (s : State) (off : Nat) (r : DramReturn) : Only treeParts s (s.getLine off r).2 := by
  have hw := walk_only s (sluHalf off) (sluLine off) r
  unfold State.getLine
  extract_lets half w s1
  split
  · exact hw
  · split
    · exact hw
    · split
      · exact hw.trans (slu_tree (countLost_only s1))
      · split <;> exact hw

/-- A line written (R273, R275, R280, R281, R284). -/
theorem putLine_only (s : State) (kd off : Nat) (ws : List TWord) (r : DramReturn) : Only treeParts s (s.putLine kd off ws r).2 := by
  have hb := bump_only s (blockKey (sluHalf off) 0 (sluLine off / 64)) (sluLine off % 64) r
  unfold State.putLine
  extract_lets half i
  split
  · rename_i c t e; rw [e] at hb; exact hb
  · rename_i t e; rw [e] at hb; exact hb.trans (slu_tree (only_slu t _))

/-- The parts that an access of the SLU can change: the tree's, and where it is an INTEGRITY event those of the alarm (R283). -/
def lineParts : List Part := .free :: .slu :: raiseParts

/-- A change to the tree's parts is one to a line access's. -/
theorem tree_line {s t : State} (h : Only treeParts s t) : Only lineParts s t := h.mono (by simp [treeParts, lineParts])

/-- The end of a line write (R283). -/
theorem endWrite_only (kd off : Nat) (x : Option (BitVec 3) × State) : Only lineParts x.2 (State.endWrite kd off x) := by
  unfold State.endWrite
  split
  · exact (integrity_only _ _ _ _ _).mono fun p hp => List.mem_cons_of_mem _ hp
  · exact Only.refl _ _

/-- A unit's read of its table in DRAM (log 63). -/
theorem unitRead_only (kd : Nat) (r : DramReturn) (n : Nat) : ∀ (off : Nat) (s : State), Only lineParts s (State.unitRead kd r n off s).2 := by
  induction n with
  | zero => intro off s; exact Only.refl _ s
  | succ n ih =>
    intro off s
    simp only [State.unitRead]
    split
    · exact tree_line (slu_tree (unitOutside_only s))
    · have hg := tree_line (getLine_only s (off - off % 64) r)
      split
      · exact hg.trans ((integrity_only _ _ _ _ _).mono fun p hp => List.mem_cons_of_mem _ hp)
      · exact hg
      · exact hg
      · split
        · exact hg.trans (ih _ _)
        · exact hg.trans (tree_line (slu_tree (unitForeign_only _)))

/-- A unit's write to one line of its table in DRAM (log 63). -/
theorem unitLine_only (s : State) (kd off : Nat) (part : List (Nat × TWord)) (r : DramReturn) : Only lineParts s (s.unitLine kd off part r) := by
  have hi (t : State) (c : BitVec 3) (p a d : Nat) : Only lineParts t (t.integrity c p a d) :=
    (integrity_only t c p a d).mono fun q hq => List.mem_cons_of_mem _ hq
  have hp (t : State) (ws : List TWord) : Only lineParts t (State.endWrite kd off (t.putLine kd off ws r)) :=
    (tree_line (putLine_only t kd off ws r)).trans (endWrite_only kd off _)
  have hw := tree_line (walk_only s (sluHalf off) (sluLine off) r)
  have hg := tree_line (getLine_only s off r)
  unfold State.unitLine
  extract_lets w g
  split
  · exact Only.refl _ s
  · split
    · exact tree_line (slu_tree (unitOutside_only s))
    · split
      · split
        · exact hw.trans (hi _ _ _ _ _)
        · exact hw.trans (hp _ _)
      · split
        · exact hg.trans (hi _ _ _ _ _)
        · exact hg
        · exact hg.trans (hp _ _)
        · split
          · exact hg.trans (hp _ _)
          · exact hg.trans (tree_line (slu_tree (unitForeign_only _)))

/-- A unit's write to its table in DRAM (log 63). -/
theorem unitPut_only (s : State) (kd off : Nat) (ws : List TWord) (r : DramReturn) : Only lineParts s (s.unitPut kd off ws r) := by
  unfold State.unitPut
  extract_lets first numbered
  exact Only.foldl (fun t l => unitLine_only t kd _ _ r) _ s

/-- A violation report (R299): the report ring and the logbook. -/
theorem violation_only (s : State) (addr kd region master : Nat) (kind : Access) :
    Only [.gte, .log] s (s.violation addr kd region master kind) := by
  unfold State.violation State.report
  exact ((only_gte s _).mono (by simp)).trans ((logRec_only _ _ _ _ _ _).mono (by simp))

/-! ### Cores and services -/

/-- A core's lane context or tile job replaced: only the cores change, and it reads back. -/
theorem setCtx_only (s : State) (k : Nat) (c : LaneCtx) : Only [.cores] s (s.setCtx k c) := only_cores s _
theorem setJob_only (s : State) (k : Nat) (j : Job) : Only [.cores] s (s.setJob k j) := only_cores s _
@[simp] theorem setCtx_coreAt (s : State) (k : Nat) (c : LaneCtx) : (s.setCtx k c).coreAt k = { s.coreAt k with lane := some c } := by
  simp [State.setCtx]
@[simp] theorem setJob_coreAt (s : State) (k : Nat) (j : Job) : (s.setJob k j).coreAt k = { s.coreAt k with tile := some j } := by
  simp [State.setJob]

/-- What is left on a core for its completion (R43): only the cores change. -/
theorem leaveAt_only (s : State) (k : Nat) (o : Outcome) : Only [.cores] s (s.leaveAt k o) := only_cores s _

theorem spend_only (s : State) (k n : Nat) : Only [.cores] s (s.spend k n) := only_cores s _

@[simp] theorem leaveAt_res (s : State) (k : Nat) (o : Outcome) : ((s.leaveAt k o).coreAt k).res = some o := by
  simp [State.leaveAt, State.coreAt, State.setCore]

/-- The end of a barge on a core (R299, R386): only the cores change. -/
theorem stopJob_only (s : State) (k st : Nat) : Only [.cores] s (s.stopJob k st) := by
  unfold State.stopJob
  dsimp only
  split
  · exact only_cores s _
  · exact Only.refl _ s

/-- The parts that a refused access can change (R299): the report, the core's barge, and for the debug port the alarm's. -/
def refuseParts : List Part := [.gte, .free, .cores] ++ raiseParts

/-- A refused access (R299). -/
theorem refuse_only (s : State) (g : Nat) (k : Access) (bad : Nat × Option Nat) : Only refuseParts s (s.refuse g k bad) := by
  unfold State.refuse
  extract_lets pick s1
  have hp : Only refuseParts s pick.2 := by
    simp only [pick]
    split
    · exact Only.refl _ s
    · exact (only_free s _).mono (by simp [refuseParts])
  have h1 : Only refuseParts s s1 := hp.trans ((violation_only _ _ _ _ _ _).mono (by simp [refuseParts, raiseParts]))
  refine h1.trans ?_
  split
  · exact (stopJob_only s1 _ _).mono (by simp [refuseParts])
  · split
    · exact (alarmEvent_only s1 23).mono fun p hp => by simp [refuseParts, hp]
    · exact Only.refl _ s1

/-- A service that releases nothing leaves its outcome on its core (R43). -/
theorem leave_eq {s : State} {r : Run} {o : Outcome} (h : r.releases (r.gave o) = 0) : s.leave r o = s.leaveAt r.core (r.gave o) := by
  simp [State.leave, h]

/-- What a service leaves (R43, R307): its outcome on its core, a count of DECLASS, or a refused access. -/
theorem leave_only (s : State) (r : Run) (o : Outcome) : Only refuseParts s (s.leave r o) := by
  unfold State.leave
  extract_lets o' n g
  split
  · exact (leaveAt_only s _ _).mono (by simp [refuseParts])
  · split
    · exact refuse_only s _ _ _
    · exact Only.trans (t := _) ((only_gte s _).mono (by simp [refuseParts])) ((leaveAt_only _ _ _).mono (by simp [refuseParts]))

/-- A permit looked up, used or refused (R163): the permit tables, the core that claims it and the logbook. -/
theorem usePermit_only (s : State) (r : Run) (action : Nat) (device : Bool) :
    Only [.adm, .cores, .log] s (s.usePermit r action device).2 := by
  unfold State.usePermit
  dsimp only
  repeat' split
  all_goals first
    | exact Only.refl _ s
    | exact (logPermit_only s _ _ _ _ _ _ _).mono (by simp)
    | exact (((only_adm s _).mono (by simp)).trans ((only_cores _ _).mono (by simp))).trans ((logPermit_only _ _ _ _ _ _ _ _).mono (by simp))

/-! ### The on-chip SRAM -/

/-- Writing a run of words keeps the canonical form (R26, R28). -/
theorem putSram_wf (ws : List TWord) (s : State) (addr : Nat) (h : Memory.wf s.sram = true) :
    Memory.wf (s.putSram addr ws).sram = true := by
  induction ws generalizing s addr with
  | nil => exact h
  | cons w ws ih => exact ih _ _ (State.setSram_wf s _ w h)

/-! ### Words of a DRAM line (R303, R306) -/

/-- The eight words of a line have the line's target (R18, R19). -/
theorem lineOf_target {addr kd off : Nat} (h : lineOf addr = some (kd, off)) (i : Nat) (hi : i < 8) :
    targetOf (addr - addr % 64 + 8 * i) = some (.dram kd (off + 8 * i)) := by
  have hd : ∃ o, targetOf addr = some (.dram kd o) ∧ off = o - o % 64 := by
    unfold lineOf at h
    split at h
    · next k o ht => exact ⟨o, by simp_all, by simp_all⟩
    · cases h
  obtain ⟨o, ht, rfl⟩ := hd
  unfold targetOf at ht
  simp only [within, Bool.and_eq_true, decide_eq_true_eq] at ht
  split at ht
  · cases ht
  · split at ht
    · rename_i h1 h2
      simp only [Option.some.injEq, Target.dram.injEq] at ht
      obtain ⟨rfl, rfl⟩ := ht
      unfold targetOf
      simp only [within, Bool.and_eq_true, decide_eq_true_eq]
      rw [if_neg (by omega), if_pos (by omega)]
      simp only [Option.some.injEq, Target.dram.injEq]
      omega
    · repeat' split at ht
      all_goals cases ht

/-- A line that its writer's gate lets through holds no HELD word. -/
theorem gateCheck_line_unheld {s : State} {m addr kd off : Nat} {ws : List TWord} (h : lineOf addr = some (kd, off))
    (hl : ws.length ≤ 8) (hg : s.gateCheck m .write (addr - addr % 64) 64 ws = none) : ∀ w ∈ ws, w.cls ≠ .held := by
  intro w hw hc
  obtain ⟨i, hi, rfl⟩ := List.mem_iff_getElem.mp hw
  unfold State.gateCheck State.gateScan at hg
  split at hg
  · cases hg
  · split at hg
    · cases hg
    · simp only [if_true, Option.map_eq_none_iff] at hg
      have hm : (i, ws[i]) ∈ (List.range ws.length).zip ws :=
        List.mem_iff_getElem.mpr ⟨i, by simpa using hi, by simp⟩
      have := List.find?_eq_none.mp hg _ (List.mem_map.mpr ⟨_, hm, rfl⟩)
      rw [lineOf_target h i (by omega)] at this
      simp [classAllowed, hc] at this

/-- Words that are not HELD are read as they stand and counted nowhere (R306). -/
theorem countHeld_none {s : State} {ws : List TWord} (h : ∀ w ∈ ws, w.cls ≠ .held) : s.countHeld ws = s := by
  have : ws.countP (fun w => decide (w.cls = .held)) = 0 := by simpa [List.countP_eq_zero] using h
  simp [State.countHeld, this]

theorem map_unheld {ws : List TWord} (h : ∀ w ∈ ws, w.cls ≠ .held) : ws.map unheld = ws := by
  refine (List.map_congr_left fun w hw => ?_).trans (List.map_id ws)
  simp [unheld, h w hw]

end Sys2Proof.Machine
end

