-- ==== Sys2Proof/WellFormed.lean ====
section
/-! DEFINITION. Well-formed commands: each operand lies in the range the spec gives the thing it names (R9, R18, R21, R37, R201,
R208, R222, R223, R227, R231, R255, R294, R375, R401). -/

namespace Sys2Proof

/-- A crew core, 0 to 95 (R9). -/
def coreOk (n : Nat) : Bool := decide (n < 96)
/-- A ring, 0 to 16,383 (R9). -/
def ringOk (n : Nat) : Bool := decide (n < 16384)
/-- A Broviry link, 0 to 3 (R401). -/
def linkOk (n : Nat) : Bool := decide (n < 4)
/-- A handle of 64 bits (R39). -/
def handleOk (n : Nat) : Bool := decide (n < 2 ^ 64)
/-- A cipher lane, 0 to 67 (R201). -/
def laneOk (n : Nat) : Bool := decide (n < 68)
/-- A bignum tile, 0 to 25 (R227). -/
def tileOk (n : Nat) : Bool := decide (n < 26)
/-- A hash engine, 0 to 55 (R222). -/
def engineOk (n : Nat) : Bool := decide (n < 56)
/-- An entropy cluster, 0 to 15 (R9). -/
def clusterOk (n : Nat) : Bool := decide (n < 16)
/-- A DRBG, 0 to 63 (R9). -/
def drbgOk (n : Nat) : Bool := decide (n < 64)
/-- A power domain, 0 to 71 (R375). -/
def domainOk (n : Nat) : Bool := decide (n < 72)
/-- A barrier gate, 0 to 119 (R294). -/
def gateOk (n : Nat) : Bool := decide (n < 120)
/-- A master, 0 to 119 (R294). -/
def masterOk (n : Nat) : Bool := decide (n < 120)
/-- An alarm source, 0 to 23 (R338). -/
def sourceOk (n : Nat) : Bool := decide (n < 24)
/-- An access path: a VF is 1 to 63 (R9). -/
def pathOk : Path → Bool
  | .vf n => decide (0 < n) && decide (n < 64)
  | _ => true
/-- An Ethernet port, 0 or 1 (R9). -/
def portOk (n : Nat) : Bool := decide (n < 2)
/-- A cargo drive: 0 A, 1 B (R186). -/
def driveOk (n : Nat) : Bool := decide (n < 2)
/-- A tug, 0 to 15 (R169). -/
def tugOk (n : Nat) : Bool := decide (n < 16)
/-- A mooring bank, 0 to 3 (R170). -/
def bankOk (n : Nat) : Bool := decide (n < 4)
/-- A mooring index, 0 to 262,143 (R170). -/
def mooringOk (n : Nat) : Bool := decide (n < 262144)
/-- A tenant, 0 to 4,095 (R142). -/
def tenantOk (n : Nat) : Bool := decide (n < 4096)
/-- A device of a cluster, 0 to 63 (R404). -/
def devOk (n : Nat) : Bool := decide (n < 64)
/-- A bucket of the cluster map, 0 to 4,095 (R409). -/
def bucketOk (n : Nat) : Bool := decide (n < 4096)
/-- A barge-table index, 0 to 131,071 (R9). -/
def bargeOk (n : Nat) : Bool := decide (n < 131072)
/-- A SEQ of 32 bits (R37). -/
def seqOk (n : Nat) : Bool := decide (n < 2 ^ 32)
/-- An MSI-X vector (GLB_INT_VECTOR, RING_CTL.MSIX_VEC). -/
def vecOk (n : Nat) : Bool := decide (n < 4096)
/-- A PCIe function: 0 the PF, 1 to 63 a VF (R9). -/
def fnOk (n : Nat) : Bool := decide (n < 64)
/-- A DRAM channel, 0 or 1 (R9). -/
def channelOk (n : Nat) : Bool := decide (n < 2)
/-- A link sequence number of 16 bits (R401). -/
def lseqOk (n : Nat) : Bool := decide (n < 2 ^ 16)
/-- A GPIO, 0 to 15 (R446). -/
def pinOk (n : Nat) : Bool := decide (n < 16)

/-- A unit command word's OP, bits 63:60, is the one of its row (R208, R223, R231). -/
def opOk (cmd : W64) (op : Nat) : Bool := decide (cmd.toNat / 2 ^ 60 = op)

/-- A command whose operands lie in their ranges. Log 5, DESIGN CHOICE. -/
def Instr.wf : Instr → Bool
  | .registerWrite path _ _ _ => pathOk path
  | .misalignedRegisterAccess path _ _ _ => pathOk path
  | .glbTimeLowRead path => pathOk path
  | .doorbellSqTail ring _ _ => ringOk ring
  | .doorbellCqHead ring _ _ => ringOk ring
  | .slotFetch ring => ringOk ring
  | .slotReadDone ring _ => ringOk ring
  | .admitBarge => true
  | .dispatch core => coreOk core
  | .basinRefill _ => true
  | .deadlineExpire barge => bargeOk barge
  | .pageTimeoutExpire barge => bargeOk barge
  | .bargeFinish core => coreOk core
  | .completionWrite ring _ => ringOk ring
  | .coalTimerExpire ring => ringOk ring
  | .pendingMsixSend fn vec => fnOk fn && vecOk vec
  | .ringOpen ring _ => ringOk ring
  | .ringClose ring _ => ringOk ring
  | .ringDrained ring => ringOk ring
  | .abortAll ring => ringOk ring
  | .abortSeq ring seq => ringOk ring && seqOk seq
  | .telWindowRoll => true
  | .pinTranslate core _ => coreOk core
  | .pinVerify3624 core _ => coreOk core
  | .pinVerifyPvv core _ => coreOk core
  | .offsetGenerate core _ => coreOk core
  | .pvvGenerate core _ => coreOk core
  | .pinChange3624 core _ => coreOk core
  | .pinChangePvv core _ => coreOk core
  | .pinGenerate core _ => coreOk core
  | .pinMailer core _ => coreOk core
  | .cvvGenerate core _ => coreOk core
  | .cvvVerify core _ => coreOk core
  | .cvc3Verify core _ => coreOk core
  | .dukptInitialKeyExport core _ => coreOk core
  | .dukptPinTranslate core _ => coreOk core
  | .dukptMacVerify core _ => coreOk core
  | .arqcVerify core _ => coreOk core
  | .arqcVerifyArpc core _ => coreOk core
  | .scriptMac core _ => coreOk core
  | .scriptEncrypt core _ => coreOk core
  | .macGenerate core _ => coreOk core
  | .macVerify core _ => coreOk core
  | .encrypt core _ => coreOk core
  | .decrypt core _ => coreOk core
  | .randomBytes core _ => coreOk core
  | .hash core _ => coreOk core
  | .keyGenerate core _ => coreOk core
  | .keyImport core _ => coreOk core
  | .keyExport core _ => coreOk core
  | .keyTranslate core _ => coreOk core
  | .keyCheckValue core _ => coreOk core
  | .componentOpen core _ => coreOk core
  | .componentAdd core _ => coreOk core
  | .componentClose core _ => coreOk core
  | .componentSessionExpire _ => true
  | .keyDelete core _ => coreOk core
  | .tr34Import core _ => coreOk core
  | .tr34Export core _ => coreOk core
  | .permitLodge core _ => coreOk core
  | .permitWithdraw core _ => coreOk core
  | .tenantCreate core _ => coreOk core
  | .tenantPolicy core _ => coreOk core
  | .tenantDelete core _ => coreOk core
  | .tenantReclaimDone tenant => tenantOk tenant
  | .officerEnrol core _ => coreOk core
  | .officerRevoke core _ => coreOk core
  | .calendarSet core _ => coreOk core
  | .journalQuery core _ => coreOk core
  | .backupOpen core _ => coreOk core
  | .backupRead core _ => coreOk core
  | .backupClose core _ => coreOk core
  | .restoreOpen core _ => coreOk core
  | .restoreShare core _ => coreOk core
  | .restoreWrite core _ => coreOk core
  | .restoreClose core _ => coreOk core
  | .cargoSessionEnd core _ => coreOk core
  | .cargoFormat core _ => coreOk core
  | .drydockEnter core _ => coreOk core
  | .drydockDrainDone => true
  | .drydockExit core _ => coreOk core
  | .functionGrant core _ => coreOk core
  | .firmwareUpdate core _ _ => coreOk core
  | .versionMigrate core _ _ => coreOk core
  | .rawRngOn core _ => coreOk core
  | .rawRngOff core _ => coreOk core
  | .endOfLife core _ => coreOk core
  | .auditRead core _ => coreOk core
  | .auditSeal core _ => coreOk core
  | .auditAck core _ => coreOk core
  | .auditStatus core _ => coreOk core
  | .asymKeygen core _ => coreOk core
  | .pubkeyRead core _ => coreOk core
  | .sign core _ => coreOk core
  | .verify core _ => coreOk core
  | .rsaEncrypt core _ => coreOk core
  | .rsaDecrypt core _ => coreOk core
  | .agree core _ => coreOk core
  | .pqKeygen core _ => coreOk core
  | .mlkemEncaps core _ => coreOk core
  | .mlkemDecaps core _ => coreOk core
  | .mldsaSign core _ => coreOk core
  | .mldsaVerify core _ => coreOk core
  | .attestReport core _ => coreOk core
  | .certRead core _ => coreOk core
  | .clusterHome core _ => coreOk core
  | .clusterRelay core _ => coreOk core
  | .laneDiag core _ => coreOk core
  | .hashDiag core => coreOk core
  | .tileDiag core _ => coreOk core
  | .pageInReturn handle _ => handleOk handle
  | .mooringWaitRetry handle => handleOk handle
  | .cacheFillRetry handle => handleOk handle
  | .mooringEccError m => mooringOk m
  | .mooringMove m bank => mooringOk m && bankOk bank
  | .tugSelfcheckFail tug => tugOk tug
  | .tugTransferDone core _ _ => coreOk core
  | .leaseCommit core => coreOk core
  | .groupWriteStart _ => true
  | .commitTick drive => driveOk drive
  | .volatileCommitDone _ => true
  | .checkpointStart => true
  | .checkpointComplete => true
  | .driveFail drive => driveOk drive
  | .rebuildComplete => true
  | .nvmeCommandTimeout drive => driveOk drive
  | .sectorReadDone handle drive _ _ => handleOk handle && driveOk drive
  | .pinAdd => true
  | .pinRemove => true
  | .laneOpen core cmd _ => coreOk core && opOk cmd 0
  | .laneLoad core cmd _ => coreOk core && opOk cmd 1
  | .kduLoadDone _ _ => true
  | .enc core cmd _ _ => coreOk core && opOk cmd 2
  | .dec core cmd _ _ _ => coreOk core && opOk cmd 3
  | .zkey core cmd _ _ => coreOk core && opOk cmd 4
  | .nonce core cmd _ => coreOk core && opOk cmd 5
  | .kstream core cmd _ _ => coreOk core && opOk cmd 6
  | .kstreamD core cmd _ _ => coreOk core && opOk cmd 7
  | .tag core cmd _ _ => coreOk core && opOk cmd 8
  | .tagchk core cmd _ _ => coreOk core && opOk cmd 9
  | .store core cmd _ => coreOk core && opOk cmd 10
  | .free core cmd _ => coreOk core && opOk cmd 11
  | .hold core cmd _ => coreOk core && opOk cmd 12
  | .put core cmd _ _ => coreOk core && opOk cmd 13
  | .loadt core cmd _ => coreOk core && opOk cmd 14
  | .laneClose core cmd _ => coreOk core && opOk cmd 15
  | .heldBufferZeroed core => coreOk core
  | .mismatchWindowEnd => true
  | .laneSelftest lane _ _ => laneOk lane
  | .laneDrainRetire lane _ => laneOk lane
  | .init core cmd _ => coreOk core && opOk cmd 1
  | .absorb core cmd _ => coreOk core && opOk cmd 2
  | .hashKey core cmd _ => coreOk core && opOk cmd 3
  | .final core cmd _ => coreOk core && opOk cmd 4
  | .squeeze core cmd _ => coreOk core && opOk cmd 5
  | .cmp core cmd _ => coreOk core && opOk cmd 6
  | .hashReset core cmd _ => coreOk core && opOk cmd 7
  | .hashSelftest engine _ => engineOk engine
  | .cphDiagEnable _ => true
  | .cphDiagCmd _ _ => true
  | .hshDiagEnable _ => true
  | .hshDiagCmd _ => true
  | .bgnDiagEnable _ => true
  | .bgnDiagCmd _ _ => true
  | .mac core cmd _ _ => coreOk core && opOk cmd 1
  | .macp core cmd _ _ => coreOk core && opOk cmd 2
  | .rdacc core cmd _ _ => coreOk core && opOk cmd 3
  | .clr core cmd _ => coreOk core && opOk cmd 4
  | .jopen core cmd _ => coreOk core && opOk cmd 8
  | .jclose core cmd _ => coreOk core && opOk cmd 9
  | .keyin core cmd _ => coreOk core && opOk cmd 10
  | .wput core cmd _ => coreOk core && opOk cmd 11
  | .wget core cmd _ => coreOk core && opOk cmd 12
  | .jobClearDone tile _ => tileOk tile
  | .tileSelftest tile _ _ => tileOk tile
  | .settleEnd cluster => clusterOk cluster
  | .startupTestEnd cluster _ => clusterOk cluster
  | .collectionEnd cluster _ => clusterOk cluster
  | .healthTestFail cluster _ => clusterOk cluster
  | .seedBlockReady cluster => clusterOk cluster
  | .drbgSeeded drbg => drbgOk drbg
  | .drbgDue drbg => drbgOk drbg
  | .drbgBlocked drbg => drbgOk drbg
  | .drbgRequest core _ => coreOk core
  | .rngStartupComplete => true
  | .rawSourceSelect _ => true
  | .rawDataRead path => pathOk path
  | .lineRead master core _ _ => masterOk master && coreOk core
  | .fullLineWrite master core _ _ _ => masterOk master && coreOk core
  | .partialWrite master core _ _ _ => masterOk master && coreOk core
  | .patrolScrub channel _ _ => channelOk channel
  | .linkFrameReceive link _ _ => linkOk link
  | .nakReceived link lseq => linkOk link && lseqOk lseq
  | .declass core _ _ _ n cls _ => coreOk core && decide (n ≤ 8) && (cls == .pub || cls == .confidential)
  | .gateBarrier gate => gateOk gate
  | .gateBarrierDone gate => gateOk gate
  | .yuhildRequest _ => true
  | .yuhildSubmit => true
  | .yuhildVerifyDone => true
  | .debugAccess _ _ _ _ => true
  | .alarmSample _ => true
  | .latchHoldExpire source => sourceOk source
  | .latchClearWrite _ => true
  | .cellSample _ => true
  | .mainPowerLost _ => true
  | .mainPowerReturn => true
  | .sentryPowerLost => true
  | .resetNLow _ _ _ => true
  | .launch _ => true
  | .dramTrainingDone _ => true
  | .dormantRequest path => pathOk path
  | .dormantDrainDone => true
  | .drainTimeout => true
  | .resumeRequest path => pathOk path
  | .resumeComplete _ _ _ _ _ => true
  | .haltRequest path => pathOk path
  | .haltFlushDone _ => true
  | .resetRequest path => pathOk path
  | .fnStop => true
  | .fnChange => true
  | .fnRestart => true
  | .domainIdleGate domain => domainOk domain
  | .domainWake domain => domainOk domain
  | .domainWakeDone domain _ => domainOk domain
  | .domainPowerFail domain => domainOk domain
  | .avsUpdate => true
  | .supplyReading _ _ => true
  | .droopDetect => true
  | .stretchEnd => true
  | .thermalSample _ => true
  | .powerCapStep => true
  | .functionLevelReset fn => fnOk fn
  | .hotReset => true
  | .vfEnableClear => true
  | .pcieLinkDown => true
  | .pcieLinkUp _ _ _ _ _ => true
  | .tcpConnect port => portOk port
  | .controlPacket port => portOk port
  | .tlsClientHello _ _ => true
  | .handshakeTimeout _ => true
  | .tlsSessionClose _ => true
  | .bind _ ring _ => ringOk ring
  | .unbind _ ring _ => ringOk ring
  | .ltpBarge _ ring _ _ => ringOk ring
  | .ltpV1Barge _ ring _ _ _ => ringOk ring
  | .ltpAck _ ring _ => ringOk ring
  | .ltpAbort _ ring _ => ringOk ring
  | .loopbackStart _ => true
  | .loopbackEnd _ _ => true
  | .partnerLoopback _ => true
  | .towpathRead path _ _ => pathOk path
  | .towpathReadTimeout path => pathOk path
  | .towpathWrite path _ _ => pathOk path
  | .gpioInputChange pin _ => pinOk pin
  | .linkUpAttempt link _ _ => linkOk link
  | .linkUpRetry link => linkOk link
  | .heartbeatSend => true
  | .heartbeatTimeout link => linkOk link
  | .pairKeyAgree dev _ => devOk dev
  | .mapSwitch => true
  | .haltNoticeReceive dev _ => devOk dev
  | .forwardBarge barge _ => bargeOk barge
  | .forwardedBargeReceive link _ => linkOk link
  | .forwardedCompletionReceive home ring seq _ _ => devOk home && ringOk ring && seqOk seq
  | .abortFrameReceive head ring _ => devOk head && ringOk ring
  | .replicationReceive dev _ => devOk dev
  | .replicationAckReceive dev _ => devOk dev
  | .clusterJoin => true
  | .resyncComplete bucket => bucketOk bucket
  | .timeSyncSend => true
  | .timeSyncReceive link _ _ => linkOk link
  | .logRecordEnter => true
  | .archiveCopy _ => true
  | .rateWindowRefill => true
  | .logCursorSeek _ => true
  | .logNextRead path => pathOk path
  | .tcpKeepalive _ => true
  | .clientFinished _ _ _ => true
  | .tlsKeyUpdate _ => true
  | .ltpMalformedMessage _ => true
  | .rawBufferFeed _ => true

end Sys2Proof
end

