-- ==== Sys2Proof/Laws/PerInstr.lean ====
section
/-! SUPPORT. What Instr.wf asks of each command's operands, as bounds: one lemma per command. -/

set_option Elab.async false

namespace Sys2Proof.Laws.Operands

/-- The bounds of a command's operands (R9, R18, R21, R37, R201, R208, R222, R223, R227, R231, R255, R294, R375, R401). -/
def Bounds : Instr → Prop
  | .registerWrite path _ _ _ => (∀ n, path = .vf n → 0 < n ∧ n < 64)
  | .misalignedRegisterAccess path _ _ _ => (∀ n, path = .vf n → 0 < n ∧ n < 64)
  | .glbTimeLowRead path => (∀ n, path = .vf n → 0 < n ∧ n < 64)
  | .doorbellSqTail ring _ _ => ring < 16384
  | .doorbellCqHead ring _ _ => ring < 16384
  | .slotFetch ring => ring < 16384
  | .slotReadDone ring _ => ring < 16384
  | .admitBarge => True
  | .dispatch core => core < 96
  | .basinRefill _ => True
  | .deadlineExpire barge => barge < 131072
  | .pageTimeoutExpire barge => barge < 131072
  | .bargeFinish core => core < 96
  | .completionWrite ring _ => ring < 16384
  | .coalTimerExpire ring => ring < 16384
  | .pendingMsixSend fn vec => fn < 64 ∧ vec < 4096
  | .ringOpen ring _ => ring < 16384
  | .ringClose ring _ => ring < 16384
  | .ringDrained ring => ring < 16384
  | .abortAll ring => ring < 16384
  | .abortSeq ring seq => ring < 16384 ∧ seq < 2 ^ 32
  | .telWindowRoll => True
  | .pinTranslate core _ => core < 96
  | .pinVerify3624 core _ => core < 96
  | .pinVerifyPvv core _ => core < 96
  | .offsetGenerate core _ => core < 96
  | .pvvGenerate core _ => core < 96
  | .pinChange3624 core _ => core < 96
  | .pinChangePvv core _ => core < 96
  | .pinGenerate core _ => core < 96
  | .pinMailer core _ => core < 96
  | .cvvGenerate core _ => core < 96
  | .cvvVerify core _ => core < 96
  | .cvc3Verify core _ => core < 96
  | .dukptInitialKeyExport core _ => core < 96
  | .dukptPinTranslate core _ => core < 96
  | .dukptMacVerify core _ => core < 96
  | .arqcVerify core _ => core < 96
  | .arqcVerifyArpc core _ => core < 96
  | .scriptMac core _ => core < 96
  | .scriptEncrypt core _ => core < 96
  | .macGenerate core _ => core < 96
  | .macVerify core _ => core < 96
  | .encrypt core _ => core < 96
  | .decrypt core _ => core < 96
  | .randomBytes core _ => core < 96
  | .hash core _ => core < 96
  | .keyGenerate core _ => core < 96
  | .keyImport core _ => core < 96
  | .keyExport core _ => core < 96
  | .keyTranslate core _ => core < 96
  | .keyCheckValue core _ => core < 96
  | .componentOpen core _ => core < 96
  | .componentAdd core _ => core < 96
  | .componentClose core _ => core < 96
  | .componentSessionExpire _ => True
  | .keyDelete core _ => core < 96
  | .tr34Import core _ => core < 96
  | .tr34Export core _ => core < 96
  | .permitLodge core _ => core < 96
  | .permitWithdraw core _ => core < 96
  | .tenantCreate core _ => core < 96
  | .tenantPolicy core _ => core < 96
  | .tenantDelete core _ => core < 96
  | .tenantReclaimDone tenant => tenant < 4096
  | .officerEnrol core _ => core < 96
  | .officerRevoke core _ => core < 96
  | .calendarSet core _ => core < 96
  | .journalQuery core _ => core < 96
  | .backupOpen core _ => core < 96
  | .backupRead core _ => core < 96
  | .backupClose core _ => core < 96
  | .restoreOpen core _ => core < 96
  | .restoreShare core _ => core < 96
  | .restoreWrite core _ => core < 96
  | .restoreClose core _ => core < 96
  | .cargoSessionEnd core _ => core < 96
  | .cargoFormat core _ => core < 96
  | .drydockEnter core _ => core < 96
  | .drydockDrainDone => True
  | .drydockExit core _ => core < 96
  | .functionGrant core _ => core < 96
  | .firmwareUpdate core _ _ => core < 96
  | .versionMigrate core _ _ => core < 96
  | .rawRngOn core _ => core < 96
  | .rawRngOff core _ => core < 96
  | .endOfLife core _ => core < 96
  | .auditRead core _ => core < 96
  | .auditSeal core _ => core < 96
  | .auditAck core _ => core < 96
  | .auditStatus core _ => core < 96
  | .asymKeygen core _ => core < 96
  | .pubkeyRead core _ => core < 96
  | .sign core _ => core < 96
  | .verify core _ => core < 96
  | .rsaEncrypt core _ => core < 96
  | .rsaDecrypt core _ => core < 96
  | .agree core _ => core < 96
  | .pqKeygen core _ => core < 96
  | .mlkemEncaps core _ => core < 96
  | .mlkemDecaps core _ => core < 96
  | .mldsaSign core _ => core < 96
  | .mldsaVerify core _ => core < 96
  | .attestReport core _ => core < 96
  | .certRead core _ => core < 96
  | .clusterHome core _ => core < 96
  | .clusterRelay core _ => core < 96
  | .laneDiag core _ => core < 96
  | .hashDiag core => core < 96
  | .tileDiag core _ => core < 96
  | .pageInReturn handle _ => handle < 2 ^ 64
  | .mooringWaitRetry handle => handle < 2 ^ 64
  | .cacheFillRetry handle => handle < 2 ^ 64
  | .mooringEccError m => m < 262144
  | .mooringMove m bank => m < 262144 ∧ bank < 4
  | .tugSelfcheckFail tug => tug < 16
  | .tugTransferDone core _ _ => core < 96
  | .leaseCommit core => core < 96
  | .groupWriteStart _ => True
  | .commitTick drive => drive < 2
  | .volatileCommitDone _ => True
  | .checkpointStart => True
  | .checkpointComplete => True
  | .driveFail drive => drive < 2
  | .rebuildComplete => True
  | .nvmeCommandTimeout drive => drive < 2
  | .sectorReadDone handle drive _ _ => handle < 2 ^ 64 ∧ drive < 2
  | .pinAdd => True
  | .pinRemove => True
  | .laneOpen core cmd _ => core < 96 ∧ cmd.toNat / 2 ^ 60 = 0
  | .laneLoad core cmd _ => core < 96 ∧ cmd.toNat / 2 ^ 60 = 1
  | .kduLoadDone _ _ => True
  | .enc core cmd _ _ => core < 96 ∧ cmd.toNat / 2 ^ 60 = 2
  | .dec core cmd _ _ _ => core < 96 ∧ cmd.toNat / 2 ^ 60 = 3
  | .zkey core cmd _ _ => core < 96 ∧ cmd.toNat / 2 ^ 60 = 4
  | .nonce core cmd _ => core < 96 ∧ cmd.toNat / 2 ^ 60 = 5
  | .kstream core cmd _ _ => core < 96 ∧ cmd.toNat / 2 ^ 60 = 6
  | .kstreamD core cmd _ _ => core < 96 ∧ cmd.toNat / 2 ^ 60 = 7
  | .tag core cmd _ _ => core < 96 ∧ cmd.toNat / 2 ^ 60 = 8
  | .tagchk core cmd _ _ => core < 96 ∧ cmd.toNat / 2 ^ 60 = 9
  | .store core cmd _ => core < 96 ∧ cmd.toNat / 2 ^ 60 = 10
  | .free core cmd _ => core < 96 ∧ cmd.toNat / 2 ^ 60 = 11
  | .hold core cmd _ => core < 96 ∧ cmd.toNat / 2 ^ 60 = 12
  | .put core cmd _ _ => core < 96 ∧ cmd.toNat / 2 ^ 60 = 13
  | .loadt core cmd _ => core < 96 ∧ cmd.toNat / 2 ^ 60 = 14
  | .laneClose core cmd _ => core < 96 ∧ cmd.toNat / 2 ^ 60 = 15
  | .heldBufferZeroed core => core < 96
  | .mismatchWindowEnd => True
  | .laneSelftest lane _ _ => lane < 68
  | .laneDrainRetire lane _ => lane < 68
  | .init core cmd _ => core < 96 ∧ cmd.toNat / 2 ^ 60 = 1
  | .absorb core cmd _ => core < 96 ∧ cmd.toNat / 2 ^ 60 = 2
  | .hashKey core cmd _ => core < 96 ∧ cmd.toNat / 2 ^ 60 = 3
  | .final core cmd _ => core < 96 ∧ cmd.toNat / 2 ^ 60 = 4
  | .squeeze core cmd _ => core < 96 ∧ cmd.toNat / 2 ^ 60 = 5
  | .cmp core cmd _ => core < 96 ∧ cmd.toNat / 2 ^ 60 = 6
  | .hashReset core cmd _ => core < 96 ∧ cmd.toNat / 2 ^ 60 = 7
  | .hashSelftest engine _ => engine < 56
  | .cphDiagEnable _ => True
  | .cphDiagCmd _ _ => True
  | .hshDiagEnable _ => True
  | .hshDiagCmd _ => True
  | .bgnDiagEnable _ => True
  | .bgnDiagCmd _ _ => True
  | .mac core cmd _ _ => core < 96 ∧ cmd.toNat / 2 ^ 60 = 1
  | .macp core cmd _ _ => core < 96 ∧ cmd.toNat / 2 ^ 60 = 2
  | .rdacc core cmd _ _ => core < 96 ∧ cmd.toNat / 2 ^ 60 = 3
  | .clr core cmd _ => core < 96 ∧ cmd.toNat / 2 ^ 60 = 4
  | .jopen core cmd _ => core < 96 ∧ cmd.toNat / 2 ^ 60 = 8
  | .jclose core cmd _ => core < 96 ∧ cmd.toNat / 2 ^ 60 = 9
  | .keyin core cmd _ => core < 96 ∧ cmd.toNat / 2 ^ 60 = 10
  | .wput core cmd _ => core < 96 ∧ cmd.toNat / 2 ^ 60 = 11
  | .wget core cmd _ => core < 96 ∧ cmd.toNat / 2 ^ 60 = 12
  | .jobClearDone tile _ => tile < 26
  | .tileSelftest tile _ _ => tile < 26
  | .settleEnd cluster => cluster < 16
  | .startupTestEnd cluster _ => cluster < 16
  | .collectionEnd cluster _ => cluster < 16
  | .healthTestFail cluster _ => cluster < 16
  | .seedBlockReady cluster => cluster < 16
  | .drbgSeeded drbg => drbg < 64
  | .drbgDue drbg => drbg < 64
  | .drbgBlocked drbg => drbg < 64
  | .drbgRequest core _ => core < 96
  | .rngStartupComplete => True
  | .rawSourceSelect _ => True
  | .rawDataRead path => (∀ n, path = .vf n → 0 < n ∧ n < 64)
  | .lineRead master core _ _ => master < 120 ∧ core < 96
  | .fullLineWrite master core _ _ _ => master < 120 ∧ core < 96
  | .partialWrite master core _ _ _ => master < 120 ∧ core < 96
  | .patrolScrub channel _ _ => channel < 2
  | .linkFrameReceive link _ _ => link < 4
  | .nakReceived link lseq => link < 4 ∧ lseq < 2 ^ 16
  | .declass core _ _ _ n cls _ => (core < 96 ∧ n ≤ 8) ∧ (cls = .pub ∨ cls = .confidential)
  | .gateBarrier gate => gate < 120
  | .gateBarrierDone gate => gate < 120
  | .yuhildRequest _ => True
  | .yuhildSubmit => True
  | .yuhildVerifyDone => True
  | .debugAccess _ _ _ _ => True
  | .alarmSample _ => True
  | .latchHoldExpire source => source < 24
  | .latchClearWrite _ => True
  | .cellSample _ => True
  | .mainPowerLost _ => True
  | .mainPowerReturn => True
  | .sentryPowerLost => True
  | .resetNLow _ _ _ => True
  | .launch _ => True
  | .dramTrainingDone _ => True
  | .dormantRequest path => (∀ n, path = .vf n → 0 < n ∧ n < 64)
  | .dormantDrainDone => True
  | .drainTimeout => True
  | .resumeRequest path => (∀ n, path = .vf n → 0 < n ∧ n < 64)
  | .resumeComplete _ _ _ _ _ => True
  | .haltRequest path => (∀ n, path = .vf n → 0 < n ∧ n < 64)
  | .haltFlushDone _ => True
  | .resetRequest path => (∀ n, path = .vf n → 0 < n ∧ n < 64)
  | .fnStop => True
  | .fnChange => True
  | .fnRestart => True
  | .domainIdleGate domain => domain < 72
  | .domainWake domain => domain < 72
  | .domainWakeDone domain _ => domain < 72
  | .domainPowerFail domain => domain < 72
  | .avsUpdate => True
  | .supplyReading _ _ => True
  | .droopDetect => True
  | .stretchEnd => True
  | .thermalSample _ => True
  | .powerCapStep => True
  | .functionLevelReset fn => fn < 64
  | .hotReset => True
  | .vfEnableClear => True
  | .pcieLinkDown => True
  | .pcieLinkUp _ _ _ _ _ => True
  | .tcpConnect port => port < 2
  | .controlPacket port => port < 2
  | .tlsClientHello _ _ => True
  | .handshakeTimeout _ => True
  | .tlsSessionClose _ => True
  | .bind _ ring _ => ring < 16384
  | .unbind _ ring _ => ring < 16384
  | .ltpBarge _ ring _ _ => ring < 16384
  | .ltpV1Barge _ ring _ _ _ => ring < 16384
  | .ltpAck _ ring _ => ring < 16384
  | .ltpAbort _ ring _ => ring < 16384
  | .loopbackStart _ => True
  | .loopbackEnd _ _ => True
  | .partnerLoopback _ => True
  | .towpathRead path _ _ => (∀ n, path = .vf n → 0 < n ∧ n < 64)
  | .towpathReadTimeout path => (∀ n, path = .vf n → 0 < n ∧ n < 64)
  | .towpathWrite path _ _ => (∀ n, path = .vf n → 0 < n ∧ n < 64)
  | .gpioInputChange pin _ => pin < 16
  | .linkUpAttempt link _ _ => link < 4
  | .linkUpRetry link => link < 4
  | .heartbeatSend => True
  | .heartbeatTimeout link => link < 4
  | .pairKeyAgree dev _ => dev < 64
  | .mapSwitch => True
  | .haltNoticeReceive dev _ => dev < 64
  | .forwardBarge barge _ => barge < 131072
  | .forwardedBargeReceive link _ => link < 4
  | .forwardedCompletionReceive home ring seq _ _ => home < 64 ∧ ring < 16384 ∧ seq < 2 ^ 32
  | .abortFrameReceive head ring _ => head < 64 ∧ ring < 16384
  | .replicationReceive dev _ => dev < 64
  | .replicationAckReceive dev _ => dev < 64
  | .clusterJoin => True
  | .resyncComplete bucket => bucket < 4096
  | .timeSyncSend => True
  | .timeSyncReceive link _ _ => link < 4
  | .logRecordEnter => True
  | .archiveCopy _ => True
  | .rateWindowRefill => True
  | .logCursorSeek _ => True
  | .logNextRead path => (∀ n, path = .vf n → 0 < n ∧ n < 64)
  | .tcpKeepalive _ => True
  | .clientFinished _ _ _ => True
  | .tlsKeyUpdate _ => True
  | .ltpMalformedMessage _ => True
  | .rawBufferFeed _ => True

/-- A command is well formed exactly where its operands lie in their bounds. -/
def Statement (i : Instr) : Prop := i.wf = true ↔ Bounds i

/-- An access path is well formed where a VF's number is 1 to 63 (R9). -/
theorem pathOk_iff (p : Path) : pathOk p = true ↔ ∀ n, p = .vf n → 0 < n ∧ n < 64 := by
  cases p <;> simp [pathOk]

/-- Two bounds at once. -/
theorem both {a b : Bool} {p q : Prop} (ha : a = true ↔ p) (hb : b = true ↔ q) : (a && b) = true ↔ p ∧ q :=
  Bool.and_eq_true_iff.trans (and_congr ha hb)

theorem registerWrite (path : Path) (addr size : Nat) (v : W64) : Statement (.registerWrite path addr size v) := pathOk_iff path
theorem misalignedRegisterAccess (path : Path) (write : Bool) (addr size : Nat) : Statement (.misalignedRegisterAccess path write addr size) := pathOk_iff path
theorem glbTimeLowRead (path : Path) : Statement (.glbTimeLowRead path) := pathOk_iff path
theorem doorbellSqTail (ring : Nat) (tail : W32) (head : Option W32) : Statement (.doorbellSqTail ring tail head) := decide_eq_true_iff
theorem doorbellCqHead (ring : Nat) (head : W32) (tail : Option W32) : Statement (.doorbellCqHead ring head tail) := decide_eq_true_iff
theorem slotFetch (ring : Nat) : Statement (.slotFetch ring) := decide_eq_true_iff
theorem slotReadDone (ring : Nat) (r : SlotReturn) : Statement (.slotReadDone ring r) := decide_eq_true_iff
theorem admitBarge : Statement .admitBarge := iff_of_true rfl trivial
theorem dispatch (core : Nat) : Statement (.dispatch core) := decide_eq_true_iff
theorem basinRefill (r : DramReturn) : Statement (.basinRefill r) := iff_of_true rfl trivial
theorem deadlineExpire (barge : Nat) : Statement (.deadlineExpire barge) := decide_eq_true_iff
theorem pageTimeoutExpire (barge : Nat) : Statement (.pageTimeoutExpire barge) := decide_eq_true_iff
theorem bargeFinish (core : Nat) : Statement (.bargeFinish core) := decide_eq_true_iff
theorem completionWrite (ring : Nat) (ok : Bool) : Statement (.completionWrite ring ok) := decide_eq_true_iff
theorem coalTimerExpire (ring : Nat) : Statement (.coalTimerExpire ring) := decide_eq_true_iff
theorem pendingMsixSend (fn vec : Nat) : Statement (.pendingMsixSend fn vec) := both decide_eq_true_iff decide_eq_true_iff
theorem ringOpen (ring : Nat) (v : W64) : Statement (.ringOpen ring v) := decide_eq_true_iff
theorem ringClose (ring : Nat) (v : W64) : Statement (.ringClose ring v) := decide_eq_true_iff
theorem ringDrained (ring : Nat) : Statement (.ringDrained ring) := decide_eq_true_iff
theorem abortAll (ring : Nat) : Statement (.abortAll ring) := decide_eq_true_iff
theorem abortSeq (ring seq : Nat) : Statement (.abortSeq ring seq) := both decide_eq_true_iff decide_eq_true_iff
theorem telWindowRoll : Statement .telWindowRoll := iff_of_true rfl trivial
theorem pinTranslate (core : Nat) (hw : Hw) : Statement (.pinTranslate core hw) := decide_eq_true_iff
theorem pinVerify3624 (core : Nat) (hw : Hw) : Statement (.pinVerify3624 core hw) := decide_eq_true_iff
theorem pinVerifyPvv (core : Nat) (hw : Hw) : Statement (.pinVerifyPvv core hw) := decide_eq_true_iff
theorem offsetGenerate (core : Nat) (hw : Hw) : Statement (.offsetGenerate core hw) := decide_eq_true_iff
theorem pvvGenerate (core : Nat) (hw : Hw) : Statement (.pvvGenerate core hw) := decide_eq_true_iff
theorem pinChange3624 (core : Nat) (hw : Hw) : Statement (.pinChange3624 core hw) := decide_eq_true_iff
theorem pinChangePvv (core : Nat) (hw : Hw) : Statement (.pinChangePvv core hw) := decide_eq_true_iff
theorem pinGenerate (core : Nat) (hw : Hw) : Statement (.pinGenerate core hw) := decide_eq_true_iff
theorem pinMailer (core : Nat) (hw : Hw) : Statement (.pinMailer core hw) := decide_eq_true_iff
theorem cvvGenerate (core : Nat) (hw : Hw) : Statement (.cvvGenerate core hw) := decide_eq_true_iff
theorem cvvVerify (core : Nat) (hw : Hw) : Statement (.cvvVerify core hw) := decide_eq_true_iff
theorem cvc3Verify (core : Nat) (hw : Hw) : Statement (.cvc3Verify core hw) := decide_eq_true_iff
theorem dukptInitialKeyExport (core : Nat) (hw : Hw) : Statement (.dukptInitialKeyExport core hw) := decide_eq_true_iff
theorem dukptPinTranslate (core : Nat) (hw : Hw) : Statement (.dukptPinTranslate core hw) := decide_eq_true_iff
theorem dukptMacVerify (core : Nat) (hw : Hw) : Statement (.dukptMacVerify core hw) := decide_eq_true_iff
theorem arqcVerify (core : Nat) (hw : Hw) : Statement (.arqcVerify core hw) := decide_eq_true_iff
theorem arqcVerifyArpc (core : Nat) (hw : Hw) : Statement (.arqcVerifyArpc core hw) := decide_eq_true_iff
theorem scriptMac (core : Nat) (hw : Hw) : Statement (.scriptMac core hw) := decide_eq_true_iff
theorem scriptEncrypt (core : Nat) (hw : Hw) : Statement (.scriptEncrypt core hw) := decide_eq_true_iff
theorem macGenerate (core : Nat) (hw : Hw) : Statement (.macGenerate core hw) := decide_eq_true_iff
theorem macVerify (core : Nat) (hw : Hw) : Statement (.macVerify core hw) := decide_eq_true_iff
theorem encrypt (core : Nat) (hw : Hw) : Statement (.encrypt core hw) := decide_eq_true_iff
theorem decrypt (core : Nat) (hw : Hw) : Statement (.decrypt core hw) := decide_eq_true_iff
theorem randomBytes (core : Nat) (hw : Hw) : Statement (.randomBytes core hw) := decide_eq_true_iff
theorem hash (core : Nat) (hw : Hw) : Statement (.hash core hw) := decide_eq_true_iff
theorem keyGenerate (core : Nat) (hw : Hw) : Statement (.keyGenerate core hw) := decide_eq_true_iff
theorem keyImport (core : Nat) (hw : Hw) : Statement (.keyImport core hw) := decide_eq_true_iff
theorem keyExport (core : Nat) (hw : Hw) : Statement (.keyExport core hw) := decide_eq_true_iff
theorem keyTranslate (core : Nat) (hw : Hw) : Statement (.keyTranslate core hw) := decide_eq_true_iff
theorem keyCheckValue (core : Nat) (hw : Hw) : Statement (.keyCheckValue core hw) := decide_eq_true_iff
theorem componentOpen (core : Nat) (hw : Hw) : Statement (.componentOpen core hw) := decide_eq_true_iff
theorem componentAdd (core : Nat) (hw : Hw) : Statement (.componentAdd core hw) := decide_eq_true_iff
theorem componentClose (core : Nat) (hw : Hw) : Statement (.componentClose core hw) := decide_eq_true_iff
theorem componentSessionExpire (session : Nat) : Statement (.componentSessionExpire session) := iff_of_true rfl trivial
theorem keyDelete (core : Nat) (hw : Hw) : Statement (.keyDelete core hw) := decide_eq_true_iff
theorem tr34Import (core : Nat) (hw : Hw) : Statement (.tr34Import core hw) := decide_eq_true_iff
theorem tr34Export (core : Nat) (hw : Hw) : Statement (.tr34Export core hw) := decide_eq_true_iff
theorem permitLodge (core : Nat) (hw : Hw) : Statement (.permitLodge core hw) := decide_eq_true_iff
theorem permitWithdraw (core : Nat) (hw : Hw) : Statement (.permitWithdraw core hw) := decide_eq_true_iff
theorem tenantCreate (core : Nat) (hw : Hw) : Statement (.tenantCreate core hw) := decide_eq_true_iff
theorem tenantPolicy (core : Nat) (hw : Hw) : Statement (.tenantPolicy core hw) := decide_eq_true_iff
theorem tenantDelete (core : Nat) (hw : Hw) : Statement (.tenantDelete core hw) := decide_eq_true_iff
theorem tenantReclaimDone (tenant : Nat) : Statement (.tenantReclaimDone tenant) := decide_eq_true_iff
theorem officerEnrol (core : Nat) (hw : Hw) : Statement (.officerEnrol core hw) := decide_eq_true_iff
theorem officerRevoke (core : Nat) (hw : Hw) : Statement (.officerRevoke core hw) := decide_eq_true_iff
theorem calendarSet (core : Nat) (hw : Hw) : Statement (.calendarSet core hw) := decide_eq_true_iff
theorem journalQuery (core : Nat) (hw : Hw) : Statement (.journalQuery core hw) := decide_eq_true_iff
theorem backupOpen (core : Nat) (hw : Hw) : Statement (.backupOpen core hw) := decide_eq_true_iff
theorem backupRead (core : Nat) (hw : Hw) : Statement (.backupRead core hw) := decide_eq_true_iff
theorem backupClose (core : Nat) (hw : Hw) : Statement (.backupClose core hw) := decide_eq_true_iff
theorem restoreOpen (core : Nat) (hw : Hw) : Statement (.restoreOpen core hw) := decide_eq_true_iff
theorem restoreShare (core : Nat) (hw : Hw) : Statement (.restoreShare core hw) := decide_eq_true_iff
theorem restoreWrite (core : Nat) (hw : Hw) : Statement (.restoreWrite core hw) := decide_eq_true_iff
theorem restoreClose (core : Nat) (hw : Hw) : Statement (.restoreClose core hw) := decide_eq_true_iff
theorem cargoSessionEnd (core : Nat) (hw : Hw) : Statement (.cargoSessionEnd core hw) := decide_eq_true_iff
theorem cargoFormat (core : Nat) (hw : Hw) : Statement (.cargoFormat core hw) := decide_eq_true_iff
theorem drydockEnter (core : Nat) (hw : Hw) : Statement (.drydockEnter core hw) := decide_eq_true_iff
theorem drydockDrainDone : Statement .drydockDrainDone := iff_of_true rfl trivial
theorem drydockExit (core : Nat) (hw : Hw) : Statement (.drydockExit core hw) := decide_eq_true_iff
theorem functionGrant (core : Nat) (hw : Hw) : Statement (.functionGrant core hw) := decide_eq_true_iff
theorem firmwareUpdate (core : Nat) (hw : Hw) (flashOk : Bool) : Statement (.firmwareUpdate core hw flashOk) := decide_eq_true_iff
theorem versionMigrate (core : Nat) (hw : Hw) (bad : Option (BitVec 3 × Nat)) : Statement (.versionMigrate core hw bad) := decide_eq_true_iff
theorem rawRngOn (core : Nat) (hw : Hw) : Statement (.rawRngOn core hw) := decide_eq_true_iff
theorem rawRngOff (core : Nat) (hw : Hw) : Statement (.rawRngOff core hw) := decide_eq_true_iff
theorem endOfLife (core : Nat) (hw : Hw) : Statement (.endOfLife core hw) := decide_eq_true_iff
theorem auditRead (core : Nat) (hw : Hw) : Statement (.auditRead core hw) := decide_eq_true_iff
theorem auditSeal (core : Nat) (hw : Hw) : Statement (.auditSeal core hw) := decide_eq_true_iff
theorem auditAck (core : Nat) (hw : Hw) : Statement (.auditAck core hw) := decide_eq_true_iff
theorem auditStatus (core : Nat) (hw : Hw) : Statement (.auditStatus core hw) := decide_eq_true_iff
theorem asymKeygen (core : Nat) (hw : Hw) : Statement (.asymKeygen core hw) := decide_eq_true_iff
theorem pubkeyRead (core : Nat) (hw : Hw) : Statement (.pubkeyRead core hw) := decide_eq_true_iff
theorem sign (core : Nat) (hw : Hw) : Statement (.sign core hw) := decide_eq_true_iff
theorem verify (core : Nat) (hw : Hw) : Statement (.verify core hw) := decide_eq_true_iff
theorem rsaEncrypt (core : Nat) (hw : Hw) : Statement (.rsaEncrypt core hw) := decide_eq_true_iff
theorem rsaDecrypt (core : Nat) (hw : Hw) : Statement (.rsaDecrypt core hw) := decide_eq_true_iff
theorem agree (core : Nat) (hw : Hw) : Statement (.agree core hw) := decide_eq_true_iff
theorem pqKeygen (core : Nat) (hw : Hw) : Statement (.pqKeygen core hw) := decide_eq_true_iff
theorem mlkemEncaps (core : Nat) (hw : Hw) : Statement (.mlkemEncaps core hw) := decide_eq_true_iff
theorem mlkemDecaps (core : Nat) (hw : Hw) : Statement (.mlkemDecaps core hw) := decide_eq_true_iff
theorem mldsaSign (core : Nat) (hw : Hw) : Statement (.mldsaSign core hw) := decide_eq_true_iff
theorem mldsaVerify (core : Nat) (hw : Hw) : Statement (.mldsaVerify core hw) := decide_eq_true_iff
theorem attestReport (core : Nat) (hw : Hw) : Statement (.attestReport core hw) := decide_eq_true_iff
theorem certRead (core : Nat) (hw : Hw) : Statement (.certRead core hw) := decide_eq_true_iff
theorem clusterHome (core : Nat) (hw : Hw) : Statement (.clusterHome core hw) := decide_eq_true_iff
theorem clusterRelay (core : Nat) (hw : Hw) : Statement (.clusterRelay core hw) := decide_eq_true_iff
theorem laneDiag (core : Nat) (mism : List Nat) : Statement (.laneDiag core mism) := decide_eq_true_iff
theorem hashDiag (core : Nat) : Statement (.hashDiag core) := decide_eq_true_iff
theorem tileDiag (core : Nat) (mism : List Nat) : Statement (.tileDiag core mism) := decide_eq_true_iff
theorem pageInReturn (handle : Nat) (r : DramReturn) : Statement (.pageInReturn handle r) := decide_eq_true_iff
theorem mooringWaitRetry (handle : Nat) : Statement (.mooringWaitRetry handle) := decide_eq_true_iff
theorem cacheFillRetry (handle : Nat) : Statement (.cacheFillRetry handle) := decide_eq_true_iff
theorem mooringEccError (m : Nat) : Statement (.mooringEccError m) := decide_eq_true_iff
theorem mooringMove (m bank : Nat) : Statement (.mooringMove m bank) := both decide_eq_true_iff decide_eq_true_iff
theorem tugSelfcheckFail (tug : Nat) : Statement (.tugSelfcheckFail tug) := decide_eq_true_iff
theorem tugTransferDone (core : Nat) (write : Bool) (r : XferReturn) : Statement (.tugTransferDone core write r) := decide_eq_true_iff
theorem leaseCommit (core : Nat) : Statement (.leaseCommit core) := decide_eq_true_iff
theorem groupWriteStart (poisoned : List Nat) : Statement (.groupWriteStart poisoned) := iff_of_true rfl trivial
theorem commitTick (drive : Nat) : Statement (.commitTick drive) := decide_eq_true_iff
theorem volatileCommitDone (r : DramReturn) : Statement (.volatileCommitDone r) := iff_of_true rfl trivial
theorem checkpointStart : Statement .checkpointStart := iff_of_true rfl trivial
theorem checkpointComplete : Statement .checkpointComplete := iff_of_true rfl trivial
theorem driveFail (drive : Nat) : Statement (.driveFail drive) := decide_eq_true_iff
theorem rebuildComplete : Statement .rebuildComplete := iff_of_true rfl trivial
theorem nvmeCommandTimeout (drive : Nat) : Statement (.nvmeCommandTimeout drive) := decide_eq_true_iff
theorem sectorReadDone (handle drive lba : Nat) (r : SectorReturn) : Statement (.sectorReadDone handle drive lba r) := both decide_eq_true_iff decide_eq_true_iff
theorem pinAdd : Statement .pinAdd := iff_of_true rfl trivial
theorem pinRemove : Statement .pinRemove := iff_of_true rfl trivial
theorem laneOpen (core : Nat) (cmd : W64) (data : List TWord) : Statement (.laneOpen core cmd data) := both decide_eq_true_iff decide_eq_true_iff
theorem laneLoad (core : Nat) (cmd : W64) (data : List TWord) : Statement (.laneLoad core cmd data) := both decide_eq_true_iff decide_eq_true_iff
theorem kduLoadDone (disagree : Nat) (poisoned : Bool) : Statement (.kduLoadDone disagree poisoned) := iff_of_true rfl trivial
theorem enc (core : Nat) (cmd : W64) (data : List TWord) (mism : Nat) : Statement (.enc core cmd data mism) := both decide_eq_true_iff decide_eq_true_iff
theorem dec (core : Nat) (cmd : W64) (data label : List TWord) (mism : Nat) : Statement (.dec core cmd data label mism) := both decide_eq_true_iff decide_eq_true_iff
theorem zkey (core : Nat) (cmd : W64) (data : List TWord) (mism : Nat) : Statement (.zkey core cmd data mism) := both decide_eq_true_iff decide_eq_true_iff
theorem nonce (core : Nat) (cmd : W64) (data : List TWord) : Statement (.nonce core cmd data) := both decide_eq_true_iff decide_eq_true_iff
theorem kstream (core : Nat) (cmd : W64) (data : List TWord) (mism : Nat) : Statement (.kstream core cmd data mism) := both decide_eq_true_iff decide_eq_true_iff
theorem kstreamD (core : Nat) (cmd : W64) (data : List TWord) (mism : Nat) : Statement (.kstreamD core cmd data mism) := both decide_eq_true_iff decide_eq_true_iff
theorem tag (core : Nat) (cmd : W64) (data : List TWord) (mism : Nat) : Statement (.tag core cmd data mism) := both decide_eq_true_iff decide_eq_true_iff
theorem tagchk (core : Nat) (cmd : W64) (data : List TWord) (mism : Nat) : Statement (.tagchk core cmd data mism) := both decide_eq_true_iff decide_eq_true_iff
theorem store (core : Nat) (cmd : W64) (data : List TWord) : Statement (.store core cmd data) := both decide_eq_true_iff decide_eq_true_iff
theorem free (core : Nat) (cmd : W64) (data : List TWord) : Statement (.free core cmd data) := both decide_eq_true_iff decide_eq_true_iff
theorem hold (core : Nat) (cmd : W64) (data : List TWord) : Statement (.hold core cmd data) := both decide_eq_true_iff decide_eq_true_iff
theorem put (core : Nat) (cmd : W64) (data label : List TWord) : Statement (.put core cmd data label) := both decide_eq_true_iff decide_eq_true_iff
theorem loadt (core : Nat) (cmd : W64) (data : List TWord) : Statement (.loadt core cmd data) := both decide_eq_true_iff decide_eq_true_iff
theorem laneClose (core : Nat) (cmd : W64) (data : List TWord) : Statement (.laneClose core cmd data) := both decide_eq_true_iff decide_eq_true_iff
theorem heldBufferZeroed (core : Nat) : Statement (.heldBufferZeroed core) := decide_eq_true_iff
theorem mismatchWindowEnd : Statement .mismatchWindowEnd := iff_of_true rfl trivial
theorem laneSelftest (lane : Nat) (pass sparePass : Bool) : Statement (.laneSelftest lane pass sparePass) := decide_eq_true_iff
theorem laneDrainRetire (lane : Nat) (sparePass : Bool) : Statement (.laneDrainRetire lane sparePass) := decide_eq_true_iff
theorem init (core : Nat) (cmd : W64) (data : List TWord) : Statement (.init core cmd data) := both decide_eq_true_iff decide_eq_true_iff
theorem absorb (core : Nat) (cmd : W64) (data : List TWord) : Statement (.absorb core cmd data) := both decide_eq_true_iff decide_eq_true_iff
theorem hashKey (core : Nat) (cmd : W64) (data : List TWord) : Statement (.hashKey core cmd data) := both decide_eq_true_iff decide_eq_true_iff
theorem final (core : Nat) (cmd : W64) (data : List TWord) : Statement (.final core cmd data) := both decide_eq_true_iff decide_eq_true_iff
theorem squeeze (core : Nat) (cmd : W64) (data : List TWord) : Statement (.squeeze core cmd data) := both decide_eq_true_iff decide_eq_true_iff
theorem cmp (core : Nat) (cmd : W64) (data : List TWord) : Statement (.cmp core cmd data) := both decide_eq_true_iff decide_eq_true_iff
theorem hashReset (core : Nat) (cmd : W64) (data : List TWord) : Statement (.hashReset core cmd data) := both decide_eq_true_iff decide_eq_true_iff
theorem hashSelftest (engine : Nat) (pass : Bool) : Statement (.hashSelftest engine pass) := decide_eq_true_iff
theorem cphDiagEnable (v : W64) : Statement (.cphDiagEnable v) := iff_of_true rfl trivial
theorem cphDiagCmd (v : W64) (mism : Nat) : Statement (.cphDiagCmd v mism) := iff_of_true rfl trivial
theorem hshDiagEnable (v : W64) : Statement (.hshDiagEnable v) := iff_of_true rfl trivial
theorem hshDiagCmd (v : W64) : Statement (.hshDiagCmd v) := iff_of_true rfl trivial
theorem bgnDiagEnable (v : W64) : Statement (.bgnDiagEnable v) := iff_of_true rfl trivial
theorem bgnDiagCmd (v : W64) (mism : Nat) : Statement (.bgnDiagCmd v mism) := iff_of_true rfl trivial
theorem mac (core : Nat) (cmd : W64) (data : List TWord) (mism : Nat) : Statement (.mac core cmd data mism) := both decide_eq_true_iff decide_eq_true_iff
theorem macp (core : Nat) (cmd : W64) (data : List TWord) (mism : Nat) : Statement (.macp core cmd data mism) := both decide_eq_true_iff decide_eq_true_iff
theorem rdacc (core : Nat) (cmd : W64) (data : List TWord) (mism : Nat) : Statement (.rdacc core cmd data mism) := both decide_eq_true_iff decide_eq_true_iff
theorem clr (core : Nat) (cmd : W64) (data : List TWord) : Statement (.clr core cmd data) := both decide_eq_true_iff decide_eq_true_iff
theorem jopen (core : Nat) (cmd : W64) (data : List TWord) : Statement (.jopen core cmd data) := both decide_eq_true_iff decide_eq_true_iff
theorem jclose (core : Nat) (cmd : W64) (data : List TWord) : Statement (.jclose core cmd data) := both decide_eq_true_iff decide_eq_true_iff
theorem keyin (core : Nat) (cmd : W64) (data : List TWord) : Statement (.keyin core cmd data) := both decide_eq_true_iff decide_eq_true_iff
theorem wput (core : Nat) (cmd : W64) (data : List TWord) : Statement (.wput core cmd data) := both decide_eq_true_iff decide_eq_true_iff
theorem wget (core : Nat) (cmd : W64) (data : List TWord) : Statement (.wget core cmd data) := both decide_eq_true_iff decide_eq_true_iff
theorem jobClearDone (tile base : Nat) : Statement (.jobClearDone tile base) := decide_eq_true_iff
theorem tileSelftest (tile : Nat) (pass sparePass : Bool) : Statement (.tileSelftest tile pass sparePass) := decide_eq_true_iff
theorem settleEnd (cluster : Nat) : Statement (.settleEnd cluster) := decide_eq_true_iff
theorem startupTestEnd (cluster : Nat) (h : HealthData) : Statement (.startupTestEnd cluster h) := decide_eq_true_iff
theorem collectionEnd (cluster : Nat) (h : HealthData) : Statement (.collectionEnd cluster h) := decide_eq_true_iff
theorem healthTestFail (cluster : Nat) (h : HealthData) : Statement (.healthTestFail cluster h) := decide_eq_true_iff
theorem seedBlockReady (cluster : Nat) : Statement (.seedBlockReady cluster) := decide_eq_true_iff
theorem drbgSeeded (drbg : Nat) : Statement (.drbgSeeded drbg) := decide_eq_true_iff
theorem drbgDue (drbg : Nat) : Statement (.drbgDue drbg) := decide_eq_true_iff
theorem drbgBlocked (drbg : Nat) : Statement (.drbgBlocked drbg) := decide_eq_true_iff
theorem drbgRequest (core n : Nat) : Statement (.drbgRequest core n) := decide_eq_true_iff
theorem rngStartupComplete : Statement .rngStartupComplete := iff_of_true rfl trivial
theorem rawSourceSelect (v : W64) : Statement (.rawSourceSelect v) := iff_of_true rfl trivial
theorem rawDataRead (path : Path) : Statement (.rawDataRead path) := pathOk_iff path
theorem lineRead (master core addr : Nat) (r : DramReturn) : Statement (.lineRead master core addr r) := both decide_eq_true_iff decide_eq_true_iff
theorem fullLineWrite (master core addr : Nat) (words : List TWord) (r : DramReturn) : Statement (.fullLineWrite master core addr words r) := both decide_eq_true_iff decide_eq_true_iff
theorem partialWrite (master core addr : Nat) (words : List (Nat × TWord)) (r : DramReturn) : Statement (.partialWrite master core addr words r) := both decide_eq_true_iff decide_eq_true_iff
theorem patrolScrub (channel words : Nat) (r : DramReturn) : Statement (.patrolScrub channel words r) := decide_eq_true_iff
theorem linkFrameReceive (link : Nat) (f : Frame) (acked : Nat) : Statement (.linkFrameReceive link f acked) := decide_eq_true_iff
theorem nakReceived (link lseq : Nat) : Statement (.nakReceived link lseq) := both decide_eq_true_iff decide_eq_true_iff
theorem declass (core fetch src dst n : Nat) (cls : SecClass) (ecc : List Nat) : Statement (.declass core fetch src dst n cls ecc) := by simp [Statement, Instr.wf, Bounds, coreOk]
theorem gateBarrier (gate : Nat) : Statement (.gateBarrier gate) := decide_eq_true_iff
theorem gateBarrierDone (gate : Nat) : Statement (.gateBarrierDone gate) := decide_eq_true_iff
theorem yuhildRequest (scope : BitVec 4) : Statement (.yuhildRequest scope) := iff_of_true rfl trivial
theorem yuhildSubmit : Statement .yuhildSubmit := iff_of_true rfl trivial
theorem yuhildVerifyDone : Statement .yuhildVerifyDone := iff_of_true rfl trivial
theorem debugAccess (write : Bool) (addr : Nat) (v : W64) (ecc : Bool) : Statement (.debugAccess write addr v ecc) := iff_of_true rfl trivial
theorem alarmSample (samples : List (Nat × Bool)) : Statement (.alarmSample samples) := iff_of_true rfl trivial
theorem latchHoldExpire (source : Nat) : Statement (.latchHoldExpire source) := decide_eq_true_iff
theorem latchClearWrite (v : W64) : Statement (.latchClearWrite v) := iff_of_true rfl trivial
theorem cellSample (samples : List (Nat × Bool)) : Statement (.cellSample samples) := iff_of_true rfl trivial
theorem mainPowerLost (vbatOk : Bool) : Statement (.mainPowerLost vbatOk) := iff_of_true rfl trivial
theorem mainPowerReturn : Statement .mainPowerReturn := iff_of_true rfl trivial
theorem sentryPowerLost : Statement .sentryPowerLost := iff_of_true rfl trivial
theorem resetNLow (cycles : Nat) (pwrgoodLow vbatOk : Bool) : Statement (.resetNLow cycles pwrgoodLow vbatOk) := iff_of_true rfl trivial
theorem launch (env : LaunchEnv) : Statement (.launch env) := iff_of_true rfl trivial
theorem dramTrainingDone (ok : Bool) : Statement (.dramTrainingDone ok) := iff_of_true rfl trivial
theorem dormantRequest (path : Path) : Statement (.dormantRequest path) := pathOk_iff path
theorem dormantDrainDone : Statement .dormantDrainDone := iff_of_true rfl trivial
theorem drainTimeout : Statement .drainTimeout := iff_of_true rfl trivial
theorem resumeRequest (path : Path) : Statement (.resumeRequest path) := pathOk_iff path
theorem resumeComplete (images : List Bytes) (trained : Bool) (lanes tiles engines : List Nat) : Statement (.resumeComplete images trained lanes tiles engines) := iff_of_true rfl trivial
theorem haltRequest (path : Path) : Statement (.haltRequest path) := pathOk_iff path
theorem haltFlushDone (failed : List (Nat × Nat)) : Statement (.haltFlushDone failed) := iff_of_true rfl trivial
theorem resetRequest (path : Path) : Statement (.resetRequest path) := pathOk_iff path
theorem fnStop : Statement .fnStop := iff_of_true rfl trivial
theorem fnChange : Statement .fnChange := iff_of_true rfl trivial
theorem fnRestart : Statement .fnRestart := iff_of_true rfl trivial
theorem domainIdleGate (domain : Nat) : Statement (.domainIdleGate domain) := decide_eq_true_iff
theorem domainWake (domain : Nat) : Statement (.domainWake domain) := decide_eq_true_iff
theorem domainWakeDone (domain : Nat) (pass : Bool) : Statement (.domainWakeDone domain pass) := decide_eq_true_iff
theorem domainPowerFail (domain : Nat) : Statement (.domainPowerFail domain) := decide_eq_true_iff
theorem avsUpdate : Statement .avsUpdate := iff_of_true rfl trivial
theorem supplyReading (mv ma10 : Nat) : Statement (.supplyReading mv ma10) := iff_of_true rfl trivial
theorem droopDetect : Statement .droopDetect := iff_of_true rfl trivial
theorem stretchEnd : Statement .stretchEnd := iff_of_true rfl trivial
theorem thermalSample (temps : List Int) : Statement (.thermalSample temps) := iff_of_true rfl trivial
theorem powerCapStep : Statement .powerCapStep := iff_of_true rfl trivial
theorem functionLevelReset (fn : Nat) : Statement (.functionLevelReset fn) := decide_eq_true_iff
theorem hotReset : Statement .hotReset := iff_of_true rfl trivial
theorem vfEnableClear : Statement .vfEnableClear := iff_of_true rfl trivial
theorem pcieLinkDown : Statement .pcieLinkDown := iff_of_true rfl trivial
theorem pcieLinkUp (gen width vfs : Nat) (bme : List Nat) (masked : List (Nat × Nat)) : Statement (.pcieLinkUp gen width vfs bme masked) := iff_of_true rfl trivial
theorem tcpConnect (port : Nat) : Statement (.tcpConnect port) := decide_eq_true_iff
theorem controlPacket (port : Nat) : Statement (.controlPacket port) := decide_eq_true_iff
theorem tlsClientHello (session : Nat) (hello : Bytes) : Statement (.tlsClientHello session hello) := iff_of_true rfl trivial
theorem handshakeTimeout (session : Nat) : Statement (.handshakeTimeout session) := iff_of_true rfl trivial
theorem tlsSessionClose (session : Nat) : Statement (.tlsSessionClose session) := iff_of_true rfl trivial
theorem bind (session ring cqLog : Nat) : Statement (.bind session ring cqLog) := decide_eq_true_iff
theorem unbind (session ring : Nat) (close : Bool) : Statement (.unbind session ring close) := decide_eq_true_iff
theorem ltpBarge (session ring : Nat) (barge input : Bytes) : Statement (.ltpBarge session ring barge input) := decide_eq_true_iff
theorem ltpV1Barge (session ring : Nat) (descriptor params input : Bytes) : Statement (.ltpV1Barge session ring descriptor params input) := decide_eq_true_iff
theorem ltpAck (session ring : Nat) (head : W32) : Statement (.ltpAck session ring head) := decide_eq_true_iff
theorem ltpAbort (session ring : Nat) (arg : W64) : Statement (.ltpAbort session ring arg) := decide_eq_true_iff
theorem loopbackStart (v : W64) : Statement (.loopbackStart v) := iff_of_true rfl trivial
theorem loopbackEnd (checked errors : Nat) : Statement (.loopbackEnd checked errors) := iff_of_true rfl trivial
theorem partnerLoopback (iface : Nat) : Statement (.partnerLoopback iface) := iff_of_true rfl trivial
theorem towpathRead (path : Path) (addr : Nat) (ready : Bool) : Statement (.towpathRead path addr ready) := pathOk_iff path
theorem towpathReadTimeout (path : Path) : Statement (.towpathReadTimeout path) := pathOk_iff path
theorem towpathWrite (path : Path) (addr : Nat) (v : W64) : Statement (.towpathWrite path addr v) := pathOk_iff path
theorem gpioInputChange (pin : Nat) (level : Bool) : Statement (.gpioInputChange pin level) := decide_eq_true_iff
theorem linkUpAttempt (link : Nat) (trained : Bool) (peer : PeerHello) : Statement (.linkUpAttempt link trained peer) := decide_eq_true_iff
theorem linkUpRetry (link : Nat) : Statement (.linkUpRetry link) := decide_eq_true_iff
theorem heartbeatSend : Statement .heartbeatSend := iff_of_true rfl trivial
theorem heartbeatTimeout (link : Nat) : Statement (.heartbeatTimeout link) := decide_eq_true_iff
theorem pairKeyAgree (dev : Nat) (peer : PeerHello) : Statement (.pairKeyAgree dev peer) := decide_eq_true_iff
theorem mapSwitch : Statement .mapSwitch := iff_of_true rfl trivial
theorem haltNoticeReceive (dev : Nat) (withdraw : Bool) : Statement (.haltNoticeReceive dev withdraw) := decide_eq_true_iff
theorem forwardBarge (barge : Nat) (r : XferReturn) : Statement (.forwardBarge barge r) := decide_eq_true_iff
theorem forwardedBargeReceive (link : Nat) (fb : FwdBarge) : Statement (.forwardedBargeReceive link fb) := decide_eq_true_iff
theorem forwardedCompletionReceive (home ring seq : Nat) (comp : Comp) (output : Option Bytes) : Statement (.forwardedCompletionReceive home ring seq comp output) := Bool.and_eq_true_iff.trans (and_congr (Bool.and_eq_true_iff.trans (and_congr decide_eq_true_iff decide_eq_true_iff)) decide_eq_true_iff) |>.trans and_assoc
theorem abortFrameReceive (head ring : Nat) (arg : W64) : Statement (.abortFrameReceive head ring arg) := both decide_eq_true_iff decide_eq_true_iff
theorem replicationReceive (dev : Nat) (sealed : Bytes) : Statement (.replicationReceive dev sealed) := decide_eq_true_iff
theorem replicationAckReceive (dev commit : Nat) : Statement (.replicationAckReceive dev commit) := decide_eq_true_iff
theorem clusterJoin : Statement .clusterJoin := iff_of_true rfl trivial
theorem resyncComplete (bucket : Nat) : Statement (.resyncComplete bucket) := decide_eq_true_iff
theorem timeSyncSend : Statement .timeSyncSend := iff_of_true rfl trivial
theorem timeSyncReceive (link masterTime delay : Nat) : Statement (.timeSyncReceive link masterTime delay) := decide_eq_true_iff
theorem logRecordEnter : Statement .logRecordEnter := iff_of_true rfl trivial
theorem archiveCopy (r : DramReturn) : Statement (.archiveCopy r) := iff_of_true rfl trivial
theorem rateWindowRefill : Statement .rateWindowRefill := iff_of_true rfl trivial
theorem logCursorSeek (v : W64) : Statement (.logCursorSeek v) := iff_of_true rfl trivial
theorem logNextRead (path : Path) : Statement (.logNextRead path) := pathOk_iff path
theorem tcpKeepalive (session : Nat) : Statement (.tcpKeepalive session) := iff_of_true rfl trivial
theorem clientFinished (session : Nat) (chain : List Bytes) (flight : Bytes) : Statement (.clientFinished session chain flight) := iff_of_true rfl trivial
theorem tlsKeyUpdate (session : Nat) : Statement (.tlsKeyUpdate session) := iff_of_true rfl trivial
theorem ltpMalformedMessage (session : Nat) : Statement (.ltpMalformedMessage session) := iff_of_true rfl trivial
theorem rawBufferFeed (v : W64) : Statement (.rawBufferFeed v) := iff_of_true rfl trivial

end Sys2Proof.Laws.Operands
end

