-- ==== Sys2Proof/Laws/Services.lean ====
section
/-! SUPPORT. What the shared parts of a service do: its checks, the loads and cycles it counts, and how its run on a crew core ends. -/

namespace Sys2Proof.Machine

/-- The first failure of two lists of checks. -/
theorem firstFail_append (a b : List (Bool × Nat)) : firstFail (a ++ b) = (firstFail a).or (firstFail b) := by
  induction a with
  | nil => simp [firstFail]
  | cons x xs ih => obtain ⟨c, st⟩ := x; cases c <;> simp [firstFail, ih]

/-- Two lists of checks that pass pass together. -/
theorem pass_append {a b : List (Bool × Nat)} (ha : firstFail a = none) (hb : firstFail b = none) : firstFail (a ++ b) = none := by
  rw [firstFail_append, ha, hb]; rfl

/-- A check that holds is passed. -/
@[simp] theorem firstFail_true (st : Nat) (cs : List (Bool × Nat)) : firstFail ((true, st) :: cs) = firstFail cs := rfl

/-- A check that fails gives its status. -/
@[simp] theorem firstFail_false (st : Nat) (cs : List (Bool × Nat)) : firstFail ((false, st) :: cs) = some st := rfl

/-- No check, no failure. -/
@[simp] theorem firstFail_nil : firstFail [] = none := rfl

/-- Where no step reads a poisoned word, the checks come out as they are (R82). -/
theorem reads_sound {r : Run} (h : ∀ st, r.hw.poison ≠ some (.step st)) (cs : List (Bool × Nat)) : r.reads cs = cs := by
  induction cs with
  | nil => rfl
  | cons x xs ih => obtain ⟨c, st⟩ := x; simp [Run.reads, h st, ih]

/-- Two lists of checks in turn, with a word that a step reads poisoned. -/
theorem firstFail_reads_append (r : Run) (a b : List (Bool × Nat)) :
    firstFail (r.reads (a ++ b)) = (firstFail (r.reads a)).or (firstFail (r.reads b)) := by
  induction a with
  | nil => simp [Run.reads]
  | cons x xs ih =>
    obtain ⟨c, st⟩ := x
    simp only [List.cons_append, Run.reads]
    split
    · simp [firstFail]
    · cases c <;> simp [firstFail, ih]

/-- What a run is made of, where there is one. -/
theorem runOf_eq {s : State} {k op : Nat} {hw : Hw} {r : Run} (h : s.runOf k op hw = some r) :
    r.core = k ∧ r.hw = hw ∧ r.b.opcode = op := by
  simp only [State.runOf] at h
  split at h
  · cases h
  · split at h
    · cases h
    · rename_i h2
      cases h
      exact ⟨rfl, rfl, Decidable.byContradiction fun hne => h2 (.inr (.inl hne))⟩

/-- A run's core is the one it was asked for. -/
theorem runOf_core {s : State} {k op : Nat} {hw : Hw} {r : Run} (h : s.runOf k op hw = some r) : r.core = k := (runOf_eq h).1

/-- A run's opcode is the one it was asked for. -/
theorem runOf_opcode {s : State} {k op : Nat} {hw : Hw} {r : Run} (h : s.runOf k op hw = some r) : r.b.opcode = op := (runOf_eq h).2.2

/-- A command that runs a service runs it on the barge of its core, with what fails in its units counted. -/
theorem serve_of_runs {s : State} {k op : Nat} {r : Run} (svc : Service) (h : Runs s k op r) :
    s.serve k op r.hw svc = match (svc r (s.noted r)).1 with
      | .wait => (svc r (s.noted r)).2
      | .ended o c => (svc r (s.noted r)).2.endService r o c := by
  obtain ⟨h1, h2, -⟩ := h
  simp only [State.serve, h1]
  have hn : ¬(r.e.origin.isNone && decide (s.runsAt r.tenant r.b (some r.input) ≠ Where.here)) = true := by
    rcases h2 with h2 | h2
    · cases ho : r.e.origin <;> simp_all
    · simp [h2]
  exact (if_neg hn).trans rfl

/-- A service that commits nothing and has stored nothing leaves its outcome. -/
theorem endService_leave {s : State} {r : Run} {o : Outcome} (h : (s.coreAt r.core).stored = []) :
    s.endService r o none = s.leave r o := by
  simp [State.endService, h]

/-- The parts that counting a run's failed units can change (R206, R215, R216, R234). -/
def notedParts : List Part := [.cph, .bgn, .hsh] ++ raiseParts

/-- A lane mismatch counted (R216). -/
theorem laneMismatch_only (s : State) (n : Nat) : Only notedParts s (s.laneMismatch n) := by
  unfold State.laneMismatch
  extract_lets l win s1 c s2 d
  have h2 : Only notedParts s s2 := by rintro (_ | _) hp <;> first | rfl | exact absurd (by simp [notedParts]) hp
  split
  · exact Only.trans (t := { s2 with cph := { s2.cph with raisedWin := true } })
      (h2.trans (by rintro (_ | _) hp <;> first | rfl | exact absurd (by simp [notedParts]) hp))
      ((alarmEvent_only _ 22).mono fun p hp => by simp [notedParts, hp])
  · exact h2

/-- A tile mismatch counted (R234). -/
theorem tileMismatch_only (s : State) (n times : Nat) : Only notedParts s (s.tileMismatch n times) := by
  unfold State.tileMismatch
  extract_lets l win s1 c d s2
  have h2 : Only notedParts s s2 := by rintro (_ | _) hp <;> first | rfl | exact absurd (by simp [notedParts]) hp
  split
  · exact Only.trans (t := { s2 with cph := { s2.cph with raisedWin := true } })
      (h2.trans (by rintro (_ | _) hp <;> first | rfl | exact absurd (by simp [notedParts]) hp))
      ((alarmEvent_only _ 22).mono fun p hp => by simp [notedParts, hp])
  · exact h2

/-- The check of a block counted (R215). -/
theorem checkBlock_only (s : State) (n t mism : Nat) : Only notedParts s (s.checkBlock n t mism).1 := by
  unfold State.checkBlock
  split
  · exact Only.refl _ s
  · dsimp only
    split
    · exact laneMismatch_only s n
    · split
      · exact laneMismatch_only s n
      · dsimp only
        split
        · exact (laneMismatch_only s n).trans (laneMismatch_only _ _)
        · exact laneMismatch_only s n

/-- A run's failed units counted: no core, key, mooring record or ring changes. -/
theorem noted_only (s : State) (r : Run) : Only notedParts s (s.noted r) := by
  unfold State.noted
  extract_lets x y c s1 s2
  have h0 : Only notedParts s x.1 := checkBlock_only s _ _ _
  have h1 : Only notedParts s s1 := by
    simp only [s1]
    split
    · exact h0.trans (by rintro (_ | _) hp <;> first | rfl | exact absurd (by simp [notedParts]) hp)
    · exact h0
  have h2 : Only notedParts s s2 := by
    simp only [s2]
    split
    · exact h1
    · exact h1.trans (tileMismatch_only _ _ _)
  split
  · exact h2
  · exact h2.trans (by rintro (_ | _) hp <;> first | rfl | exact absurd (by simp [notedParts]) hp)

/-- A run's failed units counted change no core. -/
@[simp] theorem noted_cores (s : State) (r : Run) : (s.noted r).cores = s.cores := noted_only s r .cores (by decide)

/-- A run whose units all hold counts nothing. -/
theorem noted_sound {s : State} {r : Run} (h : r.hw.lane = 0 ∧ r.hw.tile = 0 ∧ r.hw.kdu = 0) : s.noted r = s := by
  simp [State.noted, State.checkBlock, h.1, h.2.1, h.2.2]

/-- Counting a load changes no core. -/
@[simp] theorem countUse_cores (s : State) (h i : Nat) : (s.countUse h i).cores = s.cores := by
  unfold State.countUse
  split <;> rfl

/-- Loads change no core. -/
@[simp] theorem loadLinks_cores (s : State) (h n : Nat) : (s.loadLinks h n).cores = s.cores := by
  have go : ∀ (l : List Nat) (s : State), (l.foldl (fun (s : State) i => s.countUse h i) s).cores = s.cores := by
    intro l
    induction l with
    | nil => intro s; rfl
    | cons a t ih => intro s; rw [List.foldl_cons, ih, countUse_cores]
  exact go (List.range n) s

/-- Loads change no core. -/
@[simp] theorem loadKeys_cores (s : State) (hs : List Nat) : (s.loadKeys hs).cores = s.cores := by
  unfold State.loadKeys
  induction hs generalizing s with
  | nil => rfl
  | cons h t ih => rw [List.foldl_cons, ih, loadLinks_cores]

/-- Loads change no core. -/
@[simp] theorem coreAt_loadLinks (s : State) (h n k : Nat) : (s.loadLinks h n).coreAt k = s.coreAt k := by
  simp [State.coreAt]

/-- Loads change no core. -/
@[simp] theorem coreAt_loadKeys (s : State) (hs : List Nat) (k : Nat) : (s.loadKeys hs).coreAt k = s.coreAt k := by
  simp [State.coreAt]

/-- Cycles spent leave what a core has stored. -/
@[simp] theorem spend_stored (s : State) (k j n : Nat) : ((s.spend k n).coreAt j).stored = (s.coreAt j).stored := by
  simp only [State.spend, State.setCore, State.coreAt]
  by_cases h : j = k
  · subst h; simp
  · simp [h]

/-- A draw changes no core. -/
@[simp] theorem draw_cores (s : State) (k n : Nat) : (s.draw k n).2.cores = s.cores := by
  simp only [State.draw]
  split
  · rfl
  · split <;> simp [State.setDrbg]

/-- A service's draw changes no core. -/
@[simp] theorem drawFor_cores (s : State) (r : Run) (n : Nat) : (s.drawFor r n).2.cores = s.cores := by
  have h := draw_cores s r.core n
  simp only [State.drawFor]
  repeat' split
  all_goals simp_all

/-- A draw that waits changes nothing. -/
theorem drawFor_wait {s : State} {r : Run} {n : Nat} (h : (s.drawFor r n).1 = .wait) : (s.drawFor r n).2 = s := by
  unfold State.drawFor at *
  revert h
  generalize s.draw r.core n = d
  obtain ⟨a, t⟩ := d
  cases a <;> simp
  intro h
  split at h <;> simp_all

/-- Random values change no core. -/
@[simp] theorem poolValues_cores (r : Run) (accept : Byte → Option Nat) (n fuel : Nat) (p : Pool) (s : State) :
    (s.poolValues r accept n fuel p).2.cores = s.cores := by
  induction fuel generalizing n p s with
  | zero => unfold State.poolValues; dsimp only; split <;> rfl
  | succ f ih =>
    unfold State.poolValues
    dsimp only
    have h := drawFor_cores s r 16
    split
    · rfl
    · split
      · split <;> simp_all
      · simp_all
      · simp_all

/-- Steps 1 and 2 of R82 pass for keys that are resident and whole. -/
theorem pass_keySteps {s : State} {r : Run} (h : ∀ x ∈ r.b.handles, s.keyStatus x = none) : firstFail (s.keySteps r) = none := by
  unfold State.keySteps
  generalize r.b.handles = hs at h
  induction hs with
  | nil => rfl
  | cons x xs ih => simp [h x (by simp), ih fun y hy => h y (by simp [hy])]

end Sys2Proof.Machine
end

