-- ==== Sys2Proof/Tests/Slice0.lean ====
section
/-! SUPPORT. Small tests, and for every statement of Certificates/Slice0/Obligations.lean a witness: states and operands that meet its
hypotheses, clause by clause. -/

set_option Elab.async false

open Sys2Proof Sys2Proof.Machine

namespace Sys2Proof.Tests

/-! ### Small states -/

/-- SERVICE, admission open. -/
def up : State := { State.reset with glb := { mode := .service, admitting := true } }

/-- DRYDOCK. -/
def dry : State := { State.reset with glb := { mode := .drydock } }

/-- HALT. -/
def halted : State := { State.reset with glb := { mode := .halt } }

/-- An OPEN ring of 16 slots each way. -/
def ring : Ring := { st := .opened, sqBase := 0x1000, cqBase := 0x2000, sqLog := 4, cqLog := 4 }

/-- A ring on an unused part of SERVICE: ring 0 of tenant 0, PCIe function 0. -/
def withRing (g : Ring) : State := { up with rings := [(0, g)] }

/-- Bytes 0 to 31 of lighters nowhere: a barge of an opcode with a permit number, parameters all 0. -/
def barge (op : Nat) (flags : Nat := 0) (permit : Nat := 0) (h0 : Nat := 0) (h1 : Nat := 0) (lights : Bytes := []) : Barge :=
  ⟨op, flags, 2, 7, 0, permit, h0, h1, 0, 0, 0, 0, lights⟩

/-- A barge-table entry of ring 0. -/
def entry (b : Barge) (ph : Phase) : Entry :=
  { b := b, ring := 0, tenant := 0, order := 0, admitTick := 0, deadline := 100, failExpired := true, pageTimeout := 50, flow := none,
    ph := ph }

/-- A state of SERVICE with one barge in entry 3, which core 5 holds. -/
def running (b : Barge) : State :=
  { up with lkm := { tbl := [(3, entry b (.running 5))] }, cores := [(5, { job := some 3 })] }

/-- Every byte of the on-chip and host windows open to gate g, and declassification from scratch. -/
def openGate (g : Nat) : Tbl Region := [(16 * g, ⟨1, 0, 2 ^ 40, true, true, true, true, 0⟩)]

/-- The link and function 0 are up, with Bus Master Enable, and gate 112 is open. -/
def hostUp (s : State) : State :=
  { s with wharf := { s.wharf with pcieUp := true, bme := [0] }, cfg := { s.cfg with gates := openGate 112 } }

/-- A completion. -/
def comp : Comp := ⟨7, 1, false, false, false, 0, 0, zeros 16⟩

/-- A pending completion. -/
def pend : Machine.Pending := ⟨none, comp, false, none, false⟩

/-! ### Witnesses: the block, words, rings -/

theorem witness_StepRunsFrontCommand :
    ({ up with pending := [.archiveCopy .asStored] } : State).pending = .archiveCopy .asStored :: [] := rfl

theorem witness_EmptyQueueIsOneTick :
    up.pending = [] ∧ up.clock.mainPower = true ∧ up.lcy.nextReq = none ∧ up.wharf.msixRefused = [] ∧
    (∀ p ∈ up.brv.links, p.2.rxCtr < 2 ^ 48 ∧ p.2.txCtr < 2 ^ 48) ∧ up.cores = [] ∧
    (let s : State := { up with clock := { mainPower := false } }; s.pending = [] ∧ s.clock.mainPower = false ∧ s.len.powered = true) ∧
    (let s : State := { up with clock := { mainPower := false }, len := { powered := false } }
     s.pending = [] ∧ s.clock.mainPower = false ∧ s.len.powered = false) := by decide

/-- A state with no crew core at work has no command behind another. -/
theorem units_idle {s : State} (h : s.cores = []) : UnitsIdle s := by
  intro p hp; rw [h] at hp; cases hp

theorem witness_QueueFirstInFirstOut : ∃ t, step up = .next t := ⟨_, rfl⟩

theorem witness_StepKeepsMemoryCanonical : MemoryInv up ∧ ∃ t, step up = .next t := ⟨rfl, _, rfl⟩

theorem witness_BargeBytesRoundTrip : let b := barge 0xFFFF 3 0xFFFFFFFF 0 0 (zeros 192)
    b.opcode < 2 ^ 16 ∧ b.flags < 2 ^ 8 ∧ b.format < 2 ^ 8 ∧ b.seq < 2 ^ 32 ∧ b.deadline < 2 ^ 32 ∧ b.permit < 2 ^ 32 ∧
      b.h0 < 2 ^ 64 ∧ b.h1 < 2 ^ 64 ∧ b.h2 < 2 ^ 64 ∧ b.lights.length = 64 * b.lighters := by decide +kernel

theorem witness_LabelBytesRoundTrip : let l : KLabel := ⟨0xFFFF, 255, 255, 255, 255, 3, 2 ^ 64 - 1, 2 ^ 32 - 1, 0, 0xFFFF, 0⟩
    l.usage < 2 ^ 16 ∧ l.alg < 2 ^ 8 ∧ l.mode < 2 ^ 8 ∧ l.exportability < 2 ^ 8 ∧ l.size < 2 ^ 8 ∧ l.dclass < 4 ∧
      l.handle < 2 ^ 64 ∧ l.notBefore < 2 ^ 32 ∧ l.notAfter < 2 ^ 32 ∧ l.chainIdx < 2 ^ 16 ∧ l.chainLen < 2 ^ 16 := by decide

theorem witness_CheckCodeGuardsData : (3 < 4) ∧ (63 < 64) := by decide

theorem witness_DoneLateReplacesOnlyDone : (stExpired ≠ stDone) := by decide

theorem witness_DoorbellChecksEachValue : let s := withRing ring
    ((s.ringAt 0).st = .opened ∧ (s.ringCfg 0).transport = 0 ∧ s.serving = true ∧ (s.ringAt 0).err = 0) ∧ (s.ringAt 1).st ≠ .opened ∧
      Instr.doorbellSqTail 0 17 none = .doorbellSqTail 0 17 none := by decide

theorem witness_SlotsAreFetchedAndPresented :
    (let s := hostUp (withRing { ring with sqTail := 1 }); let g := s.ringAt 0
     g.st = .opened ∧ (s.ringCfg 0).transport = 0 ∧ s.serving = true ∧ g.fetching = 0 ∧ 0 < fetchable g ∧
      s.pwr.stopped.contains 0x28 = false ∧ (∀ a ∈ slotReads g, s.gateCheck 112 .read (hostAddr a) 64 [] = none) ∧
      s.wharf.bme.contains (s.ringCfg 0).func = true) ∧
    (let s := withRing { ring with fetching := 4 }; let g := s.ringAt 0; let b := bargeOfBytes (fixLen (64 * g.fetching) [0, 0, 0, 0, 0, 3])
     (g.st = .opened ∨ g.st = .stopped) ∧ g.fetching ≠ 0 ∧ 1 + b.lighters ≤ g.fetching ∧ b.lighters = 3 ∧ g.err = 0) := by
  decide +kernel

theorem witness_CompletionsAreWrittenInOrder :
    (let s := hostUp (withRing { ring with relq := [pend] }); let g := s.ringAt 0
     (s.ringCfg 0).transport = 0 ∧ g.st = .opened ∧ g.holding = false ∧ s.glb.mode ≠ .halt ∧ g.epochComp = none ∧ g.relq = pend :: [] ∧
      s.pwr.stopped.contains 0x28 = false ∧ s.gateCheck 112 .write (hostAddr (compAddr g)) 32 (wordsOf (zeros 32) .pub) = none ∧
      s.wharf.bme.contains (s.ringCfg 0).func = true ∧ s.wharf.pcieUp = true) ∧
    (let s := { withRing { ring with coalFrom := some 5, coalTime := 1 } with clock := { dtime := 105 } }; let g := s.ringAt 0
     (s.ringCfg 0).transport = 0 ∧ g.coalFrom = some 5 ∧ 0 < g.coalTime ∧ 5 + 100 * g.coalTime ≤ s.now) ∧
    (let s := hostUp { up with wharf := { msixPending := [(0, 2)] } }
     s.wharf.msixPending.contains (0, 2) = true ∧ s.msixReady 0 2 = true) := by decide +kernel

theorem witness_RingsOpenAndClose :
    (let s : State := { withRing { ring with st := .closed } with cfg := { rings := [(0, ⟨0, 0, false, false, true, 0, 0, 8, 0, 0⟩)] } }
     let g := s.ringAt 0
     wbit 1 1 = false ∧ (s.ringCfg 0).transport = 0 ∧ s.serving = true ∧ g.st = .closed ∧ (Tbl.find 0 s.cfg.rings).isSome = true ∧
      4 ≤ g.sqLog ∧ g.sqLog ≤ 16 ∧ 4 ≤ g.cqLog ∧ g.cqLog ≤ 17 ∧ g.sqBase ≠ 0 ∧ g.cqBase ≠ 0 ∧ g.held < 2 ^ g.cqLog ∧
      g.openedInEpoch = false) ∧
    (∀ st ∈ [RingState.opened, .stopped, .faulted], let s := withRing { ring with st := st }
      wbit 0 2 = false ∧ s.serving = true ∧ (s.ringAt 0).st = st) ∧
    (let s := withRing { ring with st := .draining }
     (s.ringAt 0).st = .draining ∧ s.unfinished 0 = 0 ∧ (s.ringAt 0).flr = false) := by decide +kernel

theorem witness_AbortsByState :
    up.serving = true ∧
    (let s (ph : Phase) (c d : Bool) : State := { up with lkm := { tbl := [(3, { entry (barge 0x0A00) ph with committing := c, committed := d })] } }
     (∃ e, (s (.queued .general) false false).entryAt 3 = some e ∧ e.ph = .queued .general) ∧
     (∃ e, (s (.parked 9 []) false false).entryAt 3 = some e ∧ e.ph = .parked 9 []) ∧
     (∃ e, (s (.running 5) false false).entryAt 3 = some e ∧ e.ph = .running 5 ∧ e.committing = false ∧ e.committed = false) ∧
     (∃ e, (s (.running 5) true false).entryAt 3 = some e ∧ e.ph = .running 5 ∧ e.committing = true) ∧
     (∃ e, (s .done false true).entryAt 3 = some e ∧ e.ph = .done)) :=
  ⟨rfl, ⟨_, rfl, rfl⟩, ⟨_, rfl, rfl⟩, ⟨_, rfl, rfl, rfl, rfl⟩, ⟨_, rfl, rfl, rfl⟩, ⟨_, rfl, rfl⟩⟩

/-! ### Witnesses: the Lockmaster, the logbook, the gates -/

/-- Ring 0 of tenant 0 with a record: maintenance, up to 8 in flight. -/
def cfg0 : Manifest := { rings := [(0, ⟨0, 0, false, false, true, 0, 0, 8, 1000, 1000⟩)] }

/-- One barge-table entry, 3, of RANDOM_BYTES in a phase, in SERVICE. -/
def one (ph : Phase) : State := { up with lkm := { tbl := [(3, entry (barge 0x0A00) ph)] }, cfg := cfg0 }

theorem witness_BargesAreAdmittedAndDispatched :
    (let w : Waiting := ⟨{ barge 0x0A00 with p0 := 16 }, none, false⟩
     let s : State := { withRing { ring with port := [w] } with cfg := cfg0 }; let c := s.ringCfg 0
     s.nextPort = some (s.portOf 0) ∧ s.portOf 0 ≤ 2 ∧ s.readyAt (s.portOf 0) = [0] ∧ (s.ringAt 0).port = w :: [] ∧
      headCheck s.glb.mode c.tenant c.maint (c.transport ≠ 0) w.b = none ∧ (s.tenantAt c.tenant).st = .active ∧
      w.b.handles = [] ∧ s.cfg.cluster = none) ∧
    (let s : State := { one (.queued .general) with pwr := { domains := [(9, { st := .on })] } }
     79 < 80 ∧ s.serving = true ∧ s.coreFree 79 = true ∧ (s.domAt (79 / 8)).st = .on ∧
      s.nextFor false = some (3, entry (barge 0x0A00) (.queued .general)) ∧ 8 ≤ s.pwr.dispatchCredit + s.effectiveEighths) ∧
    (let s : State := { up with lkm := { tbl := [(3, entry (barge 0x0C00) (.queued .general))] }, cfg := cfg0,
                                pwr := { domains := [(11, { st := .on })], thermal := 4 } }
     88 ≤ 88 ∧ s.serving = true ∧ s.coreFree 88 = true ∧ (s.domAt (88 / 8)).st = .on ∧
      s.nextFor true = some (3, entry (barge 0x0C00) (.queued .general)) ∧ s.pwr.dispatchCredit + s.effectiveEighths < 8) := by
  decide +kernel

theorem witness_EarliestDeadlineFirst :
    (one (.queued .general)).nextFor false = some (3, entry (barge 0x0A00) (.queued .general)) ∧
      (one (.queued .general)).nextFor true = none := by decide +kernel

theorem witness_LimitsEndWaitingBarges :
    (let s := one (.queued .general)
     s.entryAt 3 = some (entry (barge 0x0A00) (.queued .general)) ∧ (entry (barge 0x0A00) (.queued .general)).failExpired = true ∧
      s.glb.mode ≠ .halt) ∧
    (let e := entry (barge 0x0A00) (.parked 50 []); (one e.ph).entryAt 3 = some e ∧ e.failExpired = true ∧ e.deadline ≤ 50 + e.pageTimeout) ∧
    (let e := entry (barge 0x0A00) (.parked 49 []); (one e.ph).entryAt 3 = some e ∧ 49 + e.pageTimeout < e.deadline) ∧
    (let s := one (.queued .basin)
     (s.inPlace .general).length < 28160 ∧
      firstByDeadline ((s.inPlace .basin).filter fun x => !s.heldBack x.1 x.2) = some (3, entry (barge 0x0A00) (.queued .basin))) ∧
    (let s : State := { up with clock := { dtime := 100000 } }; s.lkm.curWindow < s.now / 100000) := by decide +kernel

theorem witness_FailedBargesComplete :
    (let s := one (.queued .general); let e := entry (barge 0x0A00) (.queued .general)
     s.entryAt 3 = some e ∧ e.flow = none ∧ e.origin = none ∧ (s.ringAt e.ring).flr = false) ∧
    (let s (c : Core) : State := { one (.running 5) with cores := [(5, { c with job := some 3 })] }
     let e := entry (barge 0x0A00) (.running 5)
     ((s {}).coreAt 5).job = some 3 ∧ (s {}).entryAt 3 = some e ∧ (s {}).glb.mode ≠ .halt ∧ e.flow = none ∧ e.origin = none ∧
      (((s {}).ringAt 0).flr = false) ∧
      (let t := s { res := some (answered [1]) }
       (t.coreAt 5).aborted = none ∧ (t.coreAt 5).res = some (answered [1]) ∧ e.b.opcode ≠ 0x0C78 ∧ t.commitsDone 3 = true ∧
        (answered [1]).out = none) ∧
      (let t := s { res := some (answered [1]), aborted := some 0 }; (t.coreAt 5).aborted = some t.now) ∧
      ((s { aborted := some 9 }).coreAt 5).aborted = some 9 ∧ 9 ≠ (s {}).now ∧ e.committing = false ∧ e.committed = false) := by decide +kernel

/-- A record of n body words. -/
def aRec (n : Nat) (audit : Bool := false) : Rec := { code := 0x10, time := 0, audit := audit, body := List.replicate n 0 }

theorem witness_LogbookRecords :
    (let s : State := { up with log := { ingress := [aRec 1] } }
     ∃ r x, s.nextRec = some r ∧ makeRoom r.words s.log.nextCopy s.log.ring.length s.log.ring = some x) ∧
    (let s (a : Bool) (cap : Nat) : State := { up with slu := { ready := true }, log := { ring := [aRec 1 a], archCap := cap } }
     (s false 100).slu.ready = true ∧ (s false 100).slu.stopped = false ∧
      ((s false 100).log.ring.find? fun x => decide ((s false 100).log.nextCopy ≤ x.seq)) = some (aRec 1) ∧
      (archiveRoom (aRec 1).words 100 0 0 []).isSome = true ∧ archiveRoom (aRec 1 true).words 0 0 0 [] = none ∧ (aRec 1 true).audit = true) ∧
    (let s : State := { up with clock := { dtime := 100000 }, log := { rates := [(0, { capacity := 4 })] } }
     s.log.lastRefill < s.now / 100000 ∧ ∀ p ∈ s.log.rates, p.2.suppressed = 0) :=
  ⟨⟨_, _, rfl, rfl⟩, by decide +kernel, by decide +kernel⟩

theorem witness_LogCursorMoves :
    up.glb.mode = .service ∧ cursorPath .pf = some 0 ∧ up.reads .pf 0xF = true ∧ (up.cursorAt 0).overwritten up.log = false ∧
    (let s : State := { up with log := { ring := [{ aRec 1 with seq := 5 }], cursors := [(0, { seq := 4 })], seqCount := 6 } }
     s.reads .pf 0xF = true ∧ (s.cursorAt 0).overwritten s.log = true) := by decide +kernel

theorem witness_GateBarriersRunAndEnd :
    dry.glb.mode = .drydock ∧ Tbl.find 4 dry.gte.barriers = none ∧
    (let s : State := { dry with gte := { barriers := [(4, [])] } }
     (Tbl.find 4 s.gte.barriers).isSome = true ∧ Tbl.find 4 s.gte.barriers = some [] ∧ s.pwr.restarting = [] ∧
      (let t : State := { s with pwr := { restarting := [4] } }; t.pwr.restarting = [4])) ∧
    (let s : State := { dry with gte := { barriers := [(112, [0, 3])] } }; Tbl.find 112 s.gte.barriers = some (0 :: [3])) := by decide +kernel

theorem witness_DeclassCopiesWords :
    (let s : State := { up with cfg := { gates := openGate 0 } }
     8 ≤ 8 ∧ inScratch 0x2000000 8 = true ∧ inScratch 0x2000040 8 = true ∧ s.gateCheck 0 .declassify 0x2001000 4 [] = none ∧
      (∀ i ∈ List.range 8, (s.sramAt (0x2000000 / 8 + i)).cls ≠ .held) ∧ s.gateCheck 0 .read 0x2000000 64 [] = none ∧
      s.gateCheck 0 .write 0x2000040 64 ((List.range 8).map fun i => { eccRead ([3].contains i) (s.sramAt (0x2000000 / 8 + i)) with
        cls := .confidential }) = none) ∧
    (∃ b, up.gateCheck 0 .declassify 0x2001000 4 [] = some b) ∧ 0 < 96 := ⟨by decide +kernel, ⟨_, rfl⟩, by decide⟩

/-! ### Witnesses: lanes, hash engines, tiles, the KDU -/

/-- An AES-256 label of a usage, mode B, of key 1 version 0 of a tenant's handle `h`. -/
def aesLabel (u : String) (h : Nat := 1) (mode : String := "B") : KLabel :=
  ⟨usage u, chr "A", chr mode, chr "E", 32, 0, h, 0, 0, 0, 1⟩

/-- A slot with a loaded key. -/
def slot (k : SlotKind := .loaded (aesLabel "D0")) : KSlot := ⟨k, 0, zeros 32, false, 0, zeros 12, 0, .pub⟩

/-- Core 5 has a context on lane 2, whose slot number 0 is the lane's slot 6; a mooring holds the key, its counter leased. -/
def laned (c : LaneCtx) (x : KSlot := slot) : State :=
  { up with
    cores := [(5, { lane := some c })]
    cph := { lanes := [(2, { group := 0, slots := [(6, x)] })] }
    mor := { moorings := [(9, ⟨⟨aesLabel "D0", [], [], 65535, 0, 0⟩, true, 0⟩)] } }

/-- A context on lane 2. -/
def ctx : LaneCtx := { lane := 2, tenant := 0, slots := [(0, 6)] }

/-- Four sound words. -/
def words4 : List TWord := wordsOf (zeros 32) .pub

theorem sound_words4 : Sound words4 := by
  intro w hw
  have h : ∀ w ∈ words4, w.v = true ∧ w.p = false ∧ w.chk = chkOf w.data := by decide
  exact h w hw

theorem witness_LaneBlockCommands :
    (LaneReady (laned ctx) 5 ctx ∧ Sound words4) ∧
    ((laned ctx).ctxSlot ctx (cSlot 0) = some (6, slot) ∧ (∀ w, slot.kind ≠ .test w) ∧
      cSrc 0 = 0 ∧ cDst 0 = 0 ∧ cCmp 0 = false ∧ slot.may .enc (cSub 0) = true ∧ slot.may .dec (cSub 0) = true ∧
      cProfile 0 ≠ 0xF ∧ slot.may .zkey (cSub 0) = true ∧ cProfile 0xF0000000000 = 0xF ∧ cSlot 0xF0000000000 = 0) ∧
    (let c : LaneCtx := { ctx with nonce := some (zeros 12), gcm := true }
     LaneReady (laned c) 5 c ∧ c.nonce = some (zeros 12) ∧ slot.may .stream 0 = true ∧ slot.isTdes = false ∧ c.nonceSlot = cSlot 1 ∧
      2 ≤ words4.length ∧ c.lastIdx < cIdx 1 ∧ c.gcm = true ∧ c.tagged = false) ∧
    (slot.block / 8 ≤ words4.length ∧ slot.may .open_ 0 = true ∧ slot.isTdes = false ∧ 4 ≤ words4.length ∧ ctx.holding = false ∧
      slot.mayCheck 0 = true) ∧
    (let c : LaneCtx := { ctx with holding := true }
     LaneReady (laned c) 5 c ∧ c.holding = true ∧ ((laned c).coreAt 5).held.length + 2 ≤ 8192) ∧
    (slot.kind = .loaded (aesLabel "D0") ∧ slot.dead = false ∧
      ∃ m mr, (laned ctx).mooringOf (aesLabel "D0").handle 0 = some (m, mr) ∧ mr.krec.nonceCtr < nonceEnd ∧ mr.leased = true) :=
  ⟨⟨⟨⟨rfl, rfl, rfl, rfl, rfl, rfl, rfl⟩, rfl⟩, sound_words4⟩, ⟨rfl, fun _ h => (SlotKind.noConfusion h), by decide, by decide, by decide, by decide,
    by decide, by decide, by decide, by decide, by decide⟩, ⟨⟨⟨rfl, rfl, rfl, rfl, rfl, rfl, rfl⟩, rfl⟩, by decide⟩, by decide +kernel,
    ⟨⟨⟨rfl, rfl, rfl, rfl, rfl, rfl, rfl⟩, rfl⟩, rfl, by decide⟩, rfl, rfl, _, _, rfl, by decide, rfl⟩

/-- Every lane group's lanes are powered. -/
def powered (s : State) : State :=
  { s with pwr := { s.pwr with domains := ((List.range 72).map fun d => (d, { st := DomState.on })) } }

theorem witness_LaneContextsAndSlots :
    (let s := powered up
     LaneFree s 5 ∧ 2 ≤ words4.length ∧ ∃ gs n, s.laneGroupsFor (le 0 2 (dataBytes words4 0 1) % 4096) = some gs ∧
       s.laneChoice gs (le 0 8 (dataBytes words4 1 1)) = some n) ∧
    (let c : LaneCtx := { ctx with slots := [] }; let s := laned c
     LaneReady s 5 c ∧ (let h := le 0 8 (dataBytes (wordsOf [1] .pub) 0 1)
      wordsOf [1] .pub ≠ [] ∧ handleTenant h = c.tenant ∧ c.slots.length < 8 ∧ Tbl.find (cSlot 0) c.slots = none ∧
      ((s.laneAt c.lane).slots.find? fun y => decide (y.2.handle = some h) && !y.2.dead && y.2.tenant == c.tenant) = some (6, slot)) ∧
      (let h := le 0 8 (dataBytes (wordsOf [2] .pub) 0 1)
       ((s.laneAt c.lane).slots.find? fun y => decide (y.2.handle = some h) && !y.2.dead && y.2.tenant == c.tenant) = none ∧
        s.slotFor c.lane = some 0)) ∧
    (let cmd : W64 := 0x0010490000000000
     cProfile cmd = 9 ∧ cDst cmd = 1 ∧ cPart cmd = 0 ∧ words4.length = 4 ∧ Tbl.find (cSlot2 cmd) ctx.slots = none ∧
      ctx.slots.length < 8 ∧ (laned ctx).slotFor ctx.lane = some 0) ∧
    (let x := slot (.owned 0 (aesLabel "D0")); let s := laned ctx x
     LaneReady s 5 ctx ∧ 4 ≤ words4.length ∧ s.ctxSlot ctx (cSlot2 0) = some (6, x) ∧ x.kind = .owned 0 (aesLabel "D0") ∧
      handleTenant (labelOfBytes (dataBytes words4 0 4)).handle = ctx.tenant ∧ x.owned = true) ∧
    ((laned ctx).coreAt 5).heldSt ≠ .zeroing ∧
    (let c : LaneCtx := { ctx with slots := [], diag := true }; let s := laned c
     LaneOpen s 5 c ∧ c.diag = true ∧ cProfile 0 ≤ 4 ∧ 4 ≤ words4.length ∧ Tbl.find (cSlot 0) c.slots = none ∧ c.slots.length < 8 ∧
      s.slotFor c.lane = some 0) ∧
    (let s (c : LaneCtx) : State := { laned ctx with cores := [(5, { lane := some c, heldSt := .zeroing })] }
     LaneReady (s ctx) 5 ctx ∧ ((s ctx).coreAt 5).heldSt = .zeroing ∧ ctx.holdWaits = false ∧
      ((s { ctx with holdWaits := true }).coreAt 5).heldSt = .zeroing ∧
      ((s { ctx with holdWaits := true }).coreAt 5).lane = some { ctx with holdWaits := true }) :=
  ⟨⟨⟨by decide, rfl, rfl, rfl, fun _ h => (List.not_mem_nil h).elim⟩, by decide, [0, 1, 2, 3, 4, 5, 6, 7], 0, by decide +kernel⟩,
    ⟨⟨⟨rfl, rfl, rfl, rfl, rfl, rfl, rfl⟩, rfl⟩, by decide +kernel⟩, by decide +kernel, ⟨⟨⟨rfl, rfl, rfl, rfl, rfl, rfl, rfl⟩, rfl⟩, by decide, rfl, rfl, by decide +kernel, rfl⟩, by decide,
    ⟨⟨rfl, rfl, rfl, rfl, rfl, rfl, rfl⟩, by decide +kernel⟩, ⟨⟨rfl, rfl, rfl, rfl, rfl, rfl, rfl⟩, rfl⟩, rfl, rfl, rfl, rfl⟩

theorem witness_CheckersRetryThenFault :
    (let s : State := { up with cph := { alarmLimit := 9, laneLimit := 9 } }; (s.laneMismatch 2).retryLane 2 0 = some 3) ∧
    (let s : State := { up with cph := { alarmLimit := 9, laneLimit := 9, lanes := (List.range 64).map fun n => (n, { st := UnitState.off }) } }
     (s.laneMismatch 2).retryLane 2 0 = none) ∧
    (let s : State := { laned ctx with cph := { alarmLimit := 9, laneLimit := 9, lanes := ((List.range 64).map fun n => (n, if n = 2 then
        { group := 0, slots := [(6, slot)] } else { st := UnitState.off })) } }
     LaneReady s 5 ctx ∧ s.ctxSlot ctx (cSlot 0) = some (6, slot) ∧ (s.checkBlock ctx.lane ctx.tenant 1).2 = true) ∧
    (let s : State := { laned ctx with cph := { alarmLimit := 9, laneLimit := 9 } }
     LaneReady s 5 ctx ∧ (s.checkBlock ctx.lane ctx.tenant 2).2 = true ∧ (s.checkBlock ctx.lane ctx.tenant 3).2 = true) :=
  ⟨by decide +kernel, by decide +kernel, ⟨⟨⟨rfl, rfl, rfl, rfl, rfl, rfl, rfl⟩, rfl⟩, by decide +kernel, by decide +kernel⟩,
    ⟨⟨rfl, rfl, rfl, rfl, rfl, rfl, rfl⟩, rfl⟩, by decide +kernel⟩

theorem witness_SelfTestsAndRetirement :
    ((up.laneAt 63).serves = true ∧ up.ctxsOn 63 = []) ∧
    (let s : State := { up with cph := { lanes := [(2, { st := .draining })] } }
     (s.laneAt 2).serves = true ∧ s.ctxsOn 2 = [] ∧ (s.laneAt 2).st = .draining) ∧
    ((up.tileAt 23).serves = true ∧ up.jobsOn 23 = [] ∧ up.bgn.diag.opening = false ∧ (up.tileAt 23).st = .active) ∧
    ((up.engAt 7).st = .active ∧ (up.engAt 7).holder = none ∧ isKduEngine 7 = false) ∧
    ((up.engAt 33).st = .active ∧ (up.engAt 33).holder = none ∧ isKduEngine 33 = true ∧
      up.hsh.queue.countP KduReq.started < up.hsh.pairs) ∧
    (let s : State := { up with clock := { dtime := 100000 } }; s.cph.window < s.now / (100000 * max 1 s.cph.windowMs)) := by
  decide +kernel

/-- Core 5 holds hash engine 0 in a state. -/
def hashed (g : Eng) : State := { up with cores := [(5, { eng := some 0 })], hsh := { engs := [(0, g)] } }

/-- SHAKE256 running. -/
def eng0 : Eng := { holder := some 5, alg := some (9, false) }

theorem witness_HashEngineCommands :
    (let cmd : W64 := 0x0900000000000000
     ((hashed {}).coreAt 5).eng = some 0 ∧ ((hashed {}).engAt 0).waiting = false ∧ ((hashed {}).engAt 0).closing = false ∧
      ((hashed {}).coreAt 5).aborted = none ∧ ((hashed {}).coreAt 5).hashIn = [] ∧ algOn (hAlg cmd) 0 = true ∧ 0 < 56 ∧ hHmac cmd = false ∧
      (let s : State := powered { up with hsh := { engs := (List.range 56).filterMap fun n => if n = 3 then none else some (n, { st := .off }) } }
       (s.coreAt 5).eng = none ∧ s.freeEngines (hAlg cmd) = [3] ∧ algOn (hAlg cmd) 3 = true)) ∧
    (HashReady (hashed eng0) 5 0 eng0 9 false ∧ Sound words4 ∧ words4 ≠ [] ∧
      (let cmd : W64 := 0x0000002000000000
       ceilDiv (hN cmd) 8 ≤ words4.length ∧ eng0.final = false ∧ 0 < hN cmd ∧ hN cmd ≤ 168 ∧ eng0.poison = false ∧ keyed 9 false = false)) ∧
    (let g : Eng := { eng0 with final := true, outLen := 32 }; let cmd : W64 := 0x0000002000000000
     HashReady (hashed g) 5 0 g 9 false ∧ g.final = true ∧ g.poison = false ∧ 0 < hN cmd ∧ hN cmd ≤ 64 ∧ hN cmd ≤ 168 ∧
      g.squeezed + hN cmd ≤ hashOut 9 g.outLen) :=
  ⟨by decide +kernel, ⟨⟨⟨rfl, rfl⟩, rfl, rfl, rfl, rfl, by decide, rfl⟩, sound_words4, by decide, by decide⟩, ⟨⟨rfl, rfl⟩, rfl, rfl, rfl, rfl, by decide, rfl⟩, rfl, rfl, by decide,
    by decide, by decide, by decide⟩

/-- Core 5 has a job on tile 1. -/
def tiled (j : Job) : State := { up with cores := [(5, { tile := some j })] }

/-- A job of one window. -/
def job : Job := { tile := 1, base := 0, size := 1 }

theorem witness_TileCommands :
    (let s := powered up
     Sound words4 ∧ words4 ≠ [] ∧ TileFree s 5 ∧ ∃ gs n b, s.tileGroupsFor (le 0 2 (dataBytes words4 0 1) % 4096) = some gs ∧
       s.tileChoice gs (2 ^ tM 0) = some (n, b)) ∧
    (let j : Job := { job with words := (List.range 4).map fun i => (i, word 1 .pub), macp := some false }
     let cmd : W64 := 0x0000100000000000
     TileReady (tiled j) 5 j ∧ 0 < tN cmd ∧ tN cmd ≤ 160 ∧ j.has (tA cmd) (tN cmd) = true ∧ j.has (tB cmd) (tM cmd + 1) = true ∧
      tOff cmd + tN cmd + (tM cmd + 1) ≤ 168 ∧ j.macp = some false ∧ j.poison = false ∧ anyBad (j.read (tA cmd) (tN cmd)) = false ∧
      anyBad (j.read (tB cmd) (tM cmd + 1)) = false ∧ j.has (tD cmd) (tN cmd) = true ∧ tN cmd ≤ 4 ∧ tN cmd ≤ words4.length ∧
      2 ≤ words4.length ∧ j.has (tA cmd) 4 = true) ∧
    (let j : Job := { job with macp := some true }; let cmd : W64 := 0x0000120000000000
     TileReady (tiled j) 5 j ∧ 0 < tN cmd ∧ tN cmd ≤ 160 ∧ j.has (tA cmd) (tN cmd) = true ∧ j.has (tB cmd) (tN cmd) = true ∧
      tOff cmd + 2 * tN cmd ≤ 336 ∧ j.macp = some true ∧ tMode cmd = true) ∧
    (let s : State := { up with bgn := { tiles := [(1, { clearing := [(4, 2)] })] } }
     ((s.tileAt 1).clearing.find? fun x => x.1 == 4) = some (4, 2)) :=
  ⟨⟨sound_words4, by decide, ⟨by decide, rfl, rfl, rfl, fun _ h => (List.not_mem_nil h).elim⟩, [0, 1, 2], 0, 0, by decide +kernel⟩,
    ⟨⟨rfl, rfl, rfl, rfl, rfl, rfl⟩, by decide⟩, ⟨⟨rfl, rfl, rfl, rfl, rfl, rfl⟩, by decide⟩, by decide⟩

/-- A state whose KDU has a started load of core 5's context, with a record read. -/
def loading (r : Option KRec) : State :=
  { laned ctx with hsh := { queue := [⟨5, .laneSlot 6, 1, 0, true, r, false⟩] } }

/-- A record that this device has wrapped. -/
def wrapped : KRec := up.newRec (aesLabel "D0") [1]

theorem opens_wrapped (r : Option KRec) : (loading r).openRec wrapped = some (fixLen 32 [1]) :=
  openRec_newRec up (aesLabel "D0") [1] rfl (by decide)

/-- A record whose key field holds a byte past the length its label states. -/
def misfit : KRec := up.newRec { aesLabel "D0" with size := 16 } (List.replicate 32 1)

theorem shut_misfit : up.openRec misfit = none := openRec_long up _ _ rfl (by decide)

theorem witness_KduLoadsEnd :
    (let q : KduReq := ⟨5, .laneSlot 6, 1, 0, true, some wrapped, false⟩; let s := loading (some wrapped)
     s.hsh.pairs ≠ 0 ∧ (∀ p l, q.dest ≠ .storeSlot p l) ∧ q.read = some wrapped ∧ s.openRec wrapped = some (fixLen 32 [1]) ∧
      s.kduHead = some q ∧ q.dest = .laneSlot 6 ∧ (s.coreAt q.who).lane = some ctx ∧ ctx.closing = false ∧ s.kduSuits q wrapped.label = true ∧
      UnitsIdle s) ∧
    (let q : KduReq := ⟨5, .laneSlot 6, 1, 0, true, none, false⟩; (∀ p l, q.dest ≠ .storeSlot p l) ∧ q.read = none) ∧
    (up.openRec misfit = none) :=
  ⟨⟨by decide, fun _ _ h => KduDest.noConfusion h, rfl, opens_wrapped _, rfl, rfl, rfl, rfl, rfl, by
    intro p hp; rw [List.mem_singleton.mp hp]; exact ⟨rfl, rfl, rfl⟩⟩, ⟨fun _ _ h => KduDest.noConfusion h, rfl⟩,
    shut_misfit⟩

theorem witness_DiagnosticRegisters :
    up.glb.mode ≠ .drydock ∧
    (let v : W64 := 0x1; dry.glb.mode = .drydock ∧ wbit 0 v = true ∧ dry.cph.diag.enable = false ∧ wbits 14 8 v < 68 ∧
      (dry.laneAt (wbits 14 8 v)).st = .active ∧ dry.ctxsOn (wbits 14 8 v) = []) ∧
    (let v : W64 := 0x701; wbit 0 v = true ∧ dry.hsh.diag.enable = false ∧ (isKeccak (wbits 14 8 v) = true ∨ isSha2 (wbits 14 8 v) = true) ∧
      (dry.engAt (wbits 14 8 v)).st = .active ∧ (dry.engAt (wbits 14 8 v)).holder = none) ∧
    (let v : W64 := 0x1701; wbit 0 v = true ∧ dry.bgn.diag.enable = false ∧ wbits 14 8 v < 26 ∧ (dry.tileAt (wbits 14 8 v)).st = .active ∧
      dry.jobsOn (wbits 14 8 v) = [] ∧ (dry.tileAt (wbits 14 8 v)).clearing = []) ∧
    (let s : State := { dry with cph := { diag := { enable := true } }, hsh := { diag := { enable := true } }, bgn := { diag := { enable := true } } }
     wbit 0 0 = false ∧ s.cph.diag.enable = true ∧ s.hsh.diag.enable = true ∧ s.bgn.diag.enable = true) ∧
    (let c : Core := { lane := some { lane := 0, tenant := 0, diag := true }, eng := some 0, tile := some { tile := 0, base := 0, size := 8, diag := true } }
     let s : State := { dry with cores := [(96, c)], cph := { diag := { enable := true } }, bgn := { diag := { enable := true } } }
     s.glb.mode = .drydock ∧ s.cph.diag.busy = false ∧ s.cph.diag.enable = true ∧ s.cph.diag.opening = false ∧
      (s.laneRun 96 ⟨15, 0xF000000000000000, s.cph.diag.words, [], 0⟩).code = some uOk ∧ s.hsh.diag.busy = false ∧
      (s.coreAt 96).eng = some 0 ∧ (s.hashRun 96 ⟨7, 0x7000000000000000, s.hsh.diag.words, [], 0⟩).code = some uOk ∧
      s.bgn.diag.busy = false ∧ s.bgn.diag.enable = true ∧ s.bgn.diag.opening = false ∧
      (s.tileRun 96 ⟨9, 0x9000000000000000, s.bgn.diag.words, [], 0⟩).code = some uOk ∧ uOk ≠ uFault) := by
  decide +kernel
/-! ### Witnesses: moorings and the cargo store -/

/-- A value of a stated length is what `fixLen` gives of itself. -/
theorem fits {n : Nat} {g : Bytes} (h : g.length = n) : g = fixLen n g := by
  subst h
  exact (fixLen_self g).symm

/-- Some 16-byte string differs from any given one. -/
theorem other16 (g : Bytes) : ∃ tag : Bytes, g ≠ fixLen 16 tag := by
  by_cases h : g = fixLen 16 (zeros 16)
  · exact ⟨List.replicate 16 1, by rw [h]; decide⟩
  · exact ⟨zeros 16, h⟩

/-- A record of the AES key of handle 1. -/
def aesRec : KRec := ⟨aesLabel "D0", zeros 32, zeros 16, 0, 0, 0⟩

/-- A store on a mirror, both drives in service. -/
def mirror (m : Mor) : State :=
  { up with mor := { m with
      storeSt := .online
      driveA := { inService := true, present := true, nguid := zeros 16, namespaceOk := true, keys := some (zeros 96) }
      driveB := { inService := true, present := true, nguid := zeros 16, namespaceOk := true, keys := some (zeros 96) } } }

theorem witness_PageInsReturn :
    (let s := mirror { pageIns := [⟨1, .lookup, some 12⟩], cache := [⟨aesRec, true, 0, 0⟩] }
     (s.mor.pageIns.find? fun x => x.handle == 1) = some ⟨1, .lookup, some 12⟩ ∧ s.cachedLinks 1 = some [(aesRec, true)] ∧
       headOk 1 [(aesRec, true)] = true) ∧
    (let s : State := { up with mor := { pageIns := [⟨1, .lookup, some 12⟩], storeSt := .volatileHold } }
     (s.mor.pageIns.find? fun x => x.handle == 1) = some ⟨1, .lookup, some 12⟩ ∧ s.cachedLinks 1 = none ∧ s.volatileStore = true) ∧
    (let s := mirror { pageIns := [⟨1, .lookup, some 12⟩, ⟨2, .read false, some 12⟩] }
     s.cachedLinks 1 = none ∧ s.driveStore = true ∧ s.pwr.stopped.contains 0x2B = false ∧
      (s.mor.pageIns.find? fun x => x.handle == 2) = some ⟨2, .read false, some 12⟩) ∧
    (let s := mirror { pageIns := [⟨1, .reading 0 262146 1 none, some 12⟩] }
     (s.mor.pageIns.find? fun x => x.handle == 1) = some ⟨1, .reading 0 262146 1 none, some 12⟩ ∧ (s.drive 1).inService = true ∧
       s.driveStore = true ∧ s.slu.stopped = false ∧ s.genOf 262146 = 1 ∧ 2 ≠ s.genOf 262146 ∧
       allZero (fixLen 39 []) = true ∧ s.sectorKind 262146 ≠ 9 ∧
       (∀ k m : Bytes, ∃ tag, Config.kmac256 k m 128 (ascii "LT7200-SECTOR") = fixLen 16 tag) ∧
       (∀ k m : Bytes, ∃ tag, Config.kmac256 k m 128 (ascii "LT7200-SECTOR") ≠ fixLen 16 tag)) ∧
    (let s := mirror { pageIns := [⟨1, .cacheWait, some 12⟩, ⟨2, .mooringWait, some 12⟩],
                       cache := [⟨{ aesRec with label := aesLabel "D0" 2 }, true, 0, 0⟩] }
     (s.mor.pageIns.find? fun x => x.handle == 1) = some ⟨1, .cacheWait, some 12⟩ ∧ (s.mor.pageIns.find? fun x => x.handle == 2) =
       some ⟨2, .mooringWait, some 12⟩ ∧
       (s.cachedLinks 2).or ((s.storeLinks 2).map fun l => l.map fun x => (x, false)) = some [({ aesRec with label := aesLabel "D0" 2 }, true)]) ∧
    up.mooringChoice aesRec.label.handle = some (0, none) :=
  ⟨by decide +kernel, by decide +kernel, by decide +kernel,
    ⟨rfl, rfl, rfl, rfl, by decide +kernel, by decide +kernel, by decide, by decide +kernel, fun _ _ => ⟨_, fits (by simp [Config.kmac256])⟩,
      fun _ _ => other16 _⟩, by decide +kernel, by decide +kernel⟩

/-- As `hostUp`, with the gate of tug 0 open instead. -/
def tugUp (s : State) : State :=
  { s with wharf := { s.wharf with pcieUp := true, bme := [0] }, cfg := { s.cfg with gates := openGate 96 } }

theorem witness_MooringUpkeep :
    Tbl.find 9 (laned ctx).mor.moorings = some ⟨⟨aesLabel "D0", [], [], 65535, 0, 0⟩, true, 0⟩ ∧
    (let s : State := { laned ctx with mor := { (laned ctx).mor with bankLast := [(0, 5)] } }
     s.freeIn 1 = some 65536 ∧ 65536 ≠ 9 ∧ tget 0 1 s.mor.bankLast < tget 0 (bankOf 9) s.mor.bankLast ∧ s.loading (aesLabel "D0") = false) ∧
    (up.glb.mode ≠ .sentry ∧ up.mor.tugsOut.contains 15 = false) ∧
    (let b : Barge := { barge 0x40 (flags := 4) with p2 := 16 }
     let s := tugUp (running b); let e := entry b (.running 5)
     (s.coreAt 5).job = some 3 ∧ s.entryAt 3 = some e ∧ b.buf = true ∧ e.origin = none ∧ (s.ringCfg 0).transport = 0 ∧ s.hostTug 5 = some 0 ∧
       s.wharf.bme.contains (s.ringCfg 0).func = true ∧ s.wharf.pcieUp = true ∧ (s.coreAt 5).input = none ∧ (s.coreAt 5).res = none ∧
       b.inLen ≠ 0 ∧ s.gateCheck 96 .read (hostAddr b.inAddr) b.inLen [] = none) ∧
    (let b : Barge := { barge 0x40 (flags := 4) with p2 := 16 }
     let s := tugUp { running b with cores := [(5, { job := some 3, res := some { status := 0, out := some (zeros 8) } })] }
     (s.coreAt 5).res = some { status := 0, out := some (zeros 8) } ∧ (s.coreAt 5).written = false ∧ (s.ringAt 0).flr = false ∧
       s.gateCheck 96 .write (hostAddr b.outAddr) 8 (wordsOf (zeros 8) .pub) = none) ∧
    (let s : State := { up with pwr := { up.pwr with pend := some (0x3B, { pins := [4] }), stopped := [0x3B] } }
     s.pwr.pend = some (0x3B, { pins := [4] }) ∧ s.pwr.stopped.contains 0x3B = true) := by
  decide +kernel

/-- A commit of no barge that deletes handle 1. -/
def commit : Commit := ⟨0, 0, 0, 0, 1, 0x15, 1, 0, 0, none, [.delete 1], 1, 0, false, none, 0⟩

theorem witness_CommitsReachTheStore :
    (let s := mirror { gathered := [commit], gatherFrom := some 0 }
     let s : State := { s with clock := { s.clock with dtime := 800 } }
     (∀ x ∈ s.mor.gathered, s.stillWanted x = true) ∧ s.driveStore = true ∧ s.mor.flight = [] ∧ s.pwr.stopped.contains 0x2B = false ∧
       s.freeTug 12 4 ≠ none ∧ s.mor.gathered.head? = some commit ∧ commit.joined + 800 ≤ s.now ∧ takeCommits 16 (262144 - s.mor.fill) s.mor.gathered = [commit]) ∧
    (let s := mirror { gathered := List.replicate 17 commit }; 16 ≤ s.mor.gathered.length ∧
       takeCommits 16 (262144 - s.mor.fill) s.mor.gathered = List.replicate 16 commit) ∧
    (let c : Commit := { commit with barge := some 3 }
     let s : State := { running (barge 0x0707) with mor := (mirror { gathered := [c], gatherFrom := some 0 }).mor, clock := { dtime := 800 } }
     s.mor.gathered = [c] ∧ s.stillWanted c = true ∧ s.driveStore = true ∧ s.mor.flight = [] ∧ s.pwr.stopped.contains 0x2B = false ∧
       s.freeTug 12 4 ≠ none ∧ c.joined + 800 ≤ s.now ∧ c.barge = some 3 ∧ c.replicated = false ∧
       s.entryAt 3 = some (entry (barge 0x0707) (.running 5)) ∧ (s.coreAt 5).job.isSome = true) ∧
    (let s := mirror { flight := [commit], awaiting := 2 }
     s.mor.flight = [] ++ [commit] ∧ (s.drive 1).inService = true ∧ s.mor.awaiting &&& ~~~(BitVec.ofNat 2 (2 ^ 1)) = 0) ∧
    (let s : State := { up with mor := { storeSt := .volatileHold, gathered := [commit] } }
     (∀ x ∈ s.mor.gathered, s.stillWanted x = true) ∧ s.volatileStore = true ∧ s.mor.gathered = commit :: []) ∧
    (let x : LaneCtx := { ctx with nonceWaits := some (0, true) }
     let mr : Mooring := ⟨⟨aesLabel "D0", [], [], 65536, 0, 0⟩, false, 0⟩
     let s : State := { laned x with mor := { (mirror {}).mor with moorings := [(9, mr)] } }
     (s.coreAt 5).lane = some x ∧ s.ctxSlot x 0 = some (6, slot) ∧ slot.handle = some 1 ∧ s.mooringOf 1 0 = some (9, mr) ∧
       mr.leased = false ∧ s.storeUp = true ∧ s.leasePending 1 = false) ∧
    (let s := mirror { fill := 131072 }; s.driveStore = true ∧ s.mor.ckpt = none ∧ 131072 ≤ s.mor.fill) ∧
    (mirror { ckpt := some 0 }).mor.ckpt = some 0 := by
  decide +kernel

theorem witness_DrivesFailAndRebuild :
    ((mirror {}).mor.storeSt = .online ∧ (mirror {}).drivesIn = [0, 1] ∧ ((mirror {}).drive 1).inService = true ∧
      ((mirror {}).drive 1).fails = 0) ∧
    (let s : State := { up with mor := { storeSt := .degraded, driveB := { inService := true } } }
     s.driveStore = true ∧ s.drivesIn = [1]) ∧
    ({ up with mor := { storeSt := .rebuilding } } : State).mor.storeSt = .rebuilding := by
  decide
/-! ### Witnesses: random generation, the SLU, the Yuhild unlock -/

/-- A state of SERVICE with these clusters and DRBGs. -/
def random (cs : Tbl Cluster) (ds : Tbl Drbg) (ready : Bool := false) : State :=
  { up with rng := { clusters := cs, drbgs := ds, ready := ready } }

theorem witness_EntropyClustersWork :
    ((random [(3, { st := .settle })] []).clusterAt 3).st = .settle ∧ ((random [(3, { st := .startup })] []).clusterAt 3).st = .startup ∧
    (768 ≤ (zeros 768).length ∧ 1024 ≤ (zeros 1024).length ∧
      (let s : State := { up with rng := { aptCutoff := 2000, rctCutoff := 255 } }; s.healthCause {} = 0 ∧ up.healthCause ⟨[0, 0], []⟩ ≠ 0) ∧
      ((random [(3, { st := .startup, consec := 1 })] []).clusterAt 3).consec < 2 ∧ ((random [(3, { st := .collect, consec := 2 })] []).clusterAt 3).st = .collect ∧
      ((random [(3, { st := .collect, consec := 2 })] []).clusterAt 3).consec = 2) ∧
    (let s := random [(3, { st := .collect, cond := [zeros 64] })] []
     (s.clusterAt 3).cond = zeros 64 :: [] ∧ s.rng.fatal = false ∧ s.rng.raw = false ∧ s.blockTarget 3 = none ∧ (s.clusterAt 3).consec < 2) ∧
    (let s := random [(3, { cond := [zeros 64] })] [(13, { waits := true })]
     (s.clusterAt 3).cond = zeros 64 :: [] ∧ s.blockTarget 3 = some 13) ∧
    ((random [(3, { st := .raw })] []).clusterAt 3).st = .raw ∧
    (let s : State := { dry with rng := { raw := true, rawBuf := [7] } }
     s.rng.raw = true ∧ s.rng.rawOsc ≤ 8 ∧ s.answers .pf = true ∧ s.reads .pf 0x7 = true ∧ s.rng.rawBuf = 7 :: []) ∧
    (let s : State := { dry with rng := { raw := true } }; s.answers .pf = true ∧ s.reads .pf 0x7 = true ∧ s.rng.rawBuf = []) := by
  decide +kernel

theorem witness_DrbgsSeedAndServe :
    ((random [] [(5, { seeding := some (zeros 64) })]).drbgAt 5).seeding = some (zeros 64) ∧
    (let s := random [] [(5, { st := .serving, requests := 65536 })]
     (s.drbgAt 5).st = .serving ∧ 65536 ≤ (s.drbgAt 5).requests ∧ s.rng.clusters = [] ∧ (s.clusterAt 7).held = []) ∧
    (let s := random [] [(5, { st := .serving })]
     (s.drbgAt 5).st = .serving ∧ (s.drbgAt 5).requests < 65536 ∧ s.now < (s.drbgAt 5).seededAt + 100000000) ∧
    (let s := random [] [(5, { st := .due, requests := 131072 })]; (s.drbgAt 5).st = .due ∧ 131072 ≤ (s.drbgAt 5).requests) ∧
    (let s := random [] [(5, { st := .serving, requests := 131071 })] true
     s.serves (69 % 64) = true ∧ 0 < 65536 ∧ 65536 ≤ 65536) ∧
    up.serves (5 % 64) = false ∧
    (let s := random ((List.range 12).map fun c => (c, { passed := true })) ((List.range 64).map fun d => (d, { st := DrbgState.serving }))
     s.rng.ready = false ∧ 12 ≤ (clusterNumbers.countP fun c => (s.clusterAt c).passed) ∧ ∀ d, d < 64 → (s.drbgAt d).st = .serving) := by
  decide +kernel

/-- DRAM is up with 1 MiB protected, gate 5 open to all of it under domains 0 and 1, and the leaf of line 0 is cached. -/
def dram (minor : Nat := 0) : State :=
  { up with
    slu := { ready := true, half0 := true, half1 := true, protLog := 20, cached := [(0, false)], blocks := [(0, ⟨0, [(0, minor)]⟩)] }
    cfg := { up.cfg with gates := [(80, ⟨2, 0, 2 ^ 40, true, true, true, true, 3⟩)] } }

/-- A line of eight words. -/
def line : List TWord := List.replicate 8 (word 7 .pub)

theorem witness_DramLinesReadBack :
    (let s := dram 3
     lineOf (2 ^ 40) = some (0, 0) ∧ s.sluTakes (sluHalf 0) = true ∧ 0 < 2 ^ s.slu.protLog ∧
       s.blockCached (blockKey (sluHalf 0) 0 (sluLine 0 / 64)) = true ∧ wholeLine line = true ∧ s.gateCheck 5 .write (2 ^ 40) 64 line = none ∧
       tget 0 (sluLine 0 % 64) (s.blockAt (blockKey (sluHalf 0) 0 (sluLine 0 / 64))).minors < 127 ∧
       s.gateCheck 5 .read (2 ^ 40) 64 [] = none ∧ lineOf (2 ^ 46 + 2 ^ 40) = some (1, 0) ∧
       s.gateCheck 5 .read (2 ^ 46 + 2 ^ 40) 64 [] = none) ∧
    ((dram).lineCtr (sluHalf 0) (sluLine 0) = 0 ∧ (dram).gateScan 5 .write [2 ^ 40 + 8 * 7] [(2 ^ 40 + 8 * 7, word 7 .pub)] = none) := by
  decide +kernel

theorem witness_ScrubAndEccCount :
    (dram).sluTakes 1 = true ∧ up.glb.mode ≠ .sentry ∧ DramReturn.asStored.lostNodes = [] ∧ ({ lostNodes := [0] } : DramReturn).lostNodes ≠ [] := by
  decide

/-- The verification's result 1 is Config's signature check: no state can be shown to give it. -/
theorem witness_YuhildUnlocks :
    (let s := random [] [(24, { st := .serving })] true
     (1 : BitVec 4) ≠ 0 ∧ s.lcy.busy = none ∧ s.lcs = .production ∧ s.serves 24 = true ∧ (s.drbgAt 24).st ≠ .rawBlocked) ∧
    (let s : State := { up with lcy := { up.lcy with busy := some (none, []) } }
     s.lcy.busy = some (none, []) ∧ s.lcy.nextReq = none ∧ s.yuhildResult none [] = 3) := by
  decide +kernel
/-! ### Witnesses: the lengthsman, power, LAUNCH, modes, functions -/

/-- A sentry record of 64 entries. -/
def srec64 (isProtected reported : Bool) : Tbl SEntry :=
  (List.range 64).map fun i => (i, ⟨i, 0, 1, 0, 0, 0, isProtected, reported, 0, 0⟩)

theorem witness_SentryRecordPlaces :
    (¬ ∀ i, i < 64 → Tbl.find i ([] : Tbl SEntry) ≠ none) ∧
    ((∀ i, i < 64 → Tbl.find i (srec64 true true) ≠ none) ∧ ¬ ∀ x ∈ srec64 true true, x.2.reported = false) ∧
    ((∀ i, i < 64 → Tbl.find i (srec64 false false) ≠ none) ∧ (∀ x ∈ srec64 false false, x.2.reported = false) ∧
      ¬ ∀ x ∈ srec64 false false, (!x.2.isProtected && !x.2.reported) = false) ∧
    ((∀ i, i < 64 → Tbl.find i (srec64 true false) ≠ none) ∧ (∀ x ∈ srec64 true false, x.2.reported = false) ∧
      ∀ x ∈ srec64 true false, (!x.2.isProtected && !x.2.reported) = false) := by
  decide +kernel

/-- A state with a latch of source 5 at a level, last seen at 0, at sentry tick t. -/
def latched (level t : Nat) : State :=
  { dry with len := { dry.len with latches := [(5, ⟨level, 0⟩)] }, clock := { dry.clock with stime := t } }

theorem witness_AlarmsLatchAndClear :
    (up.watched 9 = true ∧ Tbl.find 9 up.len.latches = none ∧ (up.srcRow 9).n = 1 ∧ (up.srcRow 9).level = 5 ∧ up.len.tickLevel = none ∧
      up.glb.mode ≠ .sentry) ∧
    (let s : State := { latched 3 0 with clock := { dry.clock with pllLock := true, goodSince := 0, dtime := 10000 } }
     s.watched 5 = true ∧ Tbl.find 5 s.len.latches = some ⟨3, 0⟩) ∧
    (holdTicks 1000 = 32768 ∧ Tbl.find 5 (latched 3 32769).len.latches = some ⟨3, 0⟩ ∧ (latched 3 32769).conditionAbsent 5 ⟨3, 0⟩ = true ∧
      0 + 1 + holdTicks ((latched 3 32769).srcRow 5).holdMs ≤ (latched 3 32769).clock.stime ∧
      (latched 3 32769).latchedAt 3 = true) ∧
    ((latched 3 32768).conditionAbsent 5 ⟨3, 0⟩ = true ∧
      (latched 3 32768).clock.stime < 0 + 1 + holdTicks ((latched 3 32768).srcRow 5).holdMs) ∧
    ((latched 3 1).glb.mode = .drydock ∧ wbit 5 0x20 = true ∧ wbit 4 0x20 = false ∧ (latched 3 1).conditionAbsent 5 ⟨3, 0⟩ = true) ∧
    (let s : State := { State.reset with clock := { State.reset.clock with mainPower := false } }
     s.clock.mainPower = false ∧ s.len.powered = true ∧ s.cellDue 17 = true ∧ Tbl.find 17 s.len.latches = none ∧
       (s.srcRow 17).cellN ≤ tget 0 17 s.len.cellHits + 1 ∧ s.cellDue 9 = true ∧ (s.srcRow 9).cellN ≤ tget 0 9 s.len.cellHits + 1 ∧
       (s.srcRow 9).cellErase = true) := by
  decide +kernel

theorem witness_PowerComesAndGoes :
    up.clock.mainPower = true ∧ 250 ≤ 250 ∧
    (let s : State := { State.reset with clock := { State.reset.clock with mainPower := false } }
     s.clock.mainPower = false ∧ s.len.powered = true) := by
  decide

/-- A LAUNCH environment: blank flash, no DRAM fitted, no drive. -/
def env0 : LaunchEnv := ⟨[], [], 0, 0, [], [], false, false, .commandError, .commandError, [], [], [], [], [], [], [], []⟩

/-- A slot as programmed is usable (R311, R313). -/
theorem usable_programmed (i : Nat) (v : Bytes) : (Slot.programmed i v).usable i = true := by
  simp [Slot.usable, Slot.checkOk, Slot.programmed, slotCheck, Slot.isWritten, Slot.isLocked, Slot.isRetired, Tri.read]

/-- A TEST part in LAUNCH at step n, trained, with DRBG 0 serving. -/
def launching (n : Nat) : State :=
  { State.reset with
    glb := { mode := .launch }
    root := { State.reset.root with t2 := 0, slots := [(0, Slot.programmed 0 (zeros 32)), (1, Slot.programmed 1 (zeros 32))] }
    rng := { ready := true, drbgs := [(0, { st := .serving })] }
    kwm := { State.reset.kwm with step := n }
    brv := { State.reset.brv with st := .member }
    pwr := { State.reset.pwr with launch := .training env0 true } }

theorem witness_LaunchBringsUp :
    (let s : State := { up with glb := { mode := .launch }, len := { up.len with srec := [] } }
     s.clock.mainPower = true ∧ s.glb.mode = .launch ∧ s.pwr.launch = .notBegun ∧ (s.launchStep3 env0).lcs ≠ .endOfLife ∧
       ((s.launchStep3 env0).selectCopy env0).used = none) ∧
    (let s : State := { up with glb := { mode := .launch }, pwr := { up.pwr with launch := .training env0 false } }
     s.glb.mode = .launch ∧ s.pwr.launch = .training env0 false) ∧
    (let s := launching 8
     s.clock.mainPower = true ∧ s.glb.mode = .launch ∧ s.pwr.launch = .training env0 true ∧ s.kwm.step = 8 ∧ s.rng.ready = true ∧
       (∃ a b c s1, s.launchDraw = (some (a, b, c), s1)) ∧ s.lcs ≠ .production ∧ (s.current .uds).isSome = true ∧
       (s.current .signer).isSome = true ∧ s.kwm.migration = none ∧ s.cfg.iface = none ∧ s.cfg.cluster = none) ∧
    ((launching 13).kwm.step ≠ 8 ∧ (launching 13).brv.st = .member) := by
  refine ⟨⟨rfl, rfl, rfl, by decide +kernel, by decide +kernel⟩, ⟨rfl, rfl⟩, ⟨rfl, rfl, rfl, rfl, rfl, ⟨_, _, _, _, rfl⟩, by decide, ?_, ?_, rfl,
    rfl, rfl⟩, by decide, rfl⟩
  · have h : (launching 8).current .uds = some 0 := by
      simp only [State.current, SlotClass.slots, List.find?]
      rw [show (launching 8).slot 0 = Slot.programmed 0 (zeros 32) from rfl, usable_programmed]
    rw [h]; rfl
  · have h : (launching 8).current .signer = some 1 := by
      simp only [State.current, SlotClass.slots, List.find?]
      rw [show (launching 8).slot 1 = Slot.programmed 1 (zeros 32) from rfl, usable_programmed]
    rw [h]; rfl

/-- A state in a mode with a transition. -/
def moving (m : Mode) (t : Option Transition) : State :=
  { up with glb := { up.glb with mode := m }, pwr := { up.pwr with trans := t }, brv := { up.brv with st := .single } }

theorem witness_ModesChangeOnRequest :
    (up.mayRequest .pf = true ∧ up.inTransition = false ∧ up.glb.mode = .service ∧ up.pwr.stopped = [] ∧ up.cfg.cluster = none) ∧
    (∀ m, m = .service ∨ m = .dormant ∨ m = .halt → (moving m (some .resume)).mayRequest .smbus = true ∧
      (moving m (some .resume)).inTransition = true ∧ (moving m none).inTransition = false) ∧
    (let s := moving .service (some (.drain 7)); s.pwr.trans = some (.drain 7) ∧ s.drained = true ∧ s.now ≤ 7) ∧
    (let s : State := { moving .service (some (.drain 7)) with clock := { up.clock with dtime := 8 } }; 7 < s.now) ∧
    (let s := moving .dormant (some .resume)
     s.pwr.trans = some .resume ∧ s.imagesMatch [] = true ∧ (s.resumeChecked [] [] []).selfTestsPass = true ∧ s.rng.ready = false ∧
       s.imagesMatch [[]] = false ∧ (s.resumeChecked [3] [] []).selfTestsPass = true ∧
       (({ s with hsh := { pairs := 0 } } : State).resumeChecked [] [] []).selfTestsPass = false ∧
       (let t : State := { s with rng := { ready := true } }; t.pwr.trans = some .resume ∧ (t.resumeChecked [] [] []).selfTestsPass = true)) ∧
    ({ halted with pwr := { halted.pwr with flushing := true } } : State).pwr.flushing = true := by
  refine ⟨by decide, fun m h => ?_, by decide, by decide, by decide +kernel, rfl⟩
  rcases h with rfl | rfl | rfl <;> decide

/-- SERVICE with function f selected, granted, and, where asked, STOPPED with its copy open. -/
def functioned (f : Nat) (stopped : List Nat) (pend : Option (Nat × Manifest)) : State :=
  { up with pwr := { up.pwr with fnSel := f, grants := [f], stopped := stopped, pend := pend } }

theorem witness_FunctionsStopChangeRestart :
    (let s := functioned 0x30 [] none
     s.vis .pf 0xD = .full ∧ fnValid s.pwr.fnSel = true ∧ s.fnGranted 0x30 = true ∧ s.fnStopped 0x30 = false) ∧
    (let s := functioned 0x30 [0x30] (some (0x38, {})); s.fnStopped 0x30 = true ∧ s.pwr.pend = some (0x38, {}) ∧ 0x38 ≠ 0x30) ∧
    (let s := functioned 0x30 [0x30] (some (0x30, {}))
     s.pwr.pend = some (0x30, {}) ∧ s.bufApplied 0x30 {} = some {} ∧ s.restartReason 0x30 {} = 0 ∧ 0x30 ≠ 0x39) ∧
    (let m : Manifest := { power := { floorClusters := 0 } }; let s := functioned 0x30 [0x30] (some (0x30, m))
     s.bufApplied 0x30 m = some m ∧ s.restartReason 0x30 m ≠ 0) ∧
    (up.vis .pf 0xD = .full ∧ fnValid up.pwr.fnSel = true ∧ up.fnGranted up.pwr.fnSel = false ∧ up.pwr.fnSel ≠ 0x39) ∧
    (let s : State := { functioned 0x39 [] none with pwr := { (functioned 0x39 [] none).pwr with restarting := [4] } }
     s.vis .pf 0xD = .full ∧ fnValid s.pwr.fnSel = true ∧ s.pwr.fnSel = 0x39 ∧ s.pwr.restarting ≠ []) := by
  decide +kernel

/-- SERVICE with power domains. -/
def domained (ds : Tbl Domain) (idle : Nat := 1) (t : Nat := 10000) : State :=
  { up with pwr := { up.pwr with domains := ds }, clock := { up.clock with dtime := t },
            cfg := { up.cfg with power := { up.cfg.power with idleUs := idle } } }

theorem witness_PowerLoopsAct :
    (let s := domained [(12, { st := .on }), (13, { st := .on })]
     s.gateFamily 12 = some ((List.range 8).map (· + 12), 1) ∧ s.serving = true ∧ 0 < s.cfg.power.idleUs ∧ (s.domAt 12).st = .on ∧
       s.domainBusy 12 = false ∧ (s.domAt 12).idleFrom + 100 * s.cfg.power.idleUs ≤ s.now ∧
       1 < (((List.range 8).map (· + 12)).countP fun q => decide ((s.domAt q).st = .on))) ∧
    (let s := domained [(12, { st := .on })]
     s.domainBusy 12 = false ∧ (((List.range 8).map (· + 12)).countP fun q => decide ((s.domAt q).st = .on)) ≤ 1) ∧
    (let s : State := { domained [(20, { st := .gated })] with hsh := { engs := (List.range 56).map fun n => (n, { holder := some 5 }) } }
     s.gateFamily 20 = some ((List.range 4).map (· + 20), 1) ∧ s.serving = true ∧ (s.domAt 20).st = .gated ∧ s.wakeWanted 20 = true) ∧
    (let s := domained [(20, { st := .waking })]
     (s.domAt 20).st = .waking ∧ (s.domAt 20).since + 3000 ≤ s.now ∧ (s.domAt 20).since + 10000 ≤ s.now ∧ s.pwr.trans ≠ some .resume) ∧
    (up.clock.mainPower = true ∧ up.pwr.stretching = false ∧ up.cfg.power.capW = 0 ∧ ([380, 388, 399, 400, 411, 412, 0, 0] : List Int).length = 8 ∧
      thermalFraction 412 < up.pwr.thermal ∧ up.pwr.thermal ≤ thermalFraction 399) ∧
    (let s : State := { up with
       cfg := { up.cfg with power := { capW := 100 } }, pwr := { up.pwr with aboveFrom := some 0, cap := 2 }, clock := { dtime := 100000 } }
     s.cfg.power.capW ≠ 0 ∧ s.pwr.aboveFrom = some 0 ∧ 0 + 100000 ≤ s.now ∧ 1 < s.pwr.cap) ∧
    (let s : State := { up with
       cfg := { up.cfg with power := { capW := 100 } }, pwr := { up.pwr with belowFrom := some 0, cap := 7 }, clock := { dtime := 1000000 } }
     s.pwr.aboveFrom = none ∧ s.pwr.belowFrom = some 0 ∧ 0 + 1000000 ≤ s.now ∧ s.pwr.cap < 8) := by
  decide +kernel
/-! ### Witnesses: the Wharf, sessions, LTP, registers -/

/-- A two-device cluster whose device 0, this one, and device 1 are heads, linked by link 0. -/
def pair : ClusterCfg := ⟨0, 2, 1, 0, [0, 1], 1, 16, [zeros 57, zeros 57], []⟩

/-- A member of that cluster with its link in a state. -/
def clustered (st : LinkState) (b : Brv := {}) (k : BLink := {}) : State :=
  { up with
    cfg := { up.cfg with cluster := some pair }
    brv := { b with st := .member, live := 3, links := [(0, { k with st := st, rxKeys := zeros 96, txKeys := zeros 96, peer := 1 })] } }

/-- An Ethernet port's configuration. -/
def port0 : PortCfg := ⟨true, false, none, 1500, 7200, [], [], true⟩

/-- An interface configuration with every interface on. -/
def ifaces : IfaceCfg := ⟨true, 5, 16, 62, true, 4, 1000, true, true, [], 1, [], port0, port0, [], true⟩

/-- SERVICE with interfaces, the PCIe domain on, and these rings' configuration. -/
def wharfUp (rs : Tbl RingCfg := [(0, ⟨0, 0, false, false, false, 0, 0, 8, 100, 100⟩)]) : State :=
  { up with
    cfg := { up.cfg with iface := some ifaces, rings := rs }
    wharf := { up.wharf with pcieUp := true, eth0Up := true, bme := [0], vfs := 4 }
    pwr := { up.pwr with domains := [(55, { st := .on })] } }

theorem witness_PcieFunctionsResetAndLink :
    (let s : State := { wharfUp with rings := [(0, { ring with st := .stopped })] }
     s.wharf.pcieUp = true ∧ s.pcieRings (fun f => (0 : Nat) == 0 || f == 0) = [0] ∧ (s.ringAt 0).st ≠ .closed) ∧
    (wharfUp.pcieRings (fun _ => true) = [0] ∧ (wharfUp.ringAt 0).st = .closed ∧ 1 ∉ wharfUp.pcieRings (fun _ => true) ∧
      wharfUp.glb.mode ≠ .dormant) ∧
    (let s : State := { wharfUp with rings := [(0, ring)] }; 0 ∈ s.pcieRings (fun _ => true) ∧ (s.ringAt 0).st = .opened) ∧
    (wharfUp.cfg.iface = some ifaces ∧ ifaces.pcieEnable = true ∧ wharfUp.wharf.loop = none ∧ wharfUp.clock.mainPower = true ∧
      (wharfUp.domAt 55).st = .on) ∧
    (∀ pin, pin < 16 → ∃ level, wharfUp.wharf.gpio.getLsbD pin ≠ level) ∧ ({ wharfUp with wharf := { wharfUp.wharf with gpio := 0 } } : State).wharf.gpio.getLsbD 3 ≠ true ∧
    (let v : W64 := 0x0000000100000101
     up.vis .pf 0x1 = .full ∧ up.wharf.loop = none ∧ wbit 0 v = true ∧
       up.loopAllowed (wbits 19 16 v) (wbits 9 8 v) (wbits 63 32 v) = false ∧
       ({ dry with pwr := { dry.pwr with stopped := [0x28] } } : State).loopAllowed (wbits 19 16 v) (wbits 9 8 v) (wbits 63 32 v) = true ∧
       ({ dry with pwr := { dry.pwr with stopped := [0x28] } } : State).vis .pf 0x1 = .full) ∧
    (let s : State := { dry with wharf := { dry.wharf with loop := some ⟨0, 1, 0, 1⟩ }, clock := { dtime := 100000 } }
     s.wharf.loop = some ⟨0, 1, 0, 1⟩ ∧ 0 + 100000 * 1 ≤ s.now ∧ (1 : Nat) ≠ 3 ∧ (0 : Nat) < 3) ∧
    (let s : State := { clustered .off with wharf := { up.wharf with loop := some ⟨0, 1, 4, 3⟩ }, clock := { dtime := 100000 } }
     s.wharf.loop = some ⟨0, 1, 4, 3⟩ ∧ 0 + 100000 * 1 ≤ s.now ∧ (s.cfg.cluster.map fun c => s.linkEnabled c 0).getD false = true) ∧
    (let s : State := { dry with pwr := { dry.pwr with stopped := [0x28] } }; s.glb.mode = .drydock ∧ s.pwr.stopped.contains 0x28 = true) := by
  decide +kernel

/-- A MEMORY record with a 4 MiB completion store. -/
def mem0 : MemCfg := ⟨20, 0, 0, 0, 0, 0, 0, 0, 0, 0, 0, 0, 0, 0, 0, 2 ^ 22, 0, 0, 0, 0, 0, 0, 0, 0, 0⟩

/-- SERVICE with session 3. -/
def sessioned (x : Session) (rs : Tbl Ring := []) (ring : RingCfg := ⟨0, 0, false, false, false, 1, 0, 8, 100, 100⟩) : State :=
  { wharfUp [(7, ring)] with
    wharf := { wharfUp.wharf with sessions := [(3, x)] }
    cfg := { (wharfUp [(7, ring)]).cfg with mem := some mem0 }
    rings := rs }

/-- What a ClientHello or a client's flight must satisfy beyond these hypotheses is Config's: no state can be shown to give it. -/
theorem witness_TcpAndTlsSessions :
    (wharfUp.ethUp 0 = true ∧ wharfUp.pwr.stopped.contains (0x29 + 0) = false ∧ wharfUp.wharf.sessions.length < 4096) ∧
    (let s : State := { wharfUp with wharf := { wharfUp.wharf with sessions := (List.range 4096).map fun n => (n, ⟨0, .opened, 0, true, [], [], 0, [], 0, 0⟩) } }
     s.ethUp 0 = true ∧ 4096 ≤ s.wharf.sessions.length) ∧
    (tget (0, 0) 0 wharfUp.wharf.control = (0, 0)) ∧
    (let s : State := { wharfUp with wharf := { wharfUp.wharf with control := [(0, (0, 1000))] } }
     s.ethUp 0 = true ∧ (tget (0, 0) 0 s.wharf.control).1 = s.now / 100000000 ∧ 1000 ≤ (tget (0, 0) 0 s.wharf.control).2) ∧
    (let x : Session := { port := 0, stage := .opened, traffic := 0 }
     let s : State := { sessioned x with clock := { dtime := 6000000000 } }
     Tbl.find 3 s.wharf.sessions = some x ∧ x.traffic + 6000000000 ≤ s.now ∧ x.stage = .opened) ∧
    (let x : Session := { port := 0, stage := .handshake 0, transcript := [1], traffic := 0 }
     let s : State := { sessioned x with clock := { dtime := 100000000 } }
     Tbl.find 3 s.wharf.sessions = some x ∧ x.stage = .handshake 0 ∧ x.transcript ≠ [] ∧ s.cfg.iface = some ifaces ∧
       0 + 100000 * (s.cfg.iface.map (·.hsMs)).getD 0 ≤ s.now ∧ ([[], [], [], []] : List Bytes).length = 4) ∧
    (let x : Session := { port := 0, traffic := 0 }
     let s : State := { sessioned x with rng := { ready := true, drbgs := [(16, { st := .serving })] }
                                         mor := { moorings := [(0, ⟨aesRec, true, 0⟩)] } }
     Tbl.find 3 s.wharf.sessions = some x ∧ s.cfg.iface = some ifaces ∧ x.stage ≠ .opened ∧ x.transcript = [] ∧ s.resident ifaces.serverKey = true ∧
       ∃ bs, (s.draw 80 64).1 = .bytes bs) :=
  ⟨by decide +kernel, by decide +kernel, by decide, by decide +kernel, by decide +kernel, by decide +kernel,
    rfl, rfl, by decide, rfl, by decide +kernel, _, rfl⟩

/-- An open v2 session of tenant 0. -/
def sess : Session := { port := 0, stage := .opened, traffic := 0 }

theorem witness_LtpRingsAndMessages :
    (let s := sessioned sess [(7, ring)]
     s.openSession 3 = some sess ∧ (Tbl.find 7 s.cfg.rings).isSome = true ∧ (s.ringCfg 7).transport = 1 ∧ (s.ringCfg 7).tenant = sess.tenant ∧
       (s.ringAt 7).st ≠ .closed ∧ (s.ringAt 7).st ≠ .draining) ∧
    (let s := sessioned sess
     (s.ringAt 7).st = .closed ∧ 4 ≤ 17 ∧ 17 ≤ 17 ∧ (s.ringAt 7).held < 2 ^ 17 ∧ s.storeFits 17 = true ∧
       ¬ ((Tbl.find 6 s.cfg.rings).isSome = true ∧ (s.ringCfg 6).transport = 1)) ∧
    (let s := sessioned sess [] ⟨1, 0, false, false, false, 1, 0, 8, 100, 100⟩; (s.ringCfg 7).tenant ≠ sess.tenant) ∧
    (let s := sessioned sess [(7, { ring with st := .draining })]; (s.ringAt 7).st = .draining) ∧
    (let g : Ring := { ring with bound := some 3, creditLimit := 1 }; let s := sessioned sess [(7, g)]
     (s.ringAt 7).bound = some 3 ∧ (s.ringAt 7).st = .opened ∧ sess.v2 = true ∧ hasCredit g = true ∧
       (zeros 64).length = 64 + 64 * (bargeOfBytes (zeros 64)).lighters ∧ ([] : Bytes).length ≤ 16777216 ∧
       ((sessioned sess [(7, { g with st := .stopped })]).ringAt 7).bound = some 3 ∧ hasCredit { g with st := .stopped } = true ∧
       ([] : Bytes).length = (if (bargeOfBytes (zeros 64)).buf then (bargeOfBytes (zeros 64)).inLen else 0)) ∧
    (let g : Ring := { ring with bound := some 3, cqTail := 1, store := [(comp, none, 0, false)] }; let s := sessioned sess [(7, g)]
     (s.ringAt 7).bound = some 3 ∧ hasCredit g = false ∧ cqReject g 1 = none ∧ 0 < diff32 1 g.cqHead) ∧
    (let x : Session := { sess with v2 := false }; let g : Ring := { ring with bound := some 3, creditLimit := 1, v1Last := some 1 }
     let s := sessioned x [(7, g)]; let d := fixLen 32 (zeros 32)
     s.openSession 3 = some x ∧ (s.ringAt 7).bound = some 3 ∧ x.v2 = false ∧ le 2 1 d < 2 ∧ le 3 1 d ≤ 24 ∧ ([] : Bytes).length = 8 * le 3 1 d ∧
       le 28 4 d ≤ 65536 ∧ (v1Barge 1 d []).buf = false ∧ hasCredit g = true ∧ g.st = .opened) ∧
    ((sessioned sess [(7, ring)]).ringAt 7).bound ≠ some 3 := by
  decide +kernel

theorem witness_RegistersByAccess :
    (up.clock.mainPower = true ∧ up.glb.mode = .service ∧ dry.glb.mode = .drydock ∧ (up.ringAt 16383).st = .closed) ∧
    (aligned 0x24 8 = false ∧ up.answers .spi = true ∧ up.reads .spi 0 = true) ∧
    (aligned 0x24 4 = true ∧ up.answers .pf = true ∧ regBlock (0x24 - 0x24 % 8) = some 0 ∧ up.vis .pf 0 = .full ∧ up.vis .pf 0x3 = .read ∧
      up.vis .pf 0x4 = .hidden ∧ regBlock 0x120000 = none ∧ dry.answers .pf = true ∧
      (∀ b ∈ [0x1, 0x2, 0x3, 0x4, 0x5, 0x6, 0x7, 0x9, 0xB, 0xC, 0xD, 0xF, 0x80], dry.vis .pf b = .full) ∧
      ({ up with root := { up.root with t2 := 0 } } : State).vis .debug 0x4 = .full) ∧
    (let s := { wharfUp [(5, ⟨0, 0, false, false, false, 0, 2, 8, 100, 100⟩)] with rings := [] }
     s.answers (.vf 2) = true ∧ 0 < 2 ∧ 2 ≤ s.wharf.vfs ∧ s.serving = true ∧ (s.pcieRings (· == 2))[(0x10008 - 0x10008 % 8 - 0x10000) / 64]? = some 5) ∧
    (isTowpath .spi = true ∧ up.answers .spi = true ∧ 0x20 - 0x20 % 8 ≠ 0xD0000) ∧
    ((dry.ringAt 16383).st = .closed ∧ fnValid (wbits 7 0 0x30) = true ∧
      ({ dry with pwr := { dry.pwr with pend := some (0x30, {}) } } : State).pwr.pend.isSome = true ∧
      wbit 0 1 = true ∧ wbit 0 2 = false ∧ wbit 1 2 = true ∧ wbit 63 (2 ^ 63) = true ∧ wbit 63 7 = false) ∧
    (isTowpath .smbus = true ∧ up.wharf.towRead .smbus = none ∧ 0xD0008 % 8 = 0 ∧ 0xD0008 ≠ 0xD0000 ∧ 0xD0004 % 8 ≠ 0) ∧
    (let s : State := ({ up with clock := { dtime := 2001 } } : State).setTow .spi (some ⟨0, 2000⟩)
     s.clock.mainPower = true ∧ s.wharf.towRead .spi = some ⟨0, 2000⟩ ∧ 2000 < s.now) ∧
    wbits 2 0 (3 : W64) = 3 ∧
    (lcyAddress 0x1000000 = false ∧ up.lcs = .production ∧ up.lcy.unlocked = none ∧
      ({ up with root := { up.root with t2 := 0 } } : State).lcs ≠ .production ∧ targetOf 0x1000000 = some .clusterSram ∧
      (up.wordAt 0x1000000).cls ≠ .held) ∧
    (let s : State := { up with root := { up.root with t2 := 0 }, cores := [(95, { heldSt := .holding, held := [word 7 .held] })] }
     s.lcs ≠ .production ∧ lcyAddress 0x1BF0000 = false ∧ targetOf 0x1BF0000 = some .clusterSram ∧ heldPlace 0x1BF0000 = some (95, 0) ∧
       (s.coreAt 95).heldSt = .holding ∧ (s.coreAt 95).held[0]? = some (word 7 .held)) := by
  decide +kernel

/-- The held buffer of core j of cluster c is at 0x0108_0000 + c × 0x0010_0000 + j × 0x0001_0000 (R217). -/
theorem test_heldPlace :
    heldPlace (0x1080000 + 3 * 0x100000 + 2 * 0x10000 + 8) = some (26, 1) ∧ heldPlace 0x107FFF8 = none ∧ heldPlace 0x1C00000 = none := by
  decide +kernel

/-- R217: after a match the words of the buffer read with the slot's DCLASS. -/
theorem test_held_released :
    ({ up with cores := [(0, { heldSt := .released .secret, held := [word 7 .held] })] } : State).wordAt 0x1080000 = word 7 .secret := by
  decide +kernel
/-! ### Witnesses: Broviry links and clusters -/

/-- Its state t ticks on. -/
def later (s : State) (t : Nat) : State := { s with clock := { s.clock with dtime := t } }

/-- What a partner's or a peer's hello must satisfy is Config's: no state can be shown to give it. -/
theorem witness_BroviryLinksCarryFrames :
    (let s := clustered .up; let k := s.linkAt 0
     s.cfg.cluster = some pair ∧ k.st = .up ∧ k.waiting = [] ∧ k.rxCtr + 1 < 2 ^ 48 ∧ k.txCtr < 2 ^ 48 ∧
       (∃ f : Frame, f.crcOk = true ∧ f.lseq = k.rxSeq ∧ f.mac = frameMac k.rxKeys k.rxCtr (frameHeader f.typ f.vc f.src f.dst f.lseq f.used) f.payload ∧
         f.typ = 0x01 ∧ f.dst = 0xFF) ∧
       (∃ f : Frame, f.crcOk = true ∧ f.lseq = k.rxSeq ∧ f.mac ≠ frameMac k.rxKeys k.rxCtr (frameHeader f.typ f.vc f.src f.dst f.lseq f.used) f.payload)) ∧
    (let p : Frame × LinkMsg := (⟨1, 0, 0, 1, 9, 0, [], [], true⟩, ⟨1, 0, 0, 1, []⟩)
     let s := clustered .stopped {} { unacked := [p], replays := 7 }; let k := s.linkAt 0
     k.st = .stopped ∧ k.replays < 8 ∧ k.unacked = [] ++ p :: [] ∧ p.1.lseq = 9) ∧
    (8 ≤ ((clustered .up {} { replays := 8 }).linkAt 0).replays ∧
      ((clustered .up).linkAt 0).heartbeat + 10000 < (later (clustered .up) 10001).now ∧
      (later (clustered .up) 10000).now ≤ ((clustered .up).linkAt 0).heartbeat + 10000) ∧
    (let s := clustered .training; s.linkEnabled pair 0 = true ∧ (s.linkAt 0).st = .training) ∧
    (let s := later (clustered .down) 100000
     s.linkEnabled pair 0 = true ∧ (s.linkAt 0).st = .down ∧ (s.linkAt 0).downFrom + 100000 ≤ s.now ∧ s.pwr.stopped.contains 0x2C = false) ∧
    (let s := later (clustered .up) 1000
     s.brv.hbSent + 1000 ≤ s.now ∧ s.brv.syncSent + 1000 ≤ s.now ∧ 0 ∈ s.linksUp ∧ (s.linkAt 0).waiting = [] ∧
       (s.linkAt 0).unacked.length < 128 ∧ (s.linkAt 0).txCtr < 2 ^ 48) ∧
    (let s := later (clustered .up { coord := 1 }) 5
     s.brv.st ≠ .forming ∧ s.brv.coord ≠ s.index ∧ s.now ≠ 3 + 1 ∧ s.now < 3 + 3 ∧ s.clock.corrected = 0 ∧
       ({ s with brv := { s.brv with st := .forming } } : State).brv.st = .forming) :=
  ⟨⟨rfl, rfl, rfl, by decide, by decide, ⟨⟨1, 0, 1, 0xFF, 0, 0, [], frameMac (zeros 96) 0 (frameHeader 1 0 1 0xFF 0 0) [], true⟩, rfl, rfl, rfl, rfl, rfl⟩,
      ⟨⟨1, 0, 1, 0xFF, 0, 0, [], frameMac (zeros 96) 0 (frameHeader 1 0 1 0xFF 0 0) [] ++ [0], true⟩, rfl, rfl,
        fun h => absurd (congrArg List.length h) (by simp [clustered, State.linkAt, tget, Tbl.find])⟩⟩,
    by decide, by decide, by decide, by decide, by decide, by decide⟩

/-- A queued administrative barge of no handle, which runs at the coordinator. -/
def away : Entry := { entry (barge 0x0C10) (.queued .general) with input := some [] }

theorem witness_ClustersShareBuckets :
    ((⟨3, 4, .normal⟩ : Bucket).home = 3 ∧ (⟨3, 4, .normal⟩ : Bucket).replica ≠ 0xFF ∧ (⟨3, 4, .normal⟩ : Bucket).replica ≠ 3 ∧
      (⟨3, 0xFF, .normal⟩ : Bucket).replica = 0xFF ∧ (⟨4, 3, .normal⟩ : Bucket).home ≠ 3) ∧
    (let u : MapUpdate := ⟨[1], [], [], [], 2000⟩; let s := later (clustered .up { updates := [u], mapVersion := 1 }) 2000
     s.cfg.cluster = some pair ∧ s.brv.updates = u :: [] ∧ u.tick ≤ s.now ∧ s.brv.st ≠ .withdrawn ∧ s.brv.settle = none ∧ s.brv.mapVersion ≠ 0 ∧
       u.lost.contains pair.index = false) ∧
    (let s := clustered .up
     s.brv.st = .member ∧ s.isMember 1 = true ∧ s.deciding 1 = false ∧ lowestHead pair (s.members.filter (· != 1)) = some pair.index ∧ 1 ≠ pair.index) ∧
    (let s := clustered .up { map := [(9, ⟨0, 1, .resync⟩)], coord := 0 }
     (s.bucketAt 9).st = .resync ∧ s.brv.coord = pair.index ∧ (s.brv.updates.any fun u => u.resynced.contains 9) = false) ∧
    (let s : State := { clustered .up with brv := { (clustered .up).brv with st := .forming } }; s.brv.st = .forming) ∧
    (let s : State := { clustered .up { coord := 1 } with lkm := { tbl := [(3, away)] } }
     s.entryAt 3 = some away ∧ s.glb.mode = .service ∧ away.origin = none ∧ s.eligible 3 away = true ∧
       s.runsAt away.tenant away.b away.input = .device 1 ∧ s.hasCredit pair 1 = true ∧ away.input = some []) ∧
    (let s := clustered .up; s.isMember 1 = true ∧ pair.heads.contains 1 = true ∧ s.glb.admitting = true ∧ s.quiesced = false ∧
       ({ s with glb := { s.glb with admitting := false } } : State).glb.admitting = false) ∧
    (let e : Entry := { away with ph := .forwarded 1 }
     let s : State := { clustered .up with lkm := { tbl := [(3, e)] } }
     s.forwardedAt 1 0 7 = some (3, e)) ∧
    ((clustered .up).forwardedAt 1 0 7 = none ∧ (clustered .up).askingAt 1 0 7 = none) ∧
    (up.unseal 1 [] = none) ∧
    (let s : State := { clustered .up { awaiting := [(commit, 1)] } with mor := { storeSt := .volatileHold } }
     s.brv.awaiting = [(commit, 1)] ∧ commit.number = 0 ∧ s.storeUp = true) := by
  refine ⟨by decide, by decide, by decide +kernel, by decide +kernel, rfl, by decide +kernel, by decide +kernel, by decide +kernel,
    by decide +kernel, by decide +kernel, by decide +kernel⟩
/-! ### Witnesses: services -/

/-- A label of one link. -/
def lab (u alg : String) (size : Nat) (mode : String) (h : Nat) : KLabel := ⟨usage u, chr alg, chr mode, chr "E", size, 0, h, 0, 0, 0, 1⟩

/-- Keys of these labels, resident in moorings from one on. -/
def resident : Nat → List KLabel → Tbl Mooring
  | _, [] => []
  | n, l :: ls => (n, ⟨up.newRec l [], true, 0⟩) :: resident (n + 1) ls

/-- A permit that its barge has claimed. -/
def perm : Permit := ⟨1, 0, 0, 2, 0, 0, 2 ^ 60, 0, [], 1, 2, zeros 32⟩

/-- Core 5 runs barge 3 in SERVICE, these keys resident, with an input buffer and a permit claimed; every group 0x07 action takes a permit. -/
def svc (ls : List KLabel) (b : Barge) (input : Bytes := []) (claim : Option (Nat × Permit) := none) : State :=
  { up with
    lkm := { tbl := [(3, entry b (.running 5))] }
    cores := [(5, { job := some 3, input := some input, claimed := claim })]
    mor := { moorings := resident 0 ls }
    cfg := { up.cfg with quorum := [(1, ⟨2, 2, 4⟩), (2, ⟨2, 2, 4⟩), (3, ⟨2, 2, 4⟩)] } }

/-- That barge's run. -/
def run (b : Barge) (input : Bytes := []) : Run := ⟨5, 3, entry b (.running 5), input, {}, 0, 0⟩

/-- A barge of BUF 0 with one lighter and handles 1 and 2 as given. -/
def solo (op : Nat) (lights : Bytes) (h0 : Nat := 1) (h1 : Nat := 0) : Barge := barge op 1 0 h0 h1 lights

/-- A barge of an opcode without handles runs on its core, whatever the opcode. -/
theorem runs_any (op : Nat) (claim : Option (Nat × Permit)) : Runs (svc [] (barge op 0 1) [] claim) 5 op (run (barge op 0 1)) := by
  have h : ¬ ((svc [] (barge op 0 1) [] claim).serving = false ∨ (entry (barge op 0 1) (.running 5)).b.opcode ≠ op ∨
      ((none : Option Outcome).isSome = true) ∨ ((none : Option Nat).isSome = true) ∨
      (((barge op 0 1).buf && decide (0 < (barge op 0 1).inLen)) = true ∧ some ([] : Bytes) = none)) := by
    simp [svc, State.serving, up, entry, barge, Barge.buf, bitOf]
  have hi : (if ((barge op 0 1).buf && decide (0 < (barge op 0 1).inLen)) = true then ([] : Bytes) else []) = [] := ite_self _
  exact ⟨(if_neg h).trans (congrArg (fun x => some (Run.mk 5 3 (entry (barge op 0 1) (.running 5)) x {} 0 0)) hi), .inr rfl, rfl⟩

/-- Its permit, claimed, is the one of any action that takes one. -/
theorem permitted_any (op action : Nat) (device : Bool) (q : QuorumEntry)
    (hq : (svc [] (barge op 0 1) [] (some (0, perm))).quorumOf action = some q) (h0 : q.signers ≠ 0) :
    Permitted (svc [] (barge op 0 1) [] (some (0, perm))) (run (barge op 0 1)) action device (some perm)
      (svc [] (barge op 0 1) [] (some (0, perm))) := by
  refine ⟨rfl, ?_, rfl⟩
  simp only [State.usePermit, hq, Option.getD_some, h0, if_false]
  exact (if_neg (by decide : ¬ (1 : Nat) = 0)).trans (if_pos rfl)

theorem newRec_label (s : State) (l : KLabel) (f : Bytes) : (s.newRec l f).label = l := rfl

theorem zero_field (n : Nat) : allZero ((fixLen 32 []).drop n) = true := by
  simp only [allZero, List.all_eq_true]
  intro x hx
  have := List.mem_of_mem_drop hx
  simp [fixLen, zeros] at this
  simp [this]

/-- A key of the first label, whole. -/
theorem whole1 (a : KLabel) (ls : List KLabel) (b : Barge) (i : Bytes) (c : Option (Nat × Permit)) (hh : a.handle = 1) (hi : a.chainIdx = 0)
    (hc : a.chainLen ≤ 1) : (svc (a :: ls) b i c).keyStatus 1 = none := by
  refine keyStatus_whole (m := 0) (l := a) (f := []) (b := true) (n := 0) ?_ hc rfl (zero_field _)
  rw [show (svc (a :: ls) b i c).newRec a [] = up.newRec a [] from rfl]
  simp [State.mooringOf, svc, resident, newRec_label, hh, hi]

/-- A key of the second label, whole. -/
theorem whole2 (a a' : KLabel) (ls : List KLabel) (b : Barge) (i : Bytes) (c : Option (Nat × Permit)) (hh : a.handle = 1) (hh' : a'.handle = 2)
    (hi : a'.chainIdx = 0) (hc : a'.chainLen ≤ 1) : (svc (a :: a' :: ls) b i c).keyStatus 2 = none := by
  refine keyStatus_whole (m := 1) (l := a') (f := []) (b := true) (n := 0) ?_ hc rfl (zero_field _)
  rw [show (svc (a :: a' :: ls) b i c).newRec a' [] = up.newRec a' [] from rfl]
  simp [State.mooringOf, svc, resident, newRec_label, hh, hh', hi]

/-- The first check of a barge of one or two such keys passes. -/
theorem keys12 (a a' : KLabel) (b : Barge) (i : Bytes) (c : Option (Nat × Permit)) (ha : a.handle = 1 ∧ a.chainIdx = 0 ∧ a.chainLen ≤ 1)
    (ha' : a'.handle = 2 ∧ a'.chainIdx = 0 ∧ a'.chainLen ≤ 1) (hb : ∀ h ∈ b.handles, h = 1 ∨ h = 2) :
    firstFail ((svc [a, a'] b i c).keySteps (run b i)) = none := by
  refine pass_keySteps fun x hx => ?_
  rcases hb x hx with rfl | rfl
  · exact whole1 a [a'] b i c ha.1 ha.2.1 ha.2.2
  · exact whole2 a a' [] b i c ha.1 ha'.1 ha'.2.1 ha'.2.2

/-- A run in whose units nothing fails reads its checks as they are. -/
theorem sound_reads (b : Barge) (i : Bytes) (cs : List (Bool × Nat)) : (run b i).reads cs = cs := reads_sound (by intro st h; cases h) cs

/-- The permit of a barge of two such keys, claimed, is the one of an action that takes one. -/
theorem permitted12 (a a' : KLabel) (b : Barge) (i : Bytes) (action : Nat) (ha : a.handle = 1 ∧ a.chainIdx = 0 ∧ a.chainLen ≤ 1)
    (ha' : a'.handle = 2 ∧ a'.chainIdx = 0 ∧ a'.chainLen ≤ 1) (hb : ∀ h ∈ b.handles, h = 1 ∨ h = 2) (hn : b.permit = 1)
    (hq : ((svc [a, a'] b i (some (0, perm))).quorumOf action).map QuorumEntry.signers = some 2) :
    Permitted (svc [a, a'] b i (some (0, perm))) (run b i) action false (some perm) (svc [a, a'] b i (some (0, perm))) := by
  refine ⟨?_, ?_, rfl⟩
  · rw [sound_reads]; exact keys12 a a' b i _ ha ha' hb
  · obtain ⟨q, hq, h2⟩ := Option.map_eq_some_iff.mp hq
    have h0 : q.signers ≠ 0 := by omega
    have hp : (run b i).b.permit = 1 := hn
    simp only [State.usePermit, hq, Option.getD_some, h0, if_false, hp]
    exact (if_neg (by decide : ¬ (1 : Nat) = 0)).trans (if_pos rfl)

/-- TDES PIN key, verification keys and others of handles 1 and 2. -/
def pinKey : KLabel := lab "P0" "T" 16 "B" 1

/-- A PIN lighter: format 1 in and out as the control byte says, a check length, PVKI, PAN and reference. -/
def pinLight (fmts checkLen pvki : Byte) (pan : Bool) (ref : Bytes) : Bytes :=
  zeros 32 ++ (if pan then zeros 6 ++ List.replicate 4 0xFF else zeros 10) ++ zeros 6
    ++ [fmts, if pan then 12 else 0, checkLen, pvki] ++ zeros 4 ++ ref

/-- The PIN services of PinAndCardServicesAnswer. -/
theorem witness_PinServices :
    (let b := solo 0x0100 (pinLight 0x11 0 0 false []) 1 2; let s := svc [pinKey, lab "P0" "T" 16 "E" 2] b
     Runs s 5 0x0100 (run b) ∧ firstFail (s.translateChecks (run b) ++ s.lanes (run b)) = none) ∧
    (let b := solo 0x0101 (pinLight 1 4 0 false [0, 0, 0xFF, 0xFF, 0xFF, 0xFF]) 1 2; let s := svc [pinKey, lab "V1" "T" 16 "V" 2] b
     Runs s 5 0x0101 (run b) ∧ firstFail (s.referenceChecks { refOffset := true, m3624 := true } "VC" (run b) ++ s.lanes (run b)) = none) ∧
    (let b := solo 0x0102 (pinLight 1 4 1 true []) 1 2; let s := svc [pinKey, lab "V2" "T" 16 "V" 2] b
     Runs s 5 0x0102 (run b) ∧ firstFail (s.referenceChecks { refPvv := true, mPvv := true } "VC" (run b) ++ s.lanes (run b)) = none) ∧
    (let b := solo 0x0103 (pinLight 1 4 0 false []) 1 2; let s := svc [pinKey, lab "V1" "T" 16 "G" 2] b
     Runs s 5 0x0103 (run b) ∧ firstFail (s.referenceChecks { m3624 := true } "GC" (run b) ++ s.lanes (run b)) = none) ∧
    (let b := solo 0x0104 (pinLight 1 4 6 true []) 1 2; let s := svc [pinKey, lab "V2" "T" 16 "G" 2] b
     Runs s 5 0x0104 (run b) ∧ firstFail (s.referenceChecks { mPvv := true } "GC" (run b) ++ s.lanes (run b)) = none) ∧
    (let b := solo 0x0105 (pinLight 1 12 0 false (zeros 6)) 1 2; let s := svc [pinKey, lab "V1" "T" 16 "C" 2] b
     Runs s 5 0x0105 (run b) ∧ firstFail (s.referenceChecks { refOffset := true, m3624 := true, change := true } "C" (run b) ++ s.lanes (run b)) = none) ∧
    (let b := solo 0x0106 (pinLight 1 4 1 true []) 1 2; let s := svc [pinKey, lab "V2" "T" 16 "C" 2] b
     Runs s 5 0x0106 (run b) ∧ firstFail (s.referenceChecks { refPvv := true, mPvv := true, change := true } "C" (run b) ++ s.lanes (run b)) = none) ∧
    (let b := solo 0x0107 (pinLight 0x10 4 0 false []); let s := svc [pinKey, lab "P0" "T" 16 "B" 2] b
     Runs s 5 0x0107 (run b) ∧ firstFail (s.pinGenerateChecks (run b) ++ s.lanes (run b)) = none) ∧
    (let b := solo 0x0108 (pinLight 1 0 0 false []) 1 2; let s := svc [pinKey, lab "50" "A" 32 "E" 2] b
     Runs s 5 0x0108 (run b) ∧ firstFail (s.mailerChecks (run b) ++ s.lanes (run b)) = none) := by
  refine ⟨⟨⟨rfl, .inr rfl, rfl⟩, ?_⟩, ⟨⟨rfl, .inr rfl, rfl⟩, ?_⟩, ⟨⟨rfl, .inr rfl, rfl⟩, ?_⟩, ⟨⟨rfl, .inr rfl, rfl⟩, ?_⟩, ⟨⟨rfl, .inr rfl, rfl⟩, ?_⟩,
    ⟨⟨rfl, .inr rfl, rfl⟩, ?_⟩, ⟨⟨rfl, .inr rfl, rfl⟩, ?_⟩, ⟨⟨rfl, .inr rfl, rfl⟩, ?_⟩, ⟨⟨rfl, .inr rfl, rfl⟩, ?_⟩⟩
  · exact pass_append (pass_append (pass_append (keys12 _ _ _ _ _ (by decide) (by decide) (by decide)) (by decide +kernel)) (by decide +kernel))
      (by decide +kernel)
  all_goals
    exact pass_append (pass_append (keys12 _ _ _ _ _ (by decide) (by decide) (by decide)) (by decide +kernel)) (by decide +kernel)

/-- The second label where a service takes one key. -/
def spare : KLabel := lab "K1" "T" 16 "B" 2

/-- A card lighter: a PAN of 12 zeros, then its bytes from 11 on. -/
def cardLight (rest : Bytes) : Bytes := zeros 6 ++ List.replicate 4 0xFF ++ [12] ++ rest

/-- The card and DUKPT services of PinAndCardServicesAnswer. -/
theorem witness_CardServices :
    (let b := solo 0x0200 (cardLight [2]); let s := svc [lab "C0" "T" 16 "G" 1, spare] b
     Runs s 5 0x0200 (run b) ∧ firstFail (s.cvvChecks false (run b) ++ s.lanes (run b)) = none) ∧
    (let b := solo 0x0201 (cardLight [1, 0, 0, 0, 0, 0, 0x0F]); let s := svc [lab "C0" "T" 16 "V" 1, spare] b
     Runs s 5 0x0201 (run b) ∧ firstFail (s.cvvChecks true (run b) ++ s.lanes (run b)) = none) ∧
    (let b := solo 0x0202 (cardLight ([0, 1, 3] ++ zeros 9 ++ [0x0F, 0xFF])); let s := svc [lab "E4" "T" 16 "X" 1, spare] b
     Runs s 5 0x0202 (run b) ∧ firstFail (s.cvc3Checks (run b) ++ s.lanes (run b)) = none) ∧
    (let b := solo 0x0300 [] 1 2; let s := svc [lab "B0" "T" 16 "X" 1, spare] b
     Runs s 5 0x0300 (run b) ∧ firstFail (s.dukptExportChecks (run b) ++ s.lanes (run b)) = none) ∧
    (let b := solo 0x0301 (zeros 28 ++ [1, 1] ++ zeros 11 ++ [1]) 1 2; let s := svc [lab "B0" "T" 16 "X" 1, lab "P0" "T" 16 "E" 2] b
     Runs s 5 0x0301 (run b) ∧ firstFail (s.dukptPinChecks (run b) ++ s.lanes (run b)) = none) ∧
    (let b := solo 0x0302 (zeros 28 ++ [4, 0, 1] ++ zeros 10 ++ [1]); let s := svc [lab "B0" "T" 16 "X" 1, spare] b
     Runs s 5 0x0302 (run b) ∧ firstFail (s.dukptMacChecks (run b) ++ s.lanes (run b)) = none) := by
  refine ⟨⟨⟨rfl, .inr rfl, rfl⟩, ?_⟩, ⟨⟨rfl, .inr rfl, rfl⟩, ?_⟩, ⟨⟨rfl, .inr rfl, rfl⟩, ?_⟩, ⟨⟨rfl, .inr rfl, rfl⟩, ?_⟩, ⟨⟨rfl, .inr rfl, rfl⟩, ?_⟩,
    ⟨⟨rfl, .inr rfl, rfl⟩, ?_⟩⟩
  all_goals
    exact pass_append (pass_append (keys12 _ _ _ _ _ (by decide) (by decide) (by decide)) (by decide +kernel)) (by decide +kernel)

/-- An EMV lighter of a PAN of 12 zeros, by its bytes 24 to 27. -/
def emvLight (tail : Bytes) : Bytes := cardLight (zeros 13) ++ tail

/-- A barge with an input of n bytes and room for m. -/
def buffered (op : Nat) (lights : Bytes) (n m : Nat) : Barge :=
  { barge op 5 0 1 0 lights with p2 := BitVec.ofNat 64 (2 ^ 32 * m + n) }

/-- The services of DataServicesAnswer. -/
theorem witness_DataServices :
    (let b := solo 0x0400 (emvLight [0, 1, 1]); let s := svc [lab "E0" "T" 16 "X" 1, spare] b
     Runs s 5 0x0400 (run b) ∧ firstFail (s.arqcChecks false (run b) ++ s.lanes (run b)) = none) ∧
    (let b := solo 0x0401 (emvLight [1, 2, 128]); let s := svc [lab "E0" "T" 16 "X" 1, spare] b
     Runs s 5 0x0401 (run b) ∧ firstFail (s.arqcChecks true (run b) ++ s.lanes (run b)) = none) ∧
    (let b := solo 0x0402 (emvLight [0, 0, 0, 8]); let s := svc [lab "E2" "T" 16 "X" 1, spare] b
     Runs s 5 0x0402 (run b) ∧ firstFail (s.scriptChecks true (run b) ++ s.lanes (run b)) = none) ∧
    (let b := buffered 0x0403 (emvLight []) 1 8; let s := svc [lab "E1" "T" 16 "X" 1, spare] b [7]
     Runs s 5 0x0403 (run b [7]) ∧ (run b [7]).fits (scriptLen true 1) = true ∧ firstFail (s.scriptChecks false (run b [7]) ++ s.lanes (run b [7])) = none) ∧
    (let b := buffered 0x0403 (emvLight []) 8 8; let s := svc [lab "E1" "T" 16 "X" 1, spare] b (zeros 8)
     Runs s 5 0x0403 (run b (zeros 8)) ∧ (run b (zeros 8)).fits (scriptLen true 8) = false ∧ firstFail (s.scriptChecks false (run b (zeros 8))) = none) ∧
    (let b := solo 0x0500 [3, 1, 8]; let s := svc [lab "M3" "T" 16 "G" 1, spare] b
     Runs s 5 0x0500 (run b) ∧ s.macWaits (run b) = false ∧ le 2 1 ((run b).lighter 0) ≤ 16 ∧
       firstFail (s.macChecks false (run b) ++ s.macUnits (run b)) = none) ∧
    (let b := solo 0x0500 [8, 0, 16]; let s := svc [lab "M7" "H" 32 "C" 1, spare] b
     Runs s 5 0x0500 (run b) ∧ s.macWaits (run b) = true ∧ le 2 1 ((run b).lighter 0) ≤ 16) ∧
    (let b := solo 0x0501 [8, 0, 16]; let s := svc [lab "M7" "H" 32 "C" 1, spare] b
     Runs s 5 0x0501 (run b) ∧ s.macWaits (run b) = true) ∧
    (let b := solo 0x0500 [8, 0, 17]; let s := svc [lab "M7" "H" 16 "G" 1, spare] b
     Runs s 5 0x0500 (run b) ∧ 16 < le 2 1 ((run b).lighter 0) ∧ (run b).fits 17 = false ∧ firstFail (s.macChecks false (run b)) = none) ∧
    (let b := solo 0x0501 [3, 2, 4]; let s := svc [lab "M3" "T" 16 "V" 1, spare] b
     Runs s 5 0x0501 (run b) ∧ s.macWaits (run b) = false ∧ firstFail (s.macChecks true (run b) ++ s.macUnits (run b)) = none) ∧
    (let b := buffered 0x0600 [] 8 8; let s := svc [lab "D0" "T" 16 "E" 1, spare] b (zeros 8)
     Runs s 5 0x0600 (run b (zeros 8)) ∧ (run b (zeros 8)).fits (cipherLen true (run b (zeros 8))) = true ∧
       firstFail (s.cipherChecks true (run b (zeros 8)) ++ s.lanes (run b (zeros 8))) = none) ∧
    (let b := buffered 0x0601 [] 8 7; let s := svc [lab "D0" "T" 16 "D" 1, spare] b (zeros 8)
     Runs s 5 0x0601 (run b (zeros 8)) ∧ (run b (zeros 8)).fits (cipherLen false (run b (zeros 8))) = false ∧
       firstFail (s.cipherChecks false (run b (zeros 8)) ++ s.lanes (run b (zeros 8))) = none) ∧
    (let b := buffered 0x0601 [3] 8 8; let s0 := svc [lab "D0" "A" 16 "D" 1, spare] b (zeros 8)
     let s : State := s0.setCore 5 { s0.coreAt 5 with heldSt := .zeroing }
     Runs s0 5 0x0601 (run b (zeros 8)) ∧ Runs s 5 0x0601 (run b (zeros 8)) ∧ le 0 1 ((run b (zeros 8)).lighter 0) = 3 ∧
       (run b (zeros 8)).fits (cipherLen false (run b (zeros 8))) = true ∧ (s0.coreAt 5).heldSt ≠ .zeroing ∧ (s.coreAt 5).heldSt = .zeroing) := by
  refine ⟨⟨⟨rfl, .inr rfl, rfl⟩, ?_⟩, ⟨⟨rfl, .inr rfl, rfl⟩, ?_⟩, ⟨⟨rfl, .inr rfl, rfl⟩, ?_⟩, ⟨⟨rfl, .inr rfl, rfl⟩, rfl, ?_⟩,
    ⟨⟨rfl, .inr rfl, rfl⟩, rfl, ?_⟩, ⟨⟨rfl, .inr rfl, rfl⟩, by decide +kernel, by decide +kernel, ?_⟩,
    ⟨⟨rfl, .inr rfl, rfl⟩, by decide +kernel, by decide +kernel⟩, ⟨⟨rfl, .inr rfl, rfl⟩, by decide +kernel⟩,
    ⟨⟨rfl, .inr rfl, rfl⟩, by decide +kernel, rfl, ?_⟩, ⟨⟨rfl, .inr rfl, rfl⟩, by decide +kernel, ?_⟩, ⟨⟨rfl, .inr rfl, rfl⟩, rfl, ?_⟩,
    ⟨⟨rfl, .inr rfl, rfl⟩, rfl, ?_⟩, ⟨rfl, .inr rfl, rfl⟩, ⟨rfl, .inr rfl, rfl⟩, by decide +kernel, by decide +kernel, by decide, by decide⟩
  all_goals
    first
    | exact pass_append (pass_append (pass_append (keys12 _ _ _ _ _ (by decide) (by decide) (by decide)) (by decide +kernel)) (by decide +kernel))
        (by decide +kernel)
    | exact pass_append (pass_append (keys12 _ _ _ _ _ (by decide) (by decide) (by decide)) (by decide +kernel)) (by decide +kernel)

theorem witness_KeylessDataServices :
    (let b := { barge 0x0A00 with p0 := 16 }; let s := svc [] b
     Runs s 5 0x0A00 (run b) ∧ firstFail (s.randomChecks (run b)) = none) ∧
    (let b := barge 0x0B00 1 0 0 0 [8, 0, 16]; let s := powered (svc [] b)
     Runs s 5 0x0B00 (run b) ∧ s.freeEngines (le 0 1 ((run b).lighter 0)) ≠ [] ∧ hashLen ((run b).lighter 0) ≤ 16 ∧
       firstFail (s.hashChecks (run b)) = none) ∧
    (let b := barge 0x0B00 1 0 0 0 [8, 0, 16]; let s := svc [] b
     Runs s 5 0x0B00 (run b) ∧ s.freeEngines (le 0 1 ((run b).lighter 0)) = []) ∧
    (let b := barge 0x0B00 1 0 0 0 [2, 0, 64]; let s := svc [] b
     Runs s 5 0x0B00 (run b) ∧ 16 < hashLen ((run b).lighter 0) ∧ (run b).fits (hashLen ((run b).lighter 0)) = false ∧ firstFail (s.hashChecks (run b)) = none) ∧
    (let b := barge 0x0F10 1 0 0 0 [63]; let s := svc [] b
     Runs s 5 0x0F10 (run b) ∧ s.ctxsOn 63 = [] ∧
       firstFail (diagChecks (run b) (decide (diagUnit (run b) < 68) && decide ((s.laneAt (diagUnit (run b))).st ≠ .diag))) = none) ∧
    (let b := barge 0x0F11 1 0 0 0 [7]; let s := svc [] b
     Runs s 5 0x0F11 (run b) ∧ (s.engAt 7).holder = none ∧ firstFail (diagChecks (run b)
       ((isKeccak (diagUnit (run b)) || isSha2 (diagUnit (run b))) && decide ((s.engAt (diagUnit (run b))).st ≠ .diag))) = none) ∧
    (let b := barge 0x0F12 1 0 0 0 [23]; let s := svc [] b
     Runs s 5 0x0F12 (run b) ∧ s.jobsOn 23 = [] ∧ (s.tileAt 23).clearing = [] ∧
       firstFail (diagChecks (run b) (decide (diagUnit (run b) < 26) && decide ((s.tileAt (diagUnit (run b))).st ≠ .diag))) = none) :=
  ⟨⟨⟨rfl, .inr rfl, rfl⟩, by decide +kernel⟩, ⟨⟨rfl, .inr rfl, rfl⟩, by decide +kernel⟩, ⟨⟨rfl, .inr rfl, rfl⟩, by decide +kernel⟩,
    ⟨⟨rfl, .inr rfl, rfl⟩, by decide +kernel⟩, ⟨⟨rfl, .inr rfl, rfl⟩, by decide +kernel⟩, ⟨⟨rfl, .inr rfl, rfl⟩, by decide +kernel⟩,
    ⟨⟨rfl, .inr rfl, rfl⟩, by decide +kernel⟩⟩

/-- A new-label lighter: a target of tenant 0 and a label's template. -/
def asked (l : KLabel) : Bytes := toLE 8 (2 ^ 28 + 2 ^ 12) ++ ({ l with handle := 0, chainLen := 0 } : KLabel).bytes

/-- A barge with PERMIT 1 and two handles. -/
def permitted (op : Nat) (lights : Bytes) (h0 : Nat := 0) (h1 : Nat := 0) : Barge := barge op 1 1 h0 h1 lights

/-- A claimed permit. -/
def claimed : Option (Nat × Permit) := some (0, perm)

/-- A session of component entry with its two components. -/
def comps : CompSession := ⟨1, 0, lab "D0" "A" 16 "B" (2 ^ 28 + 2 ^ 12), 1, 2, 2 ^ 40, 2, [zeros 16, zeros 16], zeros 56⟩

/-- The key services of KeyServicesAnswer. Where a key block or a token must verify, Config's uninterpreted checks decide. -/
theorem witness_KeyServices :
    (let b := permitted 0x0700 (asked (lab "D0" "A" 16 "B" 0)); let s := svc [] b [] claimed
     Runs s 5 0x0700 (run b) ∧ Permitted s (run b) 0x0001 false (some perm) s ∧ firstFail (s.keyGenerateChecks (run b) ++ s.lanes (run b)) = none) ∧
    (let b := permitted 0x0701 [] 1; let s := svc [lab "K1" "A" 32 "D" 1, spare] b [] claimed
     Runs s 5 0x0701 (run b) ∧ (run b).b.h0 ≠ 0 ∧ Permitted s (run b) 0x0002 false (some perm) s) ∧
    (let b := permitted 0x0702 [0, 0] 1 2; let s := svc [lab "D0" "A" 16 "B" 1, lab "K1" "A" 32 "E" 2] b [] claimed
     Runs s 5 0x0702 (run b) ∧ Permitted s (run b) (exportAction (s.labelOf 1).exportability) false (some perm) s ∧
       firstFail (s.keyExportChecks (run b) ++ s.lanes (run b)) = none) ∧
    (let b := permitted 0x0703 [] 1 2; let s := svc [lab "K1" "A" 32 "D" 1, lab "K1" "A" 32 "E" 2] b [] claimed
     Runs s 5 0x0703 (run b) ∧ Permitted s (run b) (exportAction (headLabel []).exportability) false (some perm) s) ∧
    (let b : Barge := barge 0x0704 0 0 1; let s := svc [lab "D0" "A" 16 "B" 1, spare] b
     Runs s 5 0x0704 (run b) ∧ firstFail (s.keyCheckChecks (run b) ++ s.lanes (run b)) = none) ∧
    (let b : Barge := { barge 0x0705 5 1 0 0 (asked (lab "D0" "A" 16 "B" 0)) with p2 := BitVec.ofNat 64 (2 ^ 32 * 56 + 1) }
     let s := svc [] b [2] claimed
     Runs s 5 0x0705 (run b [2]) ∧ Permitted s (run b [2]) 0x0005 false (some perm) s ∧ s.adm.comps.countP (fun c => decide (s.now ≤ c.notAfter)) < 16 ∧
       (run b [2]).fits 56 = true ∧ firstFail (s.componentOpenChecks (run b [2])) = none) ∧
    (let b : Barge := { barge 0x0706 4 with p2 := 4 }; let s : State := { svc [] b [1, 0, 0, 0] with adm := { comps := [comps] } }
     Runs s 5 0x0706 (run b [1, 0, 0, 0]) ∧ s.componentFor (run b [1, 0, 0, 0]) = some comps) ∧
    (let b : Barge := { barge 0x0707 with p0 := 1 }; let s : State := { svc [] b with adm := { comps := [comps] } }
     Runs s 5 0x0707 (run b) ∧ s.componentToClose (run b) = some comps ∧ firstFail (s.componentCloseChecks (run b) ++ s.lanes (run b)) = none) ∧
    (let b := permitted 0x0708 [] 1; let s := svc [lab "D0" "A" 16 "B" 1, spare] b [] claimed
     Runs s 5 0x0708 (run b) ∧ Permitted s (run b) 0x0006 false (some perm) s ∧ firstFail (s.keyDeleteChecks (run b)) = none) ∧
    (let b := permitted 0x0709 [] 1 2; let s := svc [lab "D1" "R" 8 "D" 1, lab "S1" "R" 8 "V" 2] b [] claimed
     Runs s 5 0x0709 (run b) ∧ Permitted s (run b) 0x0007 false (some perm) s) ∧
    (let b : Barge := { permitted 0x070A [] 1 2 with h2 := 2 }; let s := svc [lab "K1" "A" 32 "B" 1, lab "S0" "R" 8 "S" 2] b [] claimed
     Runs s 5 0x070A (run b) ∧ (run b).b.h2 ≠ 0 ∧ Permitted s (run b) (exportAction (s.labelOf 1).exportability) false (some perm) s) := by
  have k (a a' : KLabel) (b : Barge) (action : Nat) (ha) (ha') (hb) (hn) (hq) := permitted12 a a' b [] action ha ha' hb hn hq
  refine ⟨⟨⟨rfl, .inr rfl, rfl⟩, ⟨rfl, rfl, rfl⟩, by decide +kernel⟩,
    ⟨⟨rfl, .inr rfl, rfl⟩, by decide, k _ _ _ _ (by decide) (by decide) (by decide) rfl rfl⟩,
    ⟨⟨rfl, .inr rfl, rfl⟩, k _ _ _ _ (by decide) (by decide) (by decide) rfl rfl, by decide +kernel⟩,
    ⟨⟨rfl, .inr rfl, rfl⟩, k _ _ _ _ (by decide) (by decide) (by decide) rfl ?_⟩,
    ⟨⟨rfl, .inr rfl, rfl⟩, pass_append (pass_append (keys12 _ _ _ _ _ (by decide) (by decide) (by decide)) (by decide +kernel)) (by decide +kernel)⟩,
    ⟨⟨rfl, .inr rfl, rfl⟩, ⟨rfl, rfl, rfl⟩, by decide +kernel⟩, ⟨⟨rfl, .inr rfl, rfl⟩, by decide +kernel⟩, ⟨⟨rfl, .inr rfl, rfl⟩, by decide +kernel⟩,
    ⟨⟨rfl, .inr rfl, rfl⟩, k _ _ _ _ (by decide) (by decide) (by decide) rfl rfl, by decide +kernel⟩,
    ⟨⟨rfl, .inr rfl, rfl⟩, k _ _ _ _ (by decide) (by decide) (by decide) rfl rfl⟩,
    ⟨⟨rfl, .inr rfl, rfl⟩, by decide, k _ _ _ _ (by decide) (by decide) (by decide) rfl rfl⟩⟩
  unfold exportAction
  split <;> rfl

/-- A required handle that is zero (KeyServicesAnswer), and outputs that do not fit (AsymmetricServicesAnswer, AdminAndAuditServicesAnswer). -/
theorem witness_ServiceRefusals :
    (∀ op ∈ [0x0701, 0x0702, 0x0703, 0x0708, 0x0709, 0x070A],
      Runs (svc [] (barge op 0 1) [] none) 5 op (run (barge op 0 1)) ∧ (run (barge op 0 1)).b.h0 = 0) ∧
    (let b : Barge := barge 0x0800 6 1 0 0 (zeros 64 ++ asked (lab "S0" "E" 5 "S" 0)); let s := svc [] b [] claimed; let l := labelNext (run b)
     Runs s 5 0x0800 (run b) ∧ Permitted s (run b) 0x0001 false (some perm) s ∧ (run b).fits (pubLen l.alg l.size) = false) ∧
    (let b : Barge := barge 0x0C61 5 1; Runs (svc [] b) 5 0x0C61 (run b) ∧ (run b).fits 202 = false) :=
  ⟨fun op _ => ⟨runs_any op none, rfl⟩, ⟨⟨rfl, .inr rfl, rfl⟩, ⟨rfl, rfl, rfl⟩, by decide +kernel⟩, ⟨⟨rfl, .inr rfl, rfl⟩, by decide +kernel⟩⟩

/-- An Ed448 signing key of one link per part. -/
def edKey : KLabel := { lab "S0" "E" 5 "S" 1 with chainLen := 1 }

/-- The asymmetric services of AsymmetricServicesAnswer: that each runs, its permit holds and its output fits; the checks of those whose
operands no uninterpreted function decides pass. -/
theorem witness_AsymmetricServices :
    (let b : Barge := { barge 0x0800 6 1 0 0 (zeros 64 ++ asked (lab "S0" "E" 5 "S" 0)) with p2 := BitVec.ofNat 64 (2 ^ 32 * 57) }
     let s := svc [] b [] claimed; let r := run b; let l := labelNext r
     Runs s 5 0x0800 r ∧ Permitted s r 0x0001 false (some perm) s ∧ r.fits (pubLen l.alg l.size) = true ∧
       firstFail (keygenChecks ["R", "E"] r ++ s.placeSteps l.handle (chainLenOf l.alg l.size) ++ s.tiles r false true) = none) ∧
    (let b : Barge := { barge 0x0900 6 1 0 0 (zeros 64 ++ asked (lab "S0" "Q" 1 "S" 0)) with p2 := BitVec.ofNat 64 (2 ^ 32 * 1952) }
     let s := svc [] b [] claimed; let r := run b; let l := labelNext r
     Runs s 5 0x0900 r ∧ Permitted s r 0x0001 false (some perm) s ∧ r.fits (pubLen l.alg l.size) = true ∧
       firstFail (keygenChecks ["M", "Q"] r ++ s.placeSteps l.handle (chainLenOf l.alg l.size) ++ s.tiles r false true) = none) ∧
    (let b : Barge := { solo 0x0801 [] with flags := 5, p2 := BitVec.ofNat 64 (2 ^ 32 * 57) }; let s := svc [edKey, spare] b; let r := run b
     Runs s 5 0x0801 r ∧ r.fits (pubLen (s.labelOf 1).alg (s.labelOf 1).size) = true ∧ firstFail (s.pubkeyChecks r ++ s.tiles r true false) = none) ∧
    (let b : Barge := { solo 0x0802 [6] with flags := 5, p2 := BitVec.ofNat 64 (2 ^ 32 * 114) }; let s := svc [edKey, spare] b; let r := run b
     Runs s 5 0x0802 r ∧ r.fits (sigLen (s.labelOf 1).alg (s.labelOf 1).size) = true ∧
       firstFail (s.signChecks ["S0", "S1"] [rsaKeys, edKeys, dsaKeys] r ++ (asymArgs (r.lighter 0)).selectors [1, 2, 4, 5, 6] false (s.labelOf 1)
         ++ s.tiles r true false) = none) ∧
    (let b : Barge := { solo 0x0903 [17] with flags := 5, p2 := BitVec.ofNat 64 (2 ^ 32 * 3309) }; let s := svc [lab "S0" "Q" 1 "S" 1, spare] b
     let r := run b
     Runs s 5 0x0903 r ∧ r.fits (sigLen (s.labelOf 1).alg (s.labelOf 1).size) = true ∧
       firstFail (s.signChecks ["S0"] [dsaKeys] r ++ (asymArgs (r.lighter 0)).selectors [17] false (s.labelOf 1) ++ s.tiles r true false) = none) ∧
    (let b := solo 0x0803 []; let s := svc [edKey, spare] b; Runs s 5 0x0803 (run b)) ∧
    (let b := solo 0x0904 []; let s := svc [edKey, spare] b; Runs s 5 0x0904 (run b)) ∧
    (let b : Barge := { solo 0x0804 [3] with flags := 5, p2 := BitVec.ofNat 64 (2 ^ 32 * 256) }; let s := svc [lab "D1" "R" 8 "E" 1, spare] b; let r := run b
     let k := s.pubKey r (asymArgs (r.lighter 0))
     Runs s 5 0x0804 r ∧ r.fits (if rsaKnown (asymArgs (r.lighter 0)) k then 32 * k.size else 0) = true ∧
       firstFail (s.rsaEncryptChecks r ++ s.rsaEncryptRange r ++ s.tiles r (!k.given) false) = none) ∧
    (let b := solo 0x0805 [3]; let s := svc [lab "D1" "R" 8 "D" 1, spare] b; Runs s 5 0x0805 (run b)) ∧
    (let b := solo 0x0806 [7]; let s := svc [lab "K3" "E" 6 "N" 1, spare] b; Runs s 5 0x0806 (run b)) ∧
    (let b := barge 0x0901 5; let s := svc [] b; let a := asymArgs ((run b).lighter 0)
     Runs s 5 0x0901 (run b) ∧ (run b).fits (if a.keySize = 1 ∨ a.keySize = 2 then kemLen a.keySize else 0) = true) ∧
    (let b := solo 0x0902 [16]; let s := svc [lab "52" "M" 1 "N" 1, spare] b; Runs s 5 0x0902 (run b)) ∧
    (let b : Barge := { barge 0x0D00 5 with p2 := BitVec.ofNat 64 (2 ^ 32 * 4096) }; let s := svc [] b
     Runs s 5 0x0D00 (run b) ∧ firstFail (attestChecks (run b) ++ s.tiles (run b) false false) = none) ∧
    (let b := barge 0x0D01 1 0 0 0 [1]; let s := svc [] b; Runs s 5 0x0D01 (run b) ∧ firstFail (certChecks (run b)) = none) ∧
    (let b := solo 0x0801 []; let s := svc [edKey, spare] b; Runs s 5 0x0801 (run b) ∧ (run b).fits (pubLen (s.labelOf 1).alg (s.labelOf 1).size) = false) := by
  refine ⟨⟨⟨rfl, .inr rfl, rfl⟩, ⟨rfl, rfl, rfl⟩, by decide +kernel⟩, ⟨⟨rfl, .inr rfl, rfl⟩, ⟨rfl, rfl, rfl⟩, by decide +kernel⟩,
    ⟨⟨rfl, .inr rfl, rfl⟩, by decide +kernel, ?_⟩, ⟨⟨rfl, .inr rfl, rfl⟩, by decide +kernel, ?_⟩, ⟨⟨rfl, .inr rfl, rfl⟩, by decide +kernel, ?_⟩,
    ⟨rfl, .inr rfl, rfl⟩, ⟨rfl, .inr rfl, rfl⟩, ⟨⟨rfl, .inr rfl, rfl⟩, by decide +kernel, ?_⟩, ⟨rfl, .inr rfl, rfl⟩, ⟨rfl, .inr rfl, rfl⟩,
    ⟨⟨rfl, .inr rfl, rfl⟩, by decide +kernel⟩, ⟨rfl, .inr rfl, rfl⟩, ⟨⟨rfl, .inr rfl, rfl⟩, by decide +kernel⟩,
    ⟨⟨rfl, .inr rfl, rfl⟩, by decide +kernel⟩, ⟨⟨rfl, .inr rfl, rfl⟩, by decide +kernel⟩⟩
  · exact pass_append (pass_append (keys12 _ _ _ _ _ (by decide) (by decide) (by decide)) (by decide +kernel)) (by decide +kernel)
  · exact pass_append (pass_append (pass_append (keys12 _ _ _ _ _ (by decide) (by decide) (by decide)) (by decide +kernel)) (by decide +kernel))
      (by decide +kernel)
  · exact pass_append (pass_append (pass_append (keys12 _ _ _ _ _ (by decide) (by decide) (by decide)) (by decide +kernel)) (by decide +kernel))
      (by decide +kernel)
  · exact pass_append (pass_append (pass_append (keys12 _ _ _ _ _ (by decide) (by decide) (by decide)) (by decide +kernel)) (by decide +kernel))
      (by decide +kernel)
/-- The barge of an opcode with a permit number, without handles or lighters, run in a state changed by `f`. -/
def plain (op : Nat) (f : State → State := id) (no : Nat := 1) : State := f (svc [] (barge op 0 no) [] claimed)

/-- Its run. -/
def asks (op : Nat) (no : Nat := 1) : Run := run (barge op 0 no)

/-- A head of a cluster of two. -/
def headed (s : State) : State := { s with cfg := { s.cfg with cluster := some pair }, brv := { s.brv with st := .member, live := 3 } }

/-- The run whose members have been asked. -/
def askedRun (op : Nat) (asked : List Nat × List Comp) : Run := ⟨5, 3, { entry (barge op 0 0) (.running 5) with asked := some asked }, [], {}, 0, 0⟩

/-- A state in which that barge runs. -/
def askedState (op : Nat) (asked : List Nat × List Comp) : State :=
  headed { svc [] (barge op 0 0) with lkm := { tbl := [(3, (askedRun op asked).e)] } }

/-- A CLUSTER_RELAY of AUDIT_STATUS to a device. -/
def relayBarge (d : BitVec 8) (b1 : BitVec 8 := 0) : Barge :=
  barge 0x0E01 2 0 0 0 ([d, b1] ++ zeros 62 ++ [0, 0, 0, 0, 2, 0, 0x63, 0x0C] ++ zeros 56)

/-- A SERVICE device whose officers 1 and 2 are ACTIVE, with the permit lodged and not yet claimed; the barge is an OFFICER_REVOKE. -/
def lodged : State :=
  { svc [] (barge 0x0C21 0 1) with
    adm := { permits := [(0, { perm with action := 0x0021 })], officers := [(1, ⟨0, 1, [], .active⟩), (2, ⟨0, 1, [], .active⟩)] } }

/-- The services of AdminAndAuditServicesAnswer. -/
theorem witness_AdminAndAuditServices :
    (let s := plain 0x0C00 id 0; Runs s 5 0x0C00 (asks 0x0C00 0) ∧ (asks 0x0C00 0).b.permit = 0) ∧
    (let s := plain 0x0C01; let r := asks 0x0C01; Runs s 5 0x0C01 r ∧ r.e.asked = none ∧ s.isHead = false) ∧
    (let s := plain 0x0C01 headed; let r := asks 0x0C01
     Runs s 5 0x0C01 r ∧ r.e.asked = none ∧ s.isHead = true ∧ r.e.origin = none ∧ s.otherMembers ≠ []) ∧
    (let r := askedRun 0x0C01 ([], [comp]); Runs (askedState 0x0C01 ([], [comp])) 5 0x0C01 r ∧ r.e.asked = some ([], [comp])) ∧
    (∀ op action, (op, action) ∈ [(0x0C10, 0x0010), (0x0C11, 0x0011), (0x0C12, 0x0012)] →
      Runs (plain op) 5 op (asks op) ∧ Permitted (plain op) (asks op) action true (some perm) (plain op)) ∧
    (let s : State := { up with adm := { tenants := [(4, { st := .deleting })] } }; (s.tenantAt 4).st = .deleting) ∧
    (∀ op action, (op, action) ∈ [(0x0C20, 0x0020), (0x0C21, 0x0021), (0x0C30, 0x0030)] →
      Runs (plain op) 5 op (asks op) ∧ Permitted (plain op) (asks op) action false (some perm) (plain op)) ∧
    (let s := plain 0x0C40; Runs s 5 0x0C40 (asks 0x0C40) ∧ s.isHead = false) ∧
    (let alone (s : State) : State := { headed s with brv := { st := .member, live := 1 } }
     let s := plain 0x0C40 alone; let r := asks 0x0C40
     Runs s 5 0x0C40 r ∧ r.e.asked = none ∧ s.isHead = true ∧ r.e.origin = none ∧ s.otherMembers = []) ∧
    (let s := plain 0x0C40 headed; let r := asks 0x0C40
     Runs s 5 0x0C40 r ∧ r.e.asked = none ∧ s.isHead = true ∧ r.e.origin = none ∧ s.otherMembers ≠ []) ∧
    (let s := askedState 0x0C40 ([], [comp]); let r := askedRun 0x0C40 ([], [comp])
     Runs s 5 0x0C40 r ∧ r.e.asked = some ([], [comp]) ∧ s.isHead = true ∧ r.e.origin = none) ∧
    (∀ op ∈ [0x0C60, 0x0C61, 0x0C63, 0x0E00], Runs (plain op) 5 op (asks op)) ∧
    (let b : Barge := { barge 0x0C61 5 1 with p2 := BitVec.ofNat 64 (2 ^ 32 * 202) }
     Runs (svc [] b) 5 0x0C61 (run b) ∧ (run b).fits 202 = true) ∧
    (let f (s : State) : State := { s with log := { s.log with seals := [⟨0, 1, 5, true⟩] } }
     let s := plain 0x0C62 f; let r := asks 0x0C62
     Runs s 5 0x0C62 r ∧ Permitted s r 0x0040 true (some perm) s ∧ s.sealNamed r = some ⟨0, 1, 5, true⟩) ∧
    (let b := relayBarge 1; let s := svc [] b; s.runOf 5 0x0E01 {} = some (run b) ∧ s.relayFails (run b) = some stDeviceLost) ∧
    (let b := relayBarge 0; let s := headed (svc [] b)
     s.runOf 5 0x0E01 {} = some (run b) ∧ s.relayFails (run b) = none ∧ le 0 1 ((run b).lighter 0) = s.index ∧
      relayed (relayInner b).opcode = some auditStatusSvc) ∧
    (let b := relayBarge 1; let s := headed (svc [] b)
     s.runOf 5 0x0E01 {} = some (run b) ∧ s.relayFails (run b) = none ∧ le 0 1 ((run b).lighter 0) ≠ s.index) ∧
    ((askedState 0x0E01 ([], [comp])).runOf 5 0x0E01 {} = some (askedRun 0x0E01 ([], [comp]))) ∧
    (let r := asks 0x0C21; let q : Permit := { perm with action := 0x0021 }
     lodged.runOf 5 0x0C21 {} = some r ∧ r.b.permit ≠ 0 ∧ ((lodged.quorumOf 0x0021).getD ⟨0, 0, 0⟩).signers ≠ 0 ∧
      (lodged.coreAt r.core).claimed = none ∧
      lodged.adm.permits.find? (fun x => x.1 == r.tenant && x.2.no == r.b.permit) = some (r.tenant, q) ∧ q.action = 0x0021 ∧
      q.scopeKind = 0 ∧ q.covers (bargeHandles r.b) = true ∧ allZero q.arg = true ∧ lodged.officerActive q.officerA = true ∧
      lodged.officerActive q.officerB = true ∧ q.notBefore ≤ lodged.now ∧ lodged.now ≤ q.notAfter) := by
  refine ⟨⟨⟨rfl, .inr rfl, rfl⟩, rfl⟩, ⟨⟨rfl, .inr rfl, rfl⟩, rfl, rfl⟩, ⟨⟨rfl, .inr rfl, rfl⟩, rfl, by decide +kernel, rfl, by decide +kernel⟩,
    ⟨⟨rfl, .inr rfl, rfl⟩, rfl⟩, ?_, by decide, ?_, ⟨⟨rfl, .inr rfl, rfl⟩, rfl⟩,
    ⟨⟨rfl, .inr rfl, rfl⟩, rfl, by decide +kernel, rfl, by decide +kernel⟩, ⟨⟨rfl, .inr rfl, rfl⟩, rfl, by decide +kernel, rfl, by decide +kernel⟩,
    ⟨⟨rfl, .inr rfl, rfl⟩, rfl, by decide +kernel, rfl⟩, ?_, ⟨⟨rfl, .inr rfl, rfl⟩, by decide +kernel⟩,
    ⟨⟨rfl, .inr rfl, rfl⟩, ⟨rfl, rfl, rfl⟩, by decide +kernel⟩, ⟨rfl, by decide +kernel⟩, ⟨rfl, by decide +kernel, by decide +kernel, by rw [show (relayInner (relayBarge 0)).opcode = 0x0C63 by decide +kernel]; rfl⟩,
    ⟨rfl, by decide +kernel⟩, rfl, by decide +kernel⟩
  · intro op action h
    simp only [List.mem_cons, Prod.mk.injEq, List.not_mem_nil, or_false] at h
    obtain ⟨rfl, rfl⟩ | ⟨rfl, rfl⟩ | ⟨rfl, rfl⟩ := h <;> exact ⟨⟨rfl, .inr rfl, rfl⟩, rfl, rfl, rfl⟩
  · intro op action h
    simp only [List.mem_cons, Prod.mk.injEq, List.not_mem_nil, or_false] at h
    obtain ⟨rfl, rfl⟩ | ⟨rfl, rfl⟩ | ⟨rfl, rfl⟩ := h <;> exact ⟨⟨rfl, .inr rfl, rfl⟩, rfl, rfl, rfl⟩
  · intro op h
    simp only [List.mem_cons, List.not_mem_nil, or_false] at h
    obtain rfl | rfl | rfl | rfl := h <;> exact ⟨rfl, .inr rfl, rfl⟩

/-- A session of tenant 0, number 0, its chunks all taken or not. -/
def cargo (restore ended : Bool) : CargoSession :=
  ⟨0, 0, restore, 0, 1, 1, zeros 16, some (zeros 32), [(1, zeros 56)], [], 0, 0, ended, [], zeros 80, zeros 56, []⟩

/-- With that session. -/
def withCargo (restore ended : Bool) (s : State) : State := { s with mor := { s.mor with sessions := [cargo restore ended] } }

/-- The services of StoreAndDeviceServicesAnswer. -/
theorem witness_StoreAndDeviceServices :
    (∀ op action, (op, action) ∈ [(0x0C50, 0x0050), (0x0C53, 0x0051)] → (plain op).mor.sessions.length < 4 ∧
      Runs (plain op) 5 op (asks op) ∧ Permitted (plain op) (asks op) action false (some perm) (plain op)) ∧
    (let b : Barge := { barge 0x0C53 4 1 with p2 := BitVec.ofNat 64 (2 ^ 32 * 56) }; let s := svc [] b [] claimed
     Runs s 5 0x0C53 (run b) ∧ Permitted s (run b) 0x0051 false (some perm) s ∧ s.mor.sessions.length < 4 ∧ (run b).fits 56 = true) ∧
    (∀ e ∈ [true, false], Runs (plain 0x0C51 (withCargo false e)) 5 0x0C51 (asks 0x0C51) ∧
      (plain 0x0C51 (withCargo false e)).sessionIn (asks 0x0C51) false = some (cargo false e) ∧ (cargo false e).ended = e) ∧
    (let b : Barge := { barge 0x0C52 4 with p2 := BitVec.ofNat 64 (2 ^ 32 * 306) }; let s := withCargo false true (svc [] b)
     Runs s 5 0x0C52 (run b) ∧ s.sessionIn (run b) false = some (cargo false true) ∧ (run b).fits (194 + 112 * (cargo false true).n) = true) ∧
    (∀ op ∈ [0x0C54, 0x0C55], Runs (plain op (withCargo true false)) 5 op (asks op) ∧
      (plain op (withCargo true false)).sessionIn (asks op) true = some (cargo true false)) ∧
    (let s := plain 0x0C56 (withCargo true true); Runs s 5 0x0C56 (asks 0x0C56) ∧ s.sessionParam (asks 0x0C56) true = some (cargo true true)) ∧
    (let s := withCargo true true (svc [] (barge 0x0C57)); let r := run (barge 0x0C57)
     Runs s 5 0x0C57 r ∧ firstFail (s.sessionEndChecks r) = none) ∧
    (∀ op action, (op, action) ∈ [(0x0C74, 0x0052), (0x0C75, 0x0063), (0x0C78, 0x0065), (0x0C70, 0x0060), (0x0C72, 0x0061), (0x0C73, 0x0062),
        (0x0C76, 0x0064)] →
      Runs (plain op) 5 op (asks op) ∧ Permitted (plain op) (asks op) action true (some perm) (plain op)) ∧
    (plain 0x0C75).kwm.migration = none ∧
    (let f (s : State) : State := { s with kwm := { s.kwm with migration := some (3, 256) } }; let s := plain 0x0C75 f
     Runs s 5 0x0C75 (asks 0x0C75) ∧ Permitted s (asks 0x0C75) 0x0063 true (some perm) s ∧ s.kwm.migration = some (3, 256)) ∧
    (let s : State := { up with pwr := { up.pwr with drydockBy := some 5 } }
     s.pwr.drydockBy = some 5 ∧ s.glb.mode = .service ∧ s.servingOthers = false ∧ s.brv.st = .single) ∧
    (∀ op ∈ [0x0C71, 0x0C77], Runs (plain op) 5 op (asks op)) := by
  refine ⟨?_, ⟨⟨rfl, .inr rfl, rfl⟩, ⟨rfl, rfl, rfl⟩, by decide, by decide +kernel⟩, ?_, ⟨⟨rfl, .inr rfl, rfl⟩, rfl, by decide +kernel⟩, ?_,
    ⟨⟨rfl, .inr rfl, rfl⟩, rfl⟩, ⟨⟨rfl, .inr rfl, rfl⟩, by decide +kernel⟩, ?_, rfl, ⟨⟨rfl, .inr rfl, rfl⟩, ⟨rfl, rfl, rfl⟩, rfl⟩,
    by decide +kernel, ?_⟩
  · intro op action h
    simp only [List.mem_cons, Prod.mk.injEq, List.not_mem_nil, or_false] at h
    obtain ⟨rfl, rfl⟩ | ⟨rfl, rfl⟩ := h <;> exact ⟨by decide, ⟨rfl, .inr rfl, rfl⟩, rfl, rfl, rfl⟩
  · intro e h
    simp only [List.mem_cons, List.not_mem_nil, or_false] at h
    obtain rfl | rfl := h <;> exact ⟨⟨rfl, .inr rfl, rfl⟩, rfl, rfl⟩
  · intro op h
    simp only [List.mem_cons, List.not_mem_nil, or_false] at h
    obtain rfl | rfl := h <;> exact ⟨⟨rfl, .inr rfl, rfl⟩, rfl⟩
  · intro op action h
    simp only [List.mem_cons, Prod.mk.injEq, List.not_mem_nil, or_false] at h
    obtain ⟨rfl, rfl⟩ | ⟨rfl, rfl⟩ | ⟨rfl, rfl⟩ | ⟨rfl, rfl⟩ | ⟨rfl, rfl⟩ | ⟨rfl, rfl⟩ | ⟨rfl, rfl⟩ := h <;> exact ⟨⟨rfl, .inr rfl, rfl⟩, rfl, rfl, rfl⟩
  · intro op h
    simp only [List.mem_cons, List.not_mem_nil, or_false] at h
    obtain rfl | rfl := h <;> exact ⟨rfl, .inr rfl, rfl⟩

/-- A service's end, of KeyServicesAnswer: it stands or its output is poisoned; audit space, room for its outcome entry, or neither. -/
theorem witness_EndService :
    (let s := svc [spare] (barge 0x0708 0 1 2); let r := run (barge 0x0708 0 1 2)
     s.stands r (answered []) = true ∧ s.stands { r with hw := { poison := some .output } } (answered [1]) = false ∧
       auditExempt r.b.opcode = false ∧ auditExempt 0x0C63 = true) ∧
    (let s : State := { svc [spare] (barge 0x0708 0 1 2) with mor := { storeSt := .volatileHold }, log := { limit := 7 } }
     s.auditRoom 7 = true ∧ s.outcomeRoom = true ∧ ({ s with log := { s.log with limit := 6 } } : State).auditRoom 7 = false ∧
       ({ s with mor := { s.mor with outcomes := List.replicate s.outcomeCap ⟨0, 0, 0, 0, 0x0708, 0⟩ } } : State).outcomeRoom = false) := by
  decide +kernel

/-- Two barges of one tick claim permit 1, the later admitted on core 6 first (AdminAndAuditServicesAnswer's last clause, R163). -/
theorem witness_RivalClaim :
    let q : Permit := { perm with action := 0x0021 }
    let s : State := { lodged with
      lkm := { tbl := [(3, entry (barge 0x0C21 0 1) (.running 5)), (4, { entry (barge 0x0C21 0 1) (.running 6) with order := 1 })] }
      cores := [(5, { job := some 3, input := some [] }), (6, { job := some 4, input := some [], claimed := some (lodged.now, q) })]
      adm := { lodged.adm with permits := [] } }
    let r := asks 0x0C21
    s.runOf 5 0x0C21 {} = some r ∧ (s.coreAt r.core).claimed = none ∧ s.outclaimed r = some (6, q) ∧
      s.adm.permits.find? (fun x => x.1 == r.tenant && x.2.no == r.b.permit) = none ∧
      s.unsure ⟨6, 4, { entry (barge 0x0C21 0 1) (.running 6) with order := 1 }, [], {}, 0, 0⟩ = true := by
  refine ⟨by decide +kernel, by decide +kernel, by decide +kernel, by decide +kernel, by decide +kernel⟩

/-! ### Well-formedness: an ill-formed term for each check -/

theorem test_wf_refuses :
    ([.dispatch 96, .ringClose 16384 0, .nakReceived 4 0, .nakReceived 0 65536, .pageInReturn (2 ^ 64) .asStored, .laneDrainRetire 68 false,
      .jobClearDone 26 0, .hashSelftest 56 true, .settleEnd 16, .drbgDue 64, .domainWake 72, .gateBarrier 120, .lineRead 120 0 0 .asStored, .lineRead 0 96 0 .asStored, .laneLoad 0 0 [], .declass 0 0 0 0 9 .pub [], .declass 0 0 0 0 1 .secret [],
      .latchHoldExpire 24, .glbTimeLowRead (.vf 64), .tcpConnect 2, .driveFail 2, .tugSelfcheckFail 16, .mooringMove 0 4,
      .mooringEccError 262144, .tenantReclaimDone 4096, .replicationAckReceive 64 0, .resyncComplete 4096, .deadlineExpire 131072,
      .abortSeq 0 (2 ^ 32), .pendingMsixSend 64 0, .pendingMsixSend 0 4096, .patrolScrub 2 0 .asStored, .gpioInputChange 16 true]
      : List Instr).all (fun i => !i.wf) = true := by decide +kernel

theorem test_wf_accepts :
    ([.dispatch 95, .ringClose 16383 0, .nakReceived 3 65535, .tileSelftest 25 true true, .laneLoad 0 (2 ^ 60) [], .declass 0 0 0 0 8 .confidential [], .glbTimeLowRead (.vf 63)]
      : List Instr).all Instr.wf = true := by decide +kernel

theorem test_no_word_is_a_command : decodeTableWord 0 0 = none ∧ up.withFetchWord 32 7 = up := ⟨rfl, rfl⟩

/-! ### The manual's worked examples -/

/-- 00_scope.md: the handle of tenant 0x02A, key number 0x04C1, version 3, and its bytes in memory. -/
theorem test_handle_example :
    handleTenant 0x002A00004C103000 = 0x02A ∧ bitsOf 47 20 0x002A00004C103000 = 0x04C1 ∧
      toLE 8 0x002A00004C103000 = [0x00, 0x30, 0x10, 0x4C, 0x00, 0x00, 0x2A, 0x00] := by decide +kernel

/-- 01_architecture.md: CHK of a CONFIDENTIAL word of data 0x13 is 0b1101. -/
theorem test_chk_example : (word 0x13 .confidential).chk = 0b1101 := by decide +kernel

/-- 06_key_model_and_permits.md: the label of a two-key TDES P0 key. -/
theorem test_label_example :
    (lab "P0" "T" 16 "B" 0x0007000041201000).bytes
      = [0x50, 0x30, 0x54, 0x42, 0x45, 0x10, 0, 0, 0, 0x10, 0x20, 0x41, 0, 0, 7, 0, 0, 0, 0, 0, 0, 0, 0, 0, 0, 0, 1, 0, 0, 0, 0, 0] := by
  decide +kernel

/-- 05_emv_mac_and_data_services.md: HMAC-SHA-512 of 1,000 bytes, its head word and its core time. -/
theorem test_hmac_example :
    (bargeOfBytes (toLE 8 0x0500050200003B01 ++ zeros 120)).opcode = 0x0500 ∧
      (bargeOfBytes (toLE 8 0x0500050200003B01 ++ zeros 120)).seq = 0x3B01 ∧
      (bargeOfBytes (toLE 8 0x0500050200003B01 ++ zeros 120)).format = 2 ∧ macCycles 0x0A 0 1000 = 5380 := by decide +kernel

/-- 05_emv_mac_and_data_services.md: SHA3-256 of 10,000 bytes takes 1,998 engine cycles. -/
theorem test_sha3_example : hashCycles 5 10000 32 0 = 1998 := by decide +kernel

/-- 11_inline_memory_encryption.md: LEVELS and ONCHIP at 4 GiB and at 2 GiB. -/
theorem test_slu_layout_example : (sluLevels 32, sluOnchip 32) = (4, 2) ∧ (sluLevels 31, sluOnchip 31) = (3, 1) := by decide +kernel

/-- Gate 99 with the two regions of the example. -/
def gate99 : State :=
  { up with cfg := { up.cfg with gates := [(16 * 99, ⟨2, 0x1000000, 0x1FFFFFF, true, true, false, false, 0x60⟩),
      (16 * 99 + 1, ⟨2, 0x1400000, 0x140003F, true, false, false, false, 0x20⟩)] } }

/-- 12_barrier_gates_and_tags.md: tug 3's write of 256 bytes fails at region 1; the read passes, and so does the write in key domain 6. -/
theorem test_gate_example :
    gate99.gateCheck 99 .write 0x141004FFFFF80 256 [] = some (0x1410050000000, some 1) ∧
      gate99.gateCheck 99 .read 0x141004FFFFF80 256 [] = none ∧
      gate99.gateCheck 99 .write 0x181004FFFFF80 256 [] = none := by decide +kernel

/-- 16_wharf_host_interfaces.md: v1 SEQ16 values on a ring with H = 2, the last one 0xFFFD. -/
theorem test_v1_seq_example : (v1Barge 2 (zeros 4 ++ [0xFF, 0xFF] ++ zeros 26) []).seq = 0x2FFFF ∧ (v1Barge 3 (zeros 32) []).seq = 0x30000 := by
  decide +kernel

/-- Six barges of ring 0x200 in the table: one parked, two queued, three running. -/
def telling : State :=
  { up with lkm := { tbl := (List.range 6).map fun i =>
      (i, { entry (barge 0x0100) (if i = 0 then .parked 0 [] else if i < 3 then .queued .general else .running i) with ring := 0x200 }) } }

/-- 03_lockmaster_scheduling.md: TEL_RING[0x200] at TEL + 0x9000 with six barges in flight, two queued and one parked. -/
theorem test_tel_ring_example : telling.regTel 0x9000 = 0x0000001000080006 := by decide +kernel

/-! ### Steps -/

/-- The front command is carried out, and leaves the queue. -/
theorem test_front_command_goes : step { up with pending := [.checkpointStart, .basinRefill .asStored] }
    = exec .checkpointStart { up with pending := [.basinRefill .asStored] } := rfl

/-- An idle step is one device tick. -/
theorem test_idle_step_ticks : ∃ t, step up = .next t ∧ t.now = up.now + 1 := ⟨_, rfl, by decide +kernel⟩

/-- Reset: no key, no ring, no session; PRODUCTION; the mode after reset (R355). -/
theorem test_reset_is_empty : State.reset.pending = [] ∧ State.reset.sram = [] ∧ State.reset.mor.moorings = [] ∧ State.reset.rings = [] := by
  decide +kernel
end Sys2Proof.Tests
end

/-! SUPPORT. Register, towpath and debug-port accesses: what each access path's write does at an aligned offset, and the frames of reads. -/

namespace Sys2Proof.Machine

/-! ### Accesses that are logged, and the commands registers stand for -/

/-- A register access error of any path (R4, R22) changes only the logbook, if anything. -/
theorem logOn_only (s : State) (p : Path) (addr what : Nat) : Only [.log] s (s.logOn p addr what) := by
  unfold State.logOn
  split
  · exact logEvent_only s _ _ _ _
  · exact Only.refl _ s

theorem completes_logOn {i : Instr} {s : State} {p : Path} {addr what : Nat} (h : exec i s = .next (s.logOn p addr what)) :
    Completes i s fun t => Only [.log] s t := ⟨_, h, logOn_only s p addr what⟩

/-- What a command leaves is its next state, where it has one. -/
theorem next_via {s : State} {f : State → Host.Outcome State Fault Refusal} (h : ∃ t, f s = .next t) : .next (s.via f) = f s := by
  obtain ⟨t, ht⟩ := h
  simp [State.via, ht]

/-- A write of all 64 bits leaves the value written. -/
theorem merge_all (old v : W64) : merge old v (BitVec.allOnes 64) = v := by
  rw [merge, BitVec.not_allOnes, BitVec.and_zero, BitVec.zero_or, BitVec.and_allOnes]

/-- A command that takes the register's new value takes the value of a 64-bit write. -/
theorem via_merge (s : State) (f : W64 → State → Host.Outcome State Fault Refusal) (old v : W64) :
    s.via (f (merge old v (BitVec.allOnes 64))) = s.via (f v) := by rw [merge_all]

/-- Index k of a register array. -/
theorem regIndex_at {base n k : Nat} (h : k < n) : regIndex (base + 8 * k) base n = some k := by
  unfold regIndex
  rw [if_pos (by omega)]
  exact congrArg some (by omega)

/-! ### Writes by path (R4, R22, R24) -/

section RegisterWrite

variable {s : State} {p : Path} {addr size b : Nat} {v : W64}

theorem exec_registerWrite : exec (.registerWrite p addr size v) s = execRegisterWrite p addr size v s := rfl

theorem registerWrite_misaligned (ha : s.answers p = true) (hm : aligned addr size = false) :
    exec (.registerWrite p addr size v) s = .next (s.logOn p addr 5) := by
  simp [exec_registerWrite, execRegisterWrite, ha, hm]

theorem registerWrite_full (ha : s.answers p = true) (hm : aligned addr size = true) (hp : p = .pf ∨ p = .debug)
    (hb : regBlock (addr - addr % 8) = some b) (hv : s.vis p b = .full) : exec (.registerWrite p addr size v) s =
      .next (s.writeReg p (addr - addr % 8) (accessValue addr size v) (accessMask addr size)) := by
  obtain rfl | rfl := hp <;> simp [exec_registerWrite, execRegisterWrite, ha, hm, hb, hv]

theorem registerWrite_read (ha : s.answers p = true) (hm : aligned addr size = true) (hp : p = .pf ∨ p = .debug)
    (hb : regBlock (addr - addr % 8) = some b) (hv : s.vis p b = .read) : exec (.registerWrite p addr size v) s = .next s := by
  obtain rfl | rfl := hp <;> simp [exec_registerWrite, execRegisterWrite, ha, hm, hb, hv]

theorem registerWrite_hidden (ha : s.answers p = true) (hm : aligned addr size = true) (hp : p = .pf ∨ p = .debug)
    (hb : regBlock (addr - addr % 8) = some b) (hv : s.vis p b = .hidden) :
    exec (.registerWrite p addr size v) s = .next (s.logOn p addr 0) := by
  obtain rfl | rfl := hp <;> simp [exec_registerWrite, execRegisterWrite, ha, hm, hb, hv]

theorem registerWrite_unassigned (ha : s.answers p = true) (hm : aligned addr size = true) (hp : p = .pf ∨ p = .debug)
    (hb : regBlock (addr - addr % 8) = none) : exec (.registerWrite p addr size v) s = .next s := by
  obtain rfl | rfl := hp <;> simp [exec_registerWrite, execRegisterWrite, ha, hm, hb]

/-- R383: a VF's write of one of its own rings' entries. -/
theorem registerWrite_vf {n r : Nat} (ha : s.answers (.vf n) = true) (hm : aligned addr size = true) (hn : 0 < n)
    (hv : n ≤ s.wharf.vfs) (hs : s.serving = true) (hb : 0x10000 ≤ addr)
    (hr : (s.pcieRings (· == n))[(addr - addr % 8 - 0x10000) / 64]? = some r) : exec (.registerWrite (.vf n) addr size v) s =
      .next (s.writeRing r ((addr - addr % 8) % 64) (accessValue addr size v) (accessMask addr size)) := by
  have hvf : ¬(n = 0 ∨ s.wharf.vfs < n) := by omega
  have hbase : ¬(addr - addr % 8 < 0x10000) := by omega
  simp [exec_registerWrite, execRegisterWrite, ha, hm, State.vfWrite, hvf, hr, hbase, hs]

theorem isTowpath_iff : isTowpath p = true ↔ p = .smbus ∨ p = .spi := by simp [isTowpath]

/-- R24: a towpath target writes no register but the mode request. -/
theorem registerWrite_towpath (ha : s.answers p = true) (hm : aligned addr size = true) (hp : isTowpath p = true)
    (hb : addr - addr % 8 ≠ 0xD0000) : exec (.registerWrite p addr size v) s = .next s := by
  obtain rfl | rfl := isTowpath_iff.1 hp <;> simp [exec_registerWrite, execRegisterWrite, ha, hm, hb]

/-- A 64-bit PF write to a block that the PF may write. -/
theorem pfWrite (ha : s.answers .pf = true) (h8 : addr % 8 = 0) (hb : regBlock addr = some b) (hv : s.vis .pf b = .full) :
    exec (.registerWrite .pf addr 8 v) s = .next (s.writeReg .pf addr v (BitVec.allOnes 64)) := by
  have h := registerWrite_full (v := v) (size := 8) (addr := addr) ha (by simp [aligned, h8]) (.inl rfl) (by rwa [h8]) hv
  simpa only [h8, Nat.sub_zero, accessValue, accessMask, if_true] using h

/-- A 64-bit PF write of a register that stores its fields. -/
theorem pfWrite_stores {t : State} (ha : s.answers .pf = true) (h8 : addr % 8 = 0) (hb : regBlock addr = some b)
    (hv : s.vis .pf b = .full) (hw : s.writeReg .pf addr v (BitVec.allOnes 64) = t) :
    exec (.registerWrite .pf addr 8 v) s = .next t := by rw [pfWrite ha h8 hb hv, hw]

/-- A 64-bit PF write of a register that has a command of its own is that command. -/
theorem pfWrite_command {i : Instr} (ha : s.answers .pf = true) (h8 : addr % 8 = 0) (hb : regBlock addr = some b)
    (hv : s.vis .pf b = .full) (hi : ∃ t, exec i s = .next t)
    (hw : s.writeReg .pf addr v (BitVec.allOnes 64) = s.via (exec i)) : exec (.registerWrite .pf addr 8 v) s = exec i s := by
  rw [pfWrite_stores ha h8 hb hv hw, next_via hi]

end RegisterWrite

/-! ### The registers' commands and fields -/

section PfRegisters

variable {s : State} {p : Path} {v : W64}

/-- A block below the ring table. -/
theorem regBlock_at {addr b : Nat} (h : addr / 0x10000 = b) (hb : b < 0x12) : regBlock addr = some b := by
  unfold regBlock
  rw [if_pos (by omega), h]

/-- The ring table. -/
theorem regBlock_ring {r o : Nat} (hr : r < 16384) (ho : o < 64) : regBlock (0x800000 + 64 * r + o) = some 0x80 := by
  unfold regBlock
  rw [if_neg (by omega), if_pos (by omega)]

theorem writeReg_ring {r o : Nat} (hr : r < 16384) (ho : o < 64) (m : W64) :
    s.writeReg p (0x800000 + 64 * r + o) v m = s.writeRing r o v m := by
  have h1 : (0x800000 + 64 * r + o - 0x800000) / 64 = r := by omega
  have h2 : (0x800000 + 64 * r + o) % 64 = o := by omega
  simp only [State.writeReg, regBlock_ring hr ho, h1, h2]

/-- A register of the ring table that stores its fields. -/
theorem pfWrite_ringStores {r o : Nat} {t : State} (ha : s.answers .pf = true) (hv : s.vis .pf 0x80 = .full) (hr : r < 16384)
    (ho : o < 64) (h8 : o % 8 = 0) (hw : s.writeRing r o v (BitVec.allOnes 64) = t) :
    exec (.registerWrite .pf (0x800000 + 64 * r + o) 8 v) s = .next t :=
  pfWrite_stores ha (by omega) (regBlock_ring hr ho) hv ((writeReg_ring hr ho _).trans hw)

/-- A register of the ring table that has a command of its own. -/
theorem pfWrite_ringCommand {r o : Nat} {i : Instr} (ha : s.answers .pf = true) (hv : s.vis .pf 0x80 = .full) (hr : r < 16384)
    (ho : o < 64) (h8 : o % 8 = 0) (hi : ∃ t, exec i s = .next t)
    (hw : s.writeRing r o v (BitVec.allOnes 64) = s.via (exec i)) :
    exec (.registerWrite .pf (0x800000 + 64 * r + o) 8 v) s = exec i s :=
  pfWrite_command ha (by omega) (regBlock_ring hr ho) hv hi ((writeReg_ring hr ho _).trans hw)

/-- R25: the enables. -/
theorem writeGlb_intEnable : s.writeGlb 0x28 v (BitVec.allOnes 64) = s.withGlb { s.glb with intEnable := v.setWidth 6 } := by
  simp only [State.writeGlb, merge_all]

/-- R177: the pin handle. -/
theorem writeMor_pinHandle : s.writeMor 0x50 v (BitVec.allOnes 64) = { s with mor := { s.mor with pinHandle := v } } := by
  simp only [State.writeMor, merge_all]

/-- R369: the selection, for a function that there is. -/
theorem writePwr_selection (hf : fnValid (wbits 7 0 v) = true) :
    s.writePwr p 0x100 v (BitVec.allOnes 64) = { s with pwr := { s.pwr with fnSel := wbits 7 0 v } } := by
  simp only [State.writePwr, merge_all, hf, if_true]

/-- R370: the record buffer's length, with a pending copy open. -/
theorem writePwr_bufferLength (hp : s.pwr.pend.isSome = true) :
    s.writePwr p 0x118 v (BitVec.allOnes 64) = { s with pwr := { s.pwr with fnBufLen := wbits 12 0 v } } := by
  simp only [State.writePwr, merge_all, hp, if_true]

/-- R432: the threshold. -/
theorem writeLog_threshold :
    s.writeLog p 0x18 v (BitVec.allOnes 64) = { s with log := { s.log with threshold := wbits 63 56 v } } := by
  simp only [State.writeLog, merge_all]

/-- R337: the Yuhild response words. -/
theorem writeReg_yuhildResponse {w : Nat} (hw : w < 23) : s.writeReg p (0xB0200 + 8 * w) v (BitVec.allOnes 64) =
    { s with lcy := { s.lcy with resp := Tbl.put w v s.lcy.resp } } := by
  have hb : regBlock (0xB0200 + 8 * w) = some 0xB := regBlock_at (by omega) (by decide)
  have ho : (0xB0200 + 8 * w) % 0x10000 = 0x200 + 8 * w := by omega
  simp only [State.writeReg, hb, ho, State.writeLcy]
  split
  any_goals omega
  simp only [regIndex_at hw, merge_all]

/-- R370: the record buffer, which takes writes with a pending copy open. -/
theorem writeReg_recordBuffer {k : Nat} (hk : k < 512) (hp : s.pwr.pend.isSome = true) :
    s.writeReg p (0xD1000 + 8 * k) v (BitVec.allOnes 64) =
      { s with pwr := { s.pwr with fnBuf := Tbl.put k v s.pwr.fnBuf } } := by
  have hb : regBlock (0xD1000 + 8 * k) = some 0xD := regBlock_at (by omega) (by decide)
  have ho : (0xD1000 + 8 * k) % 0x10000 = 0x1000 + 8 * k := by omega
  simp only [State.writeReg, hb, ho, State.writePwr]
  split
  any_goals omega
  simp only [regIndex_at hk, hp, if_true, merge_all]

/-- R302: the barrier registers. -/
theorem writeReg_barrier {g : Nat} (hg : g < 120) :
    s.writeReg p (0x90400 + 8 * g) 1 (BitVec.allOnes 64) = s.via (exec (.gateBarrier g)) := by
  have hb : regBlock (0x90400 + 8 * g) = some 0x9 := regBlock_at (by omega) (by decide)
  have ho : (0x90400 + 8 * g) % 0x10000 = 0x400 + 8 * g := by omega
  have h8 : 0x400 + 8 * g ≠ 0x08 := by omega
  simp only [State.writeReg, hb, ho, State.writeGte, h8, regIndex_at hg, if_false]
  rfl

/-- R428: the rate limits; the fields are the written ones, the counts stay. -/
theorem writeReg_rateLimit {c : Nat} (hc : c < 1024) : s.writeReg p (0xF2000 + 8 * c) v (BitVec.allOnes 64) =
    { s with log := { s.log with
      rates := Tbl.put c { tget {} c s.log.rates with refill := wbits 15 8 v, capacity := wbits 7 0 v } s.log.rates } } := by
  have hb : regBlock (0xF2000 + 8 * c) = some 0xF := regBlock_at (by omega) (by decide)
  have ho : (0xF2000 + 8 * c) % 0x10000 = 0x2000 + 8 * c := by omega
  simp only [State.writeReg, hb, ho, State.writeLog]
  split
  any_goals omega
  simp only [regIndex_at hc, merge_all]

/-- R51, R52: bases and sizes are stored while the ring is CLOSED. -/
theorem writeRing_sqBase {r : Nat} (h : (s.ringAt r).st = .closed) : s.writeRing r 0x00 v (BitVec.allOnes 64) =
    s.setRing r { s.ringAt r with sqBase := 4096 * wbits 42 12 v, sqLog := wbits 4 0 v } := by
  simp only [State.writeRing, h, if_true, merge_all]

theorem writeRing_cqBase {r : Nat} (h : (s.ringAt r).st = .closed) : s.writeRing r 0x08 v (BitVec.allOnes 64) =
    s.setRing r { s.ringAt r with cqBase := 4096 * wbits 42 12 v, cqLog := wbits 4 0 v } := by
  simp only [State.writeRing, h, if_true, merge_all]

theorem writeRing_open {r : Nat} (h : wbit 0 v = true) :
    s.writeRing r 0x30 v (BitVec.allOnes 64) = s.via (exec (.ringOpen r v)) := by
  simp only [State.writeRing, State.writeCtl, h, if_true, merge_all]
  rfl

theorem writeRing_close {r : Nat} (h0 : wbit 0 v = false) (h1 : wbit 1 v = true) :
    s.writeRing r 0x30 v (BitVec.allOnes 64) = s.via (exec (.ringClose r v)) := by
  simp only [State.writeRing, State.writeCtl, h0, h1, if_true, merge_all]
  rfl

theorem writeRing_abortAll {r : Nat} (h : wbit 63 v = true) :
    s.writeRing r 0x38 v (BitVec.allOnes 64) = s.via (exec (.abortAll r)) := by
  simp only [State.writeRing, State.writeAbort, h, if_true]
  rfl

theorem writeRing_abortSeq {r : Nat} (h : wbit 63 v = false) :
    s.writeRing r 0x38 v (BitVec.allOnes 64) = s.via (exec (.abortSeq r (wbits 31 0 v))) := by
  simp only [State.writeRing, State.writeAbort, h]
  rfl

/-- A register whose written value its command takes, by its block. -/
theorem pfWrite_valueCommand {a b : Nat} {i : Instr} (ha : s.answers .pf = true)
    (h : (a, b, i) ∈ [(0x10200, 0x1, Instr.loopbackStart v), (0x40800, 0x4, .cphDiagEnable v), (0x40808, 0x4, .cphDiagCmd v 0),
      (0x50800, 0x5, .hshDiagEnable v), (0x50808, 0x5, .hshDiagCmd v), (0x60800, 0x6, .bgnDiagEnable v), (0x60808, 0x6, .bgnDiagCmd v 0),
      (0x70800, 0x7, .rawSourceSelect v), (0xB0008, 0xB, .yuhildRequest (v.setWidth 4)), (0xC0010, 0xC, .latchClearWrite v),
      (0xF0020, 0xF, .logCursorSeek v)])
    (hv : s.vis .pf b = .full) : exec (.registerWrite .pf a 8 v) s = exec i s := by
  have start : v &&& ~~~1 ||| (v &&& 1) = v := by
    rw [← BitVec.and_or_distrib_left]
    exact BitVec.and_allOnes
  simp only [List.mem_cons, List.not_mem_nil, or_false, Prod.mk.injEq] at h
  obtain ⟨rfl, rfl, rfl⟩ | ⟨rfl, rfl, rfl⟩ | ⟨rfl, rfl, rfl⟩ | ⟨rfl, rfl, rfl⟩ | ⟨rfl, rfl, rfl⟩ | ⟨rfl, rfl, rfl⟩ | ⟨rfl, rfl, rfl⟩ |
    ⟨rfl, rfl, rfl⟩ | ⟨rfl, rfl, rfl⟩ | ⟨rfl, rfl, rfl⟩ | ⟨rfl, rfl, rfl⟩ := h
  · refine pfWrite_command ha rfl rfl hv ⟨_, rfl⟩ ?_
    exact (via_merge s (fun x => execLoopbackStart (x &&& ~~~1 ||| (v &&& 1))) _ v).trans (by rw [start]; rfl)
  · exact pfWrite_command ha rfl rfl hv ⟨_, rfl⟩ (via_merge s execCphDiagEnable _ v)
  · exact pfWrite_command ha rfl rfl hv ⟨_, rfl⟩ rfl
  · exact pfWrite_command ha rfl rfl hv ⟨_, rfl⟩ (via_merge s execHshDiagEnable _ v)
  · exact pfWrite_command ha rfl rfl hv ⟨_, rfl⟩ rfl
  · exact pfWrite_command ha rfl rfl hv ⟨_, rfl⟩ (via_merge s execBgnDiagEnable _ v)
  · exact pfWrite_command ha rfl rfl hv ⟨_, rfl⟩ rfl
  · exact pfWrite_command ha rfl rfl hv ⟨_, rfl⟩ (via_merge s execRawSourceSelect _ v)
  · exact pfWrite_command ha rfl rfl hv ⟨_, rfl⟩ rfl
  · exact pfWrite_command ha rfl rfl hv ⟨_, rfl⟩ rfl
  · exact pfWrite_command ha rfl rfl hv ⟨_, rfl⟩ (via_merge s execLogCursorSeek _ v)

/-- A register whose lowest bit has its command carried out, by its block. -/
theorem pfWrite_bitCommand {a b : Nat} {i : Instr} (ha : s.answers .pf = true)
    (h : (a, b, i) ∈ [(0x30058, 0x3, Instr.pinAdd), (0xB0010, 0xB, .yuhildSubmit), (0xD0108, 0xD, .fnStop)])
    (hv : s.vis .pf b = .full) : exec (.registerWrite .pf a 8 1) s = exec i s := by
  simp only [List.mem_cons, List.not_mem_nil, or_false, Prod.mk.injEq] at h
  obtain ⟨rfl, rfl, rfl⟩ | ⟨rfl, rfl, rfl⟩ | ⟨rfl, rfl, rfl⟩ := h <;> exact pfWrite_command ha rfl rfl hv ⟨_, rfl⟩ rfl

/-- PWR_MODE_REQ by its request code (R363): the code's request. -/
theorem writeMode_command {c : Nat × Instr}
    (hc : c ∈ [(1, Instr.dormantRequest p), (2, .resumeRequest p), (3, .haltRequest p), (4, .resetRequest p)]) :
    .next (s.writeMode p c.1) = exec c.2 s := by
  simp only [List.mem_cons, List.not_mem_nil, or_false] at hc
  obtain rfl | rfl | rfl | rfl := hc
  · exact next_via (f := exec (.dormantRequest p)) ⟨_, rfl⟩
  · exact next_via (f := exec (.resumeRequest p)) ⟨_, rfl⟩
  · exact next_via (f := exec (.haltRequest p)) ⟨_, rfl⟩
  · exact next_via (f := exec (.resetRequest p)) ⟨_, rfl⟩

theorem withGlb_glb (g : Glb) : (s.withGlb g).glb = g := by
  unfold State.withGlb
  dsimp only
  split
  · exact msix_only _ _ _ .glb (by decide)
  · rfl

/-! ### Reads and the towpath (R4, R16, R400) -/

theorem logNext_only : Only [.log] s (s.logNext p).2 := by
  unfold State.logNext
  split
  · exact Only.refl _ s
  · exact only_log s _

theorem takeRaw_only : Only [.rng] s s.takeRaw.2 := by
  unfold State.takeRaw
  split <;> exact only_rng s _

theorem readReport_only (i : Nat) : Only [.gte] s (s.readReport i) := by
  unfold State.readReport
  split
  · exact only_gte s _
  · exact Only.refl _ s

theorem settleCursor_only : Only [.log] s (s.settleCursor p) := by
  unfold State.settleCursor
  split
  · exact only_log s _
  · exact Only.refl _ s

/-- A register read changes at most a logbook cursor, the raw-sample buffer and the marks of the violation reports. -/
theorem readReg_only (addr : Nat) : Only [.log, .rng, .gte] s (s.readReg p addr).2 := by
  unfold State.readReg
  split
  · exact logNext_only.mono (by simp)
  split
  · exact takeRaw_only.mono (by simp)
  extract_lets v t
  have ht : Only [.log, .rng, .gte] s t := by
    simp only [t]
    split
    · exact settleCursor_only.mono (by simp)
    · exact Only.refl _ s
  split
  · exact ht.trans ((readReport_only _).mono (by simp))
  · exact ht

theorem towData_only (addr : Nat) : Only [.log, .rng, .gte] s (s.towData p addr).2 := by
  unfold State.towData
  split
  · exact (logOn_only s _ _ _).mono (by simp)
  split
  · split
    · exact readReg_only addr
    · exact Only.refl _ s
  · exact Only.refl _ s

/-- The read in progress after it is set on the same target. -/
theorem towRead_setTow (hp : isTowpath p = true) (r : Option TowRead) : (s.setTow p r).wharf.towRead p = r := by
  obtain rfl | rfl := isTowpath_iff.1 hp <;> rfl

theorem setTow_only (r : Option TowRead) : Only [.wharf] s (s.setTow p r) := by
  unfold State.setTow
  split <;> exact only_wharf s _

/-- R400: a read recorded by its limit returns the register's data and ends. -/
theorem towpathRead_ready {addr : Nat} (hm : s.clock.mainPower = true) (hp : isTowpath p = true)
    (hr : s.wharf.towRead p = none) : Completes (.towpathRead p addr true) s fun t =>
      t.out = s.out ++ [.regData p (addr % 2 ^ 24) (s.towData p (addr % 2 ^ 24)).1] ∧ t.wharf.towRead p = none := by
  have hl : s.now ≤ s.towLimit p := Nat.le_add_right _ _
  refine ⟨(((s.towData p (addr % 2 ^ 24)).2.setTow p none).emit
    (.regData p (addr % 2 ^ 24) (s.towData p (addr % 2 ^ 24)).1)), ?_, ?_, towRead_setTow hp none⟩
  · show execTowpathRead p addr true s = _
    simp [execTowpathRead, hm, hp, hr, hl]
  · have hout : ((s.towData p (addr % 2 ^ 24)).2.setTow p none).out = s.out :=
      (setTow_only none .out (by decide)).trans (towData_only _ .out (by decide))
    exact congrArg (· ++ _) hout

/-- R400: a read accepted and not recorded stays outstanding. -/
theorem towpathRead_waits {addr : Nat} (hm : s.clock.mainPower = true) (hp : isTowpath p = true)
    (hr : s.wharf.towRead p = none) :
    exec (.towpathRead p addr false) s = .next (s.setTow p (some ⟨addr % 2 ^ 24, s.towLimit p⟩)) := by
  show execTowpathRead p addr false s = _
  simp [execTowpathRead, hm, hp, hr]

/-- R400: past its limit the read ends and is counted on its target. -/
theorem towpathRead_timesOut {rd : TowRead} (hp : isTowpath p = true) (hr : s.wharf.towRead p = some rd)
    (hl : rd.limit < s.now) : Completes (.towpathReadTimeout p) s fun t =>
      t.wharf.towRead p = none ∧ t.out = s.out ++ [.towTimeout p] ∧
      (p = .smbus → t.wharf.smbTimeouts = satAdd 32 s.wharf.smbTimeouts 1) ∧
      (p = .spi → t.wharf.spiTimeouts = satAdd 32 s.wharf.spiTimeouts 1) ∧ Only [.wharf, .out] s t := by
  have hn : ¬(isTowpath p = false ∨ s.now ≤ rd.limit) := by simp [hp, hl]
  have ho (w : Wharf) (os : List Emit) : Only [.wharf, .out] s { s with wharf := w, out := os } :=
    Only.trans (t := { s with wharf := w }) ((only_wharf s w).mono (by simp)) ((only_out _ os).mono (by simp))
  obtain rfl | rfl := isTowpath_iff.1 hp
  · let w := { s.wharf with smbRead := none, smbTimeouts := satAdd 32 s.wharf.smbTimeouts 1 }
    refine ⟨{ s with wharf := w, out := s.out ++ [.towTimeout .smbus] }, ?_, rfl, rfl, fun _ => rfl, nofun, ho _ _⟩
    exact congrArg Host.Outcome.next (by simp only [hr, hn, if_false]; rfl)
  · let w := { s.wharf with spiRead := none, spiTimeouts := satAdd 32 s.wharf.spiTimeouts 1 }
    refine ⟨{ s with wharf := w, out := s.out ++ [.towTimeout .spi] }, ?_, rfl, rfl, nofun, fun _ => rfl, ho _ _⟩
    exact congrArg Host.Outcome.next (by simp only [hr, hn, if_false]; rfl)

/-- R363: the towpath's write of PWR_MODE_REQ is the code's request. -/
theorem towpathWrite_modeRequest {c : Nat × Instr} (hm : s.clock.mainPower = true) (hp : isTowpath p = true)
    (hc : c ∈ [(1, Instr.dormantRequest p), (2, .resumeRequest p), (3, .haltRequest p), (4, .resetRequest p)])
    (hv : wbits 2 0 v = c.1) : exec (.towpathWrite p 0xD0000 v) s = exec c.2 s := by
  rw [← writeMode_command hc, ← hv]
  show execTowpathWrite p 0xD0000 v s = _
  simp [execTowpathWrite, hm, hp]

theorem towpathWrite_discards {addr : Nat} (hp : isTowpath p = true) (h8 : addr % 8 = 0) (ha : addr ≠ 0xD0000) :
    exec (.towpathWrite p addr v) s = .next s := by
  show execTowpathWrite p addr v s = _
  simp [execTowpathWrite, hp, h8, ha]

theorem towpathWrite_misaligned {addr : Nat} (hp : isTowpath p = true) (h8 : addr % 8 ≠ 0) :
    exec (.towpathWrite p addr v) s = .next (s.logOn p addr 5) := by
  show execTowpathWrite p addr v s = _
  simp [execTowpathWrite, hp, h8]

theorem misalignedRegisterAccess_write {addr size : Nat} (ha : s.answers p = true) (hm : aligned addr size = false) :
    exec (.misalignedRegisterAccess p true addr size) s = .next (s.logOn p addr 5) := by
  show execMisalignedRegisterAccess p true addr size s = _
  simp [execMisalignedRegisterAccess, ha, hm]

theorem misalignedRegisterAccess_read {addr size : Nat} (ha : s.answers p = true) (hm : aligned addr size = false) :
    exec (.misalignedRegisterAccess p false addr size) s = .next ((s.logOn p addr 5).emit (.regData p addr 0)) := by
  show execMisalignedRegisterAccess p false addr size s = _
  simp [execMisalignedRegisterAccess, ha, hm]

/-- R16: the low half of GLB_TIME is returned, and the high half latched for the path. -/
theorem glbTimeLowRead_latches (ha : s.answers p = true) (hr : s.reads p 0 = true) : exec (.glbTimeLowRead p) s = .next { s with
    clock := { s.clock with latched := Tbl.put (pathNumber p) (BitVec.ofNat 32 (s.now / 2 ^ 32)) s.clock.latched }
    out := s.out ++ [.regData p 0x10 (BitVec.ofNat 64 (s.now % 2 ^ 32))] } := by
  show execGlbTimeLowRead p s = _
  simp only [execGlbTimeLowRead, ha, hr, if_true]
  rfl

/-! ### The debug port (R306, R332) -/

/-- Neither an uncorrectable read nor a failed check code changes a word's data. -/
theorem eccRead_delivered_data (ecc : Bool) (w : TWord) : (eccRead ecc w).delivered.data = w.data := by
  unfold eccRead TWord.delivered
  split <;> split <;> rfl

theorem countHeld_only (ws : List TWord) : Only [.gte] s (s.countHeld ws) := by
  unfold State.countHeld
  extract_lets n
  split
  · exact Only.refl _ s
  · exact only_gte s _

theorem countHeld_lcs (ws : List TWord) : (s.countHeld ws).lcs = s.lcs := by
  have hr : (s.countHeld ws).root = s.root := countHeld_only ws .root (by decide)
  rw [State.lcs, hr, State.lcs]

/-- With debug OPEN a word of cluster SRAM leaves whole but for a HELD one, which reads as not valid and is counted. -/
theorem debugRead_sram {addr : Nat} (hl : s.lcs ≠ .production) (ht : targetOf addr = some .clusterSram) (ecc : Bool) :
    s.debugRead addr ecc = ((unheld (s.wordAt addr)).data, s.countHeld [s.wordAt addr]) := by
  simp only [State.debugRead, ht, State.debugWord, countHeld_lcs, hl, ne_eq, not_false_eq_true, if_true, eccRead_delivered_data]

theorem debugAccess_openRead {addr : Nat} (hm : s.clock.mainPower = true) (hl : s.lcs ≠ .production) (ecc : Bool) :
    exec (.debugAccess false addr v ecc) s =
      .next ((s.debugRead addr ecc).2.emit (.debugData addr (s.debugRead addr ecc).1)) := by
  show execDebugAccess false addr v ecc s = _
  simp [execDebugAccess, hm, hl, State.debugDo]

theorem debugAccess_sramRead {addr : Nat} (hm : s.clock.mainPower = true) (hl : s.lcs ≠ .production)
    (ht : targetOf addr = some .clusterSram) (hw : (s.wordAt addr).cls ≠ .held) (ecc : Bool) :
    exec (.debugAccess false addr v ecc) s = .next (s.emit (.debugData addr (s.wordAt addr).delivered.data)) := by
  have hc : s.countHeld [s.wordAt addr] = s := countHeld_none (by simpa using hw)
  rw [debugAccess_openRead hm hl, debugRead_sram hl ht, hc, unheld, if_neg hw]
  rw [← eccRead_delivered_data false, eccRead, if_neg Bool.false_ne_true]

theorem debugAccess_heldRead {addr : Nat} (hm : s.clock.mainPower = true) (hl : s.lcs ≠ .production)
    (ht : targetOf addr = some .clusterSram) (hw : (s.wordAt addr).cls = .held) (ecc : Bool) :
    exec (.debugAccess false addr v ecc) s = .next
      ({ s with gte := { s.gte with heldReads := satAdd 16 s.gte.heldReads 1 } }.emit (.debugData addr 0)) := by
  have hc : s.countHeld [s.wordAt addr] = { s with gte := { s.gte with heldReads := satAdd 16 s.gte.heldReads 1 } } := by
    simp [State.countHeld, hw]
  rw [debugAccess_openRead hm hl, debugRead_sram hl ht, hc, unheld, if_pos hw]
  rfl

/-- R217: while a held buffer is held, its words are those of the buffer. -/
theorem wordAt_holding {addr k i : Nat} {w : TWord} (hp : heldPlace addr = some (k, i)) (hs : (s.coreAt k).heldSt = .holding)
    (hw : (s.coreAt k).held[i]? = some w) : s.wordAt addr = w := by
  simp [State.wordAt, hp, hs, hw]

/-- R332: in PRODUCTION without an unlock a read beside the LCY registers is a DEBUG_ATTEMPT and returns zero. -/
theorem debugAccess_refusedRead {addr : Nat} (hm : s.clock.mainPower = true) (ha : lcyAddress addr = false)
    (hl : s.lcs = .production) (hu : s.lcy.unlocked = none) (ecc : Bool) :
    exec (.debugAccess false addr v ecc) s = .next ((s.alarmEvent 23).emit (.debugData addr 0)) := by
  show execDebugAccess false addr v ecc s = _
  simp [execDebugAccess, hm, ha, hl, State.unlockAdmits, hu]

end PfRegisters

/-! ### The modes that serve the host -/

section Serving

variable {s : State}

theorem vis_pf (hm : s.clock.mainPower = true) (b : Nat) : s.vis .pf b = pfVis s.glb.mode b := by
  simp [State.vis, hm]

theorem answers_pf_of_mode (hm : s.clock.mainPower = true) (h : s.glb.mode = .service ∨ s.glb.mode = .drydock) :
    s.answers .pf = true := by
  obtain h | h := h <;> simp [State.answers, hm, h]

/-- R22: a block that SERVICE and DRYDOCK both open to the PF. -/
theorem vis_pf_full {b : Nat} (hm : s.clock.mainPower = true) (h : s.glb.mode = .service ∨ s.glb.mode = .drydock)
    (hs : pfVis .service b = .full) (hd : pfVis .drydock b = .full) : s.vis .pf b = .full := by
  obtain h | h := h <;> rw [vis_pf hm, h] <;> assumption

end Serving

/-- Settles O52: what R4, R22 and R24 let each path's access do, then each register's write by its access code. Log 30's reading: a write to a
block that the path may only read, and a towpath write of another register, leave no record; a misaligned towpath access leaves one. -/
theorem registersByAccess : Obligations.RegistersByAccess := by
  unfold Obligations.RegistersByAccess
  refine ⟨?_, ?_, ?_, ?_, ?_, ?_, ?_⟩
  · intro s v r hm hmode
    have ha := answers_pf_of_mode hm hmode
    refine ⟨⟨_, pfWrite ha rfl rfl (vis_pf_full hm hmode rfl rfl), withGlb_glb _, withGlb_only _ _⟩,
      ⟨_, pfWrite_stores ha rfl rfl (vis_pf_full hm hmode rfl rfl) writeGlb_intEnable, withGlb_glb _, withGlb_only _ _⟩,
      fun hr hc => pfWrite_ringStores (o := 0) ha (vis_pf_full hm hmode rfl rfl) hr (by decide) rfl (writeRing_sqBase hc),
      fun hs => completes_logOn (registerWrite_hidden ha rfl (.inl rfl) rfl (by rw [vis_pf hm, hs]; rfl))⟩
  · intro s p addr size v ha
    refine ⟨fun hal => completes_logOn (registerWrite_misaligned ha hal), fun hal => ⟨fun b hp hb => ⟨?_, ?_, ?_⟩, ?_, ?_, ?_⟩⟩
    · exact registerWrite_full ha hal hp hb
    · exact registerWrite_read ha hal hp hb
    · exact fun hv => completes_logOn (registerWrite_hidden ha hal hp hb hv)
    · exact registerWrite_unassigned ha hal
    · rintro n r rfl hn hvfs hs hb hr
      exact registerWrite_vf ha hal hn hvfs hs hb hr
    · exact registerWrite_towpath ha hal
  · intro s v ha
    refine ⟨fun a b i => pfWrite_valueCommand ha, ?_, fun hv => ⟨?_, ?_⟩, fun hv => ⟨?_, ?_, ?_, ?_, fun ho => ⟨?_, ?_⟩⟩, ?_, ?_,
      fun hv => ⟨?_, ?_⟩, fun hv => ⟨?_, ?_⟩, fun r hv hr => ⟨?_, ?_, ?_, ?_, ?_⟩⟩
    · rintro a b i h hv rfl
      exact pfWrite_bitCommand ha h hv
    · exact pfWrite_command ha rfl rfl hv ⟨_, rfl⟩ rfl
    · exact pfWrite_stores ha rfl rfl hv writeMor_pinHandle
    · exact pfWrite_command ha rfl rfl hv ⟨_, rfl⟩ rfl
    · exact pfWrite_command ha rfl rfl hv ⟨_, rfl⟩ rfl
    · intro c hc hcode
      rw [← writeMode_command hc, ← hcode]
      exact pfWrite ha rfl rfl hv
    · exact fun hf => pfWrite_stores ha rfl rfl hv (writePwr_selection (p := .pf) hf)
    · exact pfWrite_stores ha rfl rfl hv (writePwr_bufferLength (p := .pf) ho)
    · exact fun k hk => pfWrite_stores ha (by omega) (regBlock_at (by omega) (by decide)) hv (writeReg_recordBuffer hk ho)
    · exact pfWrite ha rfl rfl
    · exact fun hv w hw => pfWrite_stores ha (by omega) (regBlock_at (by omega) (by decide)) hv (writeReg_yuhildResponse hw)
    · exact pfWrite ha rfl rfl hv
    · exact fun g hg => pfWrite_command ha (by omega) (regBlock_at (by omega) (by decide)) hv ⟨_, rfl⟩ (writeReg_barrier hg)
    · exact pfWrite_stores ha rfl rfl hv (writeLog_threshold (p := .pf))
    · exact fun c hc => pfWrite_stores ha (by omega) (regBlock_at (by omega) (by decide)) hv (writeReg_rateLimit hc)
    · exact fun hc => pfWrite_ringStores ha hv hr (by decide) rfl (writeRing_cqBase hc)
    · exact fun h => pfWrite_ringCommand ha hv hr (by decide) rfl ⟨_, rfl⟩ (writeRing_open h)
    · exact fun h0 h1 => pfWrite_ringCommand ha hv hr (by decide) rfl ⟨_, rfl⟩ (writeRing_close h0 h1)
    · exact fun h => pfWrite_ringCommand ha hv hr (by decide) rfl ⟨_, rfl⟩ (writeRing_abortAll h)
    · exact fun h => pfWrite_ringCommand ha hv hr (by decide) rfl ⟨_, rfl⟩ (writeRing_abortSeq h)
  · intro s p addr size ha hal
    refine ⟨completes_logOn (misalignedRegisterAccess_write ha hal), _, misalignedRegisterAccess_read ha hal, ?_, ?_⟩
    · exact congrArg (· ++ _) (logOn_only s _ _ _ .out (by decide))
    · exact ((logOn_only s _ _ _).mono (by simp)).trans ((only_out _ _).mono (by simp))
  · exact fun s p => glbTimeLowRead_latches
  · intro s p addr v hm hp
    refine ⟨fun hr => ⟨towpathRead_ready hm hp hr, towpathRead_waits hm hp hr⟩, fun rd => towpathRead_timesOut hp,
      fun c => towpathWrite_modeRequest hm hp, towpathWrite_discards hp, fun h8 => completes_logOn (towpathWrite_misaligned hp h8)⟩
  · intro s addr v ecc hm hlcy
    refine ⟨fun hl ht => ⟨fun hw => debugAccess_sramRead hm hl ht hw ecc, fun k i w hp hs hw hc => ?_⟩,
      fun hl hu => debugAccess_refusedRead hm hlcy hl hu ecc⟩
    exact debugAccess_heldRead hm hl ht (by rwa [wordAt_holding hp hs hw]) ecc

end Sys2Proof.Machine

/-! SUPPORT. The check code of R27: a word's four column parities, and what a flipped data bit does to them; the registers at reset. -/
namespace Sys2Proof.Machine

/-! ### The check code of a word (R27) -/

/-- The exclusive-OR of the data bits in column `i` (R27). -/
def columnParity (d : W64) (i : Nat) : Bool := (List.range 16).foldl (fun acc k => xor acc (d.getLsbD (4 * k + i))) false

/-- A fold of exclusive-ORs is the parity of the number of its true terms. -/
theorem foldl_xor_eq_parity (f : Nat → Bool) (l : List Nat) (acc : Bool) :
    l.foldl (fun acc k => xor acc (f k)) acc = xor acc (l.countP f % 2 == 1) := by
  induction l generalizing acc with
  | nil => simp
  | cons k l ih =>
    rw [List.foldl_cons, ih, List.countP_cons]
    obtain h | h := Nat.mod_two_eq_zero_or_one (l.countP f) <;> cases f k <;> simp [Nat.add_mod, h]

/-- Folds of two families of terms combine term by term. -/
theorem foldl_xor_xor (f g : Nat → Bool) (l : List Nat) (a b : Bool) :
    l.foldl (fun acc k => xor acc (xor (f k) (g k))) (xor a b) =
      xor (l.foldl (fun acc k => xor acc (f k)) a) (l.foldl (fun acc k => xor acc (g k)) b) := by
  induction l generalizing a b with
  | nil => rfl
  | cons k l ih =>
    simp only [List.foldl_cons]
    rw [← ih, Bool.xor_assoc, Bool.xor_assoc, Bool.xor_left_comm b]

theorem even_count_eq_not_columnParity (d : W64) (i : Nat) :
    ((List.range 16).countP (fun k => d.getLsbD (4 * k + i)) % 2 == 0) = !columnParity d i := by
  rw [columnParity, foldl_xor_eq_parity fun k => d.getLsbD (4 * k + i)]
  obtain h | h := Nat.mod_two_eq_zero_or_one ((List.range 16).countP fun k => d.getLsbD (4 * k + i)) <;> simp [h]

/-- Each of the four flags is its own bit of the sum that `chkOf` forms. -/
theorem getLsbD_four_flags (b0 b1 b2 b3 : Bool) :
    let v := BitVec.ofNat 4 ((if b0 then 1 else 0) + (if b1 then 2 else 0) + (if b2 then 4 else 0) + (if b3 then 8 else 0))
    v.getLsbD 0 = b0 ∧ v.getLsbD 1 = b1 ∧ v.getLsbD 2 = b2 ∧ v.getLsbD 3 = b3 := by
  revert b0 b1 b2 b3; decide

/-- CHK bit `i` is the complement of the exclusive-OR of its column. -/
theorem chkOf_getLsbD (d : W64) {i : Nat} (hi : i < 4) : (chkOf d).getLsbD i = !columnParity d i := by
  obtain ⟨h0, h1, h2, h3⟩ := getLsbD_four_flags (!columnParity d 0) (!columnParity d 1) (!columnParity d 2) (!columnParity d 3)
  simp only [chkOf, even_count_eq_not_columnParity]
  interval_cases i <;> assumption

theorem getLsbD_flip (d : W64) {j n : Nat} (hn : n < 64) : (d ^^^ (1 <<< j)).getLsbD n = xor (d.getLsbD n) (decide (j = n)) := by
  rw [BitVec.getLsbD_xor, BitVec.natCast_eq_ofNat, BitVec.getLsbD_ofNat, Nat.one_shiftLeft, Nat.testBit_two_pow, decide_eq_true hn,
    Bool.true_and]

/-- A data bit stands once in its column. -/
theorem columnParity_of_bit : ∀ j < 64, (List.range 16).foldl (fun acc k => xor acc (decide (j = 4 * k + j % 4))) false = true := by
  decide

/-- A flipped data bit turns the exclusive-OR of its column. -/
theorem columnParity_flip (d : W64) {j : Nat} (hj : j < 64) : columnParity (d ^^^ (1 <<< j)) (j % 4) = !columnParity d (j % 4) := by
  calc columnParity (d ^^^ (1 <<< j)) (j % 4)
      = (List.range 16).foldl (fun acc k => xor acc (xor (d.getLsbD (4 * k + j % 4)) (decide (j = 4 * k + j % 4)))) (xor false false) := by
        refine List.foldl_ext _ _ _ fun acc k hk => ?_
        rw [getLsbD_flip d (by have := List.mem_range.1 hk; omega)]
    _ = xor (columnParity d (j % 4)) true := by rw [foldl_xor_xor, columnParity_of_bit j hj, columnParity]
    _ = !columnParity d (j % 4) := Bool.xor_true _

/-- The check code tells a word from the one with one data bit flipped. -/
theorem chkOf_flip_ne (d : W64) {j : Nat} (hj : j < 64) : chkOf d ≠ chkOf (d ^^^ (1 <<< j)) := by
  intro h
  have hc : j % 4 < 4 := Nat.mod_lt j (by decide)
  have hbit : (chkOf d).getLsbD (j % 4) = (chkOf (d ^^^ (1 <<< j))).getLsbD (j % 4) := by rw [← h]
  rw [chkOf_getLsbD d hc, chkOf_getLsbD _ hc, columnParity_flip d hj] at hbit
  exact Bool.not_ne_self _ hbit.symm

theorem delivered_word (d : W64) (c : SecClass) (p : Bool) : (word d c p).delivered = word d c p := if_pos rfl

/-- Settles O10: a flipped data bit turns the parity of its column, so the check code no longer holds. -/
theorem checkCodeGuardsData : Obligations.CheckCodeGuardsData := by
  unfold Obligations.CheckCodeGuardsData
  exact fun d c p => ⟨delivered_word d c p, fun i hi => chkOf_getLsbD d hi, fun j hj => if_neg (chkOf_flip_ne d hj)⟩

/-! ### Registers right after reset -/

theorem regRing_reset (n : Nat) : State.reset.regRing n 0x30 = 0 := by
  have hr : State.reset.ringAt n = {} := rfl
  unfold State.regRing
  rw [hr]
  rfl

/-- Settles O7: each register's fields at reset, evaluated. -/
theorem resetRegisterValues : Obligations.ResetRegisterValues := by
  unfold Obligations.ResetRegisterValues
  exact ⟨rfl, rfl, rfl, rfl, rfl, regRing_reset, rfl, rfl, rfl, rfl, rfl, rfl, rfl, rfl, rfl, rfl⟩

end Sys2Proof.Machine

/-! SUPPORT. Admission from a port to a ready list, and a barge table on which the spill replaces the admitted barge's entry. -/
namespace Sys2Proof.Machine

/-! ### Admission (R12, R75) -/

section Admission

variable {s : State} {r : Nat} {w : Waiting} {rest : List Waiting} {i j : Nat} {e x : Entry}

/-- The state once a ring's first waiting barge has left its port, before its barge-table entry is made (R12). -/
def State.leftPort (s : State) (r : Nat) (w : Waiting) (rest : List Waiting) : State :=
  let t := s.setRing r { s.ringAt r with
    port := rest
    inFlight := (s.ringAt r).inFlight + 1
    sqHead := if (s.ringCfg r).transport = 0 then (s.ringAt r).sqHead + BitVec.ofNat 32 (1 + w.b.lighters) else (s.ringAt r).sqHead }
  { t with lkm := { t.lkm with nextOrder := t.lkm.nextOrder + 1, lastPort := t.portOf r } }

theorem admitOn_eq : s.admitOn r w rest = (s.leftPort r w rest).admitEntry (firstGap 0 s.lkm.tbl) (s.newEntry r w)
    (headCheck s.glb.mode (s.ringCfg r).tenant (s.ringCfg r).maint ((s.ringCfg r).transport ≠ 0) w.b) := rfl

/-- Where one ring is ready at the port next in turn, its first waiting barge is admitted. -/
theorem admitBarge_next {p : Nat} (hp : s.nextPort = some p) (hport : p ≤ 2 ∨ p = 7) (hr : s.readyAt p = [r])
    (hw : (s.ringAt r).port = w :: rest) : exec .admitBarge s = .next (s.admitOn r w rest) := by
  have hlink : ¬(3 ≤ p ∧ p ≤ 6) := by omega
  show execAdmitBarge s = _
  simp [execAdmitBarge, hp, hlink, hr, hw]

/-- A barge of this device that passes its checks and names no handle goes on its ready list. -/
theorem admitEntry_enqueues (ht : (s.tenantAt e.tenant).st = .active) (hh : e.b.handles = []) (hl : e.locks = [])
    (hc : s.cfg.cluster = none) : s.admitEntry i e none = (s.setEntry i e).enqueue i e := by
  have ht' : ((s.setEntry i e).tenantAt e.tenant).st = .active := ht
  have hw : (if e.origin.isSome then Where.here else (s.setEntry i e).runsAt e.tenant e.b e.input) = .here := by
    simp [State.runsAt, hc]
  have hlook : (s.setEntry i e).lookup i e = (s.setEntry i e).enqueue i e := by
    have he : { e with locks := [] } = e := by rw [← hl]
    simp [State.lookup, hh, he]
  simp [State.admitEntry, ht', hh, hw, hlook, hc]

theorem enqueue_unordered (hf : e.flow = none) : s.enqueue i e = s.enqueueGeneral i e := by simp [State.enqueue, hf]

theorem spillLine_only (s : State) (i : Nat) (e : Entry) : Only lineParts s (s.spillLine i e) := by
  unfold State.spillLine
  split
  · exact Only.refl _ s
  · exact unitPut_only s _ _ _ _

/-- R75: the entry chosen to spill goes to the basin under its own index. -/
theorem enqueueGeneral_spills (hfull : 28672 < ((s.setEntry i { e with ph := .queued .general }).inPlace .general).length)
    (hx : (s.setEntry i { e with ph := .queued .general }).spillChoice
      ((s.setEntry i { e with ph := .queued .general }).inPlace .general) = some (j, x)) :
    (s.enqueueGeneral i e).entryAt j = some { x with ph := .queued .basin } := by
  unfold State.enqueueGeneral
  simp only [Nat.not_le.2 hfull, if_false, hx]
  rw [State.entryAt, (spillLine_only _ j x .lkm (by decide) : _ = _)]
  exact Tbl.find_put ..

end Admission

/-! ### A full barge table out of canonical form

O17 speaks of every barge table that may be written down, also one whose indices do not rise strictly. In such a table the lowest free
index can be one that stands further down, and a spill (R75) writes its entry back under its index. -/

namespace Crowded

/-- A barge with no handle and no buffer that the head checks pass. -/
def plainBarge : Barge := ⟨0x0A00, 0, 2, 7, 0, 0, 0, 0, 0, 0, 0, 0, []⟩

/-- A general entry due at tick 2. -/
def lateEntry : Entry where
  b := plainBarge
  ring := 0
  tenant := 0
  order := 0
  admitTick := 0
  deadline := 2
  failExpired := false
  pageTimeout := 1
  flow := none
  ph := .queued .general

/-- The barge as it waits at the PCIe port. -/
def waiting : Waiting := ⟨plainBarge, none, false⟩

/-- An OPEN ring with room, at whose port the barge waits. -/
def ring : Ring where
  st := .opened
  sqBase := 0x1000
  cqBase := 0x2000
  sqLog := 4
  cqLog := 4
  port := [waiting]

/-- SERVICE with one OPEN PCIe ring, whose barges are due after 1 tick; the barge table lists a finished barge at index 1 and,
out of order, `n` general entries at index 0; port 7 was the last served. -/
def state (n : Nat) : State := { State.reset with
  glb := { mode := .service, admitting := true }
  rings := [(0, ring)]
  cfg := { rings := [(0, ⟨0, 0, false, false, false, 0, 0, 8, 1, 1⟩)] }
  lkm := { lastPort := 7, tbl := (1, { lateEntry with ph := .done }) :: List.replicate n (0, lateEntry) } }

variable {n : Nat}

theorem admitting : (state n).admitting 0 = true := rfl

theorem resources (hn : n < 131071) : (state n).resources 0 waiting = true := by
  have hown : (state n).ownBarges ≤ n + 1 := by
    refine List.countP_le_length.trans (le_of_eq ?_)
    simp [state]
  have hneed : (state n).poolNeed 0 plainBarge = 0 := rfl
  have hfwd : (state n).fwdReserve = 0 := rfl
  have hg : (state n).ringAt 0 = ring := rfl
  have hc : ((state n).ringCfg 0).inflightMax = 8 := rfl
  have hroom : diff32 ring.cqTail ring.cqHead + ring.inFlight + 1 ≤ 2 ^ ring.cqLog ∧ ring.inFlight < 8 := by decide
  have hfree : (state n).ownBarges + (state n).fwdReserve < 131072 := by omega
  simp [State.resources, waiting, hneed, hg, hc, hroom, hfree]

theorem readyAt (hn : n < 131071) : (state n).readyAt 0 = [0] := by
  have hready : (state n).ready 0 = true := by
    have hp : ((state n).ringAt 0).port = [waiting] := rfl
    simp [State.ready, hp, admitting, resources hn]
  have hport : (state n).portOf 0 = 0 := rfl
  have hrings : (state n).rings.map Prod.fst = [0] := rfl
  simp [State.readyAt, hrings, hready, hport]

theorem nextPort (hn : n < 131071) : (state n).nextPort = some 0 := by
  have h0 : (state n).portReady 0 = true := by
    have hs : (state n).pwr.stopped = [] := rfl
    simp [State.portReady, readyAt hn, hs]
  have hl : (state n).lkm.lastPort = 7 := rfl
  simp [State.nextPort, hl, List.range_succ_eq_map, h0]

theorem admits (hn : n < 131071) : exec .admitBarge (state n) = .next ((state n).admitOn 0 waiting []) :=
  admitBarge_next (nextPort hn) (.inl (Nat.zero_le 2)) (readyAt hn) rfl

/-- The new barge's entry. -/
def newEntry : Entry := { lateEntry with deadline := 1 }

theorem newEntry_eq : (state n).newEntry 0 waiting = newEntry := rfl

theorem headCheck_passes : headCheck .service 0 false false plainBarge = none := rfl

theorem admitOn_eq_enqueueGeneral : (state n).admitOn 0 waiting [] =
    (((state n).leftPort 0 waiting []).setEntry 0 newEntry).enqueueGeneral 0 newEntry := by
  rw [← enqueue_unordered rfl, ← admitEntry_enqueues rfl rfl rfl rfl]
  have hc : headCheck (state n).glb.mode ((state n).ringCfg 0).tenant ((state n).ringCfg 0).maint
      (((state n).ringCfg 0).transport ≠ 0) waiting.b = none := headCheck_passes
  rw [admitOn_eq, hc]
  rfl

/-- The state with the new barge in a general entry. -/
def inserted (n : Nat) : State := (((state n).leftPort 0 waiting []).setEntry 0 newEntry).setEntry 0 newEntry

theorem inserted_general : (inserted n).inPlace .general = (0, newEntry) :: List.replicate n (0, lateEntry) := by
  have ht : (inserted n).lkm.tbl = (0, newEntry) :: (1, { lateEntry with ph := .done }) :: List.replicate n (0, lateEntry) := rfl
  simp [State.inPlace, ht, newEntry, lateEntry]

theorem foldl_replicate_fixed {α β : Type} {f : β → α → β} {a : α} {b : β} (h : f b a = b) (n : Nat) :
    (List.replicate n a).foldl f b = b := by
  induction n with
  | zero => rfl
  | succ n ih => rw [List.replicate_succ, List.foldl_cons, h, ih]

/-- The entry chosen to spill is one of the table's, under the index of the new one. -/
theorem inserted_spillChoice (hn : 0 < n) : (inserted n).spillChoice ((inserted n).inPlace .general) = some (0, lateEntry) := by
  obtain ⟨n, rfl⟩ := Nat.exists_eq_add_one.2 hn
  rw [inserted_general, List.replicate_succ, State.spillChoice]
  exact foldl_replicate_fixed rfl n

theorem entryAt_after_admission (hn : 28672 ≤ n) :
    ((state n).admitOn 0 waiting []).entryAt 0 = some { lateEntry with ph := .queued .basin } := by
  have hfull : 28672 < ((inserted n).inPlace .general).length := by
    rw [inserted_general, List.length_cons, List.length_replicate]
    omega
  rw [admitOn_eq_enqueueGeneral]
  exact enqueueGeneral_spills hfull (inserted_spillChoice (by omega))

/-- The spilled entry has taken the new one's place: the barge at the index it was given is due at another tick. -/
theorem entryAt_ne_newEntry (hn : 28672 ≤ n) (q : Place) : ((state n).admitOn 0 waiting []).entryAt (firstGap 0 (state n).lkm.tbl) ≠
    some { (state n).newEntry 0 waiting with ph := .queued q } := by
  have hi : firstGap 0 (state n).lkm.tbl = 0 := rfl
  rw [hi, newEntry_eq, entryAt_after_admission hn]
  simp [newEntry, lateEntry]

end Crowded

/-- Refutes O17: in `Crowded.state 28672` the table lists index 0 for a general entry out of order, so the lowest free index is 0 too; all
general entries are taken, and the entry spilled to the basin, under index 0, replaces the one just made for the admitted barge. No
hypothesis of the statement asks for a table in canonical form, where the entry spilled under the new index is the new entry itself. -/
theorem not_bargesAreAdmittedAndDispatched : ¬ Obligations.BargesAreAdmittedAndDispatched := by
  unfold Obligations.BargesAreAdmittedAndDispatched
  rintro ⟨hadmit, -⟩
  obtain ⟨n, hn, hlt⟩ : ∃ n, 28672 ≤ n ∧ n < 131071 := ⟨28672, le_rfl, by decide⟩
  obtain ⟨t, ht, ⟨q, hq⟩, -⟩ := hadmit (Crowded.state n) 0 0 Crowded.waiting [] (Crowded.nextPort hlt) (.inl (Nat.zero_le 2))
    (Crowded.readyAt hlt) rfl Crowded.headCheck_passes rfl rfl rfl
  cases (Crowded.admits hlt).symm.trans ht
  exact Crowded.entryAt_ne_newEntry hn q hq

end Sys2Proof.Machine

/-! SUPPORT. Little-endian fields of byte strings: a field is read back from the place it was written to (R3, R37). -/
namespace Sys2Proof.Machine

section Fields

variable {i k n v : Nat} {a bs : Bytes}

@[simp] theorem toLE_length (n v : Nat) : (toLE n v).length = n := by
  induction n generalizing v with
  | zero => rfl
  | succ n ih => rw [toLE, List.length_cons, ih]

/-- The bytes of a number that fits in them spell it. -/
theorem ofLE_toLE (h : v < 2 ^ (8 * n)) : ofLE (toLE n v) = v := by
  induction n generalizing v with
  | zero => simp [toLE, ofLE]; omega
  | succ n ih =>
    have hq : v / 256 < 2 ^ (8 * n) := by
      rw [Nat.div_lt_iff_lt_mul (by decide)]
      calc v < 2 ^ (8 * (n + 1)) := h
        _ = 2 ^ (8 * n) * 256 := by rw [Nat.mul_succ, pow_add]; rfl
    rw [toLE, ofLE, ih hq, BitVec.toNat_ofNat]
    omega

/-- A field past the end of the first part lies in the second. -/
theorem slice_past (h : a.length ≤ i) : slice i n (a ++ bs) = slice (i - a.length) n bs := by
  rw [slice, slice, List.drop_append, List.drop_eq_nil_of_le h, List.nil_append]

/-- A field that is the first part. -/
theorem slice_front (h : a.length = n) : slice 0 n (a ++ bs) = a := by
  subst h
  simp [slice, fixLen, zeros]

theorem slice_all (h : a.length = n) : slice 0 n a = a := by
  simpa using slice_front (bs := []) h

theorem le_past (h : k ≤ i) : le i n (toLE k v ++ bs) = le (i - k) n bs := by
  rw [le, slice_past (by rwa [toLE_length]), toLE_length, le]

theorem le_front (h : v < 2 ^ (8 * n)) : le 0 n (toLE n v ++ bs) = v := by
  rw [le, slice_front (toLE_length n v), ofLE_toLE h]

/-- A 64-bit word is read back from the front. -/
theorem word_front (w : W64) : BitVec.ofNat 64 (le 0 8 (toLE 8 w.toNat ++ bs)) = w := by
  rw [le_front w.isLt, BitVec.ofNat_toNat, BitVec.setWidth_eq]

end Fields

theorem bytesOfBarge_length (b : Barge) : (bytesOfBarge b).length = 64 + b.lights.length := by
  simp only [bytesOfBarge, List.length_append, toLE_length]

/-- Settles O8: past the fields before it, each field of the head stands at the front of what is left, and the lighters come last. -/
theorem bargeBytesRoundTrip : Obligations.BargeBytesRoundTrip := by
  unfold Obligations.BargeBytesRoundTrip
  rintro ⟨opcode, flags, format, seq, deadline, permit, h0, h1, h2, p0, p1, p2, lights⟩ hop hfl hfo hseq hde hpe hh0 hh1 hh2 hl
  refine ⟨?_, by rw [bytesOfBarge_length, hl, Nat.mul_add, Nat.mul_one]⟩
  simp only [bargeOfBytes, bytesOfBarge, List.append_assoc, le_past, slice_past, toLE_length, Nat.reduceLeDiff, Nat.one_le_ofNat,
    Std.le_refl, Nat.reduceSub, Nat.add_one_sub_one, tsub_self, Barge.mk.injEq]
  refine ⟨le_front hop, le_front hfl, le_front hfo, le_front hseq, le_front hde, le_front hpe, le_front hh0, le_front hh1, le_front hh2,
    word_front p0, word_front p1, word_front p2, ?_⟩
  rw [le_front hfl]
  exact slice_all hl

end Sys2Proof.Machine

/-! SUPPORT. Rings: doorbells, slot reads, completions on their way out, opening, closing and aborts, each stated once as what it leaves. -/

namespace Sys2Proof

/-- Of two entries put at one key the later stays. -/
theorem Tbl.put_put {α : Type} (k : Nat) (a b : α) (t : Tbl α) : Tbl.put k a (Tbl.put k b t) = Tbl.put k a t := by
  induction t with
  | nil => simp [Tbl.put]
  | cons p t ih =>
    obtain ⟨j, c⟩ := p
    obtain hlt | rfl | hgt := Nat.lt_trichotomy k j
    · simp [Tbl.put, hlt]
    · simp [Tbl.put]
    · simp [Tbl.put, Nat.not_lt_of_gt hgt, (Nat.ne_of_lt hgt).symm, ih]

namespace Machine

/-! ### What a frame says of one ring or entry, and of the time -/

section Frames

variable {ps : List Part} {s t : State}

theorem Only.ringAt (h : Only ps s t) (hp : .rings ∉ ps) (r : Nat) : t.ringAt r = s.ringAt r :=
  congrArg (tget ({} : Ring) r) (h .rings hp)

theorem Only.entryAt (h : Only ps s t) (hp : .lkm ∉ ps) (i : Nat) : t.entryAt i = s.entryAt i :=
  congrArg (fun l : Lkm => Tbl.find i l.tbl) (h .lkm hp)

theorem Only.now (h : Only ps s t) (hp : .clock ∉ ps) : t.now = s.now := congrArg Clock.dtime (h .clock hp)

end Frames

@[simp] theorem State.setRing_setRing (s : State) (r : Nat) (g h : Ring) : (s.setRing r g).setRing r h = s.setRing r h := by
  simp only [State.setRing, Tbl.put_put]

/-- R49: a fault of an OPEN or STOPPED ring without an error, but for one of a completion write. -/
theorem ringFault_of_err_zero {s : State} {r code : Nat} (hc : code ≠ 5) (he : (s.ringAt r).err = 0)
    (hst : (s.ringAt r).st = .opened ∨ (s.ringAt r).st = .stopped) :
    s.ringFault r code = s.setRing r { s.ringAt r with err := code, st := .faulted } := by
  have hs : (decide ((s.ringAt r).st = .opened) || decide ((s.ringAt r).st = .stopped)) = true := by simpa using hst
  simp [State.ringFault, hc, he, hs]

/-! ### Release (R47) -/

/-- No status but DONE is changed at the release. -/
theorem releaseStatus_of_ne {status : Nat} (h : status ≠ stDone) (fe : Bool) (deadline tick : Nat) :
    releaseStatus status fe deadline tick = status := if_neg fun hc => h hc.1

/-- Nor is any status up to the deadline's tick. -/
theorem releaseStatus_in_time {deadline tick : Nat} (h : tick ≤ deadline) (status : Nat) (fe : Bool) :
    releaseStatus status fe deadline tick = status := if_neg fun hc => Nat.not_lt.2 h hc.2.2

/-- Settles O11: a release changes no status but DONE, and none up to the deadline's tick. -/
theorem doneLateReplacesOnlyDone : Obligations.DoneLateReplacesOnlyDone := by
  unfold Obligations.DoneLateReplacesOnlyDone
  refine fun status deadline tick => ⟨?_, releaseStatus_in_time (Nat.le_refl _) _ _, fun h => releaseStatus_of_ne h _ _ _⟩
  simp only [releaseStatus, true_and]

/-! ### Doorbells (R48) -/

section Doorbell

/-- An offered SQ_TAIL is rejected: more slots than the ring has. -/
def tailRejected (g : Ring) (tail : Option W32) : Bool := tail.any fun t => decide (2 ^ g.sqLog < (t - g.sqHead).toNat)

/-- An offered CQ_HEAD goes back: DB_CQ_BACK. -/
def headBack (g : Ring) (head : Option W32) : Bool := head.any fun h => decide (2 ^ 31 ≤ (h - g.cqHead).toNat)

/-- An offered CQ_HEAD passes CQ_TAIL: DB_CQ_AHEAD. -/
def headAhead (g : Ring) (head : Option W32) : Bool := head.any fun h => decide ((g.cqTail - g.cqHead).toNat < (h - g.cqHead).toNat)

theorem bind_sqReject (g : Ring) (tail : Option W32) : tail.bind (sqReject g) = if tailRejected g tail then some 1 else none := by
  cases tail with
  | none => rfl
  | some t => exact if_congr decide_eq_true_iff.symm rfl rfl

theorem bind_cqReject (g : Ring) (head : Option W32) :
    head.bind (cqReject g) = if headBack g head then some 3 else if headAhead g head then some 2 else none := by
  cases head with
  | none => rfl
  | some h => exact if_congr decide_eq_true_iff.symm rfl (if_congr decide_eq_true_iff.symm rfl rfl)

/-- The ring with the doorbell values that pass their checks. -/
def Ring.rung (g : Ring) (tail head : Option W32) : Ring :=
  { g with
    sqTail := if tailRejected g tail then g.sqTail else tail.getD g.sqTail
    cqHead := if headBack g head || headAhead g head then g.cqHead else head.getD g.cqHead }

variable {s : State} {r : Nat} {tail head : Option W32}

/-- A doorbell write of an OPEN PCIe ring stores what passes and faults the ring with the first code. -/
theorem doorbell_of_open (ho : (s.ringAt r).st = .opened) (ht : (s.ringCfg r).transport = 0) (hs : s.serving = true) :
    s.doorbell r tail head = ((tail.bind (sqReject (s.ringAt r))).or (head.bind (cqReject (s.ringAt r)))).elim
      (s.setRing r ((s.ringAt r).rung tail head)) ((s.setRing r ((s.ringAt r).rung tail head)).ringFault r) := by
  have hg : (s.ringAt r).rung tail head = { s.ringAt r with
      sqTail := match tail with
        | some t => if (tail.bind (sqReject (s.ringAt r))).isNone then t else (s.ringAt r).sqTail
        | none => (s.ringAt r).sqTail
      cqHead := match head with
        | some h => if (head.bind (cqReject (s.ringAt r))).isNone then h else (s.ringAt r).cqHead
        | none => (s.ringAt r).cqHead } := by
    rw [bind_sqReject, bind_cqReject, Ring.rung]
    congr 1
    · cases tail with
      | none => simp
      | some t => cases tailRejected (s.ringAt r) (some t) <;> rfl
    · cases head with
      | none => simp
      | some h => cases headBack (s.ringAt r) (some h) <;> cases headAhead (s.ringAt r) (some h) <;> rfl
  unfold State.doorbell
  rw [if_pos ⟨ho, ht, hs⟩, hg]
  dsimp only
  cases (tail.bind (sqReject (s.ringAt r))).or (head.bind (cqReject (s.ringAt r))) <;> rfl

/-- R48 on an OPEN PCIe ring without an error. -/
theorem doorbell_of_open_of_err_zero (ho : (s.ringAt r).st = .opened) (ht : (s.ringCfg r).transport = 0) (hs : s.serving = true)
    (he : (s.ringAt r).err = 0) : s.doorbell r tail head = s.setRing r { (s.ringAt r).rung tail head with
      st := if tailRejected (s.ringAt r) tail || headBack (s.ringAt r) head || headAhead (s.ringAt r) head then .faulted else .opened
      err := if tailRejected (s.ringAt r) tail then 1 else if headBack (s.ringAt r) head then 3
        else if headAhead (s.ringAt r) head then 2 else 0 } := by
  have hfault (code : Nat) (hc : code ≠ 5) : (s.setRing r ((s.ringAt r).rung tail head)).ringFault r code =
      s.setRing r { (s.ringAt r).rung tail head with err := code, st := .faulted } := by
    rw [ringFault_of_err_zero hc (by rw [State.ringAt_setRing]; exact he) (.inl (by rw [State.ringAt_setRing]; exact ho)),
      State.ringAt_setRing, State.setRing_setRing]
  have hnone : (s.ringAt r).rung tail head = { (s.ringAt r).rung tail head with st := .opened, err := 0 } := by
    rw [← ho, ← he]; rfl
  rw [doorbell_of_open ho ht hs, bind_sqReject, bind_cqReject]
  cases tailRejected (s.ringAt r) tail with
  | true => exact hfault 1 (by decide)
  | false =>
    cases headBack (s.ringAt r) head with
    | true => exact hfault 3 (by decide)
    | false =>
      cases headAhead (s.ringAt r) head with
      | true => exact hfault 2 (by decide)
      | false => exact congrArg (s.setRing r) hnone

/-- A doorbell write of a ring that is not OPEN is only logged. -/
theorem doorbell_only_of_ne_opened (ho : (s.ringAt r).st ≠ .opened) : Only [.log] s (s.doorbell r tail head) := by
  unfold State.doorbell
  rw [if_neg fun h => ho h.1]
  exact logAccess_only s _ _

/-- Either command carries one doorbell write. -/
theorem exec_doorbell {i : Instr}
    (h : (∃ t, tail = some t ∧ i = .doorbellSqTail r t head) ∨ (∃ x, head = some x ∧ i = .doorbellCqHead r x tail)) :
    exec i s = .next (s.doorbell r tail head) := by
  obtain ⟨t, rfl, rfl⟩ | ⟨x, rfl, rfl⟩ := h <;> rfl

/-- Settles O12: the two values' checks, then the code of the first that fails. -/
theorem doorbellChecksEachValue : Obligations.DoorbellChecksEachValue := by
  unfold Obligations.DoorbellChecksEachValue
  intro s r tail head i hi
  rw [Completes, exec_doorbell hi]
  exact ⟨fun ho ht hs he => congrArg _ (doorbell_of_open_of_err_zero ho ht hs he), fun ho => ⟨_, rfl, doorbell_only_of_ne_opened ho⟩⟩

end Doorbell

/-! ### Slot reads (R49) -/

section Slots

variable {s : State} {r : Nat}

/-- A slot read that has returned concerns no part but the gates, whose barriers wait for it no longer (R301). -/
theorem slotReturned_only (s : State) (r : Nat) : Only [.gte] s (s.slotReturned r) := by
  unfold State.slotReturned
  split
  · exact only_gte s _
  · exact Only.refl _ s

@[simp] theorem slotReturned_ringAt (s : State) (r q : Nat) : (s.slotReturned r).ringAt q = s.ringAt q :=
  (slotReturned_only s r).ringAt (by decide) q

/-- SLOT_FETCH where nothing stands against the reads. -/
theorem slotFetch_issues (ho : (s.ringAt r).st = .opened) (ht : (s.ringCfg r).transport = 0) (hs : s.serving = true)
    (hf : (s.ringAt r).fetching = 0) (hn : 0 < fetchable (s.ringAt r)) (hp : s.pwr.stopped.contains 0x28 = false)
    (hg : ∀ a ∈ slotReads (s.ringAt r), s.gateCheck 112 .read (hostAddr a) 64 [] = none)
    (hb : s.wharf.bme.contains (s.ringCfg r).func = true) :
    exec (.slotFetch r) s = .next ((s.setRing r { s.ringAt r with fetching := fetchable (s.ringAt r) }).emits
      ((slotReads (s.ringAt r)).map fun a => .hostRead (s.ringCfg r).func a 64)) := by
  have hgate : ((slotReads (s.ringAt r)).findSome? fun a => s.gateCheck 112 .read (hostAddr a) 64 []) = none :=
    List.findSome?_eq_none_iff.2 hg
  show execSlotFetch r s = _
  unfold execSlotFetch
  simp only [ho, ht, hs, hf, hn, hp, hgate, hb, and_self, if_true]

/-- SLOT_READ_DONE with the bytes of a barge whose head and lighters were asked for. -/
theorem slotReadDone_presents {bs : Bytes} (ho : (s.ringAt r).st = .opened ∨ (s.ringAt r).st = .stopped)
    (hf : (s.ringAt r).fetching ≠ 0)
    (hn : 1 + (bargeOfBytes (fixLen (64 * (s.ringAt r).fetching) bs)).lighters ≤ (s.ringAt r).fetching) :
    exec (.slotReadDone r (.data bs)) s = .next ((s.slotReturned r).setRing r { s.ringAt r with
      fetching := 0
      fetched := (s.ringAt r).fetched + BitVec.ofNat 32 (1 + (bargeOfBytes (fixLen (64 * (s.ringAt r).fetching) bs)).lighters)
      port := (s.ringAt r).port ++ [⟨bargeOfBytes (fixLen (64 * (s.ringAt r).fetching) bs), none, false⟩] }) := by
  have hst : ¬((s.ringAt r).st ≠ .opened ∧ (s.ringAt r).st ≠ .stopped) := by tauto
  show execSlotReadDone r (.data bs) s = _
  unfold execSlotReadDone
  simp only [slotReturned_ringAt, if_neg hf, if_neg hst, if_pos hn]

/-- The state once a slot read of ring `r` is no longer outstanding. -/
def State.readReturned (s : State) (r : Nat) : State := (s.slotReturned r).setRing r { s.ringAt r with fetching := 0 }

theorem readReturned_only (s : State) (r : Nat) : Only [.rings, .wharf, .gte] s (s.readReturned r) :=
  ((slotReturned_only s r).mono (by simp)).trans ((only_rings _ _).mono (by simp))

theorem readReturned_ringAt (s : State) (r : Nat) : (s.readReturned r).ringAt r = { s.ringAt r with fetching := 0 } :=
  State.ringAt_setRing _ _ _

theorem readReturned_ringAt_ne {q : Nat} (hq : q ≠ r) : (s.readReturned r).ringAt q = s.ringAt q :=
  (State.ringAt_setRing_ne _ _ _ _ hq).trans (slotReturned_ringAt s r q)

/-- SLOT_READ_DONE of a failed read faults the ring, a poisoned one once it is counted. -/
theorem slotReadDone_fails {ret : SlotReturn} (hret : ret = .pcieError ∨ ret = .poisoned)
    (ho : (s.ringAt r).st = .opened ∨ (s.ringAt r).st = .stopped) (hf : (s.ringAt r).fetching ≠ 0) :
    ∃ w, exec (.slotReadDone r ret) s = .next (({ s.readReturned r with wharf := w } : State).ringFault r 4) := by
  have hst : ¬((s.ringAt r).st ≠ .opened ∧ (s.ringAt r).st ≠ .stopped) := by tauto
  obtain rfl | rfl := hret
  · refine ⟨(s.readReturned r).wharf, ?_⟩
    show execSlotReadDone r .pcieError s = _
    unfold execSlotReadDone
    simp only [slotReturned_ringAt, if_neg hf, if_neg hst]
    rfl
  · refine ⟨{ (s.readReturned r).wharf with poisoned := satAdd 16 (s.readReturned r).wharf.poisoned 1 }, ?_⟩
    show execSlotReadDone r .poisoned s = _
    unfold execSlotReadDone
    simp only [slotReturned_ringAt, if_neg hf, if_neg hst]
    rfl

/-- Settles O13: the reads asked for, the barge presented, and the fault of a failed read on what its return leaves. -/
theorem slotsAreFetchedAndPresented : Obligations.SlotsAreFetchedAndPresented := by
  unfold Obligations.SlotsAreFetchedAndPresented
  refine ⟨fun s r => slotFetch_issues, fun s r bs => slotReadDone_presents, ?_⟩
  intro s r ret g ho hf he hret
  obtain ⟨w, hw⟩ := slotReadDone_fails hret ho hf
  have hr : ({ s.readReturned r with wharf := w } : State).ringAt r = { g with fetching := 0 } := readReturned_ringAt s r
  rw [ringFault_of_err_zero (by decide) (by rw [hr]; exact he) (by rw [hr]; exact ho), hr] at hw
  exact ⟨_, hw, State.ringAt_setRing _ _ _, fun q hq => (State.ringAt_setRing_ne _ _ _ _ hq).trans (readReturned_ringAt_ne hq),
    (readReturned_only s r).trans (((only_wharf _ w).mono (by simp)).trans ((only_rings _ _).mono (by simp)))⟩

end Slots

/-! ### Ring interrupts (R53, R384) -/

section Interrupts

variable {s : State} {r fn vec : Nat}

/-- A message that is due enters the outbox or waits; what is in the outbox stays there. -/
theorem msix_keeps_out (s : State) (fn vec : Nat) : s.out ⊆ (s.msix fn vec).out := by
  unfold State.msix State.sendMsix
  split
  · split
    · exact List.subset_append_left _ _
    · exact List.Subset.refl _
  · split <;> exact List.Subset.refl _

theorem sendMsix_of_passed (h : s.gateCheck 112 .write (msixAddr fn vec) 4 [] = none) : s.sendMsix fn vec = s.emit (.msix fn vec) := by
  simp only [State.sendMsix, h]

theorem sendMsix_of_refused {b : Nat × Option Nat} (h : s.gateCheck 112 .write (msixAddr fn vec) 4 [] = some b) :
    s.sendMsix fn vec = { s with wharf := { s.wharf with msixRefused := s.wharf.msixRefused ++ [b.1] } } := by
  simp only [State.sendMsix, h]

/-- A message that its function may send leaves, or is refused by gate 112. -/
theorem msix_of_ready (h : s.msixReady fn vec = true) : s.msix fn vec = s.sendMsix fn vec := if_pos h

/-- A message that its function may not send waits. -/
theorem msix_of_not_ready (h : ¬ s.msixReady fn vec = true) :
    (s.msix fn vec).out = s.out ∧ (s.msix fn vec).wharf.msixPending.contains (fn, vec) = true := by
  rw [State.msix, if_neg h]
  split
  next hc => exact ⟨rfl, hc⟩
  next => exact ⟨rfl, by simp⟩

/-- The ring whose interrupt has fallen due. -/
def Ring.interrupted (g : Ring) : Ring := { g with unsig := 0, coalFrom := none }

theorem ringInterrupt_of_pcie (ht : (s.ringCfg r).transport = 0) : s.ringInterrupt r =
    (s.setRing r (s.ringAt r).interrupted).msix (s.ringCfg r).func (s.ringAt r).msixVec := if_pos ht

/-- The state with one more completion of ring `r` that no interrupt has signalled. -/
def State.unsignalled (s : State) (r : Nat) : State :=
  s.setRing r { s.ringAt r with unsig := (s.ringAt r).unsig + 1, coalFrom := (s.ringAt r).coalFrom.or (some s.now) }

/-- A written completion is counted, and the interrupt may fall due with it. -/
theorem signal_cases (s : State) (r : Nat) (irq : Bool) :
    s.signal r irq = s.unsignalled r ∨ s.signal r irq = (s.unsignalled r).ringInterrupt r := by
  unfold State.signal
  dsimp only
  split
  · exact .inr rfl
  · exact .inl rfl

theorem ringInterrupt_only (s : State) (r : Nat) : Only [.rings, .out, .wharf] s (s.ringInterrupt r) := by
  have h : Only [.rings, .out, .wharf] s (s.setRing r (s.ringAt r).interrupted) := (only_rings s _).mono (by simp)
  unfold State.ringInterrupt
  dsimp only
  split
  · exact h.trans ((msix_only _ _ _).mono (by simp))
  · exact h

theorem ringInterrupt_rings (s : State) (r : Nat) : (s.ringInterrupt r).rings = Tbl.put r (s.ringAt r).interrupted s.rings := by
  unfold State.ringInterrupt
  dsimp only
  split
  · exact State.msix_rings _ _ _
  · rfl

theorem ringInterrupt_ringAt (s : State) (r : Nat) : (s.ringInterrupt r).ringAt r = (s.ringAt r).interrupted := by
  rw [State.ringAt, ringInterrupt_rings, tget_put]

theorem ringInterrupt_ringAt_ne {q : Nat} (hq : q ≠ r) : (s.ringInterrupt r).ringAt q = s.ringAt q := by
  rw [State.ringAt, ringInterrupt_rings, tget_put_ne _ _ _ _ _ hq, State.ringAt]

theorem ringInterrupt_keeps_out (s : State) (r : Nat) : s.out ⊆ (s.ringInterrupt r).out := by
  unfold State.ringInterrupt
  dsimp only
  split
  · exact msix_keeps_out (s.setRing r _) _ _
  · exact List.Subset.refl _

/-- R53: what a written completion's signal leaves: the ring but for its count and timer, other rings and the outbox's messages. -/
theorem signal_spec (s : State) (r : Nat) (irq : Bool) :
    (∃ n from_, (s.signal r irq).ringAt r = { s.ringAt r with unsig := n, coalFrom := from_ }) ∧
      (∀ q, q ≠ r → (s.signal r irq).ringAt q = s.ringAt q) ∧ s.out ⊆ (s.signal r irq).out ∧
      Only [.rings, .out, .wharf] s (s.signal r irq) := by
  have hq (q : Nat) (h : q ≠ r) : (s.unsignalled r).ringAt q = s.ringAt q := State.ringAt_setRing_ne _ _ _ _ h
  have ho : Only [.rings, .out, .wharf] s (s.unsignalled r) := (only_rings s _).mono (by simp)
  obtain h | h := signal_cases s r irq <;> rw [h]
  · exact ⟨⟨_, _, State.ringAt_setRing _ _ _⟩, hq, List.Subset.refl _, ho⟩
  · refine ⟨⟨0, none, ?_⟩, fun q h => (ringInterrupt_ringAt_ne h).trans (hq q h), ringInterrupt_keeps_out (s.unsignalled r) r,
      ho.trans (ringInterrupt_only _ _)⟩
    rw [ringInterrupt_ringAt, State.unsignalled, State.ringAt_setRing]
    rfl

/-- COAL_TIMER_EXPIRE once the timer has run. -/
theorem coalTimerExpire_due {from_ : Nat} (hf : (s.ringAt r).coalFrom = some from_) (hc : 0 < (s.ringAt r).coalTime)
    (hn : from_ + 100 * (s.ringAt r).coalTime ≤ s.now) : exec (.coalTimerExpire r) s = .next (s.ringInterrupt r) := by
  show execCoalTimerExpire r s = _
  simp only [execCoalTimerExpire, hf, hc, hn, and_self, if_true]

/-- PENDING_MSIX_SEND of a message that its function may send. -/
theorem pendingMsixSend_sends (hp : s.wharf.msixPending.contains (fn, vec) = true) (hr : s.msixReady fn vec = true) :
    exec (.pendingMsixSend fn vec) s = .next
      (({ s with wharf := { s.wharf with msixPending := s.wharf.msixPending.erase (fn, vec) } } : State).sendMsix fn vec) := by
  show execPendingMsixSend fn vec s = _
  simp only [execPendingMsixSend, hp, hr, and_self, if_true]

end Interrupts

/-! ### Completions written (R50) -/

section Completions

variable {s : State} {r : Nat} {p : Pending} {rest : List Pending}

/-- The state with the barge-table entry of a completion freed. -/
def State.freed (s : State) (p : Pending) : State := p.idx.elim s s.delEntry

theorem freed_only (s : State) (p : Pending) : Only [.lkm] s (s.freed p) := by
  unfold State.freed
  cases p.idx with
  | none => exact Only.refl _ s
  | some i => exact only_lkm s _

theorem freed_entryAt {i : Nat} (h : p.idx = some i) : (s.freed p).entryAt i = none := by
  rw [State.freed, h]
  exact State.entryAt_delEntry s i

/-- A completion leaves for its slot of a host ring. -/
theorem putCompletion_of_pcie (ht : (s.ringCfg r).transport = 0) : s.putCompletion r p =
    (((s.freed p).setRing r { s.ringAt r with cqTail := (s.ringAt r).cqTail + 1, inFlight := (s.ringAt r).inFlight - 1 }).emit
      (.hostWrite (s.ringCfg r).func (compAddr (s.ringAt r))
        (compBytes p.comp (phaseOf (s.ringAt r).cqTail.toNat (s.ringAt r).cqLog)))).signal r p.irq := by
  unfold State.putCompletion State.freed
  cases p.idx <;> exact if_pos ht

/-- COMPLETION_WRITE of the next released completion where nothing stands against the write. -/
theorem completionWrite_writes (ht : (s.ringCfg r).transport = 0) (ho : (s.ringAt r).st = .opened) (hh : (s.ringAt r).holding = false)
    (hm : s.glb.mode ≠ .halt) (he : (s.ringAt r).epochComp = none) (hq : (s.ringAt r).relq = p :: rest)
    (hp : s.pwr.stopped.contains 0x28 = false)
    (hg : s.gateCheck 112 .write (hostAddr (compAddr (s.ringAt r))) 32 (wordsOf (zeros 32) .pub) = none)
    (hb : s.wharf.bme.contains (s.ringCfg r).func = true) (hu : s.wharf.pcieUp = true) :
    exec (.completionWrite r true) s =
      .next ((s.setRing r { s.ringAt r with relq := rest, heldLeft := (s.ringAt r).heldLeft - 1 }).putCompletion r p) := by
  have hr : s.compRefused r = none := by
    rw [State.compRefused, if_neg (not_not_intro ht), hg]
  show execCompletionWrite r true s = _
  simp [execCompletionWrite, ht, ho, hh, hm, he, hq, hp, hr, hb, hu, -List.contains_eq_mem]

/-- R50: what the write of ring `r`'s completion `p` leaves. -/
theorem putCompletion_spec (ht : (s.ringCfg r).transport = 0) :
    let t := s.putCompletion r p
    let g := s.ringAt r
    (∃ n from_, t.ringAt r = { g with cqTail := g.cqTail + 1, inFlight := g.inFlight - 1, unsig := n, coalFrom := from_ }) ∧
      Emit.hostWrite (s.ringCfg r).func (compAddr g) (compBytes p.comp (phaseOf g.cqTail.toNat g.cqLog)) ∈ t.out ∧
      (∀ i, p.idx = some i → t.entryAt i = none) ∧ (∀ q, q ≠ r → t.ringAt q = s.ringAt q) ∧
      Only [.rings, .lkm, .out, .wharf] s t := by
  intro t g
  let u := ((s.freed p).setRing r { g with cqTail := g.cqTail + 1, inFlight := g.inFlight - 1 }).emit
    (.hostWrite (s.ringCfg r).func (compAddr g) (compBytes p.comp (phaseOf g.cqTail.toNat g.cqLog)))
  have hu : t = u.signal r p.irq := putCompletion_of_pcie ht
  obtain ⟨⟨n, from_, hr⟩, hq, hout, honly⟩ := signal_spec u r p.irq
  have hur : u.ringAt r = { g with cqTail := g.cqTail + 1, inFlight := g.inFlight - 1 } := State.ringAt_setRing _ _ _
  have huq (q : Nat) (h : q ≠ r) : u.ringAt q = s.ringAt q :=
    (State.ringAt_setRing_ne _ _ _ _ h).trans ((freed_only s p).ringAt (by decide) q)
  have hsu : Only [.rings, .lkm, .out, .wharf] s u := ((freed_only s p).mono (by simp)).trans
    (((only_rings _ _).mono (by simp)).trans ((only_out _ _).mono (by simp)))
  rw [hu]
  refine ⟨⟨n, from_, by rw [hr, hur]⟩, hout (by simp [u]), fun i hi => ?_, fun q h => (hq q h).trans (huq q h),
    hsu.trans (honly.mono (by simp))⟩
  rw [honly.entryAt (by decide)]
  exact freed_entryAt hi

/-- Settles O14. That a message which gate 112 refuses is not sent and is remembered for its report is log 42's reading of R294, R299 and
R384. -/
theorem completionsAreWrittenInOrder : Obligations.CompletionsAreWrittenInOrder := by
  unfold Obligations.CompletionsAreWrittenInOrder
  refine ⟨?_, ?_, ?_⟩
  · intro s r p rest g ht ho hh hm he hq hp hg hb hu
    obtain ⟨⟨n, from_, hring⟩, hwrite, hentry, hother, honly⟩ := putCompletion_spec (p := p)
      (s := s.setRing r { g with relq := rest, heldLeft := g.heldLeft - 1 }) (r := r) ht
    rw [State.ringAt_setRing] at hring hwrite
    refine ⟨_, completionWrite_writes ht ho hh hm he hq hp hg hb hu, ?_, ?_, ?_, hwrite, hentry,
      fun q h => (hother q h).trans (State.ringAt_setRing_ne _ _ _ _ h), Only.trans ((only_rings _ _).mono (by simp)) honly⟩ <;>
    rw [hring]
  · intro s r from_ g fn ht hf hc hn
    refine ⟨_, coalTimerExpire_due hf hc hn, ringInterrupt_ringAt s r, ringInterrupt_only s r, ?_⟩
    rw [ringInterrupt_of_pcie ht]
    split
    next hready =>
      rw [msix_of_ready (s := s.setRing r g.interrupted) hready]
      split
      next hg => rw [sendMsix_of_passed (s := s.setRing r g.interrupted) hg]; rfl
      next b hg => rw [sendMsix_of_refused (s := s.setRing r g.interrupted) hg]; exact ⟨rfl, rfl⟩
    next hready => exact msix_of_not_ready (s := s.setRing r g.interrupted) hready
  · intro s fn vec hp hr
    let t : State := { s with wharf := { s.wharf with msixPending := s.wharf.msixPending.erase (fn, vec) } }
    rw [pendingMsixSend_sends hp hr]
    split
    next hg => rw [sendMsix_of_passed (s := t) hg]; rfl
    next b hg => rw [sendMsix_of_refused (s := t) hg]

end Completions

/-! ### Opening, closing and draining (R51, R52) -/

section OpenClose

variable {s : State} {r : Nat} {v : W64}

/-- The ring that RING_OPEN leaves (R51, R58): its counters 0, and the first time in the epoch the epoch-change completion to write. -/
def Ring.reopened (g : Ring) (c : Comp) : Ring :=
  { g with
    sqTail := 0, sqHead := 0, cqHead := 0, cqTail := 0, fetched := 0, fetching := 0, err := 0, unsig := 0, coalFrom := none,
    v1High := 0, v1Last := none, st := .opened, holding := false, flr := false, openedInEpoch := true, heldLeft := g.relq.length
    epochComp := if g.openedInEpoch then g.epochComp else some c
    inFlight := if g.openedInEpoch then g.held else 1 }

/-- A PCIe ring with a RING record, legal sizes, bases and room opens. -/
theorem openRing_opens {g : Ring} (ht : (s.ringCfg r).transport = 0) (hf : (Tbl.find r s.cfg.rings).isSome = true) (hs4 : 4 ≤ g.sqLog)
    (hs16 : g.sqLog ≤ 16) (hc4 : 4 ≤ g.cqLog) (hc17 : g.cqLog ≤ 17) (hsb : g.sqBase ≠ 0) (hcb : g.cqBase ≠ 0)
    (hr : g.held < 2 ^ g.cqLog) : (s.setRing r g).openRing r = s.setRing r (g.reopened s.epochCompletion) := by
  have ht' : ((s.setRing r g).ringCfg r).transport = 0 := ht
  simp only [State.openRing, State.ringAt_setRing, State.setRing_cfg, State.setRing_setRing, ht', hf, hs4, hs16, hc4, hc17,
    bne_iff_ne.2 hsb, bne_iff_ne.2 hcb, hr, decide_true, Bool.not_true, Bool.false_or, Bool.and_self, if_true, Ring.reopened,
    Bool.not_eq_true', ← Bool.not_eq_true, ite_not]
  rfl

/-- RING_OPEN of a CLOSED ring. -/
theorem ringOpen_of_closed (hv : wbit 1 v = false) (ht : (s.ringCfg r).transport = 0) (hs : s.serving = true)
    (hc : (s.ringAt r).st = .closed) :
    exec (.ringOpen r v) s = .next ((s.setRing r (ctlFields (s.ringCfg r).func (s.ringAt r) v)).openRing r) := by
  have hst : (ctlFields (s.ringCfg r).func (s.ringAt r) v).st = .closed := hc
  show execRingOpen r v s = _
  simp [execRingOpen, hv, ht, hs, hst]

/-- RING_CLOSE of a ring that is OPEN, STOPPED or FAULTED. -/
theorem ringClose_closes (hv : wbit 0 v = false) (hs : s.serving = true)
    (ho : (s.ringAt r).st = .opened ∨ (s.ringAt r).st = .stopped ∨ (s.ringAt r).st = .faulted) :
    exec (.ringClose r v) s = .next (s.setRing r
      { ctlFields (s.ringCfg r).func (s.ringAt r) v with st := .draining, port := [], fetching := 0 }) := by
  have hst : (ctlFields (s.ringCfg r).func (s.ringAt r) v).st = (s.ringAt r).st := rfl
  show execRingClose r v s = _
  obtain h | h | h := ho <;>
    simp [execRingClose, hv, hs, hst, h, State.closeRing]

/-- RING_DRAINED of a ring whose admitted barges are all finished, outside a function reset. -/
theorem ringDrained_closes (hd : (s.ringAt r).st = .draining) (hu : s.unfinished r = 0) (hf : (s.ringAt r).flr = false) :
    exec (.ringDrained r) s = .next (s.setRing r { s.ringAt r with st := .closed, store := [] }) := by
  show execRingDrained r s = _
  simp [execRingDrained, hd, hu, hf]

/-- Settles O15: the ring that each of the three commands leaves, with the interrupt fields of the value written. -/
theorem ringsOpenAndClose : Obligations.RingsOpenAndClose := by
  unfold Obligations.RingsOpenAndClose
  refine ⟨?_, ?_, fun s r => ringDrained_closes⟩
  · intro s r v g hv ht hs hc hf hs4 hs16 hc4 hc17 hsb hcb hr
    have hopen := ringOpen_of_closed hv ht hs hc
    rw [openRing_opens (g := ctlFields (s.ringCfg r).func g v) ht hf hs4 hs16 hc4 hc17 hsb hcb hr] at hopen
    refine ⟨_, hopen, ?_⟩
    beta_reduce
    rw [State.ringAt_setRing]
    refine ⟨rfl, rfl, rfl, rfl, rfl, rfl, rfl, rfl, rfl, fun he => ?_, fun q hq => State.ringAt_setRing_ne _ _ _ _ hq, only_rings s _⟩
    have hfirst : (ctlFields (s.ringCfg r).func g v).openedInEpoch = false := he
    simp [Ring.reopened, hfirst]
  · intro s r v g hv hs ho
    refine ⟨_, ringClose_closes hv hs ho, ?_⟩
    beta_reduce
    rw [State.ringAt_setRing]
    exact ⟨rfl, rfl, rfl, fun q hq => State.ringAt_setRing_ne _ _ _ _ hq, only_rings s _⟩

end OpenClose

/-! ### Aborts (R57) -/

section Aborts

variable {s : State} {i k : Nat} {e : Entry}

theorem abortBarge_of_queued {p : Place} (he : s.entryAt i = some e) (hp : e.ph = .queued p) :
    s.abortBarge i = s.failBarge i stAborted := by simp only [State.abortBarge, he, hp]

theorem abortBarge_of_parked {n : Nat} {w : List Nat} (he : s.entryAt i = some e) (hp : e.ph = .parked n w) :
    s.abortBarge i = s.failBarge i stAborted := by simp only [State.abortBarge, he, hp]

/-- A dispatched barge is marked, unless its commit has begun. -/
theorem abortBarge_of_running (he : s.entryAt i = some e) (hp : e.ph = .running k) :
    s.abortBarge i = if e.committing || e.committed then s
      else s.setCore k { s.coreAt k with aborted := (s.coreAt k).aborted.or (some s.now) } := by
  simp only [State.abortBarge, he, hp]

theorem abortBarge_of_done (he : s.entryAt i = some e) (hp : e.ph = .done) : s.abortBarge i = s := by
  simp only [State.abortBarge, he, hp]

theorem abortAll_serving {r : Nat} (hs : s.serving = true) :
    exec (.abortAll r) s = .next (s.abortWhere fun e => decide (e.ring = r) && e.origin.isNone) := by
  show execAbortAll r s = _
  rw [execAbortAll, if_pos hs]

theorem abortSeq_serving {r seq : Nat} (hs : s.serving = true) :
    exec (.abortSeq r seq) s = .next (s.abortWhere fun e => decide (e.ring = r) && e.origin.isNone && decide (e.b.seq = seq)) := by
  show execAbortSeq r seq s = _
  rw [execAbortSeq, if_pos hs]

/-- Settles O16: both commands abort the barges of their test in table order, each by its phase. -/
theorem abortsByState : Obligations.AbortsByState := by
  unfold Obligations.AbortsByState
  refine ⟨fun s r seq hs => ⟨abortAll_serving hs, abortSeq_serving hs⟩, fun s i e he => ⟨fun p => abortBarge_of_queued he,
    fun n w => abortBarge_of_parked he, fun k hk hc hd => ?_, fun k hk hc => ?_, abortBarge_of_done he⟩⟩
  · rw [abortBarge_of_running he hk, hc, hd]
    rfl
  · rw [abortBarge_of_running he hk, if_pos (by simpa using hc)]

end Aborts

end Machine
end Sys2Proof

/-! SUPPORT. The end of a barge: the frames of what its core gives up, and its completion's release to the ring. -/
namespace Sys2Proof.Machine

/-! ### The units of a core whose barge ends (R221, R236) -/

section Units

theorem idleNow_only (s : State) (d : Nat) : Only [.pwr] s (s.idleNow d) := only_pwr s _

/-- The parts that a lane context's end can change: the lanes, the cores that wait for one, and the power domains' idle times. -/
def laneEndParts : List Part := [.cores, .cph, .pwr]

theorem laneSay_only (s : State) (k : Nat) (out : List TWord) (code : Nat) : Only laneEndParts s (s.laneSay k out code) := by
  unfold State.laneSay
  dsimp only
  split
  · exact Only.trans (t := s.setCore k _) ((only_cores s _).mono (by simp [laneEndParts])) ((only_cph _ _).mono (by simp [laneEndParts]))
  · exact (only_cores s _).mono (by simp [laneEndParts])

theorem openEnds_only (s : State) (w : Nat × Nat × Nat) : Only laneEndParts s (s.openEnds w) :=
  (only_cph s _).mono (by simp [laneEndParts])

/-- Waiting OPENs that take lanes, or end in FAULT (R202, R219). -/
theorem grantLanes_only (s : State) : Only laneEndParts s s.grantLanes := by
  refine Only.foldl (fun s w => ?_) _ s
  split
  · exact (openEnds_only s w).trans (laneSay_only _ _ _ _)
  · split
    · exact Only.refl _ s
    · exact ((setCtx_only s _ _).mono (by simp [laneEndParts])).trans ((openEnds_only _ w).trans (laneSay_only _ _ _ _))

theorem diagLane_only (s : State) : Only laneEndParts s s.diagLane := by
  unfold State.diagLane
  split
  · exact Only.trans (t := s.setLane _ _) ((only_cph s _).mono (by simp [laneEndParts]))
      (((setCtx_only _ _ _).mono (by simp [laneEndParts])).trans ((only_cph _ _).mono (by simp [laneEndParts])))
  · exact Only.refl _ s

theorem closeLane_only (s : State) (k : Nat) : Only laneEndParts s (s.closeLane k) := by
  unfold State.closeLane
  split
  · exact (only_cph s _).mono (by simp [laneEndParts])
  · extract_lets c s1 rest l mine s2
    have h1 : Only laneEndParts s s1 := (only_cores s _).mono (by simp [laneEndParts])
    have h2 : Only laneEndParts s1 s2 := (only_cph s1 _).mono (by simp [laneEndParts])
    exact h1.trans (h2.trans (((idleNow_only s2 _).mono (by simp [laneEndParts])).trans ((diagLane_only _).trans (grantLanes_only _))))

theorem endLane_only (s : State) (k : Nat) : Only laneEndParts s (s.endLane k) := by
  unfold State.endLane
  extract_lets c s1
  have h1 : Only laneEndParts s s1 := (only_cores s _).mono (by simp [laneEndParts])
  refine h1.trans ?_
  split
  · split
    · exact (setCtx_only s1 _ _).mono (by simp [laneEndParts])
    · exact closeLane_only s1 k
  · exact closeLane_only s1 k

/-- The parts that the end of a tile job can change. -/
def jobEndParts : List Part := [.cores, .bgn, .pwr]

theorem closeJob_only (s : State) (k : Nat) : Only jobEndParts s (s.closeJob k) := by
  unfold State.closeJob
  split
  · exact (only_bgn s _).mono (by simp [jobEndParts])
  · exact Only.trans (t := s.setCore k _) ((only_cores s _).mono (by simp [jobEndParts]))
      (Only.trans (t := State.setTile _ _ _) ((only_bgn _ _).mono (by simp [jobEndParts]))
        ((idleNow_only _ _).mono (by simp [jobEndParts])))

theorem endJob_only (s : State) (k : Nat) : Only jobEndParts s (s.endJob k) := by
  unfold State.endJob
  extract_lets c s1
  have h1 : Only jobEndParts s s1 := (only_cores s _).mono (by simp [jobEndParts])
  refine h1.trans ?_
  split
  · split
    · exact (setJob_only s1 _ _).mono (by simp [jobEndParts])
    · exact closeJob_only s1 k
  · exact closeJob_only s1 k

/-- The parts that the release of a hash engine can change. -/
def engEndParts : List Part := [.cores, .hsh, .pwr]

theorem diagEngine_only (s : State) : Only engEndParts s s.diagEngine := by
  unfold State.diagEngine
  extract_lets d g s1 c s2
  have h1 : Only engEndParts s s1 := (only_hsh s _).mono (by simp [engEndParts])
  have h2 : Only engEndParts s1 s2 := (only_cores s1 _).mono (by simp [engEndParts])
  split
  · exact h1.trans (h2.trans ((only_hsh s2 _).mono (by simp [engEndParts])))
  · exact Only.refl _ s

theorem releaseEng_only (s : State) (k : Nat) : Only engEndParts s (s.releaseEng k) := by
  unfold State.releaseEng
  split
  · exact Only.refl _ s
  · extract_lets g s1 c s2
    have h1 : Only engEndParts s s1 := (only_hsh s _).mono (by simp [engEndParts])
    have h2 : Only engEndParts s1 s2 := (only_cores s1 _).mono (by simp [engEndParts])
    exact h1.trans (h2.trans (((idleNow_only s2 _).mono (by simp [engEndParts])).trans (diagEngine_only _)))

theorem endEng_only (s : State) (k : Nat) : Only engEndParts s (s.endEng k) := by
  unfold State.endEng
  extract_lets c s1
  have h1 : Only engEndParts s s1 := (only_cores s _).mono (by simp [engEndParts])
  refine h1.trans ?_
  split
  · split
    · exact (only_hsh s1 _).mono (by simp [engEndParts])
    · exact releaseEng_only s1 k
  · exact Only.refl _ s1

/-- The parts that the end of a core's barge can change before its completion is released: the units, a dropped commit and a count. -/
def bargeEndParts : List Part := [.cores, .cph, .hsh, .bgn, .pwr, .log, .brv, .mor]

theorem freeUnits_only (s : State) (k : Nat) : Only bargeEndParts s (s.freeUnits k) := by
  unfold State.freeUnits
  extract_lets s1 s2 c pwr s3
  have h1 : Only bargeEndParts s s1 := ((endLane_only s k).mono (by decide)).trans ((endJob_only _ k).mono (by decide))
  have h2 : Only bargeEndParts s1 s2 := ((endEng_only s1 k).mono (by decide)).trans ((idleNow_only _ _).mono (by decide))
  have h3 : Only bargeEndParts s2 s3 := by
    simp only [s3]
    split
    · exact (only_pwr s2 _).mono (by decide)
    · exact Only.refl _ s2
  exact h1.trans (h2.trans (h3.trans ((only_cores s3 _).mono (by decide))))

/-- The core is free again. -/
theorem freeUnits_job (s : State) (k : Nat) : ((s.freeUnits k).coreAt k).job = none := by
  simp [State.freeUnits]

theorem dropCommit_only (s : State) (i : Nat) : Only bargeEndParts s (s.dropCommit i) := by
  have h (l : Log) (b : Brv) (cs : List Commit) : Only bargeEndParts s (({ s with log := l, brv := b } : State).regather cs) :=
    ((only_log s l).mono (by decide)).trans (((only_brv { s with log := l } b).mono (by decide)).trans
      ((only_mor { s with log := l, brv := b } _).mono (by decide)))
  exact h _ _ _

theorem countOffline_only (s : State) (status : Nat) : Only bargeEndParts s (s.countOffline status) := by
  unfold State.countOffline
  split
  · exact (only_mor s _).mono (by decide)
  · exact Only.refl _ s

end Units

/-! ### Completions released (R42, R43, R74) -/

section Finish

variable {s t : State} {i k : Nat} {e : Entry} {c : Comp} {out : Option Bytes} {o : Outcome}

/-- The entry of a barge whose completion is released. -/
def Entry.afterRelease (e : Entry) (out : Option Bytes) : Entry :=
  { e with ph := .done, comp := none, outBytes := out, locks := [], chamber := false }

/-- The ring of a barge, which is entry `i`, with its completion released at tick `now`. -/
def Ring.withReleased (g : Ring) (i : Nat) (e : Entry) (c : Comp) (out : Option Bytes) (now : Nat) : Ring :=
  { g with relq := g.relq ++ [⟨some i,
    { c with status := releaseStatus c.status e.failExpired e.deadline now, time := now % 2 ^ 32 }, e.b.irq, out, e.v1⟩] }

/-- A completion formed for a barge of this device with no flow, on no ring under FLR, is released at once. -/
theorem finish_releases (he : s.entryAt i = some e) (hf : e.flow = none) (ho : e.origin = none) (hg : (s.ringAt e.ring).flr = false) :
    s.finish i c out = (s.setEntry i (e.afterRelease out)).setRing e.ring ((s.ringAt e.ring).withReleased i e c out s.now) := by
  simp [State.finish, State.release, he, hf, ho, hg, Entry.afterRelease, Ring.withReleased]

theorem failBarge_releases (he : s.entryAt i = some e) (hf : e.flow = none) (ho : e.origin = none) (hg : (s.ringAt e.ring).flr = false)
    (st : Nat) : s.failBarge i st =
      (s.setEntry i (e.afterRelease none)).setRing e.ring ((s.ringAt e.ring).withReleased i e (failComp e.b.seq st) none s.now) := by
  simp only [State.failBarge, he]
  exact finish_releases he hf ho hg

/-- R43, R74: what the release leaves after the units of core `k` are given up in a state that keeps the barge, its ring and the time. -/
theorem finish_freeUnits (ht : Only bargeEndParts s t) (he : s.entryAt i = some e) (hf : e.flow = none) (ho : e.origin = none)
    (hg : (s.ringAt e.ring).flr = false) :
    (((t.freeUnits k).finish i c out).coreAt k).job = none ∧
      ((t.freeUnits k).finish i c out).ringAt e.ring = (s.ringAt e.ring).withReleased i e c out s.now := by
  have hu : Only bargeEndParts s (t.freeUnits k) := ht.trans (freeUnits_only t k)
  have hr : (t.freeUnits k).ringAt e.ring = s.ringAt e.ring := hu.ringAt (by decide) _
  rw [finish_releases ((hu.entryAt (by decide) i).trans he) hf ho (by rw [hr]; exact hg), hr, hu.now (by decide)]
  rw [State.setRing_coreAt, State.setEntry_coreAt, State.ringAt_setRing]
  exact ⟨freeUnits_job t k, rfl⟩

/-- BARGE_FINISH of an aborted barge whose commit has not begun, not in the tick of its abort with an outcome left. -/
theorem bargeFinish_aborts {n : Nat} (hj : (s.coreAt k).job = some i) (he : s.entryAt i = some e) (hm : s.glb.mode ≠ .halt)
    (ha : (s.coreAt k).aborted = some n) (hn : n ≠ s.now ∨ (s.coreAt k).res = none) (hc : e.committing = false)
    (hd : e.committed = false) :
    exec (.bargeFinish k) s = .next (((s.dropCommit i).freeUnits k).finish i (failComp e.b.seq stAborted) none) := by
  have hout : s.outrunsAbort (s.coreAt k) i e = false := by
    obtain h | h := hn <;> simp [State.outrunsAbort, ha, h]
  show execBargeFinish k s = _
  simp [execBargeFinish, hj, he, hm, ha, hc, hd, hout]

/-- BARGE_FINISH of a barge whose outcome is left and can be released; one aborted in this very tick outruns its abort. -/
theorem bargeFinish_completes (hj : (s.coreAt k).job = some i) (he : s.entryAt i = some e) (hm : s.glb.mode ≠ .halt) (hf : e.flow = none)
    (ha : (s.coreAt k).aborted = none ∨ (s.coreAt k).aborted = some s.now) (hr : (s.coreAt k).res = some o) (hop : e.b.opcode ≠ 0x0C78)
    (hc : s.commitsDone i = true) (hw : s.unwritten (s.coreAt k) e o = false) :
    exec (.bargeFinish k) s = .next (((s.countOffline o.status).freeUnits k).finish i (o.comp e.b.seq)
      (if s.hostWritten e then none else o.out)) := by
  have habort : ¬((s.coreAt k).aborted.isSome = true ∧ e.committing = false ∧ e.committed = false ∧
      s.outrunsAbort (s.coreAt k) i e = false) := by
    obtain h | h := ha <;> simp [State.outrunsAbort, h, hc, hr, hw, hf]
  show execBargeFinish k s = _
  simp [execBargeFinish, hj, he, hm, if_neg habort, hr, hc, hw, hop]

/-- Settles O20: the frames of what ends with the barge keep its entry, its ring and the tick, at which its completion is released. -/
theorem failedBargesComplete : Obligations.FailedBargesComplete := by
  unfold Obligations.FailedBargesComplete
  refine ⟨?_, ?_⟩
  · intro s i st e g he hf ho hg t
    have ht : t = (s.setEntry i (e.afterRelease none)).setRing e.ring (g.withReleased i e (failComp e.b.seq st) none s.now) :=
      failBarge_releases he hf ho hg st
    rw [ht]
    exact ⟨State.entryAt_setEntry _ _ _, State.ringAt_setRing _ _ _, Only.trans (t := s.setEntry i _) ((only_lkm s _).mono (by simp))
      ((only_rings _ _).mono (by simp))⟩
  · intro s k i e g host hj he hm hf ho hg
    have hhost : s.hostWritten e = host := by simp [State.hostWritten, ho, host]
    refine ⟨fun o ha hr hop hc hw => ?_, fun n ha hn hc hd => ?_⟩
    · have hunw : s.unwritten (s.coreAt k) e o = false := by
        rw [State.unwritten, hhost]
        obtain h | h | h := hw <;> simp [h]
      rw [← hhost]
      exact ⟨_, bargeFinish_completes hj he hm hf ha hr hop hc hunw, finish_freeUnits (countOffline_only s _) he hf ho hg⟩
    · obtain ⟨hjob, hring⟩ := finish_freeUnits (k := k) (c := failComp e.b.seq stAborted) (out := none) (dropCommit_only s i) he hf ho hg
      refine ⟨_, bargeFinish_aborts hj he hm ha hn hc hd, hjob, ?_⟩
      rw [hring, Ring.withReleased, failComp, releaseStatus_of_ne (show stAborted ≠ stDone by decide)]

end Finish

end Sys2Proof.Machine

/-! SUPPORT. The Lockmaster's order of deadlines, what ends the wait of a queued, parked or spilled barge, and the telemetry window. -/

namespace Sys2Proof

/-- A table whose values alone are changed lists the same keys. -/
theorem Tbl.find_mapValues {α β : Type} (f : α → β) (k : Nat) (t : Tbl α) :
    Tbl.find k (t.map fun p => (p.1, f p.2)) = (Tbl.find k t).map f := by
  induction t with
  | nil => rfl
  | cons p t ih => by_cases h : p.1 = k <;> simp [Tbl.find, h, ih]

namespace Machine

/-! ### The first entry in the order of R63 -/

section Order

variable {a b c : Entry} {t : Tbl Entry} {q : Nat × Entry}

theorem Entry.before_iff : a.before b = true ↔ a.deadline < b.deadline ∨ a.deadline = b.deadline ∧ a.order < b.order := by
  simp [Entry.before]

theorem Entry.not_before_self (a : Entry) : ¬ a.before a = true := by
  rw [Entry.before_iff]
  omega

/-- What is not before an entry is not before one that stands earlier still. -/
theorem Entry.not_before_of_before (hab : ¬ a.before b = true) (hcb : c.before b = true) : ¬ a.before c = true := by
  rw [Entry.before_iff] at *
  omega

/-- One more entry becomes the first only where it stands before the first so far. -/
theorem firstByDeadline_concat (t : Tbl Entry) (p : Nat × Entry) :
    firstByDeadline (t ++ [p]) = some ((firstByDeadline t).elim p fun q => if p.2.before q.2 then p else q) := by
  simp only [firstByDeadline, List.foldl_append, List.foldl_cons, List.foldl_nil]
  split
  next h => simp only [h, Option.elim]
  next q h => simp only [h, Option.elim, apply_ite some]

theorem firstByDeadline_eq_none : firstByDeadline t = none ↔ t = [] := by
  refine ⟨fun h => ?_, fun h => h ▸ rfl⟩
  cases t using List.reverseRecOn with
  | nil => rfl
  | append_singleton t p =>
    rw [firstByDeadline_concat] at h
    cases h

/-- The first entry is one of the list, and none of the list stands before it. -/
theorem firstByDeadline_least (h : firstByDeadline t = some q) : q ∈ t ∧ ∀ x ∈ t, ¬ x.2.before q.2 = true := by
  induction t using List.reverseRecOn generalizing q with
  | nil => cases h
  | append_singleton t p ih =>
    rw [firstByDeadline_concat, Option.some_inj] at h
    rw [List.forall_mem_append, List.forall_mem_singleton, List.mem_append, List.mem_singleton]
    cases hm : firstByDeadline t with
    | none =>
      obtain rfl : p = q := by rwa [hm] at h
      rw [firstByDeadline_eq_none.1 hm]
      exact ⟨.inr rfl, List.forall_mem_nil _, p.2.not_before_self⟩
    | some m =>
      obtain ⟨hmem, hleast⟩ := ih hm
      rw [hm, Option.elim] at h
      by_cases hp : p.2.before m.2 = true
      · obtain rfl : p = q := by rwa [if_pos hp] at h
        exact ⟨.inr rfl, fun x hx => Entry.not_before_of_before (hleast x hx) hp, p.2.not_before_self⟩
      · obtain rfl : m = q := by rwa [if_neg hp] at h
        exact ⟨.inl hmem, hleast, hp⟩

end Order

/-! ### The entry a free core takes (R63, R64) -/

section Next

variable {s : State} {admin : Bool} {x : Nat × Entry}

/-- The entries of a list that a free core may take: eligible, and to be carried out here. -/
def State.takeable (s : State) (admin : Bool) : Tbl Entry :=
  s.lkm.tbl.filter fun x => s.eligible x.1 x.2 && (adminList x.2.b.opcode == admin)
    && decide ((if x.2.origin.isSome then Where.here else s.runsAt x.2.tenant x.2.b x.2.input) = .here)

theorem nextFor_eq (s : State) (admin : Bool) : s.nextFor admin = firstByDeadline (s.takeable admin) := rfl

/-- A forwarded barge is carried out on the device that it was sent to. -/
theorem mem_takeable : x ∈ s.takeable admin ↔ x ∈ s.lkm.tbl ∧ s.eligible x.1 x.2 = true ∧ adminList x.2.b.opcode = admin ∧
    (x.2.origin.isSome = true ∨ s.runsAt x.2.tenant x.2.b x.2.input = .here) := by
  have hhere : (if x.2.origin.isSome then Where.here else s.runsAt x.2.tenant x.2.b x.2.input) = .here ↔
      x.2.origin.isSome = true ∨ s.runsAt x.2.tenant x.2.b x.2.input = .here := by
    cases x.2.origin.isSome <;> simp
  simp only [State.takeable, List.mem_filter, Bool.and_eq_true, beq_iff_eq, decide_eq_true_iff, hhere, and_assoc]

/-- Settles O18: the entry taken is one of the takeable ones with none before it, and nothing is taken only where there is none. -/
theorem earliestDeadlineFirst : Obligations.EarliestDeadlineFirst := by
  unfold Obligations.EarliestDeadlineFirst
  intro s admin
  rw [nextFor_eq]
  refine ⟨fun i e h => ?_, fun h x hx => ?_⟩
  · obtain ⟨hmem, hleast⟩ := firstByDeadline_least h
    exact ⟨mem_takeable.1 hmem, fun x hx hlt => hleast x (mem_takeable.2 hx) (Entry.before_iff.2 hlt)⟩
  · exact List.eq_nil_iff_forall_not_mem.1 (firstByDeadline_eq_none.1 h) x (mem_takeable.2 hx)

end Next

/-! ### The limits of waiting barges (R65, R66) -/

section Limits

variable {s : State} {i t : Nat} {w : List Nat} {e : Entry}

theorem deadlineExpire_of_queued {p : Place} (he : s.entryAt i = some e) (hf : e.failExpired = true) (hm : s.glb.mode ≠ .halt)
    (hp : e.ph = .queued p) :
    exec (.deadlineExpire i) s = .next (if e.deadline < s.now then s.failBarge i stExpired else s) := by
  show execDeadlineExpire i s = _
  simp [execDeadlineExpire, he, hf, hm, hp]

/-- A parked barge whose page limit is not the earlier. -/
theorem deadlineExpire_of_parked (he : s.entryAt i = some e) (hf : e.failExpired = true) (hm : s.glb.mode ≠ .halt)
    (hp : e.ph = .parked t w) (hl : e.deadline ≤ t + e.pageTimeout) :
    exec (.deadlineExpire i) s = .next (if e.deadline < s.now then s.failBarge i stExpired else s) := by
  show execDeadlineExpire i s = _
  simp [execDeadlineExpire, he, hf, hm, hp, Nat.not_lt.2 hl]

/-- The page limit governs but on a FAIL_EXPIRED ring whose deadline is not later. -/
theorem pageLimit_of_page_governs (h : e.failExpired = false ∨ t + e.pageTimeout < e.deadline) :
    e.pageLimit t = (t + e.pageTimeout, stKeyPageTimeout) := by
  refine if_neg fun ⟨hf, hl⟩ => ?_
  obtain h | h := h
  · exact Bool.false_ne_true (h.symm.trans hf)
  · exact Nat.not_le.2 h hl

/-- A failure with KEY_PAGE_TIMEOUT is counted (R79). -/
theorem failParked_keyPageTimeout (s : State) (i : Nat) : s.failParked i stKeyPageTimeout =
    ({ s with lkm := { s.lkm with timeouts := s.lkm.timeouts + 1 } } : State).failBarge i stKeyPageTimeout := by
  rw [State.failParked, if_pos rfl]

theorem pageTimeoutExpire_of_parked (he : s.entryAt i = some e) (hm : s.glb.mode ≠ .halt) (hp : e.ph = .parked t w) :
    exec (.pageTimeoutExpire i) s = .next (if (e.pageLimit t).1 < s.now then s.failParked i (e.pageLimit t).2 else s) := by
  show execPageTimeoutExpire i s = _
  simp [execPageTimeoutExpire, he, hm, hp]

end Limits

/-! ### The basin's refill (R76, R77) -/

/-- What the read of a basin slot leaves of its barge, entry `i`: back on-chip, failed DATA_POISONED, or where it was. -/
def State.afterRefill (t : State) (i : Nat) (e : Entry) : DramGot → State
  | .good => { t with lkm := { t.lkm with
      tbl := Tbl.put i { e with ph := .queued .general } t.lkm.tbl, refills := t.lkm.refills + 1 } }
  | .poisoned => t.failBarge i stPoisoned
  | .broken => t

theorem basinRefill_reads {s : State} {i : Nat} {e : Entry} (hg : (s.inPlace .general).length < 28160)
    (hb : firstByDeadline ((s.inPlace .basin).filter fun x => !s.heldBack x.1 x.2) = some (i, e)) (d : DramReturn) :
    exec (.basinRefill d) s = .next ((s.refillRead i d).2.afterRefill i e (s.refillRead i d).1) := by
  show execBasinRefill d s = _
  simp only [execBasinRefill, hg, hb, if_true]
  obtain ⟨_ | _ | _, t⟩ := s.refillRead i d <;> rfl

/-! ### The telemetry window (R79) -/

/-- A core's busy cycles become those of the last complete window. -/
def Core.rolled (c : Core) : Core := { c with busyLast := c.busy, busy := 0 }

/-- The Lockmaster's per-window fields at the start of window `w`. -/
def Lkm.rolled (l : Lkm) (w : Nat) : Lkm := { l with
  curWindow := w
  windowNo := w - 1
  returnsLast := l.returns
  timeoutsLast := l.timeouts
  returns := 0
  timeouts := 0
  engBusyLast := l.engBusy
  engBusy := [] }

/-- The state at the start of a window. -/
def State.rolled (s : State) : State := { s with
  lkm := s.lkm.rolled (s.now / 100000)
  mor := { s.mor with bankLast := s.mor.bankNow, bankNow := [] }
  cores := s.cores.map fun p => (p.1, p.2.rolled) }

theorem telWindowRoll_rolls {s : State} (h : s.lkm.curWindow < s.now / 100000) : exec .telWindowRoll s = .next s.rolled := by
  show execTelWindowRoll s = _
  exact congrArg Host.Outcome.next (if_pos h)

/-- A core that is not listed was never busy. -/
theorem rolled_coreAt (s : State) (k : Nat) : s.rolled.coreAt k = (s.coreAt k).rolled := by
  have hfind : Tbl.find k s.rolled.cores = (Tbl.find k s.cores).map Core.rolled := Tbl.find_mapValues _ _ _
  rw [State.coreAt, State.coreAt, tget, tget, hfind]
  cases Tbl.find k s.cores <;> rfl

theorem rolled_only (s : State) : Only [.lkm, .mor, .cores] s s.rolled :=
  ((only_lkm s s.rolled.lkm).mono (by simp)).trans (((only_mor _ s.rolled.mor).mono (by simp)).trans
    ((only_cores _ s.rolled.cores).mono (by simp)))

/-- Settles O19: each waiting barge by the limit that governs it, the refill by what its line's read gives, and the window's roll. -/
theorem limitsEndWaitingBarges : Obligations.LimitsEndWaitingBarges := by
  unfold Obligations.LimitsEndWaitingBarges
  refine ⟨fun s i e he hf hm => ⟨fun p => deadlineExpire_of_queued he hf hm, fun t w => deadlineExpire_of_parked he hf hm⟩,
    fun s i e t w he hp hm hl => ?_, fun s i e d hg hb => ?_, fun s hw => ?_⟩
  · rw [pageTimeoutExpire_of_parked he hm hp, pageLimit_of_page_governs hl, failParked_keyPageTimeout]
  · rw [basinRefill_reads hg hb]
    obtain ⟨_ | _ | _, t⟩ := s.refillRead i d <;> rfl
  · refine ⟨s.rolled, telWindowRoll_rolls hw, rfl, rfl, rfl, rfl, rfl, rfl, rfl, rfl, fun k => ?_, rolled_only s⟩
    rw [rolled_coreAt]
    exact ⟨rfl, rfl⟩

end Machine
end Sys2Proof

/-! SUPPORT. Services that commit nothing: what the checks, random values, a nonce or a draw leave at the end of a run on its core, and with
that the PIN, card verification and DUKPT services. -/
namespace Sys2Proof.Machine

/-! ### The end of a run that commits nothing -/

/-- What a service's result leaves once its run has ended or waits: the state that `State.serve` steps to. -/
def Run.after (r : Run) (x : Res × State) : State := match x.1 with
  | .wait => x.2
  | .ended o c => x.2.endService r o c

theorem serve_eq_after {o : State} {k op : Nat} {r : Run} (svc : Service) (hr : Runs o k op r) :
    o.serve k op r.hw svc = r.after (svc r (o.noted r)) := serve_of_runs svc hr

theorem Only.coreAt {ps : List Part} {s t : State} (h : Only ps s t) (hp : .cores ∉ ps) (k : Nat) : t.coreAt k = s.coreAt k :=
  congrArg (tget ({} : Core) k) (h .cores hp)

/-- Counting what failed in a run's units stores nothing on its core. -/
theorem Runs.stored {o : State} {k op : Nat} {r : Run} (hr : Runs o k op r) : ((o.noted r).coreAt r.core).stored = [] := by
  obtain ⟨hrun, -, hst⟩ := hr
  rw [(noted_only o r).coreAt (by decide), runOf_core hrun, hst]

section After

variable {s : State} {r : Run}

@[simp] theorem after_wait (r : Run) (s : State) : r.after (.wait, s) = s := rfl

theorem after_gives (hst : (s.coreAt r.core).stored = []) (x : Outcome) : r.after (s.gives x) = s.leave r x := endService_leave hst

theorem after_fails (hst : (s.coreAt r.core).stored = []) (st : Nat) : r.after (s.fails st) = s.leave r (failed st) := after_gives hst _

/-- The first check that fails ends the service with its status. -/
theorem after_checks (hst : (s.coreAt r.core).stored = []) (cs : List (Bool × Nat)) (next : Unit → Res × State) :
    r.after (s.checks r cs next) = match firstFail (r.reads cs) with
      | some st => s.leave r (failed st)
      | none => r.after (next ()) := by
  unfold State.checks
  cases firstFail (r.reads cs) with
  | some st => exact after_fails hst st
  | none => rfl

end After

/-- Two lists of checks one after the other are the checks of both. -/
theorem checks_checks (s : State) (r : Run) (a b : List (Bool × Nat)) (next : Unit → Res × State) :
    (s.checks r a fun _ => s.checks r b next) = s.checks r (a ++ b) next := by
  unfold State.checks
  rw [firstFail_reads_append]
  cases firstFail (r.reads a) <;> rfl

/-- A service that goes on with `body` past its own checks `cs` and the lane step ends in what `body` leaves. -/
theorem ends_of_laneService {o : State} {k op : Nat} {r : Run} {i : Instr} {svc : Service} {cs : List (Bool × Nat)} {body : Res × State} {t : State}
    (hr : Runs o k op r) (hi : exec i o = .next (o.serve k op r.hw svc))
    (hsvc : svc r (o.noted r) = (o.noted r).checks r cs fun _ => (o.noted r).checks r ((o.noted r).lanes r) fun _ => body)
    (ht : r.after body = t) : Ends i o (o.noted r) r (cs ++ (o.noted r).lanes r) t := by
  subst ht
  unfold Ends
  rw [hi, serve_eq_after svc hr, hsvc, checks_checks]
  exact congrArg Host.Outcome.next (after_checks hr.stored _ _)

/-- A service that only loads its keys, spends its cycles and answers. -/
theorem ends_of_answer {o : State} {k op n : Nat} {r : Run} {i : Instr} {svc : Service} {cs : List (Bool × Nat)} {hs : List Nat} {x : Outcome}
    (hr : Runs o k op r) (hi : exec i o = .next (o.serve k op r.hw svc))
    (hsvc : svc r (o.noted r) = (o.noted r).checks r cs fun _ => (o.noted r).withLane r hs fun s => (s.spend r.core n).gives x) :
    Ends i o (o.noted r) r (cs ++ (o.noted r).lanes r) ((((o.noted r).loadKeys hs).spend k n).leave r x) := by
  obtain rfl := runOf_core hr.1
  exact ends_of_laneService hr hi hsvc (after_gives (by simpa using hr.stored) x)

/-! ### Random values, draws and nonces -/

/-- The result of a service that goes on with random values; it waits in the state `before` them, or fails with `st`. -/
def withValues (x : (Option (List Nat × Pool) × Bool) × State) (before : State) (st : Nat) (next : List Nat → Pool → State → Res × State) :
    Res × State :=
  match x.1 with
  | (some (vs, p), _) => next vs p x.2
  | (none, true) => (.wait, before)
  | (none, false) => x.2.fails st

/-- The result of a service that goes on with drawn bytes. -/
def withDraw (d : Drawn × State) (next : Bytes → State → Res × State) : Res × State :=
  match d.1 with
  | .wait => (.wait, d.2)
  | .none_ => d.2.fails stEntropy
  | .bytes bs => next bs d.2

/-- The result of a service that goes on with a nonce, or fails with the nonce's status, its keys loaded. -/
def withNonce (x : NonceRes × State) (hs : List Nat) (next : Bytes → State → Res × State) : Res × State :=
  match x.1 with
  | .wait => (.wait, x.2)
  | .status st => (x.2.loadKeys hs).fails st
  | .nonce n => next n x.2

section Sources

variable {r : Run}

theorem after_withValues {x : (Option (List Nat × Pool) × Bool) × State} {before : State} {st : Nat}
    {next : List Nat → Pool → State → Res × State} {done : List Nat → Pool → State → State} (hst : (x.2.coreAt r.core).stored = [])
    (hn : ∀ vs p, r.after (next vs p x.2) = done vs p x.2) :
    r.after (withValues x before st next) = drawnValues x before r st done := by
  obtain ⟨⟨_ | ⟨vs, p⟩, w⟩, t⟩ := x
  · cases w with
    | true => rfl
    | false => exact after_fails hst st
  · exact hn vs p

theorem after_withDraw {d : Drawn × State} {before : State} {next : Bytes → State → Res × State} {done : Bytes → State → State}
    (hst : (d.2.coreAt r.core).stored = []) (hw : d.1 = .wait → d.2 = before) (hn : ∀ bs, r.after (next bs d.2) = done bs d.2) :
    r.after (withDraw d next) = drawn d before r done := by
  obtain ⟨bs | _ | _, t⟩ := d
  · exact hn bs
  · exact hw rfl
  · exact after_fails hst stEntropy

theorem after_withNonce {x : NonceRes × State} {hs : List Nat} {next : Bytes → State → Res × State} {done : Bytes → State → State}
    (hst : (x.2.coreAt r.core).stored = []) (hn : ∀ n, r.after (next n x.2) = done n x.2) :
    r.after (withNonce x hs next) = nonced x r hs done := by
  obtain ⟨n | _ | st, t⟩ := x
  · exact hn n
  · rfl
  · exact after_fails (by simpa using hst) st

end Sources

@[simp] theorem coreAt_poolValues (s : State) (r : Run) (accept : Byte → Option Nat) (n fuel : Nat) (p : Pool) (k : Nat) :
    (s.poolValues r accept n fuel p).2.coreAt k = s.coreAt k := by simp [State.coreAt]

@[simp] theorem coreAt_drawFor (s : State) (r : Run) (n k : Nat) : (s.drawFor r n).2.coreAt k = s.coreAt k := by simp [State.coreAt]

/-- A nonce, or the lease asked for it, changes only moorings and gathered commits (R181). -/
theorem issueNonce_only (s : State) (h : Nat) : Only [.mor] s (s.issueNonce h).2 := by
  unfold State.issueNonce
  cases s.mooringOf h 0 with
  | none => exact Only.refl _ s
  | some p =>
    obtain ⟨m, x⟩ := p
    dsimp only
    split
    · exact Only.refl _ s
    · split
      · exact only_mor s _
      · split
        · exact Only.refl _ s
        · split
          · exact Only.refl _ s
          · exact only_mor s _

@[simp] theorem coreAt_issueNonce (s : State) (h k : Nat) : (s.issueNonce h).2.coreAt k = s.coreAt k :=
  (issueNonce_only s h).coreAt (by decide) k

/-! ### The PIN services (R91, R93 to R98, R110) -/

/-- What a service that writes a PIN answers: the block with its fill, or PIN_BLOCK_INVALID (R83) where it has read no PIN. -/
def State.pinWritten (s : State) (f h : Nat) (pin : Option (List Nat)) (pan fill : List Nat) : Outcome := match pin with
  | none => failed stPinBlock
  | some pin => answered (writePin f (s.isTdes h) (s.keyOf h) pin pan fill)

/-- Writing a PIN draws its fill and then answers. -/
theorem after_putPin {s before : State} {r : Run} (hst : (s.coreAt r.core).stored = []) (f h : Nat) (pin : Option (List Nat)) (pan : List Nat)
    (pool : Pool) (cycles : Nat) :
    r.after (s.putPin before r f h pin pan pool cycles) =
      drawnValues (s.poolValues r (fillByte f) (fillNeed f (pin.getD [0, 0, 0, 0]).length) 256 pool) before r
        (if pin.isNone then stPinBlock else stEntropy) fun fill p t =>
          (t.spend r.core (cycles + p.cost)).leave r (before.pinWritten f h pin pan fill) := by
  have hput : s.putPin before r f h pin pan pool cycles =
      withValues (s.poolValues r (fillByte f) (fillNeed f (pin.getD [0, 0, 0, 0]).length) 256 pool) before
        (if pin.isNone then stPinBlock else stEntropy) fun fill p t =>
          (t.spend r.core (cycles + p.cost)).gives (before.pinWritten f h pin pan fill) := rfl
  rw [hput]
  exact after_withValues (by simpa using hst) fun fill p => after_gives (by simpa using hst) _

/-- A translation: the PIN that a block holds is written in the output format. -/
theorem ends_of_putPin {o : State} {k op f h cycles : Nat} {r : Run} {i : Instr} {svc : Service} {cs : List (Bool × Nat)} {hs pan : List Nat}
    {pin : Option (List Nat)} (hr : Runs o k op r) (hi : exec i o = .next (o.serve k op r.hw svc))
    (hsvc : svc r (o.noted r) = (o.noted r).checks r cs fun _ =>
      (o.noted r).withLane r hs fun s => s.putPin (o.noted r) r f h pin pan {} cycles) :
    Ends i o (o.noted r) r (cs ++ (o.noted r).lanes r)
      (drawnValues (((o.noted r).loadKeys hs).poolValues r (fillByte f) (fillNeed f (pin.getD [0, 0, 0, 0]).length) 256 {}) (o.noted r) r
        (if pin.isNone then stPinBlock else stEntropy) fun fill p t =>
          (t.spend k (cycles + p.cost)).leave r ((o.noted r).pinWritten f h pin pan fill)) := by
  obtain rfl := runOf_core hr.1
  exact ends_of_laneService hr hi hsvc (after_putPin (by simpa using hr.stored) _ _ _ _ _ _)

/-- R97: the PIN's digits and then its fill are drawn from one row of requests. -/
theorem pinGenerate_ends {o : State} {k : Nat} {r : Run} (hr : Runs o k 0x0107 r) :
    let s := o.noted r
    let a := pinArgs (r.lighter 0)
    Ends (.pinGenerate k r.hw) o s r (s.pinGenerateChecks r ++ s.lanes r)
      (drawnValues ((s.loadKeys [r.b.h0]).poolValues r pinDigit a.checkLen 256 {}) s r stEntropy fun pin p s1 =>
        drawnValues (s1.poolValues r (fillByte a.outFmt) (fillNeed a.outFmt pin.length) 256 p) s r stEntropy fun fill q s2 =>
          (s2.spend k ((if s.isTdes r.b.h0 then 5200 else 6100) + q.cost)).leave r (s.pinWritten a.outFmt r.b.h0 (some pin) a.pan fill)) := by
  intro s a
  obtain rfl := runOf_core hr.1
  let digits := (s.loadKeys [r.b.h0]).poolValues r pinDigit a.checkLen 256 {}
  have hst : (digits.2.coreAt r.core).stored = [] := by simpa [digits] using hr.stored
  have hsvc : pinGenerateSvc r s = s.checks r (s.pinGenerateChecks r) fun _ => s.checks r (s.lanes r) fun _ =>
      withValues digits s stEntropy fun pin p t =>
        t.putPin s r a.outFmt r.b.h0 (some pin) a.pan p (if s.isTdes r.b.h0 then 5200 else 6100) := rfl
  exact ends_of_laneService hr rfl hsvc (after_withValues hst fun pin p => after_putPin hst _ _ _ _ _ _)

/-- R98: a block that reads as a PIN takes a nonce and is sealed with it. -/
theorem pinMailer_ends {o : State} {k : Nat} {r : Run} (hr : Runs o k 0x0108 r) :
    let s := o.noted r
    let cycles := if s.isTdes r.b.h0 then 10400 else 11100
    Ends (.pinMailer k r.hw) o s r (s.mailerChecks r ++ s.lanes r) (match s.pinIn r (pinArgs (r.lighter 0)).blockA with
      | none => ((s.loadKeys [r.b.h0, r.b.h1]).spend k cycles).leave r (failed stPinBlock)
      | some pin => nonced (s.issueNonce r.b.h1) r [r.b.h0, r.b.h1] fun n s1 =>
          ((s1.loadKeys [r.b.h0, r.b.h1]).spend k cycles).leave r (withOutput r (s.mailerRecord r pin n))) := by
  intro s cycles
  obtain rfl := runOf_core hr.1
  have hst : (s.coreAt r.core).stored = [] := hr.stored
  have hsvc : pinMailerSvc r s = s.checks r (s.mailerChecks r) fun _ => s.checks r (s.lanes r) fun _ =>
      match s.pinIn r (pinArgs (r.lighter 0)).blockA with
      | none => ((s.loadKeys [r.b.h0, r.b.h1]).spend r.core cycles).fails stPinBlock
      | some pin => withNonce (s.issueNonce r.b.h1) [r.b.h0, r.b.h1] fun n t =>
          ((t.loadKeys [r.b.h0, r.b.h1]).spend r.core cycles).gives (withOutput r (s.mailerRecord r pin n)) := rfl
  refine ends_of_laneService hr rfl hsvc ?_
  cases s.pinIn r (pinArgs (r.lighter 0)).blockA with
  | none => exact after_fails (by simpa using hst) _
  | some pin => exact after_withNonce (by simpa using hst) fun n => after_gives (by simpa using hst) _

/-- R111: the key block's padding is drawn before the keys load. -/
theorem dukptInitialKeyExport_ends {o : State} {k : Nat} {r : Run} (hr : Runs o k 0x0300 r) :
    let s := o.noted r
    let t0 := s.isTdes r.b.h0
    Ends (.dukptInitialKeyExport k r.hw) o s r (s.dukptExportChecks r ++ s.lanes r)
      (drawn (s.drawFor r 32) s r fun pad s1 =>
        ((s1.loadKeys [r.b.h0, r.b.h1]).spend k (if t0 then 17200 else 16000 + 900 * dukptBlocks false (s.labelOf r.b.h0).size)).leave r
          (withOutput r (s.dukptBlock r pad) (kcvOf t0 (s.dukptInitial r)))) := by
  intro s t0
  obtain rfl := runOf_core hr.1
  have hst : (s.coreAt r.core).stored = [] := hr.stored
  have hsvc : dukptExportSvc r s = s.checks r (s.dukptExportChecks r) fun _ => s.checks r (s.lanes r) fun _ =>
      withDraw (s.drawFor r 32) fun pad t =>
        ((t.loadKeys [r.b.h0, r.b.h1]).spend r.core (if t0 then 17200 else 16000 + 900 * dukptBlocks false (s.labelOf r.b.h0).size)).gives
          (withOutput r (s.dukptBlock r pad) (kcvOf t0 (s.dukptInitial r))) := rfl
  exact ends_of_laneService hr rfl hsvc
    (after_withDraw (by simpa using hst) drawFor_wait fun pad => after_gives (by simpa using hst) _)

/-- Settles O55: a service that only compares or computes answers at once; the others go on with the values, nonce or padding they draw. The
bound of 256 requests for random values is log 33's DESIGN CHOICE, and the PIN_BLOCK_ERROR of its words is R83's PIN_BLOCK_INVALID. -/
theorem pinAndCardServicesAnswer : Obligations.PinAndCardServicesAnswer := by
  unfold Obligations.PinAndCardServicesAnswer
  intro o k r
  exact ⟨
    -- PIN_TRANSLATE, then the two verifications, the two generations and the two changes of a reference value
    fun hr => ends_of_putPin hr rfl rfl,
    fun hr => ends_of_answer hr rfl rfl, fun hr => ends_of_answer hr rfl rfl,
    fun hr => ends_of_answer hr rfl rfl, fun hr => ends_of_answer hr rfl rfl,
    fun hr => ends_of_answer hr rfl rfl, fun hr => ends_of_answer hr rfl rfl,
    pinGenerate_ends, pinMailer_ends,
    -- CVV_GENERATE, CVV_VERIFY, CVC3_VERIFY
    fun hr => ends_of_answer hr rfl rfl, fun hr => ends_of_answer hr rfl rfl, fun hr => ends_of_answer hr rfl rfl,
    -- DUKPT: the initial key, the PIN and the MAC
    dukptInitialKeyExport_ends, fun hr => ends_of_putPin hr rfl rfl, fun hr => ends_of_answer hr rfl rfl⟩

end Sys2Proof.Machine

/-! SUPPORT. Services that commit nothing and may wait for a unit: what a service leaves past its checks, and with that the EMV, MAC, cipher,
random and hash services and the diagnostic streams. -/
namespace Sys2Proof.Machine

/-! ### The end of a service past its checks -/

section Shape

variable {o : State} {k op : Nat} {r : Run} {i : Instr} {svc : Service} {cs units : List (Bool × Nat)} {body : Res × State} {t : State}

/-- A service ends, past its checks `cs`, in what it goes on with. -/
theorem ends_of_checks (hr : Runs o k op r) (hi : exec i o = .next (o.serve k op r.hw svc))
    (hsvc : svc r (o.noted r) = (o.noted r).checks r cs fun _ => body) (ht : r.after body = t) : Ends i o (o.noted r) r cs t := by
  subst ht
  unfold Ends
  rw [hi, serve_eq_after svc hr, hsvc]
  exact congrArg Host.Outcome.next (after_checks hr.stored _ _)

/-- A service whose step after its checks `cs` is that of its units ends, past both, in what it goes on with. -/
theorem ends_of_unitChecks (hr : Runs o k op r) (hi : exec i o = .next (o.serve k op r.hw svc))
    (hsvc : svc r (o.noted r) = (o.noted r).checks r cs fun _ => (o.noted r).checks r units fun _ => body) (ht : r.after body = t) :
    Ends i o (o.noted r) r (cs ++ units) t :=
  ends_of_checks hr hi (hsvc.trans (checks_checks ..)) ht

/-- Output of `n` bytes that does not fit its buffer is BAD_LENGTH with the length needed (R45). -/
theorem withOutput_short {n : Nat} {out : Bytes} (hn : out.length = n) (hf : r.fits n = false) : withOutput r out = ⟨stBadLength, [], n, none⟩ := by
  subst hn
  have hne : out ≠ [] := by
    rintro rfl
    simp [Run.fits] at hf
  simp [withOutput, hne, hf]

/-- A service that finds its output too long for the buffer ends with the length needed, before its units' step. -/
theorem ends_of_short {n : Nat} (hr : Runs o k op r) (hi : exec i o = .next (o.serve k op r.hw svc)) (hf : r.fits n = false)
    (hsvc : svc r (o.noted r) = (o.noted r).checks r cs fun _ => (o.noted r).doneOut r (zeros n)) :
    Ends i o (o.noted r) r cs ((o.noted r).leave r ⟨stBadLength, [], n, none⟩) := by
  have hgives : (o.noted r).doneOut r (zeros n) = (o.noted r).gives (withOutput r (zeros n)) := by simp [State.doneOut, State.gives]
  rw [hgives, withOutput_short (by simp [zeros]) hf] at hsvc
  exact ends_of_checks hr hi hsvc (after_gives hr.stored _)

end Shape

/-! ### What the work of a data service leaves on its core -/

/-- The work of an engine changes no core. -/
@[simp] theorem coreAt_engineWork (s : State) (alg n k : Nat) : (s.engineWork alg n).coreAt k = s.coreAt k := by
  unfold State.engineWork
  extract_lets es pick
  have hpick : pick.2.coreAt k = s.coreAt k := by
    unfold pick
    split <;> rfl
  split
  · exact hpick
  · rfl

/-- A MAC's engine leaves its core as the load and the cycles of the MAC do (R127). -/
theorem coreAt_macWork (s : State) (r : Run) (k : Nat) :
    (s.macWork r).coreAt k =
      ((s.loadKeys [r.b.h0]).spend r.core (macCycles (le 0 1 (r.lighter 0)) (le 1 1 (r.lighter 0)) r.input.length)).coreAt k := by
  unfold State.macWork
  extract_lets alg n s1
  split
  · exact coreAt_engineWork s1 _ _ k
  · rfl

@[simp] theorem macWork_stored (s : State) (r : Run) (k : Nat) : ((s.macWork r).coreAt k).stored = (s.coreAt k).stored := by
  rw [coreAt_macWork, spend_stored, coreAt_loadKeys]

@[simp] theorem heldAfter_stored (s : State) (k : Nat) (used : Bool) : ((s.heldAfter k used).coreAt k).stored = (s.coreAt k).stored := by
  cases used with
  | false => rfl
  | true => simp [State.heldAfter]

/-! ### The cases of each service -/

section Cases

variable {s : State} {r : Run}

/-- R122: an enciphered script that fits its buffer. -/
theorem scriptSvc_fits (hf : r.fits (scriptLen (s.isTdes r.b.h0) r.input.length) = true) :
    scriptSvc false r s = s.checks r (s.scriptChecks false r) fun _ => s.withLane r [r.b.h0] fun t =>
      (t.spend r.core ((emvArgs (r.lighter 0)).scriptCycles (s.isTdes r.b.h0)
        (scriptLen (s.isTdes r.b.h0) r.input.length / blockLen (s.isTdes r.b.h0)))).gives (withOutput r (s.scriptOut r)) := by
  simp [scriptSvc, hf]

theorem scriptSvc_short (hf : r.fits (scriptLen (s.isTdes r.b.h0) r.input.length) = false) :
    scriptSvc false r s = s.checks r (s.scriptChecks false r) fun _ => s.doneOut r (zeros (scriptLen (s.isTdes r.b.h0) r.input.length)) := by
  simp [scriptSvc, hf]

/-- What a MAC service answers: the verdict, or the MAC in RESULT or in the buffer (R125). -/
def State.macAnswer (s : State) (verify : Bool) (r : Run) : Outcome :=
  if verify then (if s.macFor r = slice 0 (le 2 1 (r.lighter 0)) (r.lighter 1) then answered [] else failed stVerifyFail)
  else if le 2 1 (r.lighter 0) ≤ 16 then answered (s.macFor r) else withOutput r (s.macFor r)

/-- R126, R222: a MAC whose output has its place waits where an engine it needs is not free. -/
theorem macSvc_fits {verify : Bool} (hlen : verify = true ∨ le 2 1 (r.lighter 0) ≤ 16 ∨ r.fits (le 2 1 (r.lighter 0)) = true) :
    macSvc verify r s = s.checks r (s.macChecks verify r) fun _ =>
      if s.macWaits r then (.wait, s) else s.checks r (s.macUnits r) fun _ => (s.macWork r).gives (s.macAnswer verify r) := by
  have hfits : ¬(verify = false ∧ 16 < le 2 1 (r.lighter 0) ∧ r.fits (le 2 1 (r.lighter 0)) = false) := by
    rintro ⟨hv, hlong, hf⟩
    simp only [hv, hf, Bool.false_eq_true, false_or, or_false] at hlen
    omega
  simp only [macSvc, if_neg hfits]
  rfl

theorem macSvc_short (hlong : 16 < le 2 1 (r.lighter 0)) (hf : r.fits (le 2 1 (r.lighter 0)) = false) :
    macSvc false r s = s.checks r (s.macChecks false r) fun _ => s.doneOut r (zeros (le 2 1 (r.lighter 0))) := by
  simp [macSvc, hlong, hf]

/-- The nonce that a cipher goes on with: CTR and GCM encrypt under one of the key's mooring (R130), the others under none. -/
def State.cipherNonce (s : State) (enc : Bool) (r : Run) : NonceRes × State :=
  if enc && decide (2 ≤ le 0 1 (r.lighter 0)) then s.issueNonce r.b.h0 else (.nonce [], s)

@[simp] theorem cipherNonce_decrypt : s.cipherNonce false r = (.nonce [], s) := rfl

/-- R131, R217: a cipher whose output fits and whose held buffer, if it uses one, is not being zeroed. -/
theorem cipherSvc_works {enc : Bool} (hf : r.fits (cipherLen enc r) = true)
    (hheld : usesHeld enc r = true → (s.coreAt r.core).heldSt ≠ .zeroing) :
    cipherSvc enc r s = s.checks r (s.cipherChecks enc r) fun _ => s.checks r (s.lanes r) fun _ =>
      withNonce (s.cipherNonce enc r) [r.b.h0] fun nonce t =>
        (((t.loadKeys [r.b.h0]).spend r.core (s.cipherCost enc r)).heldAfter r.core (usesHeld enc r)).gives (s.cipherAnswer enc r nonce) := by
  have hready : ¬(usesHeld enc r && decide ((s.coreAt r.core).heldSt = .zeroing)) = true := by simpa using hheld
  simp only [cipherSvc, hf, if_neg hready]
  rfl

theorem cipherSvc_waits {enc : Bool} (hf : r.fits (cipherLen enc r) = true) (hused : usesHeld enc r = true)
    (hheld : (s.coreAt r.core).heldSt = .zeroing) : cipherSvc enc r s = s.checks r (s.cipherChecks enc r) fun _ => (.wait, s) := by
  simp [cipherSvc, hf, hused, hheld]

theorem cipherSvc_short {enc : Bool} (hf : r.fits (cipherLen enc r) = false) :
    cipherSvc enc r s = s.checks r (s.cipherChecks enc r) fun _ => s.doneOut r (zeros (cipherLen enc r)) := by
  simp [cipherSvc, hf]

/-- R133: random bytes are drawn past the checks. -/
theorem randomSvc_draws :
    randomSvc r s = s.checks r (s.randomChecks r) fun _ => withDraw (s.drawFor r (randomLen r.b)) fun bs t =>
      (t.spend r.core (3000 + 20 * ceilDiv (randomLen r.b) 16)).gives (if r.b.buf then withOutput r bs else answered bs) := by
  unfold randomSvc withDraw
  extract_lets n d
  cases hd : d.1 with
  | wait => rw [show d.2 = s from drawFor_wait hd]
  | bytes bs => rfl
  | none_ => rfl

/-- R134, R222: a digest whose output has its place waits for a free engine. -/
theorem hashSvc_fits (hlen : hashLen (r.lighter 0) ≤ 16 ∨ r.fits (hashLen (r.lighter 0)) = true) :
    let l := r.lighter 0
    let m := hashCycles (le 0 1 l) r.input.length (hashLen l) (le 4 1 l + le 5 1 l)
    hashSvc r s = s.checks r (s.hashChecks r) fun _ =>
      if s.freeEngines (le 0 1 l) = [] then (.wait, s)
      else ((s.spend r.core (3500 + m)).engineWork (le 0 1 l) m).gives
        (if hashLen l ≤ 16 then answered (hashFor r) else withOutput r (hashFor r)) := by
  have hfits : ¬(16 < hashLen (r.lighter 0) ∧ r.fits (hashLen (r.lighter 0)) = false) := by
    rintro ⟨hlong, hf⟩
    simp only [hf, Bool.false_eq_true, or_false] at hlen
    omega
  simp only [hashSvc, if_neg hfits, List.isEmpty_iff]

theorem hashSvc_short (hlong : 16 < hashLen (r.lighter 0)) (hf : r.fits (hashLen (r.lighter 0)) = false) :
    hashSvc r s = s.checks r (s.hashChecks r) fun _ => s.doneOut r (zeros (hashLen (r.lighter 0))) := by
  simp [hashSvc, hlong, hf]

end Cases

/-! ### The diagnostic streams (R226, R254) -/

/-- What the words `ws` of a stream leave at the end of their barge: the words that may leave, or the failure of the others (R303, R308). -/
def State.streamed (s : State) (k : Nat) (r : Run) (ws : List TWord) : State := match egressStatus ws, r.fits (8 * ws.length) with
  | some st, true =>
    let y := (s.spend k 4000).stopOutput r ws
    y.2.endService r (if y.1 then ⟨st, [], 8 * ws.length, some (egressed ws)⟩ else failed st) none
  | _, _ => (s.spend k 4000).endService r (withOutput r (wordsBytes ws)) none

theorem after_diagOutput (s : State) (r : Run) (ws : List TWord) : r.after (s.diagOutput r ws) = s.streamed r.core r ws := by
  unfold State.diagOutput State.diagOutcome State.streamed
  cases egressStatus ws <;> cases r.fits (8 * ws.length) <;> rfl

/-- A diagnostic service waits while its unit is busy; then its stream's words leave. -/
theorem ends_of_stream {o : State} {k op : Nat} {r : Run} {i : Instr} {svc : Service} {cs : List (Bool × Nat)} {busy : Prop} [Decidable busy]
    {x : List TWord × State} (hr : Runs o k op r) (hhw : r.hw = {}) (hi : exec i o = .next (o.serve k op {} svc))
    (hsvc : svc r (o.noted r) = (o.noted r).checks r cs fun _ => if busy then (.wait, o.noted r) else x.2.diagOutput r x.1) :
    Ends i o (o.noted r) r cs (if busy then o.noted r else x.2.streamed k r x.1) := by
  obtain rfl := runOf_core hr.1
  refine ends_of_checks hr (hhw ▸ hi) hsvc ?_
  split
  · rfl
  · exact after_diagOutput ..

section Back

variable (s : State) (r : Run)

/-- After the stream the lane has the state it had before, and no slots (R226). -/
theorem laneDiagRun_laneAt (mism : List Nat) :
    ((s.laneDiagRun r mism).2.laneAt (diagUnit r)).st = (s.laneAt (diagUnit r)).st ∧ ((s.laneDiagRun r mism).2.laneAt (diagUnit r)).slots = [] := by
  simp [State.laneDiagRun]

/-- After the stream the engine has the state it had before, free and empty (R226). -/
theorem hashDiagRun_engAt : (s.hashDiagRun r).2.engAt (diagUnit r) = { st := (s.engAt (diagUnit r)).st } := by
  simp [State.hashDiagRun]

/-- After the stream the tile has the state it had before (R254). -/
theorem tileDiagRun_tileAt (mism : List Nat) : ((s.tileDiagRun r mism).2.tileAt (diagUnit r)).st = (s.tileAt (diagUnit r)).st := by
  simp [State.tileDiagRun]

end Back

/-! ### What each service leaves -/

section Leaves

variable {o : State} {k : Nat} {r : Run}

/-- R125, R126: a MAC service that works leaves its answer, one whose engine is taken waits. -/
theorem ends_of_mac {op : Nat} {i : Instr} {verify : Bool} (hr : Runs o k op r) (hi : exec i o = .next (o.serve k op r.hw (macSvc verify)))
    (hlen : verify = true ∨ le 2 1 (r.lighter 0) ≤ 16 ∨ r.fits (le 2 1 (r.lighter 0)) = true) :
    let s := o.noted r
    (s.macWaits r = false → Ends i o s r (s.macChecks verify r ++ s.macUnits r) ((s.macWork r).leave r (s.macAnswer verify r))) ∧
    (s.macWaits r = true → Ends i o s r (s.macChecks verify r) s) := by
  intro s
  have hsvc := macSvc_fits (s := s) hlen
  constructor <;> intro hw
  · rw [hw] at hsvc
    exact ends_of_unitChecks hr hi hsvc (after_gives (by simpa using hr.stored) _)
  · rw [hw] at hsvc
    exact ends_of_checks hr hi hsvc rfl

/-- R129, R130: ECB and CBC encipher at once, CTR and GCM under a nonce of the key's mooring. -/
theorem encrypt_ends (hr : Runs o k 0x0600 r) (hf : r.fits (cipherLen true r) = true) :
    let s := o.noted r
    Ends (.encrypt k r.hw) o s r (s.cipherChecks true r ++ s.lanes r)
      (if le 0 1 (r.lighter 0) < 2 then ((s.loadKeys [r.b.h0]).spend k (s.cipherCost true r)).leave r (s.cipherAnswer true r [])
       else nonced (s.issueNonce r.b.h0) r [r.b.h0] fun nonce s1 =>
         ((s1.loadKeys [r.b.h0]).spend k (s.cipherCost true r)).leave r (s.cipherAnswer true r nonce)) := by
  intro s
  obtain rfl := runOf_core hr.1
  have hst : (s.coreAt r.core).stored = [] := hr.stored
  refine ends_of_unitChecks hr rfl (cipherSvc_works hf (by simp [usesHeld])) ?_
  by_cases hmode : le 0 1 (r.lighter 0) < 2
  · have hnone : s.cipherNonce true r = (.nonce [], s) := by simp [State.cipherNonce, hmode]
    rw [if_pos hmode, hnone]
    exact after_gives (by simpa using hst) _
  · have hissue : s.cipherNonce true r = s.issueNonce r.b.h0 := by simp [State.cipherNonce, Nat.le_of_not_lt hmode]
    rw [if_neg hmode, hissue]
    exact after_withNonce (by simpa using hst) fun n => after_gives (by simpa using hst) _

/-- R129, R131, R217: a decryption takes no nonce; with GCM its words pass the held buffer, which it waits for while that is being zeroed. -/
theorem decrypt_ends (hr : Runs o k 0x0601 r) (hf : r.fits (cipherLen false r) = true) :
    let s := o.noted r
    let gcm := le 0 1 (r.lighter 0) = 3
    (¬ gcm ∨ (s.coreAt k).heldSt ≠ .zeroing → Ends (.decrypt k r.hw) o s r (s.cipherChecks false r ++ s.lanes r)
      ((((s.loadKeys [r.b.h0]).spend k (s.cipherCost false r)).heldAfter k (decide gcm)).leave r (s.cipherAnswer false r []))) ∧
    (gcm → (s.coreAt k).heldSt = .zeroing → Ends (.decrypt k r.hw) o s r (s.cipherChecks false r) s) := by
  intro s gcm
  obtain rfl := runOf_core hr.1
  have hused : usesHeld false r = decide gcm := rfl
  constructor
  · intro hready
    have hheld : usesHeld false r = true → (s.coreAt r.core).heldSt ≠ .zeroing := fun hu => hready.resolve_left (by simpa [hused] using hu)
    exact ends_of_unitChecks hr rfl (cipherSvc_works hf hheld) (after_gives (by simpa using hr.stored) _)
  · intro hgcm hzero
    exact ends_of_checks hr rfl (cipherSvc_waits hf (by simp [hused, hgcm]) hzero) rfl

/-- R133: random bytes in RESULT or in the buffer, once a generator has served them. -/
theorem randomBytes_ends (hr : Runs o k 0x0A00 r) :
    let s := o.noted r
    Ends (.randomBytes k r.hw) o s r (s.randomChecks r)
      (drawn (s.drawFor r (randomLen r.b)) s r fun bs s1 =>
        (s1.spend k (3000 + 20 * ceilDiv (randomLen r.b) 16)).leave r (if r.b.buf then withOutput r bs else answered bs)) := by
  intro s
  obtain rfl := runOf_core hr.1
  have hst : (s.coreAt r.core).stored = [] := hr.stored
  exact ends_of_checks hr rfl randomSvc_draws
    (after_withDraw (by simpa using hst) drawFor_wait fun bs => after_gives (by simpa using hst) _)

/-- R134, R135: the digest once an engine that runs the algorithm is free. -/
theorem hash_ends (hr : Runs o k 0x0B00 r) (hlen : hashLen (r.lighter 0) ≤ 16 ∨ r.fits (hashLen (r.lighter 0)) = true) :
    let s := o.noted r
    let l := r.lighter 0
    let m := hashCycles (le 0 1 l) r.input.length (hashLen l) (le 4 1 l + le 5 1 l)
    Ends (.hash k r.hw) o s r (s.hashChecks r)
      (if s.freeEngines (le 0 1 l) = [] then s
       else ((s.spend k (3500 + m)).engineWork (le 0 1 l) m).leave r
         (if hashLen l ≤ 16 then answered (hashFor r) else withOutput r (hashFor r))) := by
  intro s l m
  obtain rfl := runOf_core hr.1
  refine ends_of_checks hr rfl (hashSvc_fits hlen) ?_
  split
  · rfl
  · exact after_gives (by simpa using hr.stored) _

/-- R45: the services whose output goes to the buffer end BAD_LENGTH where it does not fit. -/
theorem dataService_short {i : Instr} {e : List (Bool × Nat) × Nat} :
    let s := o.noted r
    let l := r.lighter 0
    let t0 := s.isTdes r.b.h0
    (i = .scriptEncrypt k r.hw ∧ Runs o k 0x0403 r ∧ e = (s.scriptChecks false r, scriptLen t0 r.input.length)) ∨
      (i = .macGenerate k r.hw ∧ Runs o k 0x0500 r ∧ 16 < le 2 1 l ∧ e = (s.macChecks false r, le 2 1 l)) ∨
      (i = .encrypt k r.hw ∧ Runs o k 0x0600 r ∧ e = (s.cipherChecks true r, cipherLen true r)) ∨
      (i = .decrypt k r.hw ∧ Runs o k 0x0601 r ∧ e = (s.cipherChecks false r, cipherLen false r)) ∨
      (i = .hash k r.hw ∧ Runs o k 0x0B00 r ∧ 16 < hashLen l ∧ e = (s.hashChecks r, hashLen l)) →
    r.fits e.2 = false → Ends i o s r e.1 (s.leave r ⟨stBadLength, [], e.2, none⟩) := by
  rintro s l t0 (⟨rfl, hr, rfl⟩ | ⟨rfl, hr, hlong, rfl⟩ | ⟨rfl, hr, rfl⟩ | ⟨rfl, hr, rfl⟩ | ⟨rfl, hr, hlong, rfl⟩) hf
  · exact ends_of_short hr rfl hf (scriptSvc_short hf)
  · exact ends_of_short hr rfl hf (macSvc_short hlong hf)
  · exact ends_of_short hr rfl hf (cipherSvc_short hf)
  · exact ends_of_short hr rfl hf (cipherSvc_short hf)
  · exact ends_of_short hr rfl hf (hashSvc_short hlong hf)

end Leaves

/-- Settles O56: the services that only compute answer at once; the others wait for their engine or held buffer, or go on with a nonce or drawn
bytes, unless their output is too long; a diagnostic stream's words leave, and its unit is as before. -/
theorem dataServicesAnswer : Obligations.DataServicesAnswer := by
  unfold Obligations.DataServicesAnswer
  intro o k r
  exact ⟨
    -- ARQC_VERIFY, ARQC_VERIFY_ARPC, SCRIPT_MAC, SCRIPT_ENCRYPT
    fun hr => ends_of_answer hr rfl rfl, fun hr => ends_of_answer hr rfl rfl, fun hr => ends_of_answer hr rfl rfl,
    fun hr hf => ends_of_answer hr rfl (scriptSvc_fits hf),
    -- MAC_GENERATE, MAC_VERIFY and the core after their work
    fun hr hlen => ends_of_mac hr rfl (.inr hlen), fun hr => ends_of_mac hr rfl (.inl rfl),
    fun hr => runOf_core hr.1 ▸ coreAt_macWork _ r _,
    -- ENCRYPT, DECRYPT, and output that does not fit
    encrypt_ends, decrypt_ends, fun _ _ => dataService_short,
    randomBytes_ends, hash_ends,
    -- LANE_DIAG, HASH_DIAG, TILE_DIAG
    fun mism hr hhw => ⟨ends_of_stream hr hhw rfl rfl, laneDiagRun_laneAt _ r mism⟩,
    fun hr hhw => ⟨ends_of_stream hr hhw rfl rfl, hashDiagRun_engAt _ r⟩,
    fun mism hr hhw => ⟨ends_of_stream hr hhw rfl rfl, tileDiagRun_tileAt _ r mism⟩⟩

end Sys2Proof.Machine

/-! SUPPORT. Key labels: each field of a label stands at the front of what the fields before it leave. -/
namespace Sys2Proof.Machine

/-- Settles O9: past the fields before it, each field of a label stands at the front of what is left; the reserved byte is a field of value 0. -/
theorem labelBytesRoundTrip : Obligations.LabelBytesRoundTrip := by
  unfold Obligations.LabelBytesRoundTrip
  rintro ⟨usage, alg, mode, exportability, size, dclass, handle, notBefore, notAfter, chainIdx, chainLen⟩ hu ha hm he hs hd hh hnb hna hci hcl
  have hres : ([0] : Bytes) = toLE 1 0 := rfl
  refine ⟨?_, by simp [KLabel.bytes, zeros]⟩
  simp only [labelOfBytes, KLabel.bytes, hres, List.append_assoc, le_past, Nat.reduceLeDiff, Nat.one_le_ofNat, Std.le_refl,
    Nat.reduceSub, Nat.add_one_sub_one, tsub_self, KLabel.mk.injEq]
  refine ⟨le_front hu, le_front ha, le_front hm, le_front he, le_front hs, ?_, le_front hh, le_front hnb, le_front hna, le_front hci, le_front hcl⟩
  rw [le_front (lt_trans hd (by decide)), Nat.mod_eq_of_lt hd]

end Sys2Proof.Machine

/-! SUPPORT. Services under a permit: the steps of R146 before an opcode's own checks, what they leave on the core, the end of a service that
commits, and with that the key management services. -/
namespace Sys2Proof.Machine

/-! ### What a run leaves stored on its core -/

@[simp] theorem coreAt_logPermit (s : State) (what tenant no action a b st k : Nat) :
    (s.logPermit what tenant no action a b st).coreAt k = s.coreAt k :=
  Only.coreAt (logPermit_only s what tenant no action a b st) (by decide) k

@[simp] theorem coreAt_countLoads (s : State) (n k : Nat) : (s.countLoads n).coreAt k = s.coreAt k := rfl

@[simp] theorem coreAt_addComponents (s : State) (c : CompSession) (k : Nat) : (s.addComponents c).coreAt k = s.coreAt k := rfl

@[simp] theorem coreAt_addPart (s : State) (no : Nat) (part : Bytes) (k : Nat) : (s.addPart no part).coreAt k = s.coreAt k := rfl

@[simp] theorem coreAt_loadChains (s : State) (a b k : Nat) : (s.loadChains a b).coreAt k = s.coreAt k := by simp [State.loadChains]

/-- A claim set or taken back leaves what a core has stored. -/
theorem setClaimed_stored (s : State) (j k : Nat) (x : Option (Nat × Permit)) :
    ((s.setCore j { s.coreAt j with claimed := x }).coreAt k).stored = (s.coreAt k).stored := by
  by_cases h : k = j
  · subst h; simp
  · rw [State.coreAt_setCore_ne _ _ _ _ h]

/-- A permit claimed for a barge (R163), ahead of its record: taken from the barge that has claimed it in this tick, or from those lodged. -/
def State.claim (s : State) (r : Run) (tenant : Nat) (q : Permit) : State :=
  let s := match s.outclaimed r with
    | some x => s.setCore x.1 { s.coreAt x.1 with claimed := none }
    | none => { s with adm := { s.adm with permits := s.adm.permits.erase (tenant, q), spent := s.adm.spent ++ [(tenant, r.b.permit)] } }
  s.setCore r.core { s.coreAt r.core with claimed := some (s.now, q) }

@[simp] theorem claim_stored (s : State) (r : Run) (tenant : Nat) (q : Permit) (k : Nat) :
    ((s.claim r tenant q).coreAt k).stored = (s.coreAt k).stored := by
  unfold State.claim
  cases s.outclaimed r with
  | none => exact setClaimed_stored ..
  | some x => exact (setClaimed_stored ..).trans (setClaimed_stored ..)

/-- A permit looked up changes nothing, or leaves the record of its refusal, or its claim with the claim's record (R163). -/
theorem usePermit_cases (s : State) (r : Run) (action : Nat) (device : Bool) :
    (s.usePermit r action device).2 = s ∨
      (∃ a b st, (s.usePermit r action device).2 = s.logPermit 2 r.tenant r.b.permit action a b st) ∨
      ∃ tenant q, (s.usePermit r action device).2 =
        (s.claim r tenant q).logPermit 1 r.tenant r.b.permit action q.officerA q.officerB stDone := by
  unfold State.usePermit
  extract_lets q no c refuse out
  have hrefuse (st a b : Nat) : ∃ a' b' st', (refuse st a b).2 = s.logPermit 2 r.tenant r.b.permit action a' b' st' := ⟨a, b, st, rfl⟩
  split
  · exact .inl rfl
  · split
    · exact .inl rfl
    · split
      · exact .inl rfl
      · split
        · exact .inr (.inl (hrefuse ..))
        next tenant q _ =>
          extract_lets ok
          split
          · exact .inr (.inl (hrefuse ..))
          · split
            · exact .inr (.inl (hrefuse ..))
            · exact .inr (.inr ⟨tenant, q, rfl⟩)

@[simp] theorem usePermit_stored (s : State) (r : Run) (action : Nat) (device : Bool) (k : Nat) :
    ((s.usePermit r action device).2.coreAt k).stored = (s.coreAt k).stored := by
  obtain h | ⟨a, b, st, h⟩ | ⟨tenant, q, h⟩ := usePermit_cases s r action device <;> simp [h]

/-! ### Steps 1 to 8 of R146 -/

/-- The keys of a barge, the handle positions its opcode requires, and its permit: steps 1 to 8 of R146. -/
def State.permitSteps (s : State) (r : Run) (given : Bool) (action : Nat) (device : Bool) (next : Option Permit → State → Res × State) :
    Res × State :=
  s.checks r (s.keySteps r) fun _ => s.withHandles given fun _ => s.withPermit r action next device

section Permits

variable {o s s1 : State} {k op action : Nat} {device given : Bool} {r : Run} {p : Option Permit} {i : Instr} {svc : Service} {t : State}
  {next : Option Permit → State → Res × State}

/-- Where a permit holds, its service goes on in the state with it used. -/
theorem permitSteps_permitted (hp : Permitted s r action device p s1) : s.permitSteps r true action device next = next p s1 := by
  obtain ⟨hkeys, huse, hsure⟩ := hp
  simp [State.permitSteps, State.checks, State.withHandles, State.withPermit, hkeys, huse, hsure]

/-- An opcode that requires no handle position goes on to its permit. -/
theorem permitSteps_anyHandles :
    (s.checks r (s.keySteps r) fun _ => s.withPermit r action next device) = s.permitSteps r true action device next := rfl

/-- A required handle position that is zero fails step 5. -/
theorem permitSteps_zero : s.permitSteps r false action device next = s.checks r (s.keySteps r) fun _ => s.fails stBadFormat := rfl

theorem Permitted.stored (hp : Permitted (o.noted r) r action device p s1) (hr : Runs o k op r) : (s1.coreAt r.core).stored = [] := by
  obtain ⟨-, huse, -⟩ := hp
  have h := usePermit_stored (o.noted r) r action device r.core
  rw [huse] at h
  exact h.trans hr.stored

/-- A service under a permit ends, past its own checks `cs`, in what it goes on with. -/
theorem ends_of_permit {cs : List (Bool × Nat)} {body : Res × State} (hr : Runs o k op r) (hp : Permitted (o.noted r) r action device p s1)
    (hi : exec i o = .next (o.serve k op r.hw svc)) (hg : given = true)
    (hsvc : svc r (o.noted r) = (o.noted r).permitSteps r given action device next) (hnext : next p s1 = s1.checks r cs fun _ => body)
    (ht : r.after body = t) : Ends i o s1 r cs t := by
  subst ht hg
  unfold Ends
  rw [hi, serve_eq_after svc hr, hsvc, permitSteps_permitted hp, hnext]
  exact congrArg Host.Outcome.next (after_checks (hp.stored hr) _ _)

/-- A service under a permit whose step after its checks `cs` is that of its units ends, past both, in what it goes on with. -/
theorem ends_of_permitUnits {cs units : List (Bool × Nat)} {body : Res × State} (hr : Runs o k op r)
    (hp : Permitted (o.noted r) r action device p s1) (hi : exec i o = .next (o.serve k op r.hw svc)) (hg : given = true)
    (hsvc : svc r (o.noted r) = (o.noted r).permitSteps r given action device next)
    (hnext : next p s1 = s1.checks r cs fun _ => s1.checks r units fun _ => body) (ht : r.after body = t) : Ends i o s1 r (cs ++ units) t :=
  ends_of_permit hr hp hi hg hsvc (hnext.trans (checks_checks ..)) ht

/-- A service under a permit ends BAD_FORMAT where a handle position it requires is zero (step 5 of R146). -/
theorem ends_of_zero (hr : Runs o k op r) (hi : exec i o = .next (o.serve k op r.hw svc)) (hg : given = false)
    (hsvc : svc r (o.noted r) = (o.noted r).permitSteps r given action device next) :
    Ends i o (o.noted r) r ((o.noted r).keySteps r) ((o.noted r).leave r (failed stBadFormat)) := by
  subst hg
  exact ends_of_checks hr hi (hsvc.trans permitSteps_zero) (after_fails hr.stored _)

end Permits

/-! ### Draws past the loads of keys -/

/-- The result of a service that goes on with drawn bytes; it waits in the state `before` what it has done ahead of the draw. -/
def drawnElse (d : Drawn × State) (before : State) (next : Bytes → Res × State) : Res × State :=
  match d.1 with
  | .wait => (.wait, before)
  | .none_ => d.2.fails stEntropy
  | .bytes bs => next bs

theorem after_drawnElse {d : Drawn × State} {before : State} {r : Run} {next : Bytes → Res × State} {done : Bytes → State → State}
    (hst : (d.2.coreAt r.core).stored = []) (hn : ∀ bs, r.after (next bs) = done bs d.2) :
    r.after (drawnElse d before next) = drawn d before r done := by
  obtain ⟨bs | _ | _, t⟩ := d
  · exact hn bs
  · rfl
  · exact after_fails hst stEntropy

/-- A key written as a block draws its padding and then leaves (R153). -/
theorem after_writeBlock {s before : State} {r : Run} (hst : (s.coreAt r.core).stored = []) (kek : Nat) (hl : KLabel) (key : Bytes)
    (cycles : Nat → Nat) :
    r.after (s.writeBlock before r kek hl key cycles) = drawn (s.drawFor r 32) before r fun pad t =>
      let out := before.wrapAsBlock r kek hl key pad
      (t.spend r.core (cycles out.length)).leave r (withOutput r out) :=
  after_drawnElse (d := s.drawFor r 32) (by simpa using hst) fun pad => after_gives (by simpa using hst) _

/-! ### The end of a run that commits (R60, R432) -/

section Commits

variable {s : State} {r : Run} {x : Outcome} {cs : List Change}

/-- A service that makes no change leaves its output, or BAD_LENGTH with the length needed (R43, R45). -/
theorem after_doneOut (hst : (s.coreAt r.core).stored = []) (out result : Bytes) :
    r.after (s.doneOut r out result) = s.leave r (withOutput r out result) := by
  have hgives : s.doneOut r out result = s.gives (withOutput r out result) := by simp [State.doneOut, State.gives]
  rw [hgives, after_gives hst]

/-- Where the audit check passes and the outcome entry has room, the commit reserves the record's words and is submitted (R60, R191). -/
theorem endService_submits (hx : x.status = stDone) (hs : s.stands r x = true)
    (haudit : (auditExempt r.b.opcode = true ∨ r.b.opcode = 0x0C75) ∨ s.auditRoom 7 = true)
    (hroom : r.b.opcode = 0x0C75 ∨ s.outcomeRoom = true) :
    s.endService r x (some cs) =
      let s2 := { s with log := { s.log with reserved := s.log.reserved + 7 } }
      (s2.leave r x).submitCommit (s2.commitFor r.idx r.e (cs ++ (s.coreAt r.core).stored.map fun y => Change.put [y])) := by
  have h1 : ¬(x.status ≠ stDone ∨ s.stands r x = false) := by simp [hx, hs]
  have h2 : ¬(!auditExempt r.b.opcode && r.b.opcode != 0x0C75 && !s.auditRoom 7) = true := by
    simp only [Bool.and_eq_true, Bool.not_eq_true', bne_iff_ne]
    rintro ⟨⟨he, ho⟩, ha⟩
    simp [he, ho, ha] at haudit
  have h3 : ¬(r.b.opcode != 0x0C75 && !s.outcomeRoom) = true := by
    simp only [Bool.and_eq_true, Bool.not_eq_true', bne_iff_ne]
    rintro ⟨ho, hn⟩
    simp [ho, hn] at hroom
  simp only [State.endService, if_neg h1, if_neg h2, if_neg h3, Option.getD_some]

theorem endService_auditFull (hx : x.status = stDone) (hs : s.stands r x = true)
    (hexempt : ¬(auditExempt r.b.opcode = true ∨ r.b.opcode = 0x0C75)) (haudit : s.auditRoom 7 = false) :
    s.endService r x (some cs) = s.leave r (failed stAuditFull) := by
  obtain ⟨he, ho⟩ := not_or.1 hexempt
  simp [State.endService, hx, hs, he, ho, haudit]

theorem endService_keyLimit (hx : x.status = stDone) (hs : s.stands r x = true)
    (haudit : (auditExempt r.b.opcode = true ∨ r.b.opcode = 0x0C75) ∨ s.auditRoom 7 = true)
    (hop : r.b.opcode ≠ 0x0C75) (hroom : s.outcomeRoom = false) : s.endService r x (some cs) = s.leave r (failed stKeyLimit) := by
  have haudit' : auditExempt r.b.opcode = true ∨ s.auditRoom 7 = true := by simpa [hop] using haudit
  rcases haudit' with he | ha
  · simp [State.endService, hx, hs, he, hop, hroom]
  · simp [State.endService, hx, hs, ha, hop, hroom]

/-- An outcome that does not stand commits nothing (R82, R307). -/
theorem endService_withheld (hs : s.stands r x = false) : s.endService r x (some cs) = s.leave r x := by simp [State.endService, hs]

end Commits

/-! ### What each key management service leaves (R149 to R157) -/

section KeyServices

variable {o s1 : State} {k : Nat} {r : Run} {p : Option Permit}

/-- R149: a key of drawn bytes. -/
theorem keyGenerate_ends (hr : Runs o k 0x0700 r) (hp : Permitted (o.noted r) r 0x0001 false p s1) :
    let l := labelAsked r
    Ends (.keyGenerate k r.hw) o s1 r (s1.keyGenerateChecks r ++ s1.lanes r)
      (drawn (s1.drawFor r l.size) s1 r fun bs s2 =>
        ((s2.spend k 9500).countLoads 1).endService r (answered (checkValue l (keyFrom l bs))) (some [s1.putKey l (keyFrom l bs)])) := by
  intro l
  obtain rfl := runOf_core hr.1
  have hst := hp.stored hr
  refine ends_of_permitUnits hr hp rfl rfl permitSteps_anyHandles rfl ?_
  exact after_drawnElse (d := s1.drawFor r l.size) (by simpa using hst) fun _ => rfl

/-- R152: the key of a block whose MAC verifies. -/
theorem keyImport_ends (hr : Runs o k 0x0701 r) (h0 : r.b.h0 ≠ 0) (hp : Permitted (o.noted r) r 0x0002 false p s1) :
    Ends (.keyImport k r.hw) o s1 r (s1.keyImportChecks r ++ s1.lanes r)
      (let s2 := (s1.loadKeys [r.b.h0]).spend k (14000 + 60 * ceilDiv r.input.length 16)
       let l := importLabel r
       match firstFail (r.reads (s1.keyImportPlace r)) with
       | some st => s2.leave r (failed st)
       | none => (s2.countLoads 1).endService r (answered (checkValue l (s1.keyInBlock r l.size))) (some [s1.putKey l (s1.keyInBlock r l.size)])) := by
  obtain rfl := runOf_core hr.1
  have hst := hp.stored hr
  refine ends_of_permitUnits (given := r.b.h0 != 0) hr hp rfl (by simpa using h0) rfl rfl ?_
  exact after_checks (by simpa using hst) _ _

/-- R153: a key written under another. -/
theorem keyExport_ends (hr : Runs o k 0x0702 r) (h0 : r.b.h0 ≠ 0) (h1 : r.b.h1 ≠ 0)
    (hp : Permitted (o.noted r) r (exportAction ((o.noted r).labelOf r.b.h0).exportability) false p s1) :
    let s := o.noted r
    Ends (.keyExport k r.hw) o s1 r (s1.keyExportChecks r ++ s1.lanes r)
      (drawn ((s1.loadKeys [r.b.h0, r.b.h1]).drawFor r 32) s1 r fun pad s2 =>
        let out := s1.wrapAsBlock r r.b.h1 (s.labelOf r.b.h0) (s1.keyOf r.b.h0) pad
        (s2.spend k (14000 + 60 * ceilDiv out.length 16)).leave r (withOutput r out)) := by
  intro s
  obtain rfl := runOf_core hr.1
  have hst := hp.stored hr
  refine ends_of_permitUnits (given := r.b.h0 != 0 && r.b.h1 != 0) hr hp rfl (by simp [h0, h1]) rfl rfl ?_
  exact after_writeBlock (by simpa using hst) _ _ _ _

/-- R154: the key of one block, its MAC verified, written as another. -/
theorem keyTranslate_ends (hr : Runs o k 0x0703 r) (h0 : r.b.h0 ≠ 0) (h1 : r.b.h1 ≠ 0)
    (hp : Permitted (o.noted r) r (exportAction (headLabel r.input).exportability) false p s1) :
    Ends (.keyTranslate k r.hw) o s1 r (s1.keyTranslateChecks r ++ s1.lanes r)
      (let s2 := s1.loadKeys [r.b.h0, r.b.h1]
       if Config.keyBlockMacOk (s1.keyOf r.b.h0) r.input = false then s2.leave r (failed stVerifyFail)
       else drawn (s2.drawFor r 32) s1 r fun pad s3 =>
         let out := s1.wrapAsBlock r r.b.h1 (headLabel r.input) (s1.keyInBlock r (headLabel r.input).size) pad
         (s3.spend k (24000 + 120 * ceilDiv out.length 16)).leave r (withOutput r out)) := by
  obtain rfl := runOf_core hr.1
  have hst := hp.stored hr
  refine ends_of_permitUnits (given := r.b.h0 != 0 && r.b.h1 != 0) hr hp rfl (by simp [h0, h1]) rfl rfl ?_
  split
  · exact after_fails (by simpa using hst) _
  · exact after_writeBlock (by simpa using hst) _ _ _ _

/-- R155: a session with a drawn X448 key, where the device has one left. -/
theorem componentOpen_ends (hr : Runs o k 0x0705 r) (hp : Permitted (o.noted r) r 0x0005 false p s1)
    (hfree : s1.adm.comps.countP (fun c => decide (s1.now ≤ c.notAfter)) < 16) :
    Ends (.componentOpen k r.hw) o s1 r (s1.componentOpenChecks r ++ s1.tiles r false false)
      (if r.fits 56 = false then s1.leave r ⟨stBadLength, [], 56, none⟩ else drawn (s1.drawFor r 56) s1 r fun x s2 =>
        let c := s1.newComponents r p x
        ((s2.spend k (12000 + Config.variableCycles 0x0705 0 [])).addComponents c).leave r
          (withOutput r (fixLen 56 (Config.x448Public x)) (toLE 4 c.number))) := by
  obtain rfl := runOf_core hr.1
  have hst := hp.stored hr
  refine ends_of_permitUnits hr hp rfl rfl permitSteps_anyHandles rfl ?_
  rw [if_neg (Nat.not_le.2 hfree)]
  split
  next hf => rw [after_doneOut hst, withOutput_short (by simp [zeros]) hf]
  next => exact after_drawnElse (d := s1.drawFor r 56) (by simpa using hst) fun x => after_gives (by simpa using hst) _

/-- R155: the next component of an open session, where its tag verifies. -/
theorem componentAdd_ends {c : CompSession} (hr : Runs o k 0x0706 r) (hc : (o.noted r).componentFor r = some c) :
    let s := o.noted r
    Ends (.componentAdd k r.hw) o s r (s.componentAddChecks r ++ s.lanes r ++ s.tiles r false false)
      (let s2 := s.spend k (12000 + 130000 + 242000)
       match c.openPart r.input with
       | none => s2.leave r (failed stVerifyFail)
       | some part => (s2.addPart c.number part).leave r (answered (checkValue c.label part))) := by
  intro s
  obtain rfl := runOf_core hr.1
  have hst : (s.coreAt r.core).stored = [] := hr.stored
  have hsvc : componentAddSvc r s = s.checks r (s.componentAddChecks r) fun _ =>
      s.checks r (s.lanes r) fun _ => s.checks r (s.tiles r false false) fun _ =>
        match c.openPart r.input with
        | none => (s.spend r.core componentCycles).fails stVerifyFail
        | some part => ((s.spend r.core componentCycles).addPart c.number part).gives (answered (checkValue c.label part)) := by
    simp only [componentAddSvc, s, hc]
    rfl
  rw [checks_checks] at hsvc
  refine ends_of_unitChecks hr rfl hsvc ?_
  cases c.openPart r.input with
  | none => exact after_fails (by simpa using hst) _
  | some part => exact after_gives (by simpa using hst) _

/-- R155: the key of a session's components; the session closes. -/
theorem componentClose_ends {c : CompSession} (hr : Runs o k 0x0707 r) (hc : (o.noted r).componentToClose r = some c) :
    let s := o.noted r
    Ends (.componentClose k r.hw) o s r (s.componentCloseChecks r ++ s.lanes r)
      ((((s.spend k 12000).setComps (s.adm.comps.filter fun y => y.number != c.number)).countLoads 1).endService r
        (answered (checkValue c.label c.key)) (some [s.putKey c.label c.key])) := by
  intro s
  obtain rfl := runOf_core hr.1
  have hsvc : componentCloseSvc r s = s.checks r (s.componentCloseChecks r) fun _ => s.checks r (s.lanes r) fun _ =>
      (((s.spend r.core 12000).setComps (s.adm.comps.filter fun y => y.number != c.number)).countLoads 1).doneWith
        (checkValue c.label c.key) (some [s.putKey c.label c.key]) := by
    simp only [componentCloseSvc, s, hc]
  exact ends_of_unitChecks hr rfl hsvc rfl

/-- R156: a key deleted. -/
theorem keyDelete_ends (hr : Runs o k 0x0708 r) (h0 : r.b.h0 ≠ 0) (hp : Permitted (o.noted r) r 0x0006 false p s1) :
    Ends (.keyDelete k r.hw) o s1 r (s1.keyDeleteChecks r)
      ((s1.spend k 6000).endService r (answered []) (some [.delete r.b.h0])) := by
  obtain rfl := runOf_core hr.1
  exact ends_of_permit (given := r.b.h0 != 0) hr hp rfl (by simpa using h0) rfl rfl rfl

/-- R157: the key of a token whose certificate and signatures verify, where it has its place. -/
theorem tr34Import_ends (hr : Runs o k 0x0709 r) (h0 : r.b.h0 ≠ 0) (h1 : r.b.h1 ≠ 0) (hp : Permitted (o.noted r) r 0x0007 false p s1) :
    Ends (.tr34Import k r.hw) o s1 r (s1.tr34ImportChecks r ++ s1.tiles r true true)
      (let s2 := (s1.loadChains r.b.h0 r.b.h1).spend k (12000 + Config.variableCycles 0x0709 0 [])
       match s1.tr34Key r with
       | none => s2.leave r (failed stVerifyFail)
       | some (l, key) => match firstFail (r.reads (s1.tr34Place r l)) with
         | some st => s2.leave r (failed st)
         | none => (s2.countLoads 1).endService r (answered (checkValue l key)) (some [s1.putKey l key])) := by
  obtain rfl := runOf_core hr.1
  have hst := hp.stored hr
  refine ends_of_permitUnits (given := r.b.h0 != 0 && r.b.h1 != 0) hr hp rfl (by simp [h0, h1]) rfl rfl ?_
  cases s1.tr34Key r with
  | none => exact after_fails (by simpa using hst) _
  | some x => exact after_checks (by simpa using hst) _ _

/-- R157: the token of a key for a certificate that holds, with drawn bytes. -/
theorem tr34Export_ends (hr : Runs o k 0x070A r) (h0 : r.b.h0 ≠ 0) (h1 : r.b.h1 ≠ 0) (h2 : r.b.h2 ≠ 0)
    (hp : Permitted (o.noted r) r (exportAction ((o.noted r).labelOf r.b.h0).exportability) false p s1) :
    Ends (.tr34Export k r.hw) o s1 r (s1.tr34ExportChecks r ++ s1.tiles r true true)
      (let s2 := ((s1.loadKeys [r.b.h0]).loadChains r.b.h1 r.b.h2).spend k (12000 + Config.variableCycles 0x070A 0 [])
       if s1.tr34Trusts r.b.h2 r.input = false then s2.leave r (failed stVerifyFail)
       else drawn (s2.drawFor r 64) s1 r fun rnd s3 => s3.leave r (withOutput r (s1.tr34Token r rnd))) := by
  obtain rfl := runOf_core hr.1
  have hst := hp.stored hr
  refine ends_of_permitUnits (given := r.b.h0 != 0 && r.b.h1 != 0 && r.b.h2 != 0) hr hp rfl (by simp [h0, h1, h2]) rfl rfl ?_
  split
  · exact after_fails (by simpa using hst) _
  · exact after_drawnElse (d := State.drawFor _ r 64) (by simpa using hst) fun rnd => after_gives (by simpa using hst) _

/-- Step 5 of R146: the key management services that require a handle end BAD_FORMAT without it. -/
theorem keyService_zero {i : Instr} {op : Nat} :
    (i = .keyImport k r.hw ∧ op = 0x0701 ∧ r.b.h0 = 0) ∨ (i = .keyExport k r.hw ∧ op = 0x0702 ∧ (r.b.h0 = 0 ∨ r.b.h1 = 0)) ∨
      (i = .keyTranslate k r.hw ∧ op = 0x0703 ∧ (r.b.h0 = 0 ∨ r.b.h1 = 0)) ∨ (i = .keyDelete k r.hw ∧ op = 0x0708 ∧ r.b.h0 = 0) ∨
      (i = .tr34Import k r.hw ∧ op = 0x0709 ∧ (r.b.h0 = 0 ∨ r.b.h1 = 0)) ∨
      (i = .tr34Export k r.hw ∧ op = 0x070A ∧ (r.b.h0 = 0 ∨ r.b.h1 = 0 ∨ r.b.h2 = 0)) →
    Runs o k op r → Ends i o (o.noted r) r ((o.noted r).keySteps r) ((o.noted r).leave r (failed stBadFormat)) := by
  have htwo (h : r.b.h0 = 0 ∨ r.b.h1 = 0) : (r.b.h0 != 0 && r.b.h1 != 0) = false := by
    simpa only [Bool.and_eq_false_iff, bne_eq_false_iff_eq] using h
  have hthree (h : r.b.h0 = 0 ∨ r.b.h1 = 0 ∨ r.b.h2 = 0) : (r.b.h0 != 0 && r.b.h1 != 0 && r.b.h2 != 0) = false := by
    simpa only [Bool.and_eq_false_iff, bne_eq_false_iff_eq, or_assoc] using h
  rintro (⟨rfl, rfl, h⟩ | ⟨rfl, rfl, h⟩ | ⟨rfl, rfl, h⟩ | ⟨rfl, rfl, h⟩ | ⟨rfl, rfl, h⟩ | ⟨rfl, rfl, h⟩) hr
  · exact ends_of_zero hr rfl (by simpa using h) rfl
  · exact ends_of_zero hr rfl (htwo h) rfl
  · exact ends_of_zero hr rfl (htwo h) rfl
  · exact ends_of_zero hr rfl (by simpa using h) rfl
  · exact ends_of_zero hr rfl (htwo h) rfl
  · exact ends_of_zero hr rfl (hthree h) rfl

end KeyServices

/-- Settles O57: past its permit and its checks each service leaves its outcome, and a change is submitted where the end of a run has room for it.
That TR34_EXPORT takes the action of R147 is the model's reading (log 23). -/
theorem keyServicesAnswer : Obligations.KeyServicesAnswer := by
  unfold Obligations.KeyServicesAnswer
  intro o s1 k r p
  exact ⟨keyGenerate_ends, keyImport_ends, keyExport_ends, keyTranslate_ends,
    -- KEY_CHECK_VALUE
    fun hr => ends_of_answer hr rfl rfl,
    componentOpen_ends, fun _ => componentAdd_ends, fun _ => componentClose_ends, fun _ => rfl,
    keyDelete_ends, tr34Import_ends, tr34Export_ends, fun _ _ => keyService_zero,
    -- The end of a run that makes changes (R60, R432)
    fun _ _ hx => ⟨fun hs => ⟨endService_submits hx hs, endService_auditFull hx hs, endService_keyLimit hx hs⟩, endService_withheld⟩⟩

end Sys2Proof.Machine

/-! SUPPORT. Services of administration and audit: permits lodged, withdrawn and used, tenants, officers, the calendar, journal queries, audit and
relays. -/
namespace Sys2Proof.Machine

/-! ### The end of a service that answers -/

section Admin

variable {o s1 : State} {k : Nat} {r : Run} {p : Option Permit}

@[simp] theorem after_doneWith (s : State) (r : Run) (result : Bytes) (commit : Option (List Change)) :
    r.after (s.doneWith result commit) = s.endService r (answered result) commit := rfl

theorem after_answers {s : State} (hst : (s.coreAt r.core).stored = []) (result : Bytes) :
    r.after (s.doneWith result) = s.leave r (answered result) := endService_leave hst

theorem after_ite {c : Prop} [Decidable c] {a b : Res × State} {x y : State} (ha : r.after a = x) (hb : r.after b = y) :
    r.after (if c then a else b) = if c then x else y := by
  split
  · exact ha
  · exact hb

/-! ### Permits (R162, R163) -/

/-- R162: the checks of a permit in order, the fifth counting the lodge in its 1 ms window; every outcome is logged. -/
theorem permitLodge_ends (hr : Runs o k 0x0C00 r) :
    let s := o.noted r
    let q := permitOf r.input
    let w := s.now / 100000
    let n := if s.adm.lodges.1 = w then s.adm.lodges.2 else 0
    let refused (s : State) (st : Nat) : State := (s.logPermit 2 r.tenant q.no q.action q.officerA q.officerB st).leave r (failed st)
    let counted : State := { s with adm := { s.adm with lodges := (w, n + 1) } }
    Ends (.permitLodge k r.hw) o s r [noPermit r] (match firstFail (r.reads (s.lodgeChecks r.tenant r.input)) with
      | some st => refused s st
      | none =>
        if 20 ≤ n then refused s stPermitRate
        else if s.permitSigned r.input = false then refused counted stPermitInvalid
        else if 4096 ≤ s.adm.permits.length ∨ 64 ≤ s.adm.permits.countP (fun x => x.1 == r.tenant) then refused counted stPermitTableFull
        else (({ counted with adm := { counted.adm with permits := s.adm.permits ++ [(r.tenant, q)] } } : State).logPermit 0 r.tenant
          q.no q.action q.officerA q.officerB stDone).leave r (answered [])) := by
  intro s q w n refused counted
  have hst : (s.coreAt r.core).stored = [] := hr.stored
  have hrefused {t : State} (ht : t.coreAt r.core = s.coreAt r.core) (st : Nat) :
      r.after ((t.logPermit 2 r.tenant q.no q.action q.officerA q.officerB st).fails st) = refused t st :=
    after_fails (by simpa [ht] using hst) st
  refine ends_of_checks hr rfl rfl ?_
  cases firstFail (r.reads (s.lodgeChecks r.tenant r.input)) with
  | some st => exact hrefused rfl st
  | none =>
    refine after_ite (hrefused (t := s) rfl _) ?_
    refine after_ite (hrefused (t := counted) rfl _) ?_
    refine after_ite (hrefused (t := counted) rfl _) ?_
    exact after_answers (by rw [coreAt_logPermit]; exact hst) []

/-- A number withdrawn on this device changes no core. -/
@[simp] theorem coreAt_withdrawHere (s : State) (t no j : Nat) : (s.withdrawHere t no).2.coreAt j = s.coreAt j := by
  unfold State.withdrawHere
  split <;> rfl

theorem after_joinWithdraw {s : State} (hst : (s.coreAt r.core).stored = []) (os : List Outcome) :
    r.after (joinWithdraw os s) = s.leave r (if os.all fun o => decide (o.status = stPermitInvalid) then failed stPermitInvalid
      else answered [if os.any fun o => decide (o.status = stDone) && le 0 1 o.result == 1 then 1 else 0]) := by
  unfold joinWithdraw
  split
  · exact after_fails hst _
  · exact after_answers hst _

/-- R162, R411: a number withdrawn here, asked of every member, or their answers joined. -/
theorem permitWithdraw_ends (hr : Runs o k 0x0C01 r) :
    let s := o.noted r
    let answers (cs : List Comp) : List Outcome := cs.map fun c => ⟨c.status, c.result, c.outLen, none⟩
    let cs := [noPermit r, (wbits 31 0 r.b.p0 != 0 && wbits 63 32 r.b.p0 == 0 && r.b.p1 == 0 && r.b.p2 == 0, stRange)]
    let x := s.withdrawHere r.tenant (wbits 31 0 r.b.p0)
    (r.e.asked = none → s.isHead = false ∨ r.e.origin.isSome = true ∨ s.otherMembers = [] →
      Ends (.permitWithdraw k r.hw) o s r cs (x.2.leave r x.1)) ∧
    (r.e.asked = none → s.isHead = true → r.e.origin = none → s.otherMembers ≠ [] → Ends (.permitWithdraw k r.hw) o s r cs
      ((x.2.setEntry r.idx { r.e with asked := some (s.otherMembers, [x.1.comp r.b.seq]) }).otherMembers.foldl
        (fun (s : State) d => s.sendBarge d r.e [])
        (x.2.setEntry r.idx { r.e with asked := some (s.otherMembers, [x.1.comp r.b.seq]) }))) ∧
    (∀ as, r.e.asked = some ([], as) → Ends (.permitWithdraw k r.hw) o s r cs
      (s.leave r (if (answers as).all fun o => decide (o.status = stPermitInvalid) then failed stPermitInvalid
        else answered [if (answers as).any fun o => decide (o.status = stDone) && le 0 1 o.result == 1 then 1 else 0]))) := by
  intro s answers cs x
  have hst : (s.coreAt r.core).stored = [] := hr.stored
  refine ⟨fun hasked hhere => ends_of_checks hr rfl rfl ?_, fun hasked hhead horigin hothers => ends_of_checks hr rfl rfl ?_,
    fun as hasked => ends_of_checks hr rfl rfl ?_⟩
  · rw [hasked]
    exact (congrArg r.after (if_pos hhere)).trans (endService_leave (by simpa [x] using hst))
  · have hasks : ¬(s.isHead = false ∨ r.e.origin.isSome = true ∨ s.otherMembers = []) := by simp [hhead, horigin, hothers]
    rw [hasked]
    exact congrArg r.after (if_neg hasks)
  · rw [hasked]
    exact after_joinWithdraw hst _

/-! ### Tenants, officers and the calendar (R166 to R168) -/

/-- R166: a tenant made, changed or begun to be deleted. -/
theorem tenantService_ends {i : Instr} {op action : Nat} {cs : List (Bool × Nat)} {ch : List Change} :
    (let t := le 0 2 (r.lighter 0)
     (i = .tenantCreate k r.hw ∧ op = 0x0C10 ∧ action = 0x0010 ∧ cs = s1.tenantCreateChecks r t ∧ ch = s1.tenantCreation r t) ∨
      (i = .tenantPolicy k r.hw ∧ op = 0x0C11 ∧ action = 0x0011 ∧ cs = s1.tenantPolicyChecks r t ∧
        ch = [.tenant t ((s1.tenantAt t).withLighter (r.lighter 0))]) ∨
      (i = .tenantDelete k r.hw ∧ op = 0x0C12 ∧ action = 0x0012 ∧ cs = s1.tenantDeleteChecks t ∧ ch = s1.tenantDeletion t)) →
    Runs o k op r → Permitted (o.noted r) r action true p s1 →
    Ends i o s1 r (tenantSteps r ++ cs) (s1.endService r (answered []) (some ch)) := by
  rintro (⟨rfl, rfl, rfl, rfl, rfl⟩ | ⟨rfl, rfl, rfl, rfl, rfl⟩ | ⟨rfl, rfl, rfl, rfl, rfl⟩) hr hp
  all_goals exact ends_of_permitUnits hr hp rfl rfl permitSteps_anyHandles rfl rfl

theorem only_adm_mor (s : State) (x : Adm) (y : Mor) : Only [.adm, .mor] s { s with adm := x, mor := y } :=
  Only.trans (t := { s with adm := x }) ((only_adm s x).mono (by simp)) ((only_mor _ y).mono (by simp))

/-- R166: nothing of a tenant being deleted is left, and it is FREE. -/
theorem tenantReclaimDone_completes {s : State} {t : Nat} (h : (s.tenantAt t).st = .deleting) :
    Completes (.tenantReclaimDone t) s fun u =>
      (u.tenantAt t) = { s.tenantAt t with st := .free } ∧ (∀ q, q ≠ t → u.tenantAt q = s.tenantAt q) ∧
      u.mor.store = s.mor.store.filter (fun x => handleTenant x.1 != t) ∧ u.mor.base = s.mor.base.filter (fun x => handleTenant x.1 != t) ∧
      Only [.adm, .mor] s u := by
  have ht : t ≠ 0 := by
    rintro rfl
    simp [State.tenantAt] at h
  refine ⟨_, congrArg Host.Outcome.next (if_pos h), ?_, fun q hq => ?_, rfl, rfl, ?_⟩
  · simp [State.tenantAt, ht]
  · simp [State.tenantAt, hq]
  · exact only_adm_mor s _ _

/-- R168: the calendar at the tick of its claim; every member of a cluster takes the setting. -/
theorem calendarSet_ends (hr : Runs o k 0x0C30 r) (hp : Permitted (o.noted r) r 0x0030 false p s1) :
    let t := s1.claimTick r
    let v := wbits 31 0 r.b.p0
    let x := answered (toLE 4 ((s1.calendarAt t).getD 0))
    Ends (.calendarSet k r.hw) o s1 r (calendarChecks r (s1.calendarAt t))
      (if s1.cfg.cluster.isSome then s1.endService r x (some [.calendar v t])
       else ({ s1 with adm := { s1.adm with calendar := some (v, t) } } : State).leave r x) := by
  intro t v x
  have hst := hp.stored hr
  exact ends_of_permit hr hp rfl rfl permitSteps_anyHandles rfl (after_ite rfl (after_answers (by exact hst) _))

/-! ### Journal queries (R61, R415) -/

section Members

variable {s : State} {own : Outcome} {join : List Outcome → State → Res × State}

/-- A barge of another head, or on a device that is none, has its own answer. -/
theorem askMembers_here (h : s.isHead = false ∨ r.e.origin.isSome = true) : s.askMembers r own join = s.gives own := if_pos h

section Head

variable (hhead : s.isHead = true) (horigin : r.e.origin = none)
include hhead horigin

theorem askMembers_joins {as : List Comp} (hasked : r.e.asked = some ([], as)) :
    s.askMembers r own join = join (own :: as.map fun c => ⟨c.status, c.result, c.outLen, none⟩) s := by
  simp [State.askMembers, hhead, horigin, hasked]

theorem askMembers_alone (hasked : r.e.asked = none) (hothers : s.otherMembers = []) : s.askMembers r own join = s.gives own := by
  simp [State.askMembers, State.gives, hhead, horigin, hasked, hothers]

theorem askMembers_asks (hasked : r.e.asked = none) (hothers : s.otherMembers ≠ []) :
    s.askMembers r own join = (.wait, s.otherMembers.foldl (fun (s : State) d => s.sendBarge d r.e r.input)
      (s.setEntry r.idx { r.e with asked := some (s.otherMembers, []) })) := by
  simp [State.askMembers, hhead, horigin, hasked]

end Head

end Members

/-- What a head leaves of the answers of every member. -/
theorem after_joinQuery {s : State} (hst : (s.coreAt r.core).stored = []) (os : List Outcome) :
    r.after (joinQuery os s) = ended (joinQuery os s) r := by
  unfold joinQuery
  split
  · exact after_answers hst _
  · extract_lets first
    split
    · exact after_answers hst _
    · exact after_answers (by exact hst) _

/-- R61, R415: this device's own answer, or at the head of a cluster the question sent to every member and their answers joined. -/
theorem journalQuery_ends (hr : Runs o k 0x0C40 r) :
    let s := o.noted r
    let answers (cs : List Comp) : List Outcome := cs.map fun c => ⟨c.status, c.result, c.outLen, none⟩
    let ring := wbits 13 0 r.b.p1
    let owner := (Tbl.find ring s.cfg.rings).any fun c => c.tenant == r.tenant
    let cs := [noPermit r, (wbits 31 14 r.b.p1 == 0 && r.b.p2 == 0
      && (r.e.origin.isSome || (owner && decide (r.b.p0.toNat ≤ s.pwr.epoch))), stRange)]
    let own : Outcome := ⟨stDone, s.query ((r.e.origin.map (·.head)).getD s.index) ((r.e.origin.map (·.epoch)).getD s.pwr.epoch)
      r.b.p0.toNat ring (wbits 63 32 r.b.p1), 16, none⟩
    (s.isHead = false ∨ r.e.origin.isSome = true → Ends (.journalQuery k r.hw) o s r cs (s.leave r own)) ∧
    (r.e.asked = none → s.isHead = true → r.e.origin = none → s.otherMembers = [] → Ends (.journalQuery k r.hw) o s r cs (s.leave r own)) ∧
    (r.e.asked = none → s.isHead = true → r.e.origin = none → s.otherMembers ≠ [] → Ends (.journalQuery k r.hw) o s r cs
      ((s.otherMembers).foldl (fun (s : State) d => s.sendBarge d r.e r.input)
        (s.setEntry r.idx { r.e with asked := some (s.otherMembers, []) }))) ∧
    (∀ as, r.e.asked = some ([], as) → s.isHead = true → r.e.origin = none →
      Ends (.journalQuery k r.hw) o s r cs (ended (joinQuery (own :: answers as) s) r)) := by
  intro s answers ring owner cs own
  have hst : (s.coreAt r.core).stored = [] := hr.stored
  have howner : owner = match Tbl.find ring s.cfg.rings with
      | some c => c.tenant == r.tenant
      | none => false := by
    unfold owner
    cases Tbl.find ring s.cfg.rings <;> rfl
  have hsvc : journalQuerySvc r s = s.checks r cs fun _ => s.askMembers r own joinQuery := by
    unfold cs
    rw [howner]
    rfl
  have hends {t : State} (ht : r.after (s.askMembers r own joinQuery) = t) : Ends (.journalQuery k r.hw) o s r cs t :=
    ends_of_checks hr rfl hsvc ht
  refine ⟨fun hhere => hends ?_, fun hasked hhead horigin hothers => hends ?_, fun hasked hhead horigin hothers => hends ?_,
    fun as hasked hhead horigin => hends ?_⟩
  · rw [askMembers_here hhere]
    exact after_gives hst own
  · rw [askMembers_alone hhead horigin hasked hothers]
    exact after_gives hst own
  · rw [askMembers_asks hhead horigin hasked hothers]
    rfl
  · rw [askMembers_joins hhead horigin hasked]
    exact after_joinQuery hst _

end Admin

/-! ### Audit (R433, R434) -/

section Audit

variable {o s1 : State} {k : Nat} {r : Run} {p : Option Permit}

/-- R433: the whole records that fit, the SEQ after the last of them and how many they are. -/
theorem auditRead_ends (hr : Runs o k 0x0C60 r) :
    let s := o.noted r
    let got := s.auditRecs r
    let next := (got.getLast?).elim s.freshNat fun x => (x.seq + 1, s)
    Ends (.auditRead k r.hw) o s r (s.auditReadChecks r)
      (next.2.leave r (withOutput r (got.flatMap fun x => ofWords x.image) (toLE 8 next.1 ++ toLE 4 got.length))) := by
  intro s got next
  have hst : (s.coreAt r.core).stored = [] := hr.stored
  have hnext : next.2.coreAt r.core = s.coreAt r.core := by
    unfold next
    cases got.getLast? <;> rfl
  have hmatch : (match got.getLast? with
      | some x => (x.seq + 1, s)
      | none => s.freshNat) = next := by
    unfold next
    cases got.getLast? <;> rfl
  have hsvc : auditReadSvc r s = s.checks r (s.auditReadChecks r) fun _ =>
      next.2.doneOut r (got.flatMap fun x => ofWords x.image) (toLE 8 next.1 ++ toLE 4 got.length) := by
    rw [← hmatch]
    rfl
  exact ends_of_checks hr rfl hsvc (after_doneOut (by rw [hnext, hst]) _ _)

/-- R433: a seal over the tenant's audit-critical records of a range, where it fits. -/
theorem auditSeal_ends (hr : Runs o k 0x0C61 r) (hf : r.fits 202 = true) :
    let s := o.noted r
    Ends (.auditSeal k r.hw) o s r (s.auditSealChecks r ++ s.tiles r false false)
      (({ s with log := s.log.addSeal (le 0 8 (r.lighter 0)) (le 8 8 (r.lighter 0)) (r.tenant == 0) } : State).leave r
        (withOutput r (s.sealText r ++ fixLen 114 (s.aliasSign (ascii "LT7200 audit") (s.sealText r))) (toLE 4 s.log.sealNext))) := by
  intro s
  have hst : (s.coreAt r.core).stored = [] := hr.stored
  have hroom : ¬ r.b.outCap < 202 := by simpa [Run.fits] using hf
  have hsvc : auditSealSvc r s = s.checks r (s.auditSealChecks r) fun _ => s.checks r (s.tiles r false false) fun _ =>
      ({ s with log := s.log.addSeal (le 0 8 (r.lighter 0)) (le 8 8 (r.lighter 0)) (r.tenant == 0) } : State).gives
        (withOutput r (s.sealText r ++ fixLen 114 (s.aliasSign (ascii "LT7200 audit") (s.sealText r))) (toLE 4 s.log.sealNext)) := by
    simp only [auditSealSvc, State.withRoom, if_neg hroom]
    rfl
  exact ends_of_unitChecks hr rfl hsvc (after_gives (by exact hst) _)

/-- R45: a seal that does not fit its buffer. -/
theorem auditSeal_short (hr : Runs o k 0x0C61 r) (hf : r.fits 202 = false) :
    let s := o.noted r
    Ends (.auditSeal k r.hw) o s r (s.auditSealChecks r) (s.leave r ⟨stBadLength, [], 202, none⟩) := by
  intro s
  have hroom : r.b.outCap < 202 := by simpa [Run.fits] using hf
  have hsvc : auditSealSvc r s = s.checks r (s.auditSealChecks r) fun _ => s.doneOut r (zeros 202) := by
    simp only [auditSealSvc, State.withRoom, if_pos hroom]
  exact ends_of_short hr rfl hf hsvc

/-- R434: the words of the records that a seal names are acknowledged in the commit tick. -/
theorem auditAck_ends {x : Seal} (hr : Runs o k 0x0C62 r) (hp : Permitted (o.noted r) r 0x0040 true p s1) (hx : s1.sealNamed r = some x) :
    Ends (.auditAck k r.hw) o s1 r (s1.auditAckChecks r)
      (s1.endService r (answered (toLE 8 (recWords (s1.log.unackedRecs.filter fun y => decide (y.seq ≤ x.last)))))
        (some [.ackLog x.last])) := by
  refine ends_of_permit hr hp rfl rfl permitSteps_anyHandles rfl ?_
  simp [hx]

end Audit

/-! ### Relays (R423) -/

section Relay

variable {o : State} {k : Nat} {r : Run}

/-- R423: a relay runs its inner barge here, sends it on, or ends with the other device's answer. -/
theorem clusterRelay_next (hrun : o.runOf k 0x0E01 r.hw = some r) :
    let inner := relayInner r.b
    let d := le 0 1 (r.lighter 0)
    (∀ st, r.e.asked = none → o.relayFails r = some st → exec (.clusterRelay k r.hw) o = .next (o.leave r (failed st))) ∧
    (∀ svc, r.e.asked = none → o.relayFails r = none → d = o.index → relayed inner.opcode = some svc →
      exec (.clusterRelay k r.hw) o = .next ((o.setEntry r.idx { r.e with b := inner }).serve k inner.opcode r.hw svc)) ∧
    (r.e.asked = none → o.relayFails r = none → d ≠ o.index → exec (.clusterRelay k r.hw) o
      = .next ((o.setEntry r.idx { r.e with asked := some ([d], []) }).sendBarge d { r.e with b := inner } r.input)) ∧
    (∀ c as, r.e.asked = some ([], c :: as) →
      exec (.clusterRelay k r.hw) o = .next (o.leave r ⟨c.status, c.result, c.outLen, r.e.outBytes⟩)) := by
  intro inner d
  have hexec : exec (.clusterRelay k r.hw) o = .next (o.relay k r.hw) := rfl
  rw [hexec]
  refine ⟨fun st hasked hfails => ?_, fun svc hasked hfails hd hsvc => ?_, fun hasked hfails hd => ?_, fun c as hasked => ?_⟩
  · simp only [State.relay, hrun, hasked, hfails, failed]
  · simp only [State.relay, hrun, hasked, hfails, if_pos hd, hsvc, inner, d]
  · simp only [State.relay, hrun, hasked, hfails, if_neg hd, inner, d]
  · simp only [State.relay, hrun, hasked]

end Relay

/-! ### A permit used (R163) -/

section Claims

variable {s : State} {r : Run} {action : Nat} {device : Bool} {q : Permit}

theorem adm_logPermit (s : State) (what tenant no action a b st : Nat) : (s.logPermit what tenant no action a b st).adm = s.adm :=
  logPermit_only s what tenant no action a b st .adm (by decide)

/-- Every condition of a permit for a barge's action but its dates (R146, R161, R163). -/
def State.permitMeets (s : State) (r : Run) (action : Nat) (device : Bool) (q : Permit) : Bool :=
  decide (q.action = action) && (!device || decide (q.scopeKind = 0)) && q.covers (bargeHandles r.b)
    && (allZero q.arg || decide (q.arg = argOf r)) && s.officerActive q.officerA && (decide (q.signers = 1) || s.officerActive q.officerB)

/-- A permit that is found, meets its conditions and is in date is claimed, with its record. -/
theorem usePermit_claims (hno : r.b.permit ≠ 0) (hq : ((s.quorumOf action).getD ⟨0, 0, 0⟩).signers ≠ 0)
    (hfree : (s.coreAt r.core).claimed = none)
    (hfound : (s.adm.permits.find? fun x => x.1 == r.tenant && x.2.no == r.b.permit).or ((s.outclaimed r).map fun x => (r.tenant, x.2))
      = some (r.tenant, q))
    (hmeets : s.permitMeets r action device q = true) (hfrom : q.notBefore ≤ s.now) (hto : s.now ≤ q.notAfter) :
    s.usePermit r action device = ((none, some q),
      (s.claim r r.tenant q).logPermit 1 r.tenant r.b.permit action q.officerA q.officerB stDone) := by
  have hdates : ¬(s.now < q.notBefore ∨ q.notAfter < s.now) := by omega
  have hok : ¬ s.permitMeets r action device q = false := by simp [hmeets]
  unfold State.usePermit
  extract_lets qe no c refuse out
  rw [if_neg hq, if_neg hno, if_neg (by simp [c, hfree])]
  simp only [no, out, hfound]
  exact (if_neg hok).trans (if_neg hdates)

/-- A rival of a run is on another core (R163). -/
theorem rivals_ne {x : Nat × Entry} (h : x ∈ s.rivals r) : x.1 ≠ r.core := by
  obtain ⟨c, -, hc⟩ := List.mem_filterMap.1 h
  split at hc
  · split at hc
    next hrival =>
      obtain rfl := Option.some.inj hc
      exact hrival.1
    next => cases hc
  · cases hc

/-- A core whose claim is taken back is another than that of the run (R163). -/
theorem outclaimed_ne {j : Nat} (h : s.outclaimed r = some (j, q)) : j ≠ r.core := by
  obtain ⟨x, hx, hj⟩ := List.exists_of_findSome?_eq_some h
  have hxj : x.1 = j := by
    split at hj
    · split at hj
      · exact congrArg Prod.fst (Option.some.inj hj)
      · cases hj
    · cases hj
  exact hxj ▸ rivals_ne hx

/-- A claim stands on the run's core with the tick it is made in. -/
theorem claim_core (s : State) (r : Run) (tenant : Nat) (q : Permit) :
    ((s.claim r tenant q).coreAt r.core).claimed = some (s.now, q) := by
  unfold State.claim
  cases s.outclaimed r with
  | none => exact congrArg Core.claimed (State.coreAt_setCore ..)
  | some x => exact congrArg Core.claimed (State.coreAt_setCore ..)

/-- A lodged permit claimed is spent and lodged no more. -/
theorem claim_lodged (tenant : Nat) (h : s.outclaimed r = none) :
    (s.claim r tenant q).adm.spent = s.adm.spent ++ [(tenant, r.b.permit)] ∧
      (s.claim r tenant q).adm.permits = s.adm.permits.erase (tenant, q) := by
  simp [State.claim, h]

/-- A permit taken from a barge admitted later leaves that barge's core without a claim, and the tables as they are. -/
theorem claim_taken (tenant : Nat) {j : Nat} {q' : Permit} (h : s.outclaimed r = some (j, q')) :
    ((s.claim r tenant q).coreAt j).claimed = none ∧ (s.claim r tenant q).adm = s.adm := by
  simp [State.claim, h, State.coreAt_setCore_ne _ _ _ _ (outclaimed_ne h)]

/-- R163: the permit found, lodged or claimed in this tick by a barge admitted later, is spent by the barge that names it. -/
theorem usePermit_spends (hno : r.b.permit ≠ 0) (hq : ((s.quorumOf action).getD ⟨0, 0, 0⟩).signers ≠ 0)
    (hfree : (s.coreAt r.core).claimed = none) :
    let lodged := s.adm.permits.find? fun x => x.1 == r.tenant && x.2.no == r.b.permit
    lodged = some (r.tenant, q) ∧ s.outclaimed r = none ∨ lodged = none ∧ (∃ j, s.outclaimed r = some (j, q)) → q.action = action →
    (device = true → q.scopeKind = 0) → q.covers (bargeHandles r.b) = true → allZero q.arg = true ∨ q.arg = argOf r →
    s.officerActive q.officerA = true → q.signers = 1 ∨ s.officerActive q.officerB = true → q.notBefore ≤ s.now → s.now ≤ q.notAfter →
    let u := s.usePermit r action device
    u.1 = (none, some q) ∧ (u.2.coreAt r.core).claimed = some (s.now, q) ∧ Only [.adm, .cores, .log] s u.2 ∧
    (s.outclaimed r = none → u.2.adm.spent = s.adm.spent ++ [(r.tenant, r.b.permit)] ∧
      u.2.adm.permits = s.adm.permits.erase (r.tenant, q)) ∧
    (∀ j, s.outclaimed r = some (j, q) → (u.2.coreAt j).claimed = none ∧ u.2.adm = s.adm) := by
  intro lodged hwhere haction hdevice hcovers harg hA hB hfrom hto u
  have hfound : lodged.or ((s.outclaimed r).map fun x => (r.tenant, x.2)) = some (r.tenant, q) := by
    obtain ⟨hl, -⟩ | ⟨hl, j, hj⟩ := hwhere
    · simp [hl]
    · simp [hl, hj]
  have hscope : device = false ∨ q.scopeKind = 0 := by
    cases device with
    | false => exact .inl rfl
    | true => exact .inr (hdevice rfl)
  have hmeets : s.permitMeets r action device q = true := by
    simp [State.permitMeets, haction, hscope, hcovers, harg, hA, hB]
  have hu : u = _ := usePermit_claims hno hq hfree hfound hmeets hfrom hto
  refine ⟨by rw [hu], ?_, usePermit_only s r action device, fun hout => ?_, fun j hout => ?_⟩
  · rw [hu, coreAt_logPermit, claim_core]
  · rw [hu, adm_logPermit]
    exact claim_lodged r.tenant hout
  · rw [hu, coreAt_logPermit, adm_logPermit]
    exact claim_taken r.tenant hout

end Claims

/-- Settles O59: past its permit and its checks each service leaves its outcome and its changes; a permit that covers a barge is spent by it. That a
device-tenant ring enrols officers of any ACTIVE tenant is the model's reading (log 24). -/
theorem adminAndAuditServicesAnswer : Obligations.AdminAndAuditServicesAnswer := by
  unfold Obligations.AdminAndAuditServicesAnswer
  intro o s1 k r p
  exact ⟨permitLodge_ends, permitWithdraw_ends, fun _ _ _ _ _ => tenantService_ends, fun _ => tenantReclaimDone_completes,
    -- OFFICER_ENROL, OFFICER_REVOKE
    fun hr hp => ends_of_permit hr hp rfl rfl permitSteps_anyHandles rfl rfl,
    fun hr hp => ends_of_permit hr hp rfl rfl permitSteps_anyHandles rfl rfl,
    calendarSet_ends, journalQuery_ends, auditRead_ends, auditSeal_ends, auditSeal_short, fun _ => auditAck_ends,
    -- AUDIT_STATUS, CLUSTER_HOME
    fun hr => ends_of_checks hr rfl rfl (after_gives hr.stored _), fun hr => ends_of_checks hr rfl rfl (after_gives hr.stored _),
    clusterRelay_next, fun _ _ _ => usePermit_spends⟩

end Sys2Proof.Machine

/-! SUPPORT. Services of the cargo store and of the device: what their sessions, DRYDOCK, a copy's staging and the end of loopbacks leave stored on
a core, and with that backup, restore, formatting, migration, DRYDOCK, grants, firmware update and raw-sample mode. -/
namespace Sys2Proof.Machine

/-! ### What a run leaves stored on its core -/

/-- No core's stored records differ: what a service does ahead of its end (R207). -/
def KeepsStored (s t : State) : Prop := ∀ k, (t.coreAt k).stored = (s.coreAt k).stored

theorem KeepsStored.refl (s : State) : KeepsStored s s := fun _ => rfl

theorem KeepsStored.trans {s t u : State} (h1 : KeepsStored s t) (h2 : KeepsStored t u) : KeepsStored s u := fun k => (h2 k).trans (h1 k)

theorem KeepsStored.nil {s t : State} {k : Nat} (h : KeepsStored s t) (hst : (s.coreAt k).stored = []) : (t.coreAt k).stored = [] :=
  (h k).trans hst

theorem Only.keepsStored {ps : List Part} {s t : State} (h : Only ps s t) (hp : .cores ∉ ps) : KeepsStored s t := fun k =>
  congrArg Core.stored (h.coreAt hp k)

/-- A core replaced by one with the same stored records. -/
theorem keepsStored_setCore {s : State} {j : Nat} {c : Core} (h : c.stored = (s.coreAt j).stored) : KeepsStored s (s.setCore j c) := by
  intro k
  by_cases hk : k = j
  · subst hk
    rw [State.coreAt_setCore, h]
  · rw [State.coreAt_setCore_ne _ _ _ _ hk]

theorem KeepsStored.foldl {α : Type} {f : State → α → State} (h : ∀ s a, KeepsStored s (f s a)) (as : List α) (s : State) :
    KeepsStored s (as.foldl f s) := by
  induction as generalizing s with
  | nil => exact .refl s
  | cons a as ih => exact (h s a).trans (ih _)

/-! ### Backup and restore sessions (R194) -/

@[simp] theorem coreAt_setSession (s : State) (c : CargoSession) (k : Nat) : (s.setSession c).coreAt k = s.coreAt k := rfl

@[simp] theorem coreAt_endSession (s : State) (n k : Nat) : (s.endSession n).coreAt k = s.coreAt k := rfl

@[simp] theorem coreAt_newSession (s : State) (c : CargoSession) (k : Nat) : (s.newSession c).coreAt k = s.coreAt k := rfl

theorem keepSnapshot_keepsStored (s : State) (k : Nat) : KeepsStored s (s.keepSnapshot k) := keepsStored_setCore rfl

section Cargo

variable {o s1 : State} {k : Nat} {r : Run} {p : Option Permit} {c : CargoSession}

/-- R195: a backup session with drawn BK and identifier, where the device has one left. -/
theorem backupOpen_ends (hr : Runs o k 0x0C50 r) (hp : Permitted (o.noted r) r 0x0050 false p s1) (hfree : s1.mor.sessions.length < 4) :
    Ends (.backupOpen k r.hw) o s1 r (s1.backupOpenChecks r p ++ s1.tiles r false false)
      (let s2 := s1.keepSnapshot k
       drawn (s2.drawFor r 48) s2 r fun bs s3 =>
        let c := s2.backupSession r bs
        ((s3.spend k (30000 + Config.variableCycles 0x0C50 c.n [])).newSession c).leave r (answered (toLE 4 c.number))) := by
  obtain rfl := runOf_core hr.1
  have hst := (keepSnapshot_keepsStored s1 r.core).nil (hp.stored hr)
  refine ends_of_permitUnits hr hp rfl rfl permitSteps_anyHandles rfl ?_
  rw [if_neg (Nat.not_le.2 hfree)]
  exact after_drawnElse (d := State.drawFor _ r 48) (by simpa using hst) fun bs => after_gives (by simpa using hst) _

/-- R196: the next chunk of a session sealed, or the session's end; a record that does not unwrap is KEY_DAMAGED. -/
theorem backupRead_ends (hr : Runs o k 0x0C51 r) (hc : (o.noted r).sessionIn r false = some c) :
    let s := o.noted r
    (c.ended = true → Ends (.backupRead k r.hw) o s r (s.backupReadChecks r) (s.leave r (answered (fixLen 9 (toLE 4 c.chunk))))) ∧
    (c.ended = false → Ends (.backupRead k r.hw) o s r (s.backupReadChecks r ++ s.lanes r)
      (let s2 := (s.countLoads c.nextCount).spend k (20000 + 900 * c.nextCount)
       match s.chunkPlain c with
       | none => s2.leave r (failed stKeyDamaged)
       | some plain =>
         let x := c.seal plain
         (s2.setSession (c.after x.2)).leave r (withOutput r (x.1 ++ x.2)
           (toLE 4 c.chunk ++ toLE 4 c.nextCount ++ [if (c.after x.2).ended then 1 else 0])))) := by
  intro s
  obtain rfl := runOf_core hr.1
  have hst : (s.coreAt r.core).stored = [] := hr.stored
  constructor <;> intro hend
  · have hsvc : backupReadSvc r s = s.checks r (s.backupReadChecks r) fun _ => s.doneWith (fixLen 9 (toLE 4 c.chunk)) := by
      simp only [backupReadSvc, s, hc, hend, if_true]
    exact ends_of_checks hr rfl hsvc (after_answers hst _)
  · have hsvc : backupReadSvc r s = s.checks r (s.backupReadChecks r) fun _ => s.checks r (s.lanes r) fun _ =>
        let s2 := (s.countLoads c.nextCount).spend r.core (20000 + 900 * c.nextCount)
        match s.chunkPlain c with
        | none => s2.fails stKeyDamaged
        | some plain =>
          let x := c.seal plain
          (s2.setSession (c.after x.2)).gives (withOutput r (x.1 ++ x.2)
            (toLE 4 c.chunk ++ toLE 4 c.nextCount ++ [if (c.after x.2).ended then 1 else 0])) := by
      simp only [backupReadSvc, s, hc, hend, Bool.false_eq_true, if_false] <;> rfl
    refine ends_of_unitChecks hr rfl hsvc ?_
    cases s.chunkPlain c with
    | none => exact after_fails (by simpa using hst) _
    | some plain => exact after_gives (by simpa using hst) _

/-- R197: the package of a session, its shares of drawn bytes, signed; the session closes. -/
theorem backupClose_ends (hr : Runs o k 0x0C52 r) (hc : (o.noted r).sessionIn r false = some c) :
    let s := o.noted r
    Ends (.backupClose k r.hw) o s r (s.backupCloseChecks r ++ s.tiles r false false)
      (if r.fits (194 + 112 * c.n) = false then s.leave r ⟨stBadLength, [], 194 + 112 * c.n, none⟩
       else drawn (s.drawFor r (56 * c.n + 32 * (c.k - 1))) s r fun rnd s2 =>
        ((s2.endSession c.number).spend k (30000 + Config.variableCycles 0x0C52 c.n [])).leave r
          (withOutput r (packageBody c rnd ++ fixLen 114 (s.aliasSign [] (packageBody c rnd))))) := by
  intro s
  obtain rfl := runOf_core hr.1
  have hst : (s.coreAt r.core).stored = [] := hr.stored
  have hsvc : backupCloseSvc r s = s.checks r (s.backupCloseChecks r) fun _ => s.checks r (s.tiles r false false) fun _ =>
      if r.fits (194 + 112 * c.n) = false then s.doneOut r (zeros (194 + 112 * c.n))
      else drawnElse (s.drawFor r (56 * c.n + 32 * (c.k - 1))) s fun rnd =>
        (((s.drawFor r (56 * c.n + 32 * (c.k - 1))).2.endSession c.number).spend r.core
          (30000 + Config.variableCycles 0x0C52 c.n [])).gives
          (withOutput r (packageBody c rnd ++ fixLen 114 (s.aliasSign [] (packageBody c rnd)))) := by
    simp only [backupCloseSvc, s, hc]
    rfl
  refine ends_of_unitChecks hr rfl hsvc ?_
  split
  next hf => rw [after_doneOut hst, withOutput_short (by simp [zeros]) hf]
  next => exact after_drawnElse (by simpa using hst) fun rnd => after_gives (by simpa using hst) _

/-- R198: a restore session with a drawn X448 key, where the device has one left. -/
theorem restoreOpen_ends (hr : Runs o k 0x0C53 r) (hp : Permitted (o.noted r) r 0x0051 false p s1) (hfree : s1.mor.sessions.length < 4) :
    Ends (.restoreOpen k r.hw) o s1 r (restoreOpenChecks r p ++ s1.tiles r false false)
      (if r.fits 56 = false then s1.leave r ⟨stBadLength, [], 56, none⟩ else drawn (s1.drawFor r 56) s1 r fun x s2 =>
        let c := s1.restoreSession r x
        ((s2.spend k (30000 + Config.variableCycles 0x0C53 c.n [])).newSession c).leave r
          (withOutput r (fixLen 56 (Config.x448Public x)) (toLE 4 c.number))) := by
  obtain rfl := runOf_core hr.1
  have hst := hp.stored hr
  refine ends_of_permitUnits hr hp rfl rfl permitSteps_anyHandles rfl ?_
  rw [if_neg (Nat.not_le.2 hfree)]
  split
  next hf => rw [after_doneOut hst, withOutput_short (by simp [zeros]) hf]
  next => exact after_drawnElse (d := s1.drawFor r 56) (by simpa using hst) fun x => after_gives (by simpa using hst) _

/-- R198: a share whose tag verifies is taken; the K-th gives the BK, or ends the session where its check fails. -/
theorem restoreShare_ends (hr : Runs o k 0x0C54 r) (hc : (o.noted r).sessionIn r true = some c) :
    let s := o.noted r
    Ends (.restoreShare k r.hw) o s r (s.restoreShareChecks r ++ s.lanes r ++ s.tiles r false false)
      (let s2 := s.spend k (30000 + 130000 + 242000)
       match c.openShare r.input with
       | none => s2.leave r (failed stVerifyFail)
       | some share => match c.withShare (le 4 1 r.input) ((s.shareSigner r).getD 0) share with
         | some c' => (s2.setSession c').leave r (answered [])
         | none => (s2.endSession c.number).leave r (failed stVerifyFail)) := by
  intro s
  obtain rfl := runOf_core hr.1
  have hst : (s.coreAt r.core).stored = [] := hr.stored
  have hsvc : restoreShareSvc r s = s.checks r (s.restoreShareChecks r) fun _ =>
      s.checks r (s.lanes r) fun _ => s.checks r (s.tiles r false false) fun _ =>
        let s2 := s.spend r.core shareCycles
        match c.openShare r.input with
        | none => s2.fails stVerifyFail
        | some share => match c.withShare (le 4 1 r.input) ((s.shareSigner r).getD 0) share with
          | some c' => (s2.setSession c').gives (answered [])
          | none => (s2.endSession c.number).fails stVerifyFail := by
    simp only [restoreShareSvc, s, hc]
    rfl
  rw [checks_checks] at hsvc
  refine ends_of_unitChecks hr rfl hsvc ?_
  cases c.openShare r.input with
  | none => exact after_fails (by simpa using hst) _
  | some share =>
    dsimp only
    cases c.withShare (le 4 1 r.input) ((s.shareSigner r).getD 0) share with
    | some c' => exact after_gives (by simpa using hst) _
    | none => exact after_fails (by simpa using hst) _

/-- R199: the records of a chunk whose tag verifies are added where there is room, and the session goes on. -/
theorem restoreWrite_ends (hr : Runs o k 0x0C55 r) (hc : (o.noted r).sessionIn r true = some c) :
    let s := o.noted r
    Ends (.restoreWrite k r.hw) o s r (s.restoreWriteChecks r ++ s.lanes r)
      (let n := le 20 4 (chunkIn r)
       let s2 := s.spend k (20000 + 1500 * n)
       match c.openChunk (chunkIn r) with
       | none => s2.leave r (failed stVerifyFail)
       | some plain =>
         let gs := s.addedGroups [] (groupParts (chunkParts n plain))
         let added := (gs.map fun g => g.2.length).sum
         if s.restoreRoom gs = false then (s2.countLoads n).leave r (failed stKeyLimit)
         else ((s2.countLoads n).setSession { c with chunk := c.chunk + 1, tags := c.tags ++ chunkTag (chunkIn r) }).endService r
           (answered (toLE 4 added ++ toLE 4 (n - added))) (some (gs.map s.restoreChange))) := by
  intro s
  obtain rfl := runOf_core hr.1
  have hst : (s.coreAt r.core).stored = [] := hr.stored
  have hsvc : restoreWriteSvc r s = s.checks r (s.restoreWriteChecks r) fun _ => s.checks r (s.lanes r) fun _ =>
      let n := le 20 4 (chunkIn r)
      let s2 := s.spend r.core (20000 + 1500 * n)
      match c.openChunk (chunkIn r) with
      | none => s2.fails stVerifyFail
      | some plain =>
        let gs := s.addedGroups [] (groupParts (chunkParts n plain))
        let added := (gs.map fun g => g.2.length).sum
        if s.restoreRoom gs = false then (s2.countLoads n).fails stKeyLimit
        else ((s2.countLoads n).setSession { c with chunk := c.chunk + 1, tags := c.tags ++ chunkTag (chunkIn r) }).doneWith
          (toLE 4 added ++ toLE 4 (n - added)) (some (gs.map s.restoreChange)) := by
    simp only [restoreWriteSvc, s, hc] <;> rfl
  refine ends_of_unitChecks hr rfl hsvc ?_
  cases c.openChunk (chunkIn r) with
  | none => exact after_fails (by simpa using hst) _
  | some plain => exact after_ite (after_fails (by simpa using hst) _) rfl

/-- R199: a restore session closes, whole or not. -/
theorem restoreClose_ends (hr : Runs o k 0x0C56 r) (hc : (o.noted r).sessionParam r true = some c) :
    let s := o.noted r
    Ends (.restoreClose k r.hw) o s r (s.restoreCloseChecks r)
      (((s.endSession c.number).spend k 30000).leave r (if c.whole then answered [] else failed stVerifyFail)) := by
  intro s
  obtain rfl := runOf_core hr.1
  have hsvc : restoreCloseSvc r s = s.checks r (s.restoreCloseChecks r) fun _ =>
      ((s.endSession c.number).spend r.core 30000).gives (if c.whole then answered [] else failed stVerifyFail) := by
    simp only [restoreCloseSvc, s, hc]
  exact ends_of_checks hr rfl hsvc (after_gives (by simpa using hr.stored) _)

/-- R194: a session is ended unfinished. -/
theorem cargoSessionEnd_ends (hr : Runs o k 0x0C57 r) :
    let s := o.noted r
    Ends (.cargoSessionEnd k r.hw) o s r (s.sessionEndChecks r)
      (((s.endSession (wbits 31 0 r.b.p0)).spend k 30000).leave r (answered [])) := by
  intro s
  obtain rfl := runOf_core hr.1
  exact ends_of_checks hr rfl rfl (after_gives (by simpa using hr.stored) _)

end Cargo

/-! ### Version migration (R322) -/

section Migration

variable {o s1 : State} {k : Nat} {r : Run} {p : Option Permit}

/-- R322: the first run of a migration begins it; a later one of the same version rewraps what log 45 takes at one run, or meets a sector that
fails R289. -/
theorem versionMigrate_ends (hr : Runs o k 0x0C75 r) (hp : Permitted (o.noted r) r 0x0063 true p s1) :
    (∀ bad, s1.kwm.migration = none →
      Ends (.versionMigrate k r.hw bad) o s1 r (s1.migrateChecks r ++ [(s1.auditRoom 7, stAuditFull), (s1.outcomeRoom, stKeyLimit)])
        (s1.migrateBegin r (versionAsked r))) ∧
    (∀ g lo, s1.kwm.migration = some (g, lo) → let cs := [(migrateForm r, stBadFormat), (g == versionAsked r, stRange)]
      Ends (.versionMigrate k r.hw none) o s1 r cs
        (let s2 := s1.migrateTo (s1.migrateGoal lo)
         if s1.migrateGoal lo < s2.storeSectors then s2
         else (s2.migrateEnd (versionAsked r)).endService r (answered []) (some [])) ∧
      ∀ cause lba, Ends (.versionMigrate k r.hw (some (cause, lba))) o s1 r cs (s1.integrity cause 2 lba 0)) := by
  refine ⟨fun bad hnone => ?_, fun g lo hsome => ⟨?_, fun cause lba => ?_⟩⟩
  · refine ends_of_permitUnits (body := (.wait, s1.migrateBegin r (versionAsked r))) hr hp rfl rfl permitSteps_anyHandles ?_ rfl
    simp only [hnone]
    rfl
  · let s2 := s1.migrateTo (s1.migrateGoal lo)
    refine ends_of_permit (body := if s1.migrateGoal lo < s2.storeSectors then (.wait, s2)
      else (s2.migrateEnd (versionAsked r)).doneWith [] (some [])) hr hp rfl rfl permitSteps_anyHandles ?_ (after_ite rfl rfl)
    simp only [hsome, s2]
  · exact ends_of_permit (body := (.wait, s1.integrity cause 2 lba 0)) hr hp rfl rfl permitSteps_anyHandles (by simp only [hsome]) rfl

end Migration

/-! ### Entering and leaving DRYDOCK (R365, R421) -/

/-- A message to a device changes only the links and what leaves by them (R401, R404). -/
theorem sendMsg_only (s : State) (l : Nat) (m : LinkMsg) : Only [.brv, .out] s (s.sendMsg l m) :=
  Only.trans (t := s.setLink l _) ((only_brv s _).mono (by simp)) ((only_out _ _).mono (by simp))

theorem pumpLink_only (l fuel : Nat) (s : State) : Only [.brv, .out] s (State.pumpLink l fuel s) := by
  induction fuel generalizing s with
  | zero => exact Only.refl _ s
  | succ fuel ih =>
    unfold State.pumpLink
    dsimp only
    split
    · exact Only.refl _ s
    · exact Only.trans (t := s.setLink l _) ((only_brv s _).mono (by simp)) ((sendMsg_only _ l _).trans (ih _))

theorem sendOn_only (s : State) (l typ vc dst : Nat) (payload : Bytes) : Only [.brv, .out] s (s.sendOn l typ vc dst payload) := by
  unfold State.sendOn State.queueOn
  dsimp only
  split
  · exact Only.refl _ s
  · exact Only.trans (t := s.setLink l _) ((only_brv s _).mono (by simp)) (pumpLink_only l _ _)

theorem sendTo_only (s : State) (typ vc dst : Nat) (payload : Bytes) : Only [.brv, .out] s (s.sendTo typ vc dst payload) := by
  unfold State.sendTo
  split
  · exact Only.refl _ s
  · exact Only.foldl (fun s p => sendOn_only s _ typ vc dst p) _ s

/-- The parts that a device's wish to leave its cluster can change (R421). -/
theorem askLeave_only (s : State) : Only [.brv, .out, .log] s s.askLeave.2 := by
  have hsend (s : State) (typ vc dst : Nat) (bs : Bytes) : Only [.brv, .out, .log] s (s.sendTo typ vc dst bs) :=
    (sendTo_only s typ vc dst bs).mono (by simp)
  have hlog (s : State) (a b : Nat) : Only [.brv, .out, .log] s (s.logEvent .interface 20 a b) :=
    (logEvent_only s _ _ _ _).mono (by simp)
  unfold State.askLeave
  split
  · exact Only.refl _ s
  · repeat' split
    · exact Only.refl _ s
    · exact Only.refl _ s
    · unfold State.decide_
      extract_lets u brv0 s2 to_
      have h2 : Only [.brv, .out, .log] s s2 := (only_brv s _).mono (by simp)
      have h3 : Only [.brv, .out, .log] s2 (to_.foldl (fun (s : State) d => s.sendTo 0x03 0 d u.payload) s2) :=
        Only.foldl (fun s d => hsend s _ _ d _) to_ s2
      exact h2.trans (h3.trans (hlog _ _ _))
    · exact hsend s _ _ _ _

/-- A lane's answer leaves what its core has stored. -/
theorem laneSay_keepsStored (s : State) (k : Nat) (out : List TWord) (code : Nat) : KeepsStored s (s.laneSay k out code) := by
  unfold State.laneSay
  extract_lets c s2
  have h2 : KeepsStored s s2 := keepsStored_setCore rfl
  split <;> exact h2

theorem setCtx_keepsStored (s : State) (k : Nat) (c : LaneCtx) : KeepsStored s (s.setCtx k c) := keepsStored_setCore rfl

theorem grantLanes_keepsStored (s : State) : KeepsStored s s.grantLanes := by
  refine KeepsStored.foldl (fun s w => ?_) _ s
  split
  · exact laneSay_keepsStored (s.openEnds w) _ _ _
  · split
    · exact .refl s
    next n _ => exact (setCtx_keepsStored s w.1 { lane := n, tenant := w.2.1 }).trans (laneSay_keepsStored (State.openEnds _ w) _ _ _)

theorem diagLane_keepsStored (s : State) : KeepsStored s s.diagLane := by
  unfold State.diagLane
  split
  · exact setCtx_keepsStored (s.setLane ..) 96 _
  · exact .refl s

/-- A lane context closed leaves what the cores have stored (R221). -/
theorem closeLane_keepsStored (s : State) (k : Nat) : KeepsStored s (s.closeLane k) := by
  unfold State.closeLane
  split
  · exact .refl s
  · extract_lets c s1 rest l mine s2
    have h1 : KeepsStored s s1 := keepsStored_setCore rfl
    exact h1.trans ((diagLane_keepsStored (s2.idleNow _)).trans (grantLanes_keepsStored _))

/-- A tile job closed leaves what the cores have stored (R236). -/
theorem closeJob_keepsStored (s : State) (k : Nat) : KeepsStored s (s.closeJob k) := by
  unfold State.closeJob
  split
  · exact .refl s
  · exact keepsStored_setCore rfl

/-- The diagnostic contexts and jobs closed at the end of DRYDOCK (R226, R254). -/
theorem diagsClosed_keepsStored (s : State) : KeepsStored s s.diagsClosed := by
  unfold State.diagsClosed
  extract_lets d1 s1 l1 s2 cph1 e1 s3 d2 g2 c2 s4 s5 hsh2 e2 s6
  have h3 : KeepsStored s s3 := by
    simp only [s3]
    split
    · exact closeLane_keepsStored s 96
    · exact .refl s
  have h6 : KeepsStored s3 s6 := by
    simp only [s6]
    split
    · exact keepsStored_setCore rfl
    · exact .refl s3
  refine h3.trans (h6.trans ?_)
  split
  · exact closeJob_keepsStored s6 96
  · exact .refl s6

/-- The end of a loopback changes its registers, the free numbers and the links that train again (R399). -/
theorem endLoop_only (s : State) (result checked errors : Nat) : Only [.wharf, .free, .brv] s (s.endLoop result checked errors) := by
  have htrain (s : State) (d : Nat) : Only [.wharf, .free, .brv] s (s.cargoTrains d) := by
    have hf : Only [.wharf, .free, .brv] s s.freshNat.2 := (only_free s _).mono (by simp)
    unfold State.cargoTrains
    dsimp only
    split <;> exact hf.trans ((only_wharf _ _).mono (by simp))
  unfold State.endLoop
  extract_lets i wharf0 s2
  have h2 : Only [.wharf, .free, .brv] s s2 := (only_wharf s _).mono (by simp)
  refine h2.trans ?_
  split
  · unfold State.ethFollow
    dsimp only
    split <;> exact (only_wharf s2 _).mono (by simp)
  · split
    · unfold State.cargoRetrains
      extract_lets on s3
      have h3 : Only [.wharf, .free, .brv] s2 s3 := by
        simp only [s3]
        split
        · exact htrain s2 0
        · exact Only.refl _ s2
      split
      · exact h3.trans (htrain s3 1)
      · exact h3
    · split
      · unfold State.linkRetrains
        split
        · exact (only_brv s2 _).mono (by simp)
        · exact Only.refl _ s2
      · exact Only.refl _ s2

theorem stopLoops_only (s : State) : Only [.wharf, .free, .brv] s s.stopLoops := by
  unfold State.stopLoops
  extract_lets wharf0 s2 a b
  have h2 : Only [.wharf, .free, .brv] s s2 := (only_wharf s _).mono (by simp)
  split
  · exact h2
  · split
    · exact h2.trans (endLoop_only s2 _ _ _)
    · have ha : Only [.wharf, .free, .brv] s2 a.2 := (only_free s2 _).mono (by simp)
      have hb : Only [.wharf, .free, .brv] a.2 b.2 := (only_free a.2 _).mono (by simp)
      exact h2.trans (ha.trans (hb.trans (endLoop_only b.2 _ _ _)))

section Device

variable {o s1 : State} {k : Nat} {r : Run} {p : Option Permit}

/-- A service under a permit goes on in the state with the permit used. -/
theorem exec_of_permit {op action : Nat} {device : Bool} {i : Instr} {svc : Service} {next : Option Permit → State → Res × State} {t : State}
    (hr : Runs o k op r) (hp : Permitted (o.noted r) r action device p s1) (hi : exec i o = .next (o.serve k op r.hw svc))
    (hsvc : svc r (o.noted r) = (o.noted r).permitSteps r true action device next) (ht : r.after (next p s1) = t) : exec i o = .next t := by
  rw [hi, serve_eq_after svc hr, hsvc, permitSteps_permitted hp, ht]

/-- R365, R421: DRYDOCK is asked for; a device that may not leave its cluster is refused. -/
theorem drydockEnter_ends (hr : Runs o k 0x0C70 r) (hp : Permitted (o.noted r) r 0x0060 true p s1) :
    Ends (.drydockEnter k r.hw) o s1 r [(noParams r.b, stBadFormat)]
      (if s1.glb.mode = .drydock then s1.leave r (answered [])
       else if s1.pwr.drydockBy.isSome then s1
       else if s1.askLeave.1 = false then s1.askLeave.2.leave r (failed stRange)
       else { s1.askLeave.2 with pwr := { s1.askLeave.2.pwr with drydockBy := some k } }) := by
  obtain rfl := runOf_core hr.1
  have hst := hp.stored hr
  have hleave := ((askLeave_only s1).keepsStored (by decide)).nil hst
  exact ends_of_permit hr hp rfl rfl permitSteps_anyHandles rfl
    (after_ite (after_answers hst _) (after_ite rfl (after_ite (after_fails hleave _) rfl)))

/-- R365: the drain done, the device is in DRYDOCK and the barge that asked for it completes. -/
theorem drydockDrainDone_enters (hby : o.pwr.drydockBy = some k) (hm : o.glb.mode = .service) (hd : o.servingOthers = false)
    (hst : o.brv.st = .single ∨ o.brv.st = .left) :
    exec .drydockDrainDone o = .next
      (let s2 := ((o.extend 7 (Config.measureItem 7 [0] [])).toMode .drydock).logRec .fuse 1 0 0xFF [0]
       ({ s2 with pwr := { s2.pwr with drydockBy := none } } : State).leaveAt k (answered [])) := by
  have hready : ¬(o.glb.mode ≠ .service ∨ o.servingOthers = true ∨ (!(o.brv.st == .single || o.brv.st == .left)) = true) := by
    obtain h | h := hst <;> simp [hm, hd, h]
  show execDrydockDrainDone o = _
  simp only [execDrydockDrainDone, hby, if_neg hready]
  rfl

/-- R365: diagnostics, raw-sample mode and loopbacks end with DRYDOCK. -/
theorem drydockExit_ends (hr : Runs o k 0x0C71 r) :
    let s := o.noted r
    Ends (.drydockExit k r.hw) o s r (s.keySteps r ++ [(noParams r.b, stBadFormat), (!s.pwr.stopped.any drydockOnly, stRange)])
      (((s.diagsClosed.rawOff.stopLoops).toMode .service).leave r (answered [])) := by
  intro s
  have hkeep : KeepsStored s ((s.diagsClosed.rawOff.stopLoops).toMode .service) :=
    (diagsClosed_keepsStored s).trans (((rawOff_only _).keepsStored (by decide)).trans
      (((stopLoops_only _).keepsStored (by decide)).trans ((toMode_only _ _).keepsStored (by decide))))
  exact ends_of_unitChecks hr rfl rfl (after_answers (hkeep.nil hr.stored) _)

/-! ### Firmware update (R373) -/

theorem stageCopy_keepsStored (s : State) (c : Bytes) : KeepsStored s (s.stageCopy c) := by
  unfold State.stageCopy
  split
  · exact .refl s
  · exact (unitPut_only s _ _ _ _).keepsStored (by decide)

/-- R373: a copy is staged, and refused with its reason or written and measured. -/
theorem firmwareUpdate_next (ok : Bool) (hr : Runs o k 0x0C73 r) (hp : Permitted (o.noted r) r 0x0062 true p s1) :
    exec (.firmwareUpdate k r.hw ok) o = .next (
      let s2 := s1.stageCopy r.input
      let s3 := s2.emit (.flashWrite (!s2.kwm.copyB) (r.input.take (copyLen r.input)))
      if s2.updateReason r.input ≠ 0 then s2.leave r (updateRefused (s2.updateReason r.input))
      else match firstFail (r.reads (s2.updateChecks r.input ++ [(s2.auditRoom 7, stAuditFull), (s2.outcomeRoom, stKeyLimit)])) with
        | some st => s2.leave r (failed st)
        | none =>
          if ok = false then s3.leave r (failed stFlashFault)
          else (s3.extend 7 (Config.measureItem 7 [2] [copyDigest r.input])).endService r (answered []) (some [])) := by
  have hst := (stageCopy_keepsStored s1 r.input).nil (hp.stored hr)
  refine exec_of_permit hr hp rfl permitSteps_anyHandles (after_ite (after_gives hst _) ?_)
  refine (congrArg r.after (checks_checks ..)).trans ((after_checks hst _ _).trans ?_)
  dsimp only
  generalize firstFail _ = fails
  cases fails with
  | some st => rfl
  | none => exact after_ite (after_fails (by exact hst) _) rfl

end Device

/-- Settles O60: past its permit and its checks each service of the store and the device leaves its outcome and its changes. That VERSION_MIGRATE
rewraps 256 sectors at a run and the volatile hold at once is the model's choice (log 45). -/
theorem storeAndDeviceServicesAnswer : Obligations.StoreAndDeviceServicesAnswer := by
  unfold Obligations.StoreAndDeviceServicesAnswer
  intro o s1 k r p
  exact ⟨backupOpen_ends, fun _ => backupRead_ends, fun _ => backupClose_ends, restoreOpen_ends, fun _ => restoreShare_ends,
    fun _ => restoreWrite_ends, fun _ => restoreClose_ends, cargoSessionEnd_ends,
    -- CARGO_FORMAT, VERSION_MIGRATE, END_OF_LIFE
    fun hr hp => ends_of_permit hr hp rfl rfl permitSteps_anyHandles rfl rfl, versionMigrate_ends,
    fun hr hp => ends_of_permit hr hp rfl rfl permitSteps_anyHandles rfl rfl,
    drydockEnter_ends, drydockDrainDone_enters, drydockExit_ends,
    -- FUNCTION_GRANT, FIRMWARE_UPDATE, RAW_RNG_ON, RAW_RNG_OFF
    fun hr hp => ends_of_permit hr hp rfl rfl permitSteps_anyHandles rfl (after_answers (by exact hp.stored hr) _),
    firmwareUpdate_next,
    fun hr hp => ends_of_permit hr hp rfl rfl permitSteps_anyHandles rfl (after_answers (by exact hp.stored hr) _),
    fun hr => ends_of_unitChecks hr rfl rfl
      (after_answers (((rawOff_only _).keepsStored (by decide)).nil hr.stored) _)⟩

end Sys2Proof.Machine

/-! SUPPORT. Upkeep of the moorings and the tugs: a key dropped, a mooring moved, a tug lost, the transfers of host buffers and the pending pin
table. -/
namespace Sys2Proof.Machine

/-! ### Moorings (R175, R179) -/

section Moorings

variable {s : State} {m n bank : Nat} {x : Mooring}

/-- R175: the key of a mooring with an ECC error leaves the moorings. -/
theorem mooringEccError_completes (hx : Tbl.find m s.mor.moorings = some x) :
    Completes (.mooringEccError m) s fun t =>
      t.mor.moorings = s.mor.moorings.filter (fun p => decide (p.2.krec.label.handle ≠ x.krec.label.handle)) ∧
      t.mor.eccRefetch = satAdd 16 s.mor.eccRefetch 1 ∧ Only [.mor, .log] s t := by
  let h := x.krec.label.handle
  have hlogged (t : State) (ht : Only [.mor] s t)
      (hm : t.mor.moorings = s.mor.moorings.filter (fun p => decide (p.2.krec.label.handle ≠ h)))
      (he : t.mor.eccRefetch = satAdd 16 s.mor.eccRefetch 1) :
      (t.logEvent .interface 11 m h).mor.moorings = s.mor.moorings.filter (fun p => decide (p.2.krec.label.handle ≠ h)) ∧
      (t.logEvent .interface 11 m h).mor.eccRefetch = satAdd 16 s.mor.eccRefetch 1 ∧
      Only [.mor, .log] s (t.logEvent .interface 11 m h) := by
    have hlog : Only [.log] t (t.logEvent .interface 11 m h) := logEvent_only t _ _ _ _
    have hmor : (t.logEvent .interface 11 m h).mor = t.mor := hlog .mor (by decide)
    rw [hmor]
    exact ⟨hm, he, (ht.mono (by simp)).trans (hlog.mono (by simp))⟩
  show ∃ t, execMooringEccError m s = .next t ∧ _
  simp only [execMooringEccError, hx]
  exact ⟨_, rfl, hlogged _ (only_mor s _) rfl rfl⟩

/-- R179: a mooring that no load reads moves to a free one of a bank of lower pressure. -/
theorem mooringMove_completes (hx : Tbl.find m s.mor.moorings = some x) (hn : s.freeIn bank = some n) (hne : n ≠ m)
    (hbank : tget 0 bank s.mor.bankLast < tget 0 (bankOf m) s.mor.bankLast) (hload : s.loading x.krec.label = false) :
    Completes (.mooringMove m bank) s fun t =>
      Tbl.find n t.mor.moorings = some x ∧ Tbl.find m t.mor.moorings = none ∧
      (∀ i, i ≠ m → i ≠ n → Tbl.find i t.mor.moorings = Tbl.find i s.mor.moorings) ∧ Only [.mor] s t := by
  show ∃ t, execMooringMove m bank s = .next t ∧ _
  simp only [execMooringMove, hx, hn, if_pos (And.intro hbank hload)]
  exact ⟨_, rfl, Tbl.find_put .., (Tbl.find_put_ne _ _ _ _ hne.symm).trans (Tbl.find_del ..),
    fun i him hin => (Tbl.find_put_ne _ _ _ _ hin).trans (Tbl.find_del_ne _ _ _ him), only_mor s _⟩

end Moorings

/-! ### Tugs (R169) -/

section Tugs

variable {s : State} {n : Nat}

/-- A tug that takes a transfer is in service. -/
theorem freeTug_in_service {lo count t : Nat} (h : s.freeTug lo count = some t) : s.mor.tugsOut.contains t = false := by
  have ht := List.find?_some h
  simp only [Bool.and_eq_true, Bool.not_eq_true'] at ht
  exact ht.1

/-- A page-in taken off its tug changes only that page-in (R169). -/
theorem retug_frame (s : State) (h : Nat) : Only [.mor] s (s.retug h) ∧ (s.retug h).mor.tugsOut = s.mor.tugsOut ∧
    (s.retug h).mor.moorings = s.mor.moorings ∧ (s.retug h).mor.store = s.mor.store := by
  unfold State.retug
  split <;> exact ⟨only_mor s _, rfl, rfl, rfl⟩

/-- A page-in taken off a tug out of service is not on it any more; the others stay as they are. -/
theorem retug_pageIns (hn : s.mor.tugsOut.contains n = true) {h : Nat} {q : PageIn} (hq : q ∈ (s.retug h).mor.pageIns)
    (htug : q.tug = some n) : q ∈ s.mor.pageIns ∧ q.handle ≠ h := by
  have hmap (f : PageIn → PageIn) (hf : ∀ p, (f p).tug ≠ some n)
      (hm : q ∈ s.mor.pageIns.map fun p => if p.handle = h then f p else p) : q ∈ s.mor.pageIns ∧ q.handle ≠ h := by
    obtain ⟨p, hp, rfl⟩ := List.mem_map.1 hm
    by_cases hh : p.handle = h
    · rw [if_pos hh] at htug
      exact absurd htug (hf p)
    · rw [if_neg hh]
      exact ⟨hp, hh⟩
  unfold State.retug at hq
  split at hq
  next t ht =>
    refine hmap (fun p => { p with tug := some t }) (fun p hp => ?_) hq
    have hout := freeTug_in_service ht
    rw [Option.some.inj hp, hn] at hout
    cases hout
  next => exact hmap (fun p => { p with stage := .waitTug, tug := none }) (fun p hp => nomatch hp) hq

/-- The page-ins of a tug that has left its group go to other tugs or wait for one. -/
theorem retug_foldl (hs : List PageIn) (hn : s.mor.tugsOut.contains n = true)
    (hall : ∀ q ∈ s.mor.pageIns, q.tug = some n → ∃ p ∈ hs, p.handle = q.handle) :
    ∀ q ∈ (hs.foldl (fun (s : State) (p : PageIn) => s.retug p.handle) s).mor.pageIns, q.tug ≠ some n := by
  induction hs generalizing s with
  | nil =>
    intro q hq htug
    obtain ⟨p, hp, -⟩ := hall q hq htug
    cases hp
  | cons a as ih =>
    obtain ⟨-, hout, -⟩ := retug_frame s a.handle
    refine ih (by rw [hout]; exact hn) fun q hq htug => ?_
    obtain ⟨hold, hne⟩ := retug_pageIns hn hq htug
    obtain ⟨p, hp, hh⟩ := hall q hold htug
    obtain rfl | hp := List.mem_cons.1 hp
    · exact absurd hh.symm hne
    · exact ⟨p, hp, hh⟩

/-- The frame of a chain of page-ins taken off their tugs. -/
theorem retug_foldl_frame (hs : List PageIn) (s : State) :
    let t := hs.foldl (fun (s : State) (p : PageIn) => s.retug p.handle) s
    Only [.mor] s t ∧ t.mor.tugsOut = s.mor.tugsOut ∧ t.mor.moorings = s.mor.moorings ∧ t.mor.store = s.mor.store := by
  induction hs generalizing s with
  | nil => exact ⟨Only.refl _ s, rfl, rfl, rfl⟩
  | cons a as ih =>
    obtain ⟨ho, ht, hm, hst⟩ := retug_frame s a.handle
    obtain ⟨ho', ht', hm', hst'⟩ := ih (s.retug a.handle)
    exact ⟨ho.trans ho', ht'.trans ht, hm'.trans hm, hst'.trans hst⟩

/-- A core taken off a tug. -/
def Core.offTug (n : Nat) (c : Core) : Core := if c.tug = some n then { c with tug := none } else c

theorem offTug_tug (n : Nat) (c : Core) : (c.offTug n).tug ≠ some n := by
  unfold Core.offTug
  split
  · exact nofun
  next h => exact h

/-- R169: a lost tug is out of service, and no core and no page-in is on it; moorings and store stay. -/
theorem loseTug_spec (s : State) (n : Nat) :
    let t := s.loseTug n
    t.mor.tugsOut = s.mor.tugsOut ++ [n] ∧ (∀ k, (t.coreAt k).tug ≠ some n) ∧ (∀ p ∈ t.mor.pageIns, p.tug ≠ some n) ∧
      t.mor.moorings = s.mor.moorings ∧ t.mor.store = s.mor.store ∧ Only [.mor, .cores] s t := by
  let s1 : State := { s with
    mor := { s.mor with tugsOut := s.mor.tugsOut ++ [n] }
    cores := s.cores.map fun (p : Nat × Core) => (p.1, p.2.offTug n) }
  have h1 : Only [.mor, .cores] s s1 := Only.trans (t := { s with mor := s1.mor }) ((only_mor s _).mono (by simp))
    ((only_cores _ _).mono (by simp))
  have hcores (k : Nat) : (s1.coreAt k).tug ≠ some n := by
    have hk : s1.coreAt k = ((Tbl.find k s.cores).map (Core.offTug n)).getD {} :=
      congrArg (fun c : Option Core => c.getD {}) (Tbl.find_mapValues (Core.offTug n) k s.cores)
    rw [hk]
    cases Tbl.find k s.cores with
    | none => exact nofun
    | some c => exact offTug_tug n c
  let ps := s1.mor.pageIns.filter fun p => decide (p.tug = some n)
  obtain ⟨ho, ht, hm, hst⟩ := retug_foldl_frame ps s1
  refine ⟨ht, fun k => ?_, retug_foldl ps (by simp) fun q hq htug => ⟨q, List.mem_filter.2 ⟨hq, by simp [htug]⟩, rfl⟩, hm, hst,
    h1.trans (ho.mono (by simp))⟩
  intro hk
  exact hcores k ((congrArg Core.tug (ho.coreAt (by decide) k)).symm.trans hk)

/-- R169: a tug that fails its self-check leaves its group, with the interrupt and the record of it. -/
theorem tugSelfcheckFail_completes (hm : s.glb.mode ≠ .sentry) (hn : s.mor.tugsOut.contains n = false) :
    Completes (.tugSelfcheckFail n) s fun t =>
      t.mor.tugsOut = s.mor.tugsOut ++ [n] ∧ (∀ k, (t.coreAt k).tug ≠ some n) ∧ (∀ p ∈ t.mor.pageIns, p.tug ≠ some n) ∧
      t.mor.moorings = s.mor.moorings ∧ t.mor.store = s.mor.store ∧ Only [.mor, .cores, .glb, .log, .out, .wharf] s t := by
  obtain ⟨hout, hcores, hpages, hmoor, hstore, ho⟩ := loseTug_spec s n
  let t := ((s.loseTug n).setInt intSpare).logEvent .interface 12 n 0
  have hexec : exec (.tugSelfcheckFail n) s = .next t := by
    show execTugSelfcheckFail n s = _
    rw [execTugSelfcheckFail, if_neg (by simp [hm]), if_neg (by simp only [hn, Bool.false_eq_true, not_false_eq_true])]
  have hlog : Only [.glb, .out, .wharf, .log] (s.loseTug n) t :=
    ((setInt_only _ _).mono (by simp)).trans ((logEvent_only _ _ _ _ _).mono (by simp))
  have hmor : t.mor = (s.loseTug n).mor := hlog .mor (by decide)
  refine ⟨t, hexec, ?_⟩
  dsimp only
  rw [hmor]
  refine ⟨hout, fun k => ?_, hpages, hmoor, hstore, (ho.mono (by simp)).trans (hlog.mono (by simp))⟩
  rw [hlog.coreAt (by decide)]
  exact hcores k

end Tugs

/-! ### Host buffers (R40, R386) -/

section Buffers

variable {s : State} {k i tug : Nat} {e : Entry}

/-- R40: with the tug's gate, Bus Master Enable and the link allowing it, the bytes of an input buffer reach the core. -/
theorem tugRead_ok (htug : s.hostTug k = some tug) (hbme : s.wharf.bme.contains (s.ringCfg e.ring).func = true)
    (hup : s.wharf.pcieUp = true) (hgate : s.gateCheck (96 + tug) .read (hostAddr e.b.inAddr) e.b.inLen [] = none) (bs : Bytes) :
    s.tugRead k i e (.ok bs) = (s.emit (.hostRead (s.ringCfg e.ring).func e.b.inAddr e.b.inLen)).setCore k
      { s.coreAt k with input := some (fixLen e.b.inLen bs), tug := none } := by
  have hbus : ¬(s.wharf.bme.contains (s.ringCfg e.ring).func = false ∨ s.wharf.pcieUp = false) := by
    rw [hbme, hup]; simp
  simp only [State.tugRead, htug, hgate, if_neg hbus]

/-- R40, R387: likewise output bytes leave for the output buffer of a ring that is not under FLR. -/
theorem tugWrite_ok {out : Bytes} (htug : s.hostTug k = some tug) (hbme : s.wharf.bme.contains (s.ringCfg e.ring).func = true)
    (hup : s.wharf.pcieUp = true) (hflr : (s.ringAt e.ring).flr = false)
    (hgate : s.gateCheck (96 + tug) .write (hostAddr e.b.outAddr) out.length (wordsOf out .pub) = none) :
    s.tugWrite k i e out = (s.setCore k { s.coreAt k with written := true, tug := none }).emit
      (.hostWrite (s.ringCfg e.ring).func e.b.outAddr out) := by
  have hbus : ¬(s.wharf.bme.contains (s.ringCfg e.ring).func = false ∨ s.wharf.pcieUp = false) := by
    rw [hbme, hup]; simp
  simp only [State.tugWrite, htug, hgate, hflr, Bool.false_eq_true, if_false, if_neg hbus]

variable (hj : (s.coreAt k).job = some i) (he : s.entryAt i = some e) (hbuf : e.b.buf = true) (ho : e.origin = none)
  (hring : (s.ringCfg e.ring).transport = 0)
include hj he hbuf ho hring

/-- The read of an input buffer that its core waits for. -/
theorem tugTransferDone_reads (r : XferReturn) (hin : (s.coreAt k).input = none) (hres : (s.coreAt k).res = none) (hlen : e.b.inLen ≠ 0) :
    exec (.tugTransferDone k false r) s = .next (s.tugRead k i e r) := by
  show execTugTransferDone k false r s = _
  simp [execTugTransferDone, hj, he, hbuf, ho, hring, hin, hres, hlen]

/-- The write of the output that a core's barge has left. -/
theorem tugTransferDone_writes (r : XferReturn) {x : Outcome} {out : Bytes} (hres : (s.coreAt k).res = some x) (hout : x.out = some out)
    (hw : (s.coreAt k).written = false) : exec (.tugTransferDone k true r) s = .next (s.tugWrite k i e out) := by
  show execTugTransferDone k true r s = _
  simp [execTugTransferDone, hj, he, hbuf, ho, hring, hres, hout, hw]

end Buffers

/-! ### The pending pin table (R177) -/

/-- With the pin-table function STOPPED and its copy open, an edit changes the copy's table. -/
theorem editPins_open {s : State} {m : Manifest} (hp : s.pwr.pend = some (0x3B, m)) (hs : s.pwr.stopped.contains 0x3B = true)
    (f : List Nat → List Nat) : s.editPins f = { s with pwr := { s.pwr with pend := some (0x3B, { m with pins := f m.pins }) } } := by
  simp only [State.editPins, hp, hs, and_self, if_true]

/-- Settles O34: each command of the moorings' and tugs' upkeep does what its rule says, in the states that its rule names. -/
theorem mooringUpkeep : Obligations.MooringUpkeep := by
  unfold Obligations.MooringUpkeep
  exact ⟨fun _ _ _ => mooringEccError_completes, fun _ _ _ _ _ => mooringMove_completes, fun _ _ => tugSelfcheckFail_completes,
    fun s k i tug e hj he hbuf ho hring htug hbme hup =>
      ⟨fun bs hin hres hlen hgate => (tugTransferDone_reads hj he hbuf ho hring _ hin hres hlen).trans
          (congrArg Host.Outcome.next (tugRead_ok htug hbme hup hgate bs)),
        fun o out r hres hout hw hflr hgate => (tugTransferDone_writes hj he hbuf ho hring r hres hout hw).trans
          (congrArg Host.Outcome.next (tugWrite_ok htug hbme hup hflr hgate))⟩,
    fun _ _ hp hs => ⟨congrArg Host.Outcome.next (editPins_open hp hs _), congrArg Host.Outcome.next (editPins_open hp hs _)⟩⟩

end Sys2Proof.Machine

/-! SUPPORT. Page-ins: what a page-in's return leaves of the moorings and of the other page-ins, a page-in at its lookup, and the sectors that a
drive returns for it. -/
namespace Sys2Proof.Machine

/-! ### What leaves the moorings and the page-ins in progress as they are -/

/-- The moorings, the handles whose page-ins are in progress and the count of returns are as before. -/
def KeepsPaging (s t : State) : Prop :=
  t.mor.moorings = s.mor.moorings ∧ t.mor.pageIns.map PageIn.handle = s.mor.pageIns.map PageIn.handle ∧ t.lkm.returns = s.lkm.returns

theorem KeepsPaging.refl (s : State) : KeepsPaging s s := ⟨rfl, rfl, rfl⟩

theorem KeepsPaging.trans {s t u : State} (h1 : KeepsPaging s t) (h2 : KeepsPaging t u) : KeepsPaging s u := by
  obtain ⟨hm, hp, hr⟩ := h1
  obtain ⟨hm', hp', hr'⟩ := h2
  exact ⟨hm'.trans hm, hp'.trans hp, hr'.trans hr⟩

theorem KeepsPaging.foldl {α : Type} {f : State → α → State} (h : ∀ s a, KeepsPaging s (f s a)) (as : List α) (s : State) :
    KeepsPaging s (as.foldl f s) := by
  induction as generalizing s with
  | nil => exact .refl s
  | cons a as ih => exact (h s a).trans (ih _)

theorem Only.keepsPaging {ps : List Part} {s t : State} (h : Only ps s t) (hm : .mor ∉ ps) (hl : .lkm ∉ ps) : KeepsPaging s t := by
  have hmor : t.mor = s.mor := h .mor hm
  have hlkm : t.lkm = s.lkm := h .lkm hl
  exact ⟨by rw [hmor], by rw [hmor], by rw [hlkm]⟩

section Alarms

/-- Of the moorings' unit, an alarm erases the keel register alone (R347). -/
theorem raise_keepsPaging (s : State) (srcs : List (Nat × Nat)) : KeepsPaging s (s.raise srcs) := by
  unfold State.raise
  split
  · exact .refl s
  · extract_lets level prior prior' taken lowest latches events len0 s1 s2 s3 s4 pwr0 s5 s6
    have h2 : KeepsPaging s1 s2 := by
      simp only [s2]
      split <;> exact ⟨rfl, rfl, rfl⟩
    have h3 : KeepsPaging s2 s3 := KeepsPaging.foldl (fun s p => by
      split
      · exact (sentryAdd_only s _ _ _ _ _ _ _).keepsPaging (by decide) (by decide)
      · exact .refl s) srcs s2
    have h4 : KeepsPaging s3 s4 := by
      simp only [s4]
      split
      · exact (enterHalt_only s3 _ _ _).keepsPaging (by decide) (by decide)
      · exact .refl s3
    have h6 : KeepsPaging s5 s6 :=
      KeepsPaging.foldl (fun s p => (logRec_only s _ _ _ _ _).keepsPaging (by decide) (by decide)) srcs s5
    have h : KeepsPaging s s6 := KeepsPaging.trans (t := s1) ⟨rfl, rfl, rfl⟩
      (h2.trans (h3.trans (h4.trans (KeepsPaging.trans (t := s5) ⟨rfl, rfl, rfl⟩ h6))))
    have hint (b : BitVec 6) : KeepsPaging s6 (s6.setInt b) := (setInt_only s6 b).keepsPaging (by decide) (by decide)
    refine h.trans ?_
    split
    · exact .refl s6
    · split
      · exact hint _
      · split
        · exact hint _
        · exact .refl s6

theorem alarmEvent_keepsPaging (s : State) (src : Nat) : KeepsPaging s (s.alarmEvent src) := by
  unfold State.alarmEvent
  extract_lets s1 f
  have h1 : KeepsPaging s s1 := by
    simp only [s1]
    split
    · exact (enterHalt_only s _ _ _).keepsPaging (by decide) (by decide)
    · exact .refl s
  have hf : KeepsPaging s f.1 := h1.trans ((filterEvent_only s1 src).keepsPaging (by decide) (by decide))
  split
  · exact hf.trans (raise_keepsPaging _ _)
  · exact hf

/-- INTEGRITY (R283) leaves moorings and page-ins. -/
theorem integrity_keepsPaging (s : State) (cause : BitVec 3) (path addr kd : Nat) : KeepsPaging s (s.integrity cause path addr kd) := by
  unfold State.integrity
  extract_lets slu0 s1 s2 s3 pwr0 first s4
  have h2 : KeepsPaging s1 s2 := (logRec_only s1 _ _ _ _ _).keepsPaging (by decide) (by decide)
  have h3 : KeepsPaging s2 s3 := (enterHalt_only s2 _ _ _).keepsPaging (by decide) (by decide)
  exact KeepsPaging.trans (t := s1) ⟨rfl, rfl, rfl⟩
    (h2.trans (h3.trans (KeepsPaging.trans (t := s4) ⟨rfl, rfl, rfl⟩ (alarmEvent_keepsPaging s4 21))))

end Alarms

section Lines

/-- The counter tree's work (R278 to R281) leaves moorings and page-ins. -/
theorem tree_keepsPaging {s t : State} (h : Only treeParts s t) : KeepsPaging s t := h.keepsPaging (by decide) (by decide)

theorem endWrite_keepsPaging (kd off : Nat) (x : Option (BitVec 3) × State) : KeepsPaging x.2 (State.endWrite kd off x) := by
  unfold State.endWrite
  split
  · exact integrity_keepsPaging ..
  · exact .refl _

theorem unitLine_keepsPaging (s : State) (kd off : Nat) (part : List (Nat × TWord)) (r : DramReturn) :
    KeepsPaging s (s.unitLine kd off part r) := by
  have hput (t : State) (ws : List TWord) : KeepsPaging t (State.endWrite kd off (t.putLine kd off ws r)) :=
    (tree_keepsPaging (putLine_only t kd off ws r)).trans (endWrite_keepsPaging kd off _)
  have hwalk := tree_keepsPaging (walk_only s (sluHalf off) (sluLine off) r)
  have hget := tree_keepsPaging (getLine_only s off r)
  unfold State.unitLine
  extract_lets w g
  split
  · exact .refl s
  · split
    · exact ⟨rfl, rfl, rfl⟩
    · split
      · split
        · exact hwalk.trans (integrity_keepsPaging ..)
        · exact hwalk.trans (hput _ _)
      · split
        · exact hget.trans (integrity_keepsPaging ..)
        · exact hget
        · exact hget.trans (hput _ _)
        · split
          · exact hget.trans (hput _ _)
          · exact hget.trans ⟨rfl, rfl, rfl⟩

/-- A unit's write to its table in DRAM (log 63) leaves moorings and page-ins. -/
theorem unitPut_keepsPaging (s : State) (kd off : Nat) (ws : List TWord) (r : DramReturn) : KeepsPaging s (s.unitPut kd off ws r) := by
  unfold State.unitPut
  extract_lets first numbered
  exact KeepsPaging.foldl (fun t l => unitLine_keepsPaging t kd _ _ r) _ s

end Lines

section Barges

/-- A barge put on a ready list (R75). -/
theorem enqueue_keepsPaging (s : State) (i : Nat) (e : Entry) : KeepsPaging s (s.enqueue i e) := by
  have hgeneral : KeepsPaging s (s.enqueueGeneral i e) := by
    unfold State.enqueueGeneral
    extract_lets s1
    split
    · exact ⟨rfl, rfl, rfl⟩
    · split
      · exact ⟨rfl, rfl, rfl⟩
      · extract_lets s2 lkm2
        have h2 : KeepsPaging s { s2 with lkm := { s2.lkm with spills := s2.lkm.spills + 1 } } := ⟨rfl, rfl, rfl⟩
        refine h2.trans ?_
        unfold State.spillLine
        split
        · exact .refl _
        · exact unitPut_keepsPaging ..
  unfold State.enqueue
  split
  · split
    · exact ⟨rfl, rfl, rfl⟩
    · exact hgeneral
  · exact hgeneral

/-- A completion released (R71, R74). -/
theorem release_keepsPaging (s : State) (i : Nat) (e : Entry) (c : Comp) : KeepsPaging s (s.release i e c) := by
  unfold State.release
  extract_lets c2
  split
  · split
    · exact KeepsPaging.trans (t := s.delEntry i) ⟨rfl, rfl, rfl⟩ ((sendTo_only _ _ _ _ _).keepsPaging (by decide) (by decide))
    · exact ⟨rfl, rfl, rfl⟩
  · split <;> exact ⟨rfl, rfl, rfl⟩

theorem releaseRun_keepsPaging (f fuel : Nat) (s : State) : KeepsPaging s (State.releaseRun f fuel s) := by
  induction fuel generalizing s with
  | zero => exact .refl s
  | succ fuel ih =>
    unfold State.releaseRun
    split
    · exact .refl s
    · split
      · exact .refl s
      · exact (release_keepsPaging s ..).trans (ih _)

theorem moveReserved_keepsPaging (s : State) (f : Nat) : KeepsPaging s (s.moveReserved f) := by
  unfold State.moveReserved
  split
  · exact .refl s
  · split <;> exact ⟨rfl, rfl, rfl⟩

/-- A barge that fails (R42). -/
theorem failBarge_keepsPaging (s : State) (i status : Nat) : KeepsPaging s (s.failBarge i status) := by
  unfold State.failBarge State.finish
  split
  · exact .refl s
  · split
    · exact .refl s
    · extract_lets e2 s2
      split
      · exact release_keepsPaging ..
      · exact KeepsPaging.trans (t := s2) ⟨rfl, rfl, rfl⟩ ((releaseRun_keepsPaging ..).trans (moveReserved_keepsPaging ..))

theorem failParked_keepsPaging (s : State) (i status : Nat) : KeepsPaging s (s.failParked i status) := by
  unfold State.failParked
  refine KeepsPaging.trans ?_ (failBarge_keepsPaging ..)
  split <;> exact ⟨rfl, rfl, rfl⟩

/-- A barge that sees a page-in return (R173). -/
theorem returnTo_keepsPaging (s : State) (h : Nat) (how : Returned) (i : Nat) : KeepsPaging s (s.returnTo h how i) := by
  have hnext (st : Nat) : KeepsPaging s (s.inNextTick fun s => s.failBarge i st) := by
    obtain ⟨hm, hp, hr⟩ := failBarge_keepsPaging { s with clock := { s.clock with dtime := s.clock.dtime + 1 } } i st
    exact ⟨hm, hp, hr⟩
  unfold State.returnTo
  split
  · exact .refl s
  · split
    · split
      · exact failParked_keepsPaging ..
      · split
        · split
          · extract_lets rest e2
            split
            · exact KeepsPaging.trans (t := s.setEntry i e2) ⟨rfl, rfl, rfl⟩ (enqueue_keepsPaging ..)
            · exact ⟨rfl, rfl, rfl⟩
          · exact hnext _
          · exact hnext _
        · exact .refl s
    · exact .refl s

end Barges

/-! ### A page-in's return (R172, R173) -/

section Return

theorem setStage_keepsPaging (s : State) (h : Nat) (st : PageStage) : KeepsPaging s (s.setStage h st) := by
  refine ⟨rfl, ?_, rfl⟩
  refine List.map_map.trans (List.map_congr_left fun p _ => ?_)
  simp only [Function.comp_apply]
  split <;> rfl

theorem readSector_keepsPaging (s : State) (h n lba : Nat) (avoid tried : Option Nat) :
    KeepsPaging s (s.readSector h n lba avoid tried) := by
  unfold State.readSector
  split
  · exact setStage_keepsPaging ..
  · extract_lets mor2 s2
    have h2 : KeepsPaging s s2 := ⟨rfl, rfl, rfl⟩
    split
    · exact h2.trans (setStage_keepsPaging ..)
    next d _ _ =>
      obtain ⟨hm, hp, hr⟩ := h2.trans (setStage_keepsPaging s2 h (.reading n lba d tried))
      exact ⟨hm, hp, hr⟩

/-- A page-in that waited for a tug begins (R169). -/
theorem startPageIn_keepsPaging (s : State) (h : Nat) : KeepsPaging s (s.startPageIn h) := by
  unfold State.startPageIn
  split
  · exact .refl s
  next t _ =>
    extract_lets mor2 s2
    have h2 : KeepsPaging s s2 := by
      refine ⟨rfl, ?_, rfl⟩
      refine List.map_map.trans (List.map_congr_left fun p _ => ?_)
      simp only [Function.comp_apply]
      split <;> rfl
    split
    · exact h2.trans (readSector_keepsPaging ..)
    · exact h2

theorem startWaiting_keepsPaging (s : State) : KeepsPaging s s.startWaiting := by
  unfold State.startWaiting
  refine KeepsPaging.foldl (fun s p => ?_) _ s
  exact startPageIn_keepsPaging s p.handle

/-- A page-in in progress is one of those whose handles are listed. -/
theorem pagingIn_eq (s : State) (h : Nat) : s.pagingIn h = (s.mor.pageIns.map PageIn.handle).any (· == h) := by
  simp [State.pagingIn, List.any_map, Function.comp_def]

/-- R173: a return ends its page-in and is counted; the moorings stay. -/
theorem pageReturn_spec (s : State) (h : Nat) (how : Returned) :
    (s.pageReturn h how).mor.moorings = s.mor.moorings ∧ (s.pageReturn h how).pagingIn h = false ∧
      (s.pageReturn h how).lkm.returns = s.lkm.returns + 1 := by
  unfold State.pageReturn
  extract_lets mor2 lkm2 s2
  have hseen : KeepsPaging s2 ((s2.lkm.tbl.map Prod.fst).foldl (fun (s : State) (i : Nat) => s.returnTo h how i) s2) :=
    KeepsPaging.foldl (fun s i => returnTo_keepsPaging s h how i) _ s2
  obtain ⟨hm, hp, hr⟩ := hseen.trans (startWaiting_keepsPaging _)
  refine ⟨hm, ?_, hr⟩
  rw [pagingIn_eq, hp]
  simp [s2]

/-- R172, R178: a one-link key with a free mooring is installed there at once. -/
theorem pageInstall_free {s : State} {h m : Nat} {r : KRec} {leased : Bool} (hm : s.mooringChoice r.label.handle = some (m, none)) :
    let t := s.pageInstall h [(r, leased)]
    Tbl.find m t.mor.moorings = some ⟨r, leased, s.now⟩ ∧ t.pagingIn h = false ∧ t.lkm.returns = s.lkm.returns + 1 := by
  let s1 := s.bankAccess m
  let s2 : State := { s1 with mor := { s1.mor with moorings := Tbl.put m ⟨r, leased, s.now⟩ s1.mor.moorings } }
  have hinstall : s.pageInstall h [(r, leased)] = s2.pageReturn h .installed := by
    simp only [State.pageInstall, State.installAll, State.install, hm, Option.map_some]
    rfl
  obtain ⟨hmoor, hpaging, hreturns⟩ := pageReturn_spec s2 h .installed
  intro t
  have ht : t = s2.pageReturn h .installed := hinstall
  rw [ht, hmoor]
  exact ⟨Tbl.find_put .., hpaging, hreturns⟩

end Return

/-! ### Where a page-in takes its key from (R172, R175) -/

section Lookup

variable {s : State} {h : Nat} {p : PageIn}

theorem pageInReturn_lookup (hp : (s.mor.pageIns.find? fun x => x.handle == h) = some p) (hst : p.stage = .lookup) (r : DramReturn) :
    exec (.pageInReturn h r) s = .next (s.pageLookup h r) := by
  show execPageInReturn h r s = _
  simp only [execPageInReturn, hp, hst]

/-- R172 step 1: the cargo cache's lines, and the record where it passes step 4. -/
theorem pageLookup_cached {ls : List (KRec × Bool)} (hc : s.cachedLinks h = some ls) (r : DramReturn) :
    s.pageLookup h r = match s.cacheRead h r with
      | (.broken, t) => t
      | (.poisoned, t) => t.pageMiss h
      | (.good, t) => if headOk h ls then ({ t with mor := { t.mor with pageCache := t.mor.pageCache + 1 } } : State).pageInstall h ls
          else t.pageMiss h := by
  simp only [State.pageLookup, hc] <;> rfl

/-- R172 step 2 from the volatile hold. -/
theorem pageLookup_hold (hc : s.cachedLinks h = none) (hv : s.volatileStore = true) (r : DramReturn) :
    s.pageLookup h r = match s.holdRead h r with
      | (.broken, t) => t
      | (.poisoned, t) => ({ t with mor := { t.mor with pageStore := t.mor.pageStore + 1 } } : State).pageDamaged h
      | (.good, t) => ({ t with mor := { t.mor with pageStore := t.mor.pageStore + 1 } } : State).pageFromStore h := by
  simp only [State.pageLookup, hc, hv, if_true] <;> rfl

/-- A store on drives is no volatile hold. -/
theorem volatileStore_of_driveStore (hd : s.driveStore = true) : s.volatileStore = false := by
  simp only [State.driveStore, Bool.or_eq_true, beq_iff_eq] at hd
  obtain (h | h) | h := hd <;> simp [State.volatileStore, h]

/-- R172 step 2 from a drive. -/
theorem pageLookup_drive (hc : s.cachedLinks h = none) (hd : s.driveStore = true) (r : DramReturn) :
    s.pageLookup h r = s.readSector h 0 (s.bucketLba h) none none := by
  simp only [State.pageLookup, hc, volatileStore_of_driveStore hd, hd, Bool.false_eq_true, if_false, if_true]

/-- R172, R175: with its sectors read, a page-in takes what the store holds, or is DAMAGED. -/
theorem pageInReturn_read {spoiled : Bool} (hp : (s.mor.pageIns.find? fun x => x.handle == h) = some p) (hst : p.stage = .read spoiled)
    (hport : s.pwr.stopped.contains 0x2B = false) (r : DramReturn) :
    let t := { s with mor := { s.mor with pageStore := s.mor.pageStore + 1 } }
    exec (.pageInReturn h r) s = .next (if spoiled then t.pageDamaged h else t.pageFromStore h) := by
  show execPageInReturn h r s = _
  simp only [execPageInReturn, hp, hst, hport, Bool.false_eq_true, if_false]

/-- R182: the fill is tried again. -/
theorem cacheFillRetry_retries (hp : (s.mor.pageIns.find? fun x => x.handle == h) = some p) (hst : p.stage = .cacheWait) :
    exec (.cacheFillRetry h) s = .next (s.pageFromStore h) := by
  obtain ⟨handle, stage, tug⟩ := p
  obtain rfl : stage = .cacheWait := hst
  show execCacheFillRetry h s = _
  simp only [execCacheFillRetry, hp]

/-- R178: the moorings are tried again. -/
theorem mooringWaitRetry_retries {ls : List (KRec × Bool)} (hp : (s.mor.pageIns.find? fun x => x.handle == h) = some p)
    (hst : p.stage = .mooringWait) (hls : (s.cachedLinks h).or ((s.storeLinks h).map fun l => l.map fun x => (x, false)) = some ls) :
    exec (.mooringWaitRetry h) s = .next (s.pageInstall h ls) := by
  obtain ⟨handle, stage, tug⟩ := p
  obtain rfl : stage = .mooringWait := hst
  show execMooringWaitRetry h s = _
  simp only [execMooringWaitRetry, hp, hls]

end Lookup

/-! ### The sectors a drive returns (R288, R289) -/

section Sectors

variable {s : State} {h n d lba : Nat} {tried : Option Nat} {p : PageIn}

/-- The state in which a drive's sector is verified: its failures in a row start again (R186). -/
def State.driveAnswered (s : State) (d : Nat) : State := s.setDrive d { s.drive d with fails := 0 }

/-- A drive replaced: only the moorings' unit changes, and of it only that drive. -/
theorem setDrive_eq (s : State) (d : Nat) (x : Drive) : s.setDrive d x = { s with mor := { s.mor with
    driveA := if d = 0 then x else s.mor.driveA, driveB := if d = 0 then s.mor.driveB else x } } := by
  unfold State.setDrive
  split <;> rfl

theorem drive_setDrive (s : State) (d : Nat) (x : Drive) : (s.setDrive d x).drive d = x := by
  by_cases hd : d = 0 <;> simp [State.setDrive, State.drive, hd]

theorem sectorKeys_driveAnswered (s : State) (d lba : Nat) : (s.driveAnswered d).sectorKeys d lba = s.sectorKeys d lba := by
  unfold State.sectorKeys
  rw [State.driveAnswered, drive_setDrive, setDrive_eq]
  rfl

theorem sectorPlain_driveAnswered (s : State) (d lba : Nat) (cipher : Bytes) :
    (s.driveAnswered d).sectorPlain d lba cipher = s.sectorPlain d lba cipher := by
  rw [State.sectorPlain, sectorKeys_driveAnswered, State.sectorPlain]

theorem sectorGood_driveAnswered (s : State) (d lba : Nat) (cipher tag : Bytes) (gen kind : Nat) (rest : Bytes) :
    (s.driveAnswered d).sectorGood d lba cipher tag gen kind rest = s.sectorGood d lba cipher tag gen kind rest := by
  rw [State.sectorGood, sectorKeys_driveAnswered, State.driveAnswered, setDrive_eq]
  rfl

theorem genOf_driveAnswered (s : State) (d lba : Nat) : (s.driveAnswered d).genOf lba = s.genOf lba := by
  rw [State.driveAnswered, setDrive_eq]
  rfl

theorem driveAnswered_only (s : State) (d : Nat) : Only [.mor] s (s.driveAnswered d) := by
  rw [State.driveAnswered, setDrive_eq]
  exact only_mor s _

theorem spoils_driveAnswered (s : State) (d h : Nat) (plain : Bytes) : (s.driveAnswered d).spoils h plain = s.spoils h plain := by
  rw [State.driveAnswered, setDrive_eq]
  rfl

/-- A sector that spoils nothing and ends its chain. -/
theorem takeSector_last {plain : Bytes} (hs : s.spoils h plain = false) (hn : sectorNext plain = 0) :
    s.takeSector h n d lba tried plain =
      ({ s with slu := { s.slu with sectorReads := s.slu.sectorReads + 1 } } : State).setStage h (.read false) := by
  unfold State.takeSector
  exact (if_neg (by exact Bool.not_eq_true _ ▸ hs)).trans (if_pos hn)

/-- A sector that spoils nothing and names the next one. -/
theorem takeSector_next {plain : Bytes} (hs : s.spoils h plain = false) (hn : sectorNext plain ≠ 0) :
    s.takeSector h n d lba tried plain =
      ({ s with slu := { s.slu with sectorReads := s.slu.sectorReads + 1 } } : State).readSector h (n + 1) (sectorNext plain) none tried := by
  unfold State.takeSector
  exact (if_neg (by exact Bool.not_eq_true _ ▸ hs)).trans (if_neg hn)

/-- A sector's verification is its tag's, its kind's and its zero bytes' (R288). -/
theorem sectorGood_iff {cipher tag : Bytes} {gen kind : Nat} {rest : Bytes} : s.sectorGood d lba cipher tag gen kind rest = true ↔
    sectorTag (s.sectorKeys d lba) lba gen kind rest cipher = fixLen 16 tag ∧ kind = s.sectorKind lba ∧ allZero (fixLen 39 rest) = true := by
  simp only [State.sectorGood, Bool.and_eq_true, decide_eq_true_eq, beq_iff_eq, and_assoc]

variable (hp : (s.mor.pageIns.find? fun x => x.handle == h) = some p) (hst : p.stage = .reading n lba d tried)
  (hin : (s.drive d).inService = true) (hstore : s.driveStore = true) (hslu : s.slu.stopped = false)
include hp hst hin hstore hslu

theorem sectorReadDone_commandError : exec (.sectorReadDone h d lba .commandError) s = .next (s.driveCommandFailed d) := by
  obtain ⟨handle, stage, tug⟩ := p
  obtain rfl : stage = .reading n lba d tried := hst
  show execSectorReadDone h d lba .commandError s = _
  simp [execSectorReadDone, hp, hin, hstore, hslu]

/-- R289: a sector of the drive that a page-in reads from is released once it verifies with the generation of its LBA. -/
theorem sectorReadDone_sector (cipher tag : Bytes) (gen kind : Nat) (rest : Bytes) :
    exec (.sectorReadDone h d lba (.sector cipher tag gen kind rest)) s = .next
      (if s.sectorGood d lba cipher tag gen kind rest = false then (s.driveAnswered d).integrity 2 2 lba 0
       else if gen ≠ s.genOf lba then (s.driveAnswered d).integrity 4 2 lba 0
       else (s.driveAnswered d).takeSector h n d lba tried (s.sectorPlain d lba cipher)) := by
  obtain ⟨handle, stage, tug⟩ := p
  obtain rfl : stage = .reading n lba d tried := hst
  rw [← sectorGood_driveAnswered, ← genOf_driveAnswered s d, ← sectorPlain_driveAnswered]
  show execSectorReadDone h d lba (.sector cipher tag gen kind rest) s = _
  have hready : ¬(lba ≠ lba ∨ d ≠ d ∨ (s.drive d).inService = false ∨ s.driveStore = false ∨ s.slu.stopped = true) := by
    simp [hin, hstore, hslu]
  simp only [execSectorReadDone, hp, if_neg hready]
  rfl

/-- R289: a wrong tag or kind is an INTEGRITY event. -/
theorem sectorReadDone_bad {cipher tag : Bytes} {gen kind : Nat} {rest : Bytes}
    (hbad : sectorTag (s.sectorKeys d lba) lba gen kind rest cipher ≠ fixLen 16 tag ∨ kind ≠ s.sectorKind lba) :
    exec (.sectorReadDone h d lba (.sector cipher tag gen kind rest)) s = .next ((s.driveAnswered d).integrity 2 2 lba 0) := by
  have hgood : s.sectorGood d lba cipher tag gen kind rest = false := by
    rw [Bool.eq_false_iff, Ne, sectorGood_iff]
    rintro ⟨htag, hkind, -⟩
    exact hbad.elim (· htag) (· hkind)
  rw [sectorReadDone_sector hp hst hin hstore hslu, if_pos hgood]

section Good

variable {cipher tag : Bytes} {gen kind : Nat} {rest : Bytes} (hgood : s.sectorGood d lba cipher tag gen kind rest = true)
include hgood

/-- R289: a wrong generation is an INTEGRITY event. -/
theorem sectorReadDone_stale (hgen : gen ≠ s.genOf lba) :
    exec (.sectorReadDone h d lba (.sector cipher tag gen kind rest)) s = .next ((s.driveAnswered d).integrity 4 2 lba 0) := by
  rw [sectorReadDone_sector hp hst hin hstore hslu, if_neg (by simp [hgood]), if_pos hgen]

variable (hgen : gen = s.genOf lba) (hs : s.spoils h (s.sectorPlain d lba cipher) = false)
include hgen hs

/-- R172: a sector that verifies and names another is counted, and that one is read. -/
theorem sectorReadDone_next (hn : sectorNext (s.sectorPlain d lba cipher) ≠ 0) :
    exec (.sectorReadDone h d lba (.sector cipher tag gen kind rest)) s = .next (({ s.driveAnswered d with
      slu := { (s.driveAnswered d).slu with sectorReads := (s.driveAnswered d).slu.sectorReads + 1 } } : State).readSector
        h (n + 1) (sectorNext (s.sectorPlain d lba cipher)) none tried) := by
  have hs1 := (spoils_driveAnswered s d h (s.sectorPlain d lba cipher)).trans hs
  rw [sectorReadDone_sector hp hst hin hstore hslu, if_neg (by simp [hgood]), if_neg (not_not.2 hgen), takeSector_next hs1 hn]

/-- R172: a sector that verifies and ends its chain is counted, and the page-in's reading ends. -/
theorem sectorReadDone_last (hn : sectorNext (s.sectorPlain d lba cipher) = 0) :
    Completes (.sectorReadDone h d lba (.sector cipher tag gen kind rest)) s fun t =>
      t.slu.sectorReads = s.slu.sectorReads + 1 ∧ (t.drive d).fails = 0 ∧
      t.mor.pageIns = (s.mor.pageIns.map fun x => if x.handle = h then { x with stage := .read false } else x) ∧
      Only [.slu, .mor] s t := by
  let s1 := s.driveAnswered d
  let s2 : State := { s1 with slu := { s1.slu with sectorReads := s1.slu.sectorReads + 1 } }
  have h1 : Only [.mor] s s1 := driveAnswered_only s d
  have h2 : Only [.slu] s1 s2 := only_slu s1 _
  have h3 : Only [.mor] s2 (s2.setStage h (.read false)) := only_mor s2 _
  have hslu1 : s1.slu = s.slu := h1 .slu (by decide)
  have hpages : s1.mor.pageIns = s.mor.pageIns := by rw [show s1 = _ from setDrive_eq s d _]
  have hdrive : s1.drive d = { s.drive d with fails := 0 } := drive_setDrive s d _
  have hs1 := (spoils_driveAnswered s d h (s.sectorPlain d lba cipher)).trans hs
  refine ⟨s2.setStage h (.read false), ?_, congrArg (fun u : Slu => u.sectorReads + 1) hslu1, congrArg Drive.fails hdrive,
    congrArg (List.map _) hpages, (h1.mono (by simp)).trans ((h2.mono (by simp)).trans (h3.mono (by simp)))⟩
  rw [sectorReadDone_sector hp hst hin hstore hslu, if_neg (by simp [hgood]), if_neg (not_not.2 hgen), takeSector_last hs1 hn]

end Good

end Sectors

/-- Settles O33: a page-in takes its key from the first source that holds it, each sector it reads is verified, and a key that finds its mooring
is installed and returns. That an uncorrectable line of the cargo cache sends a page-in to step 2 is the model's reading (log 63, from R175). -/
theorem pageInsReturn : Obligations.PageInsReturn := by
  unfold Obligations.PageInsReturn
  refine ⟨fun s h p r hp => ⟨fun hst => ?_, fun spoiled hst hport => pageInReturn_read hp hst hport r,
      fun n d lba tried hst hin hstore hslu => ⟨sectorReadDone_commandError hp hst hin hstore hslu, fun cipher tag gen kind rest =>
        ⟨fun htag hkind hzero => ?_, sectorReadDone_bad hp hst hin hstore hslu⟩⟩⟩,
    fun s h p hp => ⟨cacheFillRetry_retries hp, fun ls hst hls => mooringWaitRetry_retries hp hst hls⟩, fun s h m r leased => pageInstall_free⟩
  · have hexec := pageInReturn_lookup hp hst r
    exact ⟨fun ls hc => hexec.trans (congrArg Host.Outcome.next (pageLookup_cached hc r)),
      fun hc hv => hexec.trans (congrArg Host.Outcome.next (pageLookup_hold hc hv r)),
      fun hc hd => hexec.trans (congrArg Host.Outcome.next (pageLookup_drive hc hd r))⟩
  · have hgood := sectorGood_iff.2 ⟨htag, hkind, hzero⟩
    exact ⟨fun hgen hs => ⟨sectorReadDone_last hp hst hin hstore hslu hgood hgen hs,
      sectorReadDone_next hp hst hin hstore hslu hgood hgen hs⟩, sectorReadDone_stale hp hst hin hstore hslu hgood⟩

end Sys2Proof.Machine

/-! SUPPORT. Lane commands of a core's context: what a command reads of sound data, that it runs at once, and what each leaves. -/

namespace Sys2Proof.Machine

/-! ### Sound data (R27, R28) -/

section Words

variable {ws : List TWord} {n m i : Nat}

theorem delivered_of_sound (h : Sound ws) : delivered ws = ws :=
  (List.map_congr_left fun w hw => if_pos (h w hw).2.2).trans (List.map_id ws)

theorem anyBad_of_sound (h : Sound ws) : anyBad ws = false := by
  refine List.any_eq_false.2 fun w hw => ?_
  obtain ⟨hv, hp, -⟩ := h w hw
  simp [TWord.bad, hv, hp]

theorem anyBad_take (h : Sound ws) : anyBad (ws.take n) = false :=
  anyBad_of_sound fun w hw => h w (List.mem_of_mem_take hw)

/-- A command takes its words as they stand where they are sound and enough. -/
theorem taken_of_sound (h : Sound ws) (hn : n ≤ ws.length) : taken n ws = ws.take n := by
  simp [taken, delivered_of_sound h, Nat.sub_eq_zero_of_le hn]

/-- Bytes of words that were taken are bytes of the data. -/
theorem dataBytes_take (h : i + n ≤ m) : dataBytes (ws.take m) i n = dataBytes ws i n := by
  rw [dataBytes, List.drop_take, List.take_take, Nat.min_eq_left (by omega), ← dataBytes]

theorem dataBytes_length (ws : List TWord) (i n : Nat) : (dataBytes ws i n).length = 8 * n := fixLen_length _ _

end Words

/-! ### A command that runs at once (R208) -/

/-- What an answer leaves: its words and its status in the context's output FIFO, or nothing there while it waits. -/
def Answer.onLane (a : Answer) (k : Nat) : State :=
  match a.code with
  | some code => a.st.laneSay k a.out code
  | none => a.st

@[simp] theorem onLane_answer (s : State) (code k : Nat) : (s.answer code).onLane k = s.laneSay k [] code := rfl

@[simp] theorem onLane_waits (s : State) (k : Nat) : ({ st := s } : Answer).onLane k = s := rfl

theorem laneIssue_eq (s : State) (k : Nat) (u : UnitCmd) : s.laneIssue k u = (s.laneRun k u).onLane k := rfl

section Run

variable {s : State} {k : Nat} {c : LaneCtx}

theorem LaneOpen.not_blocked (h : LaneOpen s k c) : s.laneBlocked k = false := by
  obtain ⟨hlane, habort, -, hwait, hhold, hnonce, hclose⟩ := h
  simp [State.laneBlocked, hlane, habort, hwait, hhold, hnonce, hclose]

/-- A context that waits for nothing runs a command at once. -/
theorem LaneOpen.command (h : LaneOpen s k c) (u : UnitCmd) : s.laneCommand k u = (s.laneRun k u).onLane k := by
  obtain ⟨-, -, hin, -⟩ := id h
  rw [State.laneCommand, if_pos ⟨h.not_blocked, hin⟩, laneIssue_eq]

theorem LaneReady.lane_eq (h : LaneReady s k c) : (s.coreAt k).lane = some c := h.1.1

/-- A context that waits for nothing leaves what the command's run answers. -/
theorem LaneOpen.next (h : LaneOpen s k c) {u : UnitCmd} {a : Answer} (hrun : s.laneRun k u = a) :
    (Host.Outcome.next (s.laneCommand k u) : Host.Outcome State Fault Refusal) = .next (a.onLane k) := by
  rw [h.command, hrun]

theorem LaneFree.lane_eq (h : LaneFree s k) : (s.coreAt k).lane = none := h.2.1

/-- A crew core's OPEN without a context runs at once. -/
theorem LaneFree.opens (h : LaneFree s k) (cmd : W64) (data : List TWord) :
    exec (.laneOpen k cmd data) s = .next ((s.cmdOpen k data).onLane k) := by
  obtain ⟨hk, hlane, habort, hin, hwait⟩ := h
  have hblocked : s.laneBlocked k = false := by simpa [State.laneBlocked, hlane, habort] using hwait
  show Host.Outcome.next (s.laneCommand k _) = _
  rw [State.laneCommand, if_pos ⟨hblocked, hin⟩, laneIssue_eq]
  simp [State.laneRun, hlane, hk]

section Ready

variable (h : LaneReady s k c) (cmd : W64) (data label : List TWord)
include h

theorem LaneReady.load : exec (.laneLoad k cmd data) s = .next ((s.cmdLoad k c (cSlot cmd) data).onLane k) :=
  h.1.next (by simp [State.laneRun, h.lane_eq, h.2])

theorem LaneReady.enc (mism : Nat) :
    exec (.enc k cmd data mism) s = .next ((s.cmdBlock k c ⟨2, cmd, data, [], mism⟩ false).onLane k) :=
  h.1.next (by simp [State.laneRun, h.lane_eq, h.2])

theorem LaneReady.store : exec (.store k cmd data) s = .next ((s.cmdStore k c cmd data).onLane k) :=
  h.1.next (by simp [State.laneRun, h.lane_eq, h.2])

theorem LaneReady.free : exec (.free k cmd data) s = .next (((s.freeSlot k c (cSlot2 cmd)).answer uOk).onLane k) :=
  h.1.next (by simp [State.laneRun, h.lane_eq, h.2])

theorem LaneReady.hold : exec (.hold k cmd data) s = .next ((s.cmdHold k c).onLane k) :=
  h.1.next (by simp [State.laneRun, h.lane_eq, h.2])

theorem LaneReady.put : exec (.put k cmd data label) s = .next ((s.cmdPut k c ⟨13, cmd, data, label, 0⟩).onLane k) :=
  h.1.next (by simp [State.laneRun, h.lane_eq, h.2])

theorem LaneReady.close : exec (.laneClose k cmd data) s = .next (((s.closeLane k).answer uOk).onLane k) :=
  h.1.next (by simp [State.laneRun, h.lane_eq, h.2])

end Ready

/-- LOADT reaches a diagnostic context too (R226). -/
theorem LaneOpen.loadt (h : LaneOpen s k c) (cmd : W64) (data : List TWord) :
    exec (.loadt k cmd data) s = .next ((s.cmdLoadt k c cmd data).onLane k) :=
  h.next (by simp [State.laneRun, h.1])

end Run

/-! ### Contexts and slots (R202, R203, R207, R209, R213, R217) -/

section Slots

variable {s : State} {k i p : Nat} {c : LaneCtx} {data : List TWord}

/-- R202: an OPEN that the allocator has a lane for takes it. -/
theorem cmdOpen_takes {gs : List Nat} {n : Nat} (hs : Sound data) (hn : 2 ≤ data.length) (hl : (s.coreAt k).lane = none)
    (hg : s.laneGroupsFor (le 0 2 (dataBytes data 0 1) % 4096) = some gs) (hc : s.laneChoice gs (le 0 8 (dataBytes data 1 1)) = some n) :
    s.cmdOpen k data = (s.setCtx k { lane := n, tenant := le 0 2 (dataBytes data 0 1) % 4096 }).answer uOk := by
  have h0 : dataBytes (data.take 2) 0 1 = dataBytes data 0 1 := dataBytes_take (by omega)
  have h1 : dataBytes (data.take 2) 1 1 = dataBytes data 1 1 := dataBytes_take (by omega)
  simp only [State.cmdOpen, taken_of_sound hs hn, anyBad_take hs, h0, h1, hl, hg, hc]
  rfl

theorem ctxSlot_eq_some {x : KSlot} :
    s.ctxSlot c i = some (p, x) ↔ Tbl.find i c.slots = some p ∧ Tbl.find p (s.laneAt c.lane).slots = some x := by
  unfold State.ctxSlot
  split
  · simp [*]
  · simp only [*, Option.map_eq_some_iff, Prod.mk.injEq, Option.some.injEq]
    exact ⟨fun ⟨y, hy, hp, hyx⟩ => ⟨hp, hp ▸ hyx ▸ hy⟩, fun ⟨hp, hx⟩ => ⟨x, hp ▸ hx, hp, rfl⟩⟩

/-- A number that a context holds no slot under is free already. -/
theorem freeSlot_of_empty (hi : Tbl.find i c.slots = none) : s.freeSlot k c i = s := by simp only [State.freeSlot, hi]

/-- R209: the slot of a context-owned key is zeroed when the context lets go of it. -/
theorem freeSlot_of_owned {x : KSlot} (hx : s.ctxSlot c i = some (p, x)) (ho : x.owned = true) :
    s.freeSlot k c i = (s.setCtx k { c with slots := Tbl.del i c.slots }).dropSlot c.lane p := by
  obtain ⟨hi, hp⟩ := ctxSlot_eq_some.1 hx
  have hp' : Tbl.find p ((s.setCtx k { c with slots := Tbl.del i c.slots }).laneAt c.lane).slots = some x := hp
  simp only [State.freeSlot, hi, hp', ho, Bool.true_or, if_true]

/-- The lane's slot that holds a handle's key for the context's tenant (R203). -/
def State.heldKey (s : State) (c : LaneCtx) (h : Nat) : Option (Nat × KSlot) :=
  (s.laneAt c.lane).slots.find? fun y => decide (y.2.handle = some h) && !y.2.dead && y.2.tenant == c.tenant

section Load

variable (hl : (s.coreAt k).lane = some c) (hd : c.diag = false) (hs : Sound data) (hne : data ≠ [])
  (ht : handleTenant (le 0 8 (dataBytes data 0 1)) = c.tenant) (hlen : c.slots.length < 8) (hi : Tbl.find i c.slots = none)
include hl hd hs hne ht hlen hi

/-- R203: a LOAD of a handle that the lane holds for the context's tenant takes that slot. -/
theorem cmdLoad_hits {x : KSlot} (hx : s.heldKey c (le 0 8 (dataBytes data 0 1)) = some (p, x)) :
    s.cmdLoad k c i data =
      ((s.setCtx k { c with slots := Tbl.put i p c.slots }).putSlot c.lane p { x with used := s.now }).answer uOk := by
  have h0 : dataBytes (data.take 1) 0 1 = dataBytes data 0 1 := dataBytes_take (by omega)
  unfold State.heldKey at hx
  simp only [State.cmdLoad, taken_of_sound hs (List.length_pos_iff.2 hne), anyBad_take hs, h0, hd, ht, freeSlot_of_empty hi, hl,
    if_neg (Nat.not_le.2 hlen), hx, ne_eq, not_true_eq_false, Bool.false_eq_true, if_false]
  rfl

/-- R203: a LOAD of a handle that the lane does not hold takes a slot and asks the KDU. -/
theorem cmdLoad_misses (hx : s.heldKey c (le 0 8 (dataBytes data 0 1)) = none) (hp : s.slotFor c.lane = some p) :
    let t := (s.dropSlot c.lane p).setCtx k { c with slots := Tbl.put i p c.slots, waiting := true }
    s.cmdLoad k c i data = { st := t.kduAsk ⟨k, .laneSlot p, le 0 8 (dataBytes data 0 1), 0, false, none, false⟩ } := by
  have h0 : dataBytes (data.take 1) 0 1 = dataBytes data 0 1 := dataBytes_take (by omega)
  unfold State.heldKey at hx
  simp only [State.cmdLoad, taken_of_sound hs (List.length_pos_iff.2 hne), anyBad_take hs, h0, hd, ht, freeSlot_of_empty hi, hl,
    if_neg (Nat.not_le.2 hlen), hx, hp, ne_eq, not_true_eq_false, Bool.false_eq_true, if_false]

end Load

/-- R207: STORE of a profile 0 key asks the KDU to wrap it. -/
theorem cmdStore_asks {x : KSlot} {l : KLabel} {cmd : W64} (hd : c.diag = false) (hs : Sound data) (hn : 4 ≤ data.length)
    (hx : s.ctxSlot c (cSlot2 cmd) = some (p, x)) (hk : x.kind = .owned 0 l)
    (ht : handleTenant (labelOfBytes (dataBytes data 0 4)).handle = c.tenant) :
    let label := labelOfBytes (dataBytes data 0 4)
    s.cmdStore k c cmd data =
      { st := (s.setCtx k { c with waiting := true }).kduAsk ⟨k, .storeSlot p label, label.handle, 0, false, none, false⟩ } := by
  have h0 : dataBytes (data.take 4) 0 4 = dataBytes data 0 4 := dataBytes_take (by omega)
  simp [State.cmdStore, hx, hk, hd, taken_of_sound hs hn, anyBad_take hs, h0, ht]

/-- A write of a whole key field gives the bytes written, with odd parity where asked. -/
theorem writePart_whole {key bs : Bytes} (hk : key.length = 32) (hb : bs.length = 32) (parity : Bool) :
    writePart key 0 bs false parity = if parity then bs.map oddParity else bs := by
  have hv : (if parity then bs.map oddParity else bs).length = 32 := by split <;> simp [hb]
  have hsplice : splice 0 (if parity then bs.map oddParity else bs) key = if parity then bs.map oddParity else bs := by
    simp [splice, fixLen, zeros, hv, hk]
  simp only [writePart, Nat.mul_zero, Bool.false_eq_true, if_false, hsplice]
  exact slice_all hv

/-- R213: a TLS key written under a number that its context does not hold takes a free slot. -/
theorem writeKey_fresh {t : Nat} {l : KLabel} {cls : SecClass} {bs : Bytes} (hl : (s.coreAt k).lane = some c)
    (ht : Tbl.find t c.slots = none) (hlen : c.slots.length < 8) (hp : s.slotFor c.lane = some p) (hb : bs.length = 32) (parity : Bool) :
    s.writeKey k t (.owned 9 l) cls 1 0 parity bs = ((s.setCtx k { c with slots := Tbl.put t p c.slots }).putSlot c.lane p
      ⟨.owned 9 l, c.tenant, if parity then bs.map oddParity else bs, false, s.now, zeros 12, 0, cls⟩).answer uOk := by
  have hz : (zeros 32).length = 32 := by simp [zeros]
  simp [State.writeKey, hl, State.ctxSlot, ht, Nat.not_le.2 hlen, hp, writePart_whole hz hb]

/-- R217: HOLD opens an empty held buffer. -/
theorem cmdHold_opens (hd : c.diag = false) (hz : (s.coreAt k).heldSt ≠ .zeroing) :
    s.cmdHold k c = (s.setCore k { s.coreAt k with
      lane := some { c with holding := true }, heldSt := .holding, held := [] }).answer uOk := by simp [State.cmdHold, hd, hz]

/-- R217: HOLD waits while the last buffer is being zeroed. -/
theorem cmdHold_waits (hd : c.diag = false) (hz : (s.coreAt k).heldSt = .zeroing) :
    s.cmdHold k c = { st := s.setCtx k { c with holdWaits := true } } := by simp [State.cmdHold, hd, hz]

/-- R226: a crew core's context takes no TEST key. -/
theorem cmdLoadt_refused {cmd : W64} (hd : c.diag = false) : s.cmdLoadt k c cmd data = s.answer uRefused := by
  simp [State.cmdLoadt, hd]

/-- The label of a TLS traffic key of 32 bytes (R213). -/
def tlsLabel : KLabel := ⟨usage "D0", chr "A", chr "B", chr "N", 32, 0, 0, 0, 0, 0, 1⟩

/-- R213: PUT with profile 9 of four data words writes a TLS key of 32 bytes. -/
theorem cmdPut_tls {u : UnitCmd} (hd : c.diag = false) (hs : Sound u.data) (hn : u.data.length = 4) (hprofile : cProfile u.cmd = 9)
    (hdst : cDst u.cmd = 1) (hpart : cPart u.cmd = 0) :
    s.cmdPut k c u = s.writeKey k (cSlot2 u.cmd) (.owned 9 tlsLabel) .pub 1 0 (cParity u.cmd) (dataBytes u.data 0 4) := by
  have hall : takenAny u.data = u.data := by
    rw [takenAny, hn, taken_of_sound hs (by omega)]
    exact List.take_of_length_le (by omega)
  simp [State.cmdPut, tlsLabel, hall, hn, hd, anyBad_of_sound hs, hprofile, hdst, hpart]

/-- R226: LOADT of a type that R106 lists takes a slot of a diagnostic context for the TEST key given. -/
theorem cmdLoadt_takes {cmd : W64} {n : Nat} (hl : (s.coreAt k).lane = some c) (hd : c.diag = true) (hs : Sound data)
    (hn : n = if cProfile cmd = 0 ∨ cProfile cmd = 2 then 2 else if cProfile cmd = 4 then 4 else 3) (htype : cProfile cmd ≤ 4)
    (hlen : n ≤ data.length) (hi : Tbl.find (cSlot cmd) c.slots = none) (hfree : c.slots.length < 8) (hp : s.slotFor c.lane = some p) :
    s.cmdLoadt k c cmd data = ((s.setCtx k { c with slots := Tbl.put (cSlot cmd) p c.slots }).putSlot c.lane p
      ⟨.test (cProfile cmd), 0, fixLen 32 (dataBytes data 0 n), false, s.now, [], 0, .pub⟩).answer uOk := by
  have hws : (data.take n).length = n := List.length_take_of_le hlen
  have h0 : dataBytes (data.take n) 0 n = dataBytes data 0 n := dataBytes_take (by omega)
  simp only [State.cmdLoadt, ← hn, taken_of_sound hs hlen, anyBad_take hs, hws, h0, hd, Nat.not_lt.2 htype, freeSlot_of_empty hi, hl,
    if_neg (Nat.not_le.2 hfree), hp, Bool.true_eq_false, or_self, Bool.false_eq_true, if_false]
  rfl

end Slots

/-! ### Answers and the held buffer (R208, R217) -/

section Held

variable {s : State} {k : Nat}

/-- An answer other than FAULT enters the output FIFO and counts nowhere. -/
theorem laneSay_of_ne {code : Nat} (h : code ≠ uFault) (out : List TWord) :
    s.laneSay k out code = s.setCore k { s.coreAt k with laneOut := (s.coreAt k).laneOut ++ out ++ [statusWord code] } := if_neg h

variable (hz : (s.coreAt k).heldSt = .zeroing)
include hz

/-- R217: a buffer that no HOLD waits for is closed. -/
theorem heldBufferZeroed_closes (hw : ∀ x, (s.coreAt k).lane = some x → x.holdWaits = false) :
    exec (.heldBufferZeroed k) s = .next (s.setCore k { s.coreAt k with heldSt := .closed, held := [] }) := by
  show execHeldBufferZeroed k s = _
  cases hl : (s.coreAt k).lane with
  | none => simp [execHeldBufferZeroed, hz, hl]
  | some x => simp [execHeldBufferZeroed, hz, hl, hw x hl]

/-- R217: the HOLD that waited proceeds. -/
theorem heldBufferZeroed_holds {x : LaneCtx} (hl : (s.coreAt k).lane = some x) (hw : x.holdWaits = true) :
    exec (.heldBufferZeroed k) s = .next (((s.setCore k { s.coreAt k with
      lane := some { x with holdWaits := false, holding := true }, heldSt := .holding, held := [] }).laneSay k [] uOk).drainLane k) := by
  show execHeldBufferZeroed k s = _
  simp [execHeldBufferZeroed, hz, hl, hw]

end Held

/-- R213: what a PUT of a TLS key leaves, in the terms of its slot, its context and its answer. -/
theorem put_tls_completes {s : State} {k p : Nat} {c : LaneCtx} {cmd : W64} {data label : List TWord} (h : LaneReady s k c) (hs : Sound data)
    (hprofile : cProfile cmd = 9) (hdst : cDst cmd = 1) (hpart : cPart cmd = 0) (hn : data.length = 4)
    (hi : Tbl.find (cSlot2 cmd) c.slots = none) (hlen : c.slots.length < 8) (hp : s.slotFor c.lane = some p) :
    Completes (.put k cmd data label) s fun t =>
      (Tbl.find p (t.laneAt c.lane).slots).map (fun x => (x.key, x.tenant, x.kind)) =
        some (if cParity cmd then (dataBytes data 0 4).map oddParity else dataBytes data 0 4, c.tenant, .owned 9 tlsLabel) ∧
      (t.coreAt k).lane = some { c with slots := Tbl.put (cSlot2 cmd) p c.slots } ∧
      (t.coreAt k).laneOut = (s.coreAt k).laneOut ++ [statusWord uOk] ∧ Only [.cores, .cph] s t := by
  have hput := cmdPut_tls (s := s) (k := k) (u := ⟨13, cmd, data, label, 0⟩) h.2 hs hn hprofile hdst hpart
  rw [writeKey_fresh h.lane_eq hi hlen hp (dataBytes_length data 0 4)] at hput
  refine ⟨_, by rw [h.put, hput, onLane_answer, laneSay_of_ne (by decide)], ?_, ?_, ?_, ?_⟩
  · simp [State.putSlot]
  · simp [State.putSlot]
  · simp [State.putSlot]
  · exact ((setCtx_only s k _).mono (by simp)).trans (((only_cph _ _).mono (by simp)).trans ((only_cores _ _).mono (by simp)))

/-- Settles O26: each command runs at once on a context that waits for nothing, and leaves what its own lemma says. -/
theorem laneContextsAndSlots : Obligations.LaneContextsAndSlots := by
  unfold Obligations.LaneContextsAndSlots
  refine ⟨fun s k cmd data gs n hs hn hfree hg hc => ?_, fun s k c cmd data label h hs => ⟨?_, ?_, ?_, ?_, ?_, ?_, ?_, ?_⟩,
    fun s k c cmd data p h hd hs => ?_,
    fun s k hz => ⟨heldBufferZeroed_closes hz, fun x hl hw => heldBufferZeroed_holds hz hl hw⟩⟩
  · rw [hfree.opens, cmdOpen_takes hs hn hfree.lane_eq hg hc, onLane_answer]
  · intro hd hit hne ht hlen hi
    exact ⟨fun p x hx => by rw [h.load, cmdLoad_hits h.lane_eq h.2 hs hne ht hlen hi hx, onLane_answer],
      fun p hx hp => by rw [h.load, cmdLoad_misses h.lane_eq h.2 hs hne ht hlen hi hx hp, onLane_waits]⟩
  · exact fun p hprofile hdst hpart hn hi hlen hp => put_tls_completes h hs hprofile hdst hpart hn hi hlen hp
  · intro p x l lab hn hx hk ht
    rw [h.store, cmdStore_asks h.2 hs hn hx hk ht, onLane_waits]
  · exact fun p x hx ho => by rw [h.free, freeSlot_of_owned hx ho, onLane_answer]
  · exact fun hheld => by rw [h.hold, cmdHold_opens h.2 hheld, onLane_answer]
  · exact fun hheld => by rw [h.hold, cmdHold_waits h.2 hheld, onLane_waits]
  · rw [h.close, onLane_answer]
  · rw [h.1.loadt, cmdLoadt_refused h.2, onLane_answer]
  · intro n htype hlen hi hfree hp
    rw [h.loadt, cmdLoadt_takes h.1 hd hs rfl htype hlen hi hfree hp, onLane_answer]

/-! ### The checkers (R215, R216) -/

section Checkers

variable {s : State} {n t mism : Nat}

/-- R215: a block without a mismatch passes. -/
theorem checkBlock_zero : s.checkBlock n t 0 = (s, false) := if_pos rfl

/-- R215: a mismatch with another lane to retry on counts, and only a first one alone lets the block stand. -/
theorem checkBlock_of_retry {m : Nat} (h0 : mism ≠ 0) (hm : (s.laneMismatch n).retryLane n t = some m) :
    s.checkBlock n t mism = if mism = 1 then (s.laneMismatch n, false)
      else (if mism = 2 then (s.laneMismatch n).laneMismatch m else s.laneMismatch n, true) := by
  simp only [State.checkBlock, if_neg h0, hm]

/-- R215: with no other lane a mismatch is a FAULT. -/
theorem checkBlock_of_alone (h0 : mism ≠ 0) (hm : (s.laneMismatch n).retryLane n t = none) :
    s.checkBlock n t mism = (s.laneMismatch n, true) := by
  simp only [State.checkBlock, if_neg h0, hm]

/-- R215: ENC of a block whose check ends in FAULT answers so, with no output. -/
theorem cmdBlock_enc_faults {k p : Nat} {c : LaneCtx} {x : KSlot} {u : UnitCmd} (hx : s.ctxSlot c (cSlot u.cmd) = some (p, x))
    (hmay : x.may .enc (cSub u.cmd) = true) (hsrc : cSrc u.cmd = 0) (hdst : cDst u.cmd = 0)
    (hcmp : cCmp u.cmd = false ∨ (0 < cCmpLen u.cmd ∧ cCmpLen u.cmd ≤ x.block)) (hf : (s.checkBlock c.lane c.tenant u.mism).2 = true) :
    s.cmdBlock k c u false =
      ((s.checkBlock c.lane c.tenant u.mism).1.laneWork c (cSlot u.cmd) (x.cycles (cSub u.cmd))).answer uFault := by
  have hlen (hc : cCmp u.cmd = true) : ¬(cCmpLen u.cmd = 0 ∨ x.block < cCmpLen u.cmd) := by
    obtain h | ⟨hpos, hle⟩ := hcmp
    · simp [h] at hc
    · omega
  simp only [State.cmdBlock, hx, hsrc, hdst, hf, decide_true, Bool.and_true, Bool.false_or, if_true]
  rw [if_neg (by simpa [hmay] using hlen)]

end Checkers

/-- Settles O27: the check of a block by its mismatches and the lane it is retried on, and the ENC of a block whose check fails. -/
theorem checkersRetryThenFault : Obligations.CheckersRetryThenFault := by
  unfold Obligations.CheckersRetryThenFault
  refine fun s n t => ⟨checkBlock_zero, fun m hm => ⟨?_, ?_, fun i hi => ?_⟩,
    fun hm mism h0 => checkBlock_of_alone (by omega) hm, fun k c cmd data p x mism h hx hmay hsrc hdst hcmp hf => ?_⟩
  · rw [checkBlock_of_retry (by decide) hm, if_pos rfl]
  · rw [checkBlock_of_retry (by decide) hm, if_neg (by decide), if_pos rfl]
  · rw [checkBlock_of_retry (by omega) hm, if_neg (by omega), if_neg (by omega)]
  · rw [h.enc, cmdBlock_enc_faults (u := ⟨2, cmd, data, [], mism⟩) hx hmay hsrc hdst hcmp hf, onLane_answer]

end Sys2Proof.Machine

/-! SUPPORT. Self-tests, retirement and the end of a mismatch window: what each leaves of the unit, and of every other. -/

namespace Sys2Proof.Machine

/-! ### Self-tests and retirement (R216, R218, R219, R225, R237) -/

section SelfTests

variable {s : State} {n e : Nat} {sp : Bool}

/-- R218: an idle lane in service is tested anew, or retired. -/
theorem laneSelftest_idle (hs : (s.laneAt n).serves = true) (hc : s.ctxsOn n = []) (pass : Bool) :
    exec (.laneSelftest n pass sp) s =
      .next (if pass then (s.setLane n { s.laneAt n with tested := s.now }).grantLanes else s.retireLane n sp) :=
  congrArg Host.Outcome.next (if_pos ⟨hs, hc⟩)

/-- R218: a draining lane whose contexts have closed is retired. -/
theorem laneDrainRetire_drained (hd : (s.laneAt n).st = .draining) (hc : s.ctxsOn n = []) :
    exec (.laneDrainRetire n sp) s = .next (s.retireLane n sp) := congrArg Host.Outcome.next (if_pos ⟨hd, hc⟩)

/-- R237: an idle tile in service is tested anew where it is ACTIVE and passes, else retired. -/
theorem tileSelftest_idle (hs : (s.tileAt n).serves = true) (hj : s.jobsOn n = [])
    (hd : s.bgn.diag.opening = false ∨ s.bgn.diag.sel ≠ n) (pass : Bool) :
    exec (.tileSelftest n pass sp) s = .next (if pass = true ∧ (s.tileAt n).st = .active
      then (s.setTile n { s.tileAt n with tested := s.now }).grantTiles else s.retireTile n sp) := by
  refine congrArg Host.Outcome.next (if_neg ?_)
  obtain h | h := hd <;> simp [hs, hj, h]

theorem Only.engAt {ps : List Part} {t : State} (h : Only ps s t) (hp : .hsh ∉ ps) (e : Nat) : t.engAt e = s.engAt e :=
  congrArg (fun u : Hsh => tget ({} : Eng) e u.engs) (h .hsh hp)

/-- A retirement's interrupt and record change no unit. -/
theorem retirementTold_only (s : State) (b : BitVec 6) (k : LogKind) (sub x y : Nat) :
    Only [.glb, .log, .out, .wharf] s ((s.setInt b).logEvent k sub x y) :=
  ((setInt_only s b).mono (by simp)).trans ((logEvent_only _ _ _ _ _).mono (by simp))

/-- R225: a failing idle engine outside the KDU is retired, and no other engine changes. -/
theorem hashSelftest_retires (hst : (s.engAt e).st = .active) (hh : (s.engAt e).holder = none) (hk : isKduEngine e = false) :
    Completes (.hashSelftest e false) s fun t => (t.engAt e).st = .retired ∧ (∀ f, f ≠ e → t.engAt f = s.engAt f) ∧
      Only [.hsh, .glb, .log, .out, .wharf] s t := by
  let s1 := s.setEng e { s.engAt e with st := .retired }
  have ht := retirementTold_only s1 intSpare .interface 9 e (engGroup e)
  have heng (f : Nat) := ht.engAt (by decide) f
  refine ⟨_, congrArg Host.Outcome.next ((if_neg (by decide)).trans ((if_neg (by simp [hst, hh])).trans (if_neg (by simp [hk])))), ?_,
    fun f hf => (heng f).trans (State.engAt_setEng_ne s e f _ hf), ((only_hsh s _).mono (by simp)).trans (ht.mono (by simp))⟩
  rw [heng e, State.engAt_setEng]

/-- R225: a failing idle engine of a KDU pair is retired with its pair, and no other engine changes. -/
theorem hashSelftest_retiresPair (hst : (s.engAt e).st = .active) (hh : (s.engAt e).holder = none) (hk : isKduEngine e = true)
    (hidle : s.hsh.queue.countP KduReq.started < s.hsh.pairs) :
    Completes (.hashSelftest e false) s fun t =>
      (t.engAt (e - e % 2)).st = .retired ∧ (t.engAt (e - e % 2 + 1)).st = .retired ∧ t.hsh.pairs = s.hsh.pairs - 1 ∧
      (∀ f, f / 2 ≠ e / 2 → t.engAt f = s.engAt f) ∧ Only [.hsh, .glb, .log, .out, .wharf] s t := by
  let lo := e - e % 2
  let s1 := s.setEng lo { s.engAt lo with st := .retired }
  let s2 := s1.setEng (lo + 1) { s.engAt (lo + 1) with st := .retired }
  let s3 : State := { s2 with hsh := { s2.hsh with pairs := s2.hsh.pairs - 1 } }
  have ht := retirementTold_only s3 intSpare .interface 9 e 4
  have heng (f : Nat) : State.engAt _ f = s2.engAt f := ht.engAt (by decide) f
  refine ⟨_, congrArg Host.Outcome.next ((if_neg (by decide)).trans ((if_neg (by simp [hst, hh])).trans
    ((if_pos hk).trans (if_neg (Nat.not_le.2 hidle))))), ?_, ?_, congrArg Hsh.pairs (ht .hsh (by decide)), fun f hf => ?_,
    ((only_hsh s s3.hsh).mono (by simp)).trans (ht.mono (by simp))⟩
  · rw [heng, State.engAt_setEng_ne _ _ _ _ (by omega), State.engAt_setEng]
  · rw [heng, State.engAt_setEng]
  · rw [heng, State.engAt_setEng_ne _ _ _ _ (by omega), State.engAt_setEng_ne _ _ _ _ (by omega)]

theorem only_cph_bgn (s : State) (x : Cph) (y : Bgn) : Only [.cph, .bgn] s { s with cph := x, bgn := y } :=
  ((only_cph s x).mono (by simp)).trans ((only_bgn { s with cph := x } y).mono (by simp))

/-- R216: at a new window the counts of lanes, tiles and the device restart. -/
theorem mismatchWindowEnd_restarts (hw : s.cph.window < s.now / (100000 * max 1 s.cph.windowMs)) :
    Completes .mismatchWindowEnd s fun t => t.cph.window = s.now / (100000 * max 1 s.cph.windowMs) ∧ t.cph.deviceWin = 0 ∧
      t.cph.raisedWin = false ∧ (∀ p ∈ t.cph.lanes, p.2.mismatchWin = 0) ∧ (∀ p ∈ t.bgn.tiles, p.2.mismatchWin = 0) ∧
      t.cph.mismatches = s.cph.mismatches ∧ Only [.cph, .bgn] s t := by
  refine ⟨_, congrArg Host.Outcome.next (if_pos hw), rfl, rfl, rfl, ?_, ?_, rfl,
    only_cph_bgn s _ _⟩
  · intro p hp
    obtain ⟨q, -, rfl⟩ := List.mem_map.1 hp
    rfl
  · intro p hp
    obtain ⟨q, -, rfl⟩ := List.mem_map.1 hp
    rfl

end SelfTests

/-- Settles O28: each self-test by the state of its unit, and the end of a mismatch window. -/
theorem selfTestsAndRetirement : Obligations.SelfTestsAndRetirement := by
  unfold Obligations.SelfTestsAndRetirement
  refine ⟨fun s n sp hs hc => ⟨laneSelftest_idle hs hc true, laneSelftest_idle hs hc false, fun hd => laneDrainRetire_drained hd hc⟩,
    fun s n sp hs hj hd => ⟨fun hst => ?_, ?_⟩,
    fun s e hst hh => ⟨rfl, hashSelftest_retires hst hh, hashSelftest_retiresPair hst hh⟩, fun s hw => mismatchWindowEnd_restarts hw⟩
  · rw [tileSelftest_idle hs hj hd, if_pos ⟨rfl, hst⟩]
  · rw [tileSelftest_idle hs hj hd, if_neg (by simp)]

end Sys2Proof.Machine

/-! SUPPORT. The diagnostic registers: the unit that ENABLE takes and gives back, and the command that runs on it (R226, R254). -/

namespace Sys2Proof.Machine

section DiagRegisters

variable {s : State} {v : W64}

/-- A write that a block does not take is discarded, and logged where the block is invisible (R22). -/
theorem refused_only (s : State) (b addr what : Nat) : Only [.log] s (s.refused b addr what) := by
  unfold State.refused
  split
  · exact logAccess_only s addr what
  · exact Only.refl _ s

/-- R22: outside DRYDOCK a write of a diagnostic register is discarded. -/
theorem diagRegisters_refused {i : Instr} {mism : Nat} (hm : s.glb.mode ≠ .drydock)
    (hi : i = .cphDiagEnable v ∨ i = .cphDiagCmd v mism ∨ i = .hshDiagEnable v ∨ i = .hshDiagCmd v ∨ i = .bgnDiagEnable v ∨
      i = .bgnDiagCmd v mism) : Completes i s (Only [.log] s) := by
  obtain rfl | rfl | rfl | rfl | rfl | rfl := hi <;> exact ⟨_, congrArg Host.Outcome.next (if_pos hm), refused_only s _ _ _⟩

/-! ### The unit that ENABLE takes -/

/-- A diagnostic context opens on a selected lane without contexts. -/
theorem diagLane_opens (ho : s.cph.diag.opening = true) (hc : s.ctxsOn s.cph.diag.sel = []) :
    let t := s.diagLane
    t.laneAt s.cph.diag.sel = { s.laneAt s.cph.diag.sel with st := .diag, slots := [] } ∧
      (t.coreAt 96).lane = some { lane := s.cph.diag.sel, tenant := 0, diag := true } ∧
      t.cph.diag = { s.cph.diag with opening := false } ∧ Only [.cph, .cores] s t := by
  let s1 := s.setLane s.cph.diag.sel { s.laneAt s.cph.diag.sel with st := .diag, slots := [] }
  let s2 := s1.setCtx 96 { lane := s.cph.diag.sel, tenant := 0, diag := true }
  have ht : s.diagLane = { s2 with cph := { s2.cph with diag := { s2.cph.diag with opening := false } } } := if_pos ⟨ho, hc⟩
  rw [ht]
  exact ⟨State.laneAt_setLane s _ _, congrArg Core.lane (setCtx_coreAt s1 96 _), rfl,
    ((only_cph s _).mono (by simp)).trans (((setCtx_only s1 _ _).mono (by simp)).trans ((only_cph s2 _).mono (by simp)))⟩

/-- A diagnostic context opens on a selected engine that nothing holds. -/
theorem diagEngine_opens (ho : s.hsh.diag.opening = true) (hh : (s.engAt s.hsh.diag.sel).holder = none) :
    let t := s.diagEngine
    t.engAt s.hsh.diag.sel = { s.engAt s.hsh.diag.sel with st := .diag, holder := some 96 } ∧
      (t.coreAt 96).eng = some s.hsh.diag.sel ∧ t.hsh.diag = { s.hsh.diag with opening := false } ∧ Only [.hsh, .cores] s t := by
  let s1 := s.setEng s.hsh.diag.sel { s.engAt s.hsh.diag.sel with st := .diag, holder := some 96 }
  let s2 := s1.setCore 96 { s1.coreAt 96 with eng := some s.hsh.diag.sel }
  have ht : s.diagEngine = { s2 with hsh := { s2.hsh with diag := { s.hsh.diag with opening := false } } } := if_pos ⟨ho, hh⟩
  rw [ht]
  exact ⟨State.engAt_setEng s _ _, congrArg Core.eng (State.coreAt_setCore s1 96 _), rfl,
    ((only_hsh s _).mono (by simp)).trans (((only_cores s1 _).mono (by simp)).trans ((only_hsh s2 _).mono (by simp)))⟩

/-- A diagnostic job opens on a selected tile without jobs or clearing windows. -/
theorem diagTile_opens (ho : s.bgn.diag.opening = true) (hj : s.jobsOn s.bgn.diag.sel = [])
    (hc : (s.tileAt s.bgn.diag.sel).clearing = []) :
    let t := s.diagTile
    t.tileAt s.bgn.diag.sel = { s.tileAt s.bgn.diag.sel with st := .diag } ∧
      (t.coreAt 96).tile = some { tile := s.bgn.diag.sel, base := 0, size := 8, diag := true } ∧
      t.bgn.diag = { s.bgn.diag with opening := false } ∧ Only [.bgn, .cores] s t := by
  let s1 := s.setTile s.bgn.diag.sel { s.tileAt s.bgn.diag.sel with st := .diag }
  let s2 := s1.setJob 96 { tile := s.bgn.diag.sel, base := 0, size := 8, diag := true }
  have ht : s.diagTile = { s2 with bgn := { s2.bgn with diag := { s.bgn.diag with opening := false } } } := if_pos ⟨ho, hj, hc⟩
  rw [ht]
  exact ⟨State.tileAt_setTile s _ _, congrArg Core.tile (setJob_coreAt s1 96 _), rfl,
    ((only_bgn s _).mono (by simp)).trans (((setJob_only s1 _ _).mono (by simp)).trans ((only_bgn s2 _).mono (by simp)))⟩

section Enable

variable {n : Nat} (hm : s.glb.mode = .drydock) (hv : wbit 0 v = true) (hsel : wbits 14 8 v = n)
include hm hv hsel

/-- R226: ENABLE 1 takes an idle ACTIVE lane. -/
theorem cphDiagEnable_opens (he : s.cph.diag.enable = false) (hn : n < 68) (hst : (s.laneAt n).st = .active)
    (hc : s.ctxsOn n = []) : Completes (.cphDiagEnable v) s fun t =>
      (t.laneAt n).st = .diag ∧ (t.laneAt n).before = .active ∧ (t.laneAt n).slots = [] ∧
      (t.coreAt 96).lane = some { lane := n, tenant := 0, diag := true } ∧ t.cph.diag.enable = true ∧
      t.cph.diag.sel = n ∧ Only [.cph, .cores] s t := by
  let s1 := s.setLane n { s.laneAt n with st := .draining, before := .active }
  let s2 : State := { s1 with cph := { s1.cph with diag := { s.cph.diag with sel := n, enable := true, opening := true } } }
  have hexec : exec (.cphDiagEnable v) s = .next s2.diagLane := by
    show execCphDiagEnable v s = _
    simp [execCphDiagEnable, hm, hv, hsel, he, Nat.not_le.2 hn, hst, s2, s1]
  obtain ⟨hlane, hctx, hdiag, honly⟩ := diagLane_opens (s := s2) rfl hc
  refine ⟨_, hexec, congrArg Lane.st hlane, (congrArg Lane.before hlane).trans ?_, congrArg Lane.slots hlane, hctx,
    congrArg DiagRegs.enable hdiag, congrArg DiagRegs.sel hdiag, ((only_cph s s2.cph).mono (by simp)).trans honly⟩
  exact congrArg Lane.before (State.laneAt_setLane s _ _)

/-- R226: ENABLE 1 takes an idle ACTIVE engine. -/
theorem hshDiagEnable_opens (he : s.hsh.diag.enable = false) (hn : isKeccak n = true ∨ isSha2 n = true)
    (hst : (s.engAt n).st = .active) (hh : (s.engAt n).holder = none) :
    Completes (.hshDiagEnable v) s fun t => (t.engAt n).st = .diag ∧ (t.engAt n).holder = some 96 ∧
      (t.coreAt 96).eng = some n ∧ t.hsh.diag.enable = true ∧ Only [.hsh, .cores] s t := by
  let s1 := s.setEng n { s.engAt n with before := .active, st := .draining }
  let s2 : State := { s1 with hsh := { s1.hsh with diag := { s.hsh.diag with sel := n, enable := true, opening := true } } }
  have hexec : exec (.hshDiagEnable v) s = .next s2.diagEngine := by
    show execHshDiagEnable v s = _
    obtain hkind | hkind := hn <;> simp [execHshDiagEnable, hm, hv, hsel, he, hst, hkind, s2, s1]
  have hfree : (s2.engAt n).holder = none := (congrArg Eng.holder (State.engAt_setEng s _ _)).trans hh
  obtain ⟨heng, hcore, hdiag, honly⟩ := diagEngine_opens (s := s2) rfl hfree
  exact ⟨_, hexec, congrArg Eng.st heng, congrArg Eng.holder heng, hcore, congrArg DiagRegs.enable hdiag,
    ((only_hsh s s2.hsh).mono (by simp)).trans honly⟩

/-- R254: ENABLE 1 takes an idle ACTIVE tile. -/
theorem bgnDiagEnable_opens (he : s.bgn.diag.enable = false) (hn : n < 26) (hst : (s.tileAt n).st = .active)
    (hj : s.jobsOn n = []) (hc : (s.tileAt n).clearing = []) :
    Completes (.bgnDiagEnable v) s fun t => (t.tileAt n).st = .diag ∧
      (t.coreAt 96).tile = some { tile := n, base := 0, size := 8, diag := true } ∧ t.bgn.diag.enable = true ∧
      Only [.bgn, .cores] s t := by
  let s1 := s.setTile n { s.tileAt n with before := .active, st := .draining }
  let s2 : State := { s1 with bgn := { s1.bgn with diag := { s.bgn.diag with sel := n, enable := true, opening := true } } }
  have hexec : exec (.bgnDiagEnable v) s = .next s2.diagTile := by
    show execBgnDiagEnable v s = _
    simp [execBgnDiagEnable, hm, hv, hsel, he, Nat.not_le.2 hn, hst, s2, s1]
  have hclear : (s2.tileAt n).clearing = [] := (congrArg Tile.clearing (State.tileAt_setTile s _ _)).trans hc
  obtain ⟨htile, hcore, hdiag, honly⟩ := diagTile_opens (s := s2) rfl hj hclear
  exact ⟨_, hexec, congrArg Tile.st htile, hcore, congrArg DiagRegs.enable hdiag, ((only_bgn s s2.bgn).mono (by simp)).trans honly⟩

end Enable

/-! ### The unit that ENABLE gives back -/

/-- A closed job leaves each tile the state that it returns to. -/
theorem closeJob_before (s : State) (k n : Nat) : ((s.closeJob k).tileAt n).before = (s.tileAt n).before := by
  unfold State.closeJob
  split
  · rfl
  next j _ =>
    extract_lets s1 x
    rw [State.idleNow_tileAt]
    obtain rfl | hne := eq_or_ne n j.tile
    · rw [State.tileAt_setTile]
      rfl
    · rw [State.tileAt_setTile_ne _ _ _ _ hne]
      rfl

section Disable

variable (hm : s.glb.mode = .drydock) (hv : wbit 0 v = false)
include hm hv

/-- R226: ENABLE 0 closes the context and gives the lane back. -/
theorem cphDiagEnable_returns (he : s.cph.diag.enable = true) : Completes (.cphDiagEnable v) s fun t =>
    (t.laneAt s.cph.diag.sel).st = (s.laneAt s.cph.diag.sel).before ∧ t.cph.diag.enable = false ∧ t.cph.diag.sel = s.cph.diag.sel := by
  refine ⟨_, congrArg Host.Outcome.next ((if_neg (not_not.2 hm)).trans ((if_neg (by simp [hv])).trans (if_pos he))), ?_, rfl, rfl⟩
  exact congrArg Lane.st (State.laneAt_setLane ..)

/-- R226: ENABLE 0 gives the engine back, its state zeroed. -/
theorem hshDiagEnable_returns (he : s.hsh.diag.enable = true) : Completes (.hshDiagEnable v) s fun t =>
    (t.engAt s.hsh.diag.sel).st = (s.engAt s.hsh.diag.sel).before ∧ t.hsh.diag.enable = false ∧ t.hsh.diag.sel = s.hsh.diag.sel := by
  let g := s.engAt s.hsh.diag.sel
  let s1 := s.setCore 96 { s.coreAt 96 with eng := none, hashOut := [] }
  let s2 := s1.setEng s.hsh.diag.sel (if s.hsh.diag.opening then { g with st := g.before } else { st := g.before })
  have hexec : exec (.hshDiagEnable v) s =
      .next { s2 with hsh := { s2.hsh with diag := { s.hsh.diag with enable := false, opening := false } } } := by
    show execHshDiagEnable v s = _
    simp [execHshDiagEnable, hm, hv, he, s1, s2, g]
  refine ⟨_, hexec, (congrArg Eng.st (State.engAt_setEng s1 _ _)).trans ?_, rfl, rfl⟩
  split <;> rfl

/-- R254: ENABLE 0 closes the job and gives the tile back. -/
theorem bgnDiagEnable_returns (he : s.bgn.diag.enable = true) : Completes (.bgnDiagEnable v) s fun t =>
    (t.tileAt s.bgn.diag.sel).st = (s.tileAt s.bgn.diag.sel).before ∧ t.bgn.diag.enable = false ∧ t.bgn.diag.sel = s.bgn.diag.sel := by
  let s1 := s.closeJob 96
  let s2 := s1.setTile s.bgn.diag.sel { s1.tileAt s.bgn.diag.sel with st := (s1.tileAt s.bgn.diag.sel).before }
  have hexec : exec (.bgnDiagEnable v) s =
      .next { s2 with bgn := { s2.bgn with diag := { s.bgn.diag with enable := false, opening := false } } } := by
    show execBgnDiagEnable v s = _
    simp [execBgnDiagEnable, hm, hv, he, s1, s2]
  exact ⟨_, hexec, (congrArg Tile.st (State.tileAt_setTile s1 _ _)).trans (closeJob_before s 96 _), rfl, rfl⟩

end Disable

/-! ### The command that runs on the unit -/

section Commands

/-- A FAULT of a lane's diagnostic command counts, and no other answer does. -/
theorem countFault_cph (c : Prop) [Decidable c] (s : State) :
    (if c then { s with cph := { s.cph with faults := s.cph.faults + 1 } } else s) =
      { s with cph := { s.cph with faults := s.cph.faults + (if c then 1 else 0) } } := by split <;> simp

/-- A FAULT of a tile's diagnostic command counts, and no other answer does. -/
theorem countFault_bgn (c : Prop) [Decidable c] (s : State) :
    (if c then { s with bgn := { s.bgn with faults := s.bgn.faults + 1 } } else s) =
      { s with bgn := { s.bgn with faults := s.bgn.faults + (if c then 1 else 0) } } := by split <;> simp

variable (hm : s.glb.mode = .drydock)
include hm

/-- R226: a lane command runs on the diagnostic context and leaves its output and status; a FAULT is counted. -/
theorem cphDiagCmd_runs (mism : Nat) (hb : s.cph.diag.busy = false) (he : s.cph.diag.enable = true) (ho : s.cph.diag.opening = false) :
    let a := s.laneRun 96 ⟨wbits 63 60 v, v, s.cph.diag.words, [], mism⟩
    exec (.cphDiagCmd v mism) s = .next { a.st with cph := { a.st.cph with
      faults := a.st.cph.faults + (if a.code = some uFault then 1 else 0)
      diag := { a.st.cph.diag with out := diagOut a.out, code := a.code.getD 0 } } } := by
  intro a
  show execCphDiagCmd v mism s = _
  simp only [execCphDiagCmd, hm, hb, he, ho, countFault_cph, ne_eq, not_true_eq_false, Bool.false_eq_true, Bool.true_eq_false, or_self,
    if_false]
  rfl

/-- R226: a command runs on the diagnostic engine and leaves its output and status. -/
theorem hshDiagCmd_runs {e : Nat} (hb : s.hsh.diag.busy = false) (he : (s.coreAt 96).eng = some e) :
    let a := s.hashRun 96 ⟨wbits 63 60 v, v, s.hsh.diag.words, [], 0⟩
    exec (.hshDiagCmd v) s =
      .next { a.st with hsh := { a.st.hsh with diag := { a.st.hsh.diag with out := diagOut a.out, code := a.code.getD 0 } } } := by
  show execHshDiagCmd v s = _
  simp only [execHshDiagCmd, hm, hb, he, ne_eq, not_true_eq_false, Bool.false_eq_true, reduceCtorEq, or_self, if_false]

/-- R254: a command runs on the diagnostic job and leaves its output and status; a FAULT is counted. -/
theorem bgnDiagCmd_runs (mism : Nat) (hb : s.bgn.diag.busy = false) (he : s.bgn.diag.enable = true) (ho : s.bgn.diag.opening = false) :
    let a := s.tileRun 96 ⟨wbits 63 60 v, v, s.bgn.diag.words, [], mism⟩
    exec (.bgnDiagCmd v mism) s = .next { a.st with bgn := { a.st.bgn with
      faults := a.st.bgn.faults + (if a.code = some uFault then 1 else 0)
      diag := { a.st.bgn.diag with out := diagOut a.out, code := a.code.getD 0 } } } := by
  intro a
  show execBgnDiagCmd v mism s = _
  simp only [execBgnDiagCmd, hm, hb, he, ho, countFault_bgn, ne_eq, not_true_eq_false, Bool.false_eq_true, Bool.true_eq_false, or_self,
    if_false]
  rfl

end Commands

end DiagRegisters

/-- Settles O32: each block's registers outside DRYDOCK, and in it the unit taken, given back, and the command that runs on it. -/
theorem diagnosticRegisters : Obligations.DiagnosticRegisters := by
  unfold Obligations.DiagnosticRegisters
  refine ⟨fun s v mism i hm hi => diagRegisters_refused hm hi,
    fun s v hm hv => ⟨cphDiagEnable_opens hm hv rfl, hshDiagEnable_opens hm hv rfl, bgnDiagEnable_opens hm hv rfl⟩,
    fun s v hm hv => ⟨cphDiagEnable_returns hm hv, hshDiagEnable_returns hm hv, bgnDiagEnable_returns hm hv⟩,
    fun s v mism hm => ⟨cphDiagCmd_runs hm mism, fun e => hshDiagCmd_runs hm, bgnDiagCmd_runs hm mism⟩⟩

end Sys2Proof.Machine

/-! SUPPORT. Asymmetric, post-quantum and attestation services: the room their output needs, the draws they accept, and what each leaves past
its checks. -/
namespace Sys2Proof.Machine

/-! ### Room for the output (R45) -/

section Room

variable {s : State} {r : Run} {n : Nat} {cs units : List (Bool × Nat)} {next : Unit → Res × State} {body : Res × State}

theorem withRoom_fits (hf : r.fits n = true) (next : Unit → Res × State) : s.withRoom r n next = next () :=
  if_neg (Nat.not_lt.2 (of_decide_eq_true hf))

theorem withRoom_short (hf : r.fits n = false) (next : Unit → Res × State) : s.withRoom r n next = s.doneOut r (zeros n) :=
  if_pos (Nat.not_le.1 (of_decide_eq_false hf))

/-- Where the output fits, the checks before and after the room for it are one list. -/
theorem checks_room (hf : r.fits n = true) (hnext : next () = s.checks r units fun _ => body) :
    (s.checks r cs fun _ => s.withRoom r n next) = s.checks r (cs ++ units) fun _ => body := by
  rw [withRoom_fits hf, hnext, checks_checks]

theorem checks_noRoom (hf : r.fits n = false) :
    (s.checks r cs fun _ => s.withRoom r n next) = s.checks r cs fun _ => s.doneOut r (zeros n) := by
  rw [withRoom_short hf]

end Room

section Shape

variable {o s1 : State} {k op n : Nat} {r : Run} {p : Option Permit} {i : Instr} {svc : Service} {cs units : List (Bool × Nat)}
  {next : Unit → Res × State} {body : Res × State} {t : State}

/-- A service whose output fits ends, past its checks before the room for it and its steps `units` after, in what it goes on with. -/
theorem ends_of_room (hr : Runs o k op r) (hi : exec i o = .next (o.serve k op r.hw svc)) (hf : r.fits n = true)
    (hsvc : svc r (o.noted r) = (o.noted r).checks r cs fun _ => (o.noted r).withRoom r n next)
    (hnext : next () = (o.noted r).checks r units fun _ => body) (ht : r.after body = t) : Ends i o (o.noted r) r (cs ++ units) t :=
  ends_of_checks hr hi (hsvc.trans (checks_room hf hnext)) ht

/-- A service whose output does not fit ends with the length needed, once its checks before the room for it pass. -/
theorem ends_of_noRoom (hr : Runs o k op r) (hi : exec i o = .next (o.serve k op r.hw svc)) (hf : r.fits n = false)
    (hsvc : svc r (o.noted r) = (o.noted r).checks r cs fun _ => (o.noted r).withRoom r n next) :
    Ends i o (o.noted r) r cs ((o.noted r).leave r ⟨stBadLength, [], n, none⟩) :=
  ends_of_short hr hi hf (hsvc.trans (checks_noRoom hf))

end Shape

/-! ### Draws that a service accepts (R247) -/

/-- Draws until one is accepted change no core. -/
@[simp] theorem coreAt_drawAccepted (s : State) (r : Run) (n : Nat) (accept : Bytes → Bool) (fuel k : Nat) :
    (s.drawAccepted r n accept fuel).2.coreAt k = s.coreAt k := by
  induction fuel generalizing s with
  | zero => rfl
  | succ fuel ih =>
    have hd : (s.drawFor r n).2.coreAt k = s.coreAt k := coreAt_drawFor s r n k
    unfold State.drawAccepted
    extract_lets d
    split
    · split
      · exact hd
      · rw [ih, hd]
    · exact hd

/-- What a service with random values leaves is what it leaves with them, or of a draw that waits or fails. -/
theorem after_withRandom {s before : State} {r : Run} {n : Nat} {next : Bytes → State → Res × State} {done : Bytes → State → State}
    {accept : Bytes → Bool} (hst : (s.coreAt r.core).stored = [])
    (hn : ∀ bs t, (t.coreAt r.core).stored = [] → r.after (next bs t) = done bs t) :
    r.after (s.withRandom before r n next accept) = drawnRandom s before r n done accept := by
  have hdraw : ((s.drawAccepted r n accept 256).2.coreAt r.core).stored = [] := by rw [coreAt_drawAccepted, hst]
  exact after_ite (hn [] s hst) (after_drawnElse hdraw fun bs => hn bs _ hdraw)

/-! ### What each service leaves -/

/-- A change is submitted only with output that fits its buffer (R45, R60). -/
theorem after_doneCommit (s : State) (r : Run) (out result : Bytes) (commit : Option (List Change)) :
    r.after (s.doneOut r out result commit) = s.endService r (withOutput r out result) (if r.fits out.length then commit else none) := rfl

/-- The loads of a public key leave what a core has stored. -/
theorem givenOrLoaded_stored {s : State} {core : Nat} (hst : (s.coreAt core).stored = []) (given : Bool) (h n : Nat) :
    ((if given then s else s.loadLinks h n).coreAt core).stored = [] := by
  cases given with
  | true => exact hst
  | false => simpa using hst

section Asym

variable {o s1 : State} {k op : Nat} {r : Run} {p : Option Permit} {i : Instr}

/-- R244: a new key pair's public key, its chain of links submitted where the public key fits. -/
theorem keygen_ends {algs : List String} (hi : exec i o = .next (o.serve k op r.hw (keygenSvc op algs))) (hr : Runs o k op r)
    (hp : Permitted (o.noted r) r 0x0001 false p s1) (hf : r.fits (pubLen (labelNext r).alg (labelNext r).size) = true) :
    let l := labelNext r
    Ends i o s1 r (keygenChecks algs r ++ s1.placeSteps l.handle (chainLenOf l.alg l.size) ++ s1.tiles r false true)
      (drawnRandom s1 s1 r (privLen l.alg l.size) fun rnd s2 =>
        let pub := newPublic l.alg l.size (newPrivate l rnd)
        ((s2.spend k (asymCycles op 0 l.size rnd)).countLoads ((newChain l rnd).length / 32)).endService r
          (withOutput r pub (if op = 0x0800 then toLE 2 ((newChain l rnd).length / 32) else []))
          (if r.fits pub.length then some [s1.putChain l (newChain l rnd)] else none)) := by
  intro l
  obtain rfl := runOf_core hr.1
  rw [List.append_assoc]
  refine ends_of_permit hr hp hi rfl permitSteps_anyHandles (checks_room hf (checks_checks ..)) ?_
  exact after_withRandom (hp.stored hr) fun rnd t _ => after_doneCommit ..

/-- R45: a public key that does not fit its buffer. -/
theorem keygen_short {algs : List String} (hi : exec i o = .next (o.serve k op r.hw (keygenSvc op algs))) (hr : Runs o k op r)
    (hp : Permitted (o.noted r) r 0x0001 false p s1) (hf : r.fits (pubLen (labelNext r).alg (labelNext r).size) = false) :
    Ends i o s1 r (keygenChecks algs r) (s1.leave r ⟨stBadLength, [], pubLen (labelNext r).alg (labelNext r).size, none⟩) := by
  refine ends_of_permit hr hp hi rfl permitSteps_anyHandles (checks_noRoom hf) ?_
  rw [after_doneOut (hp.stored hr), withOutput_short (by simp [zeros]) hf]

/-- R246: the public part of a stored key. -/
theorem pubkeyRead_ends (hr : Runs o k 0x0801 r) :
    let s := o.noted r
    let h := s.labelOf r.b.h0
    r.fits (pubLen h.alg h.size) = true → Ends (.pubkeyRead k r.hw) o s r (s.pubkeyChecks r ++ s.tiles r true false)
      (((s.loadLinks r.b.h0 (max 1 (publicLinks h.alg h.size))).spend k (asymCycles 0x0801 0 h.size [])).leave r
        (withOutput r (s.publicOf r.b.h0))) := by
  intro s h hf
  obtain rfl := runOf_core hr.1
  exact ends_of_room hr rfl hf rfl rfl (after_gives (by simpa using hr.stored) _)

/-- R246, R247, R250: a signature over random values that its scheme accepts; an RSA signature once its self check passes. -/
theorem sign_ends {usages : List String} {algs : List (String × List Nat)} {schemes : List Nat}
    (hi : exec i o = .next (o.serve k op r.hw (signSvc op usages algs schemes))) (hr : Runs o k op r) :
    let s := o.noted r
    let a := asymArgs (r.lighter 0)
    let h := s.labelOf r.b.h0
    r.fits (sigLen h.alg h.size) = true →
      Ends i o s r (s.signChecks usages algs r ++ a.selectors schemes false h ++ s.tiles r true false)
        (drawnRandom (s.loadLinks r.b.h0 h.chainLen) s r (a.signRandom h.size) (accept := s.takesRandom r) fun rnd s2 =>
          (s2.spend k (a.cycles op h.size r.input.length rnd)).leave r
            (if h.alg = chr "R" ∧ Config.rsaSelfCheck (s.publicOf r.b.h0) (s.signature r rnd) = false then failed stLaneFault
             else withOutput r (s.signature r rnd))) := by
  intro s a h hf
  obtain rfl := runOf_core hr.1
  rw [List.append_assoc]
  refine ends_of_room hr hi hf rfl (checks_checks ..) ?_
  exact after_withRandom (by simpa using hr.stored) fun rnd t ht => after_gives (by simpa using ht) _

/-- R243, R246, R249: the verdict on a signature, under a stored key or the one that the barge brings. -/
theorem verify_ends {usages : List String} {algs : List (String × List Nat)} {schemes : List Nat}
    (hi : exec i o = .next (o.serve k op r.hw (verifySvc op usages algs schemes))) (hr : Runs o k op r) :
    let s := o.noted r
    let a := asymArgs (r.lighter 0)
    let pk := s.pubKey r a
    Ends i o s r (s.verifyChecks usages algs schemes r ++ s.tiles r (!pk.given) false)
      (((if pk.given then s else s.loadLinks r.b.h0 (max 1 (publicLinks pk.alg pk.size))).spend k
          (a.cycles op pk.size (r.input.length - (pk.len + sigLen pk.alg pk.size)) [])).leave r
        (if s.verifies r then answered [] else failed stVerifyFail)) := by
  intro s a pk
  obtain rfl := runOf_core hr.1
  have hst := givenOrLoaded_stored hr.stored pk.given r.b.h0 (max 1 (publicLinks pk.alg pk.size))
  exact ends_of_unitChecks hr hi rfl (after_gives (by rw [spend_stored, hst]) _)

/-- R247: RSA-OAEP's ciphertext, with a drawn seed. -/
theorem rsaEncrypt_ends (hr : Runs o k 0x0804 r) :
    let s := o.noted r
    let a := asymArgs (r.lighter 0)
    let pk := s.pubKey r a
    r.fits (if rsaKnown a pk then 32 * pk.size else 0) = true →
      Ends (.rsaEncrypt k r.hw) o s r (s.rsaEncryptChecks r ++ s.rsaEncryptRange r ++ s.tiles r (!pk.given) false)
        (drawnRandom (if pk.given then s else s.loadLinks r.b.h0 (publicLinks pk.alg pk.size)) s r (hashOut a.hash 0) fun seed s2 =>
          (s2.spend k (asymCycles 0x0804 3 pk.size [])).leave r
            (withOutput r (fixLen (32 * pk.size) (Config.oaepEnc a.hash a.ctx pk.pub seed (r.input.drop pk.len))))) := by
  intro s a pk hf
  obtain rfl := runOf_core hr.1
  rw [List.append_assoc]
  refine ends_of_room hr rfl hf rfl (checks_checks ..) ?_
  exact after_withRandom (givenOrLoaded_stored hr.stored _ _ _) fun seed t ht => after_gives (by simpa using ht) _

/-- R240, R247: RSA-OAEP's plaintext. -/
theorem rsaDecrypt_ends (hr : Runs o k 0x0805 r) :
    let s := o.noted r
    let h := s.labelOf r.b.h0
    Ends (.rsaDecrypt k r.hw) o s r (s.rsaDecryptChecks r ++ s.tiles r true false)
      (((s.loadLinks r.b.h0 h.chainLen).spend k (asymCycles 0x0805 3 h.size [])).leave r (s.rsaPlain r)) := by
  intro s h
  obtain rfl := runOf_core hr.1
  exact ends_of_unitChecks hr rfl rfl (after_gives (by simpa using hr.stored) _)

/-- R248: the check value of an agreed key, which is stored. -/
theorem agree_ends (hr : Runs o k 0x0806 r) :
    let s := o.noted r
    let l := labelNext r
    let h := s.labelOf r.b.h0
    Ends (.agree k r.hw) o s r (s.agreeChecks r ++ s.tiles r true true)
      ((((s.loadLinks r.b.h0 h.chainLen).spend k (asymCycles 0x0806 (asymArgs (r.lighter 0)).scheme h.size [])).countLoads 1).endService r
        (answered (checkValue l (s.agreedKey r))) (some [s.putKey l (s.agreedKey r)])) := by
  intro s l h
  obtain rfl := runOf_core hr.1
  exact ends_of_unitChecks hr rfl rfl rfl

/-- A KEY_SIZE that MLKEM_ENCAPS knows gives the ciphertext its length (R249). -/
theorem kemRoom_eq (ks : Nat) :
    (if (ks == 1 || ks == 2) = true then kemLen ks else 0) = if ks = 1 ∨ ks = 2 then kemLen ks else 0 := by
  simp only [Bool.or_eq_true, beq_iff_eq]

/-- R249, R250: a ciphertext with the key encapsulated, which is stored where the ciphertext fits. -/
theorem mlkemEncaps_ends (hr : Runs o k 0x0901 r) :
    let s := o.noted r
    let a := asymArgs (r.lighter 0)
    let l := labelNext r
    r.fits (if a.keySize = 1 ∨ a.keySize = 2 then kemLen a.keySize else 0) = true →
      Ends (.mlkemEncaps k r.hw) o s r (s.encapsChecks r ++ s.encapsRange r ++ s.tiles r false true)
        (drawnRandom s s r 32 fun rnd s2 =>
          let key := secretKey r (kemPair r rnd).2
          ((s2.spend k (asymCycles 0x0901 16 a.keySize [])).countLoads 1).endService r
            (withOutput r (fixLen (kemLen a.keySize) (kemPair r rnd).1) (checkValue l key))
            (if r.fits (kemLen a.keySize) then some [s.putKey l key] else none)) := by
  intro s a l hf
  obtain rfl := runOf_core hr.1
  rw [List.append_assoc]
  refine ends_of_room hr rfl ((congrArg r.fits (kemRoom_eq _)).trans hf) rfl (checks_checks ..) ?_
  refine after_withRandom hr.stored fun rnd t _ => ?_
  rw [after_doneCommit, fixLen_length]

/-- R249, R250: the check value of a decapsulated key, which is stored. -/
theorem mlkemDecaps_ends (hr : Runs o k 0x0902 r) :
    let s := o.noted r
    let l := labelNext r
    let h := s.labelOf r.b.h0
    Ends (.mlkemDecaps k r.hw) o s r (s.decapsChecks r ++ s.tiles r true true)
      (let key := secretKey r (s.kemSecret r)
       (((s.loadLinks r.b.h0 h.chainLen).spend k (asymCycles 0x0902 16 h.size [])).countLoads 1).endService r
        (answered (checkValue l key)) (some [s.putKey l key])) := by
  intro s l h
  obtain rfl := runOf_core hr.1
  exact ends_of_unitChecks hr rfl rfl rfl

/-- R251, R252: a report with its signature. -/
theorem attestReport_ends (hr : Runs o k 0x0D00 r) :
    let s := o.noted r
    r.fits ((s.reportFor r).length + 114) = true → Ends (.attestReport k r.hw) o s r (attestChecks r ++ s.tiles r false false)
      ((s.spend k (asymCycles 0x0D00 6 5 [])).leave r (withOutput r (s.reportFor r ++ s.reportSig (s.reportFor r)))) := by
  intro s hf
  obtain rfl := runOf_core hr.1
  exact ends_of_room hr rfl hf rfl rfl (after_gives (by simpa using hr.stored) _)

/-- R251: a certificate. -/
theorem certRead_ends (hr : Runs o k 0x0D01 r) :
    let s := o.noted r
    Ends (.certRead k r.hw) o s r (certChecks r)
      ((s.spend k (asymCycles 0x0D01 0 0 [])).leave r
        (withOutput r (if le 0 1 (r.lighter 0) = 0 then s.root.devIdCert else s.root.aliasCert))) := by
  intro s
  obtain rfl := runOf_core hr.1
  exact ends_of_checks hr rfl rfl (after_gives (by simpa using hr.stored) _)

/-- R45: the services whose output would not fit its buffer, with the checks before the room for it and the length needed. -/
theorem asymService_short {e : List (Bool × Nat) × Nat} :
    let s := o.noted r
    let a := asymArgs (r.lighter 0)
    let h := s.labelOf r.b.h0
    let pk := s.pubKey r a
    (i = .pubkeyRead k r.hw ∧ Runs o k 0x0801 r ∧ e = (s.pubkeyChecks r, pubLen h.alg h.size)) ∨
      (i = .sign k r.hw ∧ Runs o k 0x0802 r ∧ e = (s.signChecks ["S0", "S1"] [rsaKeys, edKeys, dsaKeys] r, sigLen h.alg h.size)) ∨
      (i = .mldsaSign k r.hw ∧ Runs o k 0x0903 r ∧ e = (s.signChecks ["S0"] [dsaKeys] r, sigLen h.alg h.size)) ∨
      (i = .rsaEncrypt k r.hw ∧ Runs o k 0x0804 r ∧ rsaKnown a pk = true ∧ e = (s.rsaEncryptChecks r, 32 * pk.size)) ∨
      (i = .mlkemEncaps k r.hw ∧ Runs o k 0x0901 r ∧ (a.keySize = 1 ∨ a.keySize = 2) ∧ e = (s.encapsChecks r, kemLen a.keySize)) ∨
      (i = .attestReport k r.hw ∧ Runs o k 0x0D00 r ∧ e = (attestChecks r, (s.reportFor r).length + 114)) →
    r.fits e.2 = false → Ends i o s r e.1 (s.leave r ⟨stBadLength, [], e.2, none⟩) := by
  intro s a h pk
  rintro (⟨rfl, hr, rfl⟩ | ⟨rfl, hr, rfl⟩ | ⟨rfl, hr, rfl⟩ | ⟨rfl, hr, hknown, rfl⟩ | ⟨rfl, hr, hsize, rfl⟩ | ⟨rfl, hr, rfl⟩) hf
  · exact ends_of_noRoom hr rfl hf rfl
  · exact ends_of_noRoom hr rfl hf rfl
  · exact ends_of_noRoom hr rfl hf rfl
  · have hneed : (if rsaKnown a pk then 32 * pk.size else 0) = 32 * pk.size := if_pos hknown
    rw [← hneed] at hf ⊢
    exact ends_of_noRoom hr rfl hf rfl
  · have hneed := (kemRoom_eq a.keySize).trans (if_pos hsize)
    rw [← hneed] at hf ⊢
    exact ends_of_noRoom hr rfl hf rfl
  · exact ends_of_noRoom hr rfl hf rfl

end Asym

/-- Settles O58: past its permit and its checks each service leaves its outcome, with the values it draws where it needs them; the bound of 256
draws for a value that a signature accepts is the model's (log 27, DESIGN CHOICE). -/
theorem asymmetricServicesAnswer : Obligations.AsymmetricServicesAnswer := by
  unfold Obligations.AsymmetricServicesAnswer
  intro o s1 k r p
  refine ⟨?_, ?_, pubkeyRead_ends, ?_, ?_, rsaEncrypt_ends, rsaDecrypt_ends, agree_ends, mlkemEncaps_ends, mlkemDecaps_ends,
    attestReport_ends, certRead_ends, fun _ _ => asymService_short⟩
  · rintro i op algs (⟨rfl, rfl, rfl⟩ | ⟨rfl, rfl, rfl⟩)
    · exact keygen_ends rfl
    · exact keygen_ends rfl
  · rintro i op algs (⟨rfl, rfl, rfl⟩ | ⟨rfl, rfl, rfl⟩)
    · exact keygen_short rfl
    · exact keygen_short rfl
  · rintro i op usages algs schemes (⟨rfl, rfl, rfl, rfl, rfl⟩ | ⟨rfl, rfl, rfl, rfl, rfl⟩)
    · exact sign_ends rfl
    · exact sign_ends rfl
  · rintro i op usages algs schemes (⟨rfl, rfl, rfl, rfl, rfl⟩ | ⟨rfl, rfl, rfl, rfl, rfl⟩)
    · exact verify_ends rfl
    · exact verify_ends rfl

end Sys2Proof.Machine

/-! SUPPORT. Random generation: entropy clusters and seed blocks, what an alarm leaves of them, DRBGs, and the raw-sample buffer. -/
namespace Sys2Proof.Machine

/-! ### Clusters and DRBGs replaced -/

section Parts

variable (s : State) (c d : Nat)

@[simp] theorem State.setCluster_drbgAt (x : Cluster) : (s.setCluster c x).drbgAt d = s.drbgAt d := rfl

@[simp] theorem State.setDrbg_clusterAt (x : Drbg) : (s.setDrbg d x).clusterAt c = s.clusterAt c := rfl

@[simp] theorem State.setCluster_setCluster (x y : Cluster) : (s.setCluster c x).setCluster c y = s.setCluster c y := by
  simp only [State.setCluster, Tbl.put_put]

@[simp] theorem State.setDrbg_setDrbg (x y : Drbg) : (s.setDrbg d x).setDrbg d y = s.setDrbg d y := by
  simp only [State.setDrbg, Tbl.put_put]

theorem setCluster_only (x : Cluster) : Only [.rng] s (s.setCluster c x) := only_rng s _

theorem setDrbg_only (x : Drbg) : Only [.rng] s (s.setDrbg d x) := only_rng s _

/-- Where every listed cluster is changed alike, an unlisted one as well, each reads as its change. -/
theorem clusterAt_mapClusters {t : State} {f : Cluster → Cluster} (ht : t.rng.clusters = s.rng.clusters.map fun p => (p.1, f p.2))
    (hf : f {} = {}) : t.clusterAt c = f (s.clusterAt c) := by
  rw [State.clusterAt, ht, tget, Tbl.find_mapValues, State.clusterAt, tget]
  cases Tbl.find c s.rng.clusters with
  | none => exact hf.symm
  | some x => rfl

end Parts

/-! ### What an alarm leaves of the RNG (R266, R364) -/

/-- The RNG is as it was, or its raw-sample mode has ended. -/
def MayEndRaw (s t : State) : Prop := t.rng = s.rng ∨ t.rng = s.rawOff.rng

section Alarms

variable {s t u : State}

/-- What the end of raw-sample mode leaves of the RNG depends on the RNG alone. -/
theorem rawOff_rng_congr (h : t.rng = s.rng) : t.rawOff.rng = s.rawOff.rng := by
  unfold State.rawOff
  rw [h]
  split
  · exact h
  · rfl

theorem rawOff_rawOff (s : State) : s.rawOff.rawOff = s.rawOff := by
  have hraw : s.rawOff.rng.raw = false := by
    unfold State.rawOff
    split
    · assumption
    · rfl
  exact if_pos hraw

theorem MayEndRaw.trans (h1 : MayEndRaw s t) (h2 : MayEndRaw t u) : MayEndRaw s u := by
  obtain h1 | h1 := h1
  · exact h2.imp (·.trans h1) (·.trans (rawOff_rng_congr h1))
  · have hoff : t.rawOff.rng = s.rawOff.rng := (rawOff_rng_congr h1).trans (congrArg State.rng (rawOff_rawOff s))
    exact .inr (h2.elim (·.trans h1) (·.trans hoff))

theorem Only.rng {ps : List Part} (h : Only ps s t) (hp : .rng ∉ ps) : t.rng = s.rng := h .rng hp

theorem enterHalt_mayEndRaw (s : State) (reason step code : Nat) : MayEndRaw s (s.enterHalt reason step code) := by
  unfold State.enterHalt
  split
  · exact .inl rfl
  · extract_lets p g s1
    have hmode : (s1.rawOff.toMode .halt).rng = s1.rawOff.rng := (toMode_only _ _).rng (by decide)
    have hlog := (logEvent_only (s1.rawOff.toMode .halt) .haltEntered 0 reason (256 * step + code)).rng (by decide)
    exact .inr ((hlog.trans hmode).trans (rawOff_rng_congr rfl))

/-- Of all that raised sources do (R347), HALT alone reaches the RNG. -/
theorem raise_mayEndRaw (s : State) (srcs : List (Nat × Nat)) : MayEndRaw s (s.raise srcs) := by
  unfold State.raise
  split
  · exact .inl rfl
  · extract_lets level prior prior' taken lowest latches events len0 s1 s2 s3 s4 pwr0 s5 s6
    have h2 : s2.rng = s.rng := by
      simp only [s2]
      split <;> rfl
    have h3 : s3.rng = s2.rng := (Only.foldl (ps := [.len]) (fun s p => by
      split
      · exact sentryAdd_only s _ _ _ _ _ _ _
      · exact Only.refl _ s) srcs s2).rng (by decide)
    have h4 : MayEndRaw s3 s4 := by
      simp only [s4]
      split
      · exact enterHalt_mayEndRaw s3 _ _ _
      · exact .inl rfl
    have h6 : s6.rng = s4.rng := (Only.foldl (ps := [.log]) (fun s p => logRec_only s _ _ _ _ _) srcs s5).rng (by decide)
    have hint (b : BitVec 6) : (s6.setInt b).rng = s6.rng := (setInt_only s6 b).rng (by decide)
    refine MayEndRaw.trans (t := s3) (.inl (h3.trans h2)) (h4.trans (MayEndRaw.trans (t := s6) (.inl h6) (.inl ?_)))
    split
    · rfl
    · split
      · exact hint _
      · split
        · exact hint _
        · rfl

theorem alarmEvent_mayEndRaw (s : State) (src : Nat) : MayEndRaw s (s.alarmEvent src) := by
  unfold State.alarmEvent
  extract_lets s1 f
  have h1 : MayEndRaw s s1 := by
    simp only [s1]
    split
    · exact enterHalt_mayEndRaw s _ _ _
    · exact .inl rfl
  have hf : MayEndRaw s f.1 := h1.trans (.inl ((filterEvent_only s1 src).rng (by decide)))
  split
  · exact hf.trans (raise_mayEndRaw _ _)
  · exact hf

/-- A retired cluster stays as it is when raw-sample mode ends. -/
theorem MayEndRaw.clusterAt_retired (h : MayEndRaw s t) {c : Nat} (hc : (s.clusterAt c).st = .retired) : t.clusterAt c = s.clusterAt c := by
  obtain h | h := h
  · exact congrArg (fun r : Rng => tget ({} : Cluster) c r.clusters) h
  · have ht : t.clusterAt c = s.rawOff.clusterAt c := congrArg (fun r : Rng => tget ({} : Cluster) c r.clusters) h
    rw [ht]
    by_cases hraw : s.rng.raw = false
    · rw [State.rawOff, if_pos hraw]
    · have hoff := clusterAt_mapClusters s c (t := s.rawOff) (f := fun x => { x with st := if x.st = .raw then .startup else x.st })
        (by rw [State.rawOff, if_neg hraw]) rfl
      have hne : (s.clusterAt c).st ≠ .raw := by simp [hc]
      rw [hoff, if_neg hne]

end Alarms

/-! ### Clusters (R256 to R260) -/

section Clusters

variable {s : State} {n : Nat} {h : HealthData} {b : Bytes} {rest : List Bytes}

/-- R258: RNG_FATAL discards the held blocks and leaves each retired cluster retired, with its count. -/
theorem rngFatal_retired (hc : (s.clusterAt n).st = .retired) :
    (s.rngFatal.clusterAt n).st = .retired ∧ (s.rngFatal.clusterAt n).consec = (s.clusterAt n).consec := by
  unfold State.rngFatal
  split
  · exact ⟨hc, rfl⟩
  · extract_lets r s1
    have h1 : s1.clusterAt n = { s.clusterAt n with held := [] } := clusterAt_mapClusters s n (f := fun x => { x with held := [] }) rfl rfl
    have hst : (s1.clusterAt n).st = .retired := by rw [h1]; exact hc
    rw [(alarmEvent_mayEndRaw s1 20).clusterAt_retired hst, h1]
    exact ⟨hc, rfl⟩

theorem exec_settleEnd (hst : (s.clusterAt n).st = .settle) :
    exec (.settleEnd n) s = .next (s.setCluster n { s.clusterAt n with st := .startup }) := congrArg Host.Outcome.next (if_pos hst)

theorem exec_startupTestEnd (hst : (s.clusterAt n).st = .startup) (hl : 1024 ≤ h.samples.length) (hp : s.healthCause h = 0) :
    exec (.startupTestEnd n h) s = .next (s.setCluster n { s.clusterAt n with st := .collect, passed := true }) :=
  congrArg Host.Outcome.next (if_pos ⟨hst, hl, hp⟩)

theorem exec_collectionEnd (hst : (s.clusterAt n).st = .collect) (hl : 768 ≤ h.samples.length) (hp : s.healthCause h = 0) :
    exec (.collectionEnd n h) s = .next (s.setCluster n { s.clusterAt n with
      cond := (s.clusterAt n).cond ++ [Config.shake256 (h.samples.drop (h.samples.length - 768)) 64] }) :=
  congrArg Host.Outcome.next (if_pos ⟨hst, hl, hp⟩)

theorem exec_seedBlockReady (hb : (s.clusterAt n).cond = b :: rest) :
    exec (.seedBlockReady n) s = .next ((s.setCluster n { s.clusterAt n with cond := rest }).offer n b) := by
  change Host.Outcome.next _ = _
  rw [hb]

/-- R260: a ready block that no DRBG waits for is held. -/
theorem offer_held (hf : s.rng.fatal = false) (hr : s.rng.raw = false) (ht : s.blockTarget n = none) :
    s.offer n b = s.setCluster n { s.clusterAt n with
      held := (if (s.clusterAt n).held.length < 2 then (s.clusterAt n).held else (s.clusterAt n).held.drop 1) ++ [b] } := by
  rw [State.offer, if_neg (by simp [hf, hr]), ht]
  dsimp only
  split <;> rfl

/-- R260: a ready block goes to the DRBG that waits. -/
theorem offer_delivered {d : Nat} (hf : s.rng.fatal = false) (hr : s.rng.raw = false) (ht : s.blockTarget n = some d) :
    s.offer n b = s.deliver n d b := by
  rw [State.offer, if_neg (by simp [hf, hr]), ht]

/-- R257, R261: a delivered block is under seeding and ends its cluster's failures in a row. -/
theorem deliver_spec (s : State) (c d : Nat) (b : Bytes) :
    let t := s.deliver c d b
    t.drbgAt d = { s.drbgAt d with seeding := some b, waits := false } ∧ t.clusterAt c = { s.clusterAt c with consec := 0 } ∧
      t.rng.accepted = s.rng.accepted + 1 ∧ Only [.rng] s t := by
  let s1 := s.setCluster c { s.clusterAt c with consec := 0 }
  let s2 := s1.setDrbg d { s1.drbgAt d with seeding := some b, waits := false }
  exact ⟨State.drbgAt_setDrbg s1 d _, State.clusterAt_setCluster s c _, rfl,
    (setCluster_only s c _).trans ((setDrbg_only s1 d _).trans (only_rng s2 _))⟩

theorem seedBlockReady_held (hb : (s.clusterAt n).cond = b :: rest) (hf : s.rng.fatal = false) (hr : s.rng.raw = false)
    (ht : s.blockTarget n = none) :
    let x := s.clusterAt n
    Completes (.seedBlockReady n) s fun t =>
      t.clusterAt n = { x with cond := rest, held := (if x.held.length < 2 then x.held else x.held.drop 1) ++ [b] } ∧ Only [.rng] s t := by
  intro x
  let s1 := s.setCluster n { x with cond := rest }
  refine ⟨_, (exec_seedBlockReady hb).trans (congrArg Host.Outcome.next (offer_held (s := s1) hf hr ht)), ?_,
    (setCluster_only s n _).trans (setCluster_only s1 n _)⟩
  simp [s1]

theorem seedBlockReady_delivered (hb : (s.clusterAt n).cond = b :: rest) (hf : s.rng.fatal = false) (hr : s.rng.raw = false) (d : Nat)
    (ht : s.blockTarget n = some d) :
    Completes (.seedBlockReady n) s fun t =>
      t.drbgAt d = { s.drbgAt d with seeding := some b, waits := false } ∧
      t.clusterAt n = { s.clusterAt n with cond := rest, consec := 0 } ∧ t.rng.accepted = s.rng.accepted + 1 ∧ Only [.rng] s t := by
  let s1 := s.setCluster n { s.clusterAt n with cond := rest }
  obtain ⟨hseeding, hcount, haccepted, honly⟩ := deliver_spec s1 n d b
  refine ⟨_, (exec_seedBlockReady hb).trans (congrArg Host.Outcome.next (offer_delivered (s := s1) hf hr ht)), hseeding, ?_, haccepted,
    (setCluster_only s n _).trans honly⟩
  rw [hcount, State.clusterAt_setCluster]

theorem st_ne_raw (hst : (s.clusterAt n).st = .startup ∨ (s.clusterAt n).st = .collect) : (s.clusterAt n).st ≠ .raw := fun hr => by
  simp [hr] at hst

/-- R257: a failure that is neither in raw-sample mode nor the third in a row starts the cluster up again. -/
theorem healthTestFail_restarts (hp : s.healthCause h ≠ 0) (hst : (s.clusterAt n).st = .startup ∨ (s.clusterAt n).st = .collect)
    (hc : (s.clusterAt n).consec < 2) :
    let x := s.clusterAt n
    Completes (.healthTestFail n h) s fun t =>
      t.clusterAt n = { x with fails := satAdd 32 x.fails 1, cause := s.healthCause h, consec := x.consec + 1, st := .startup } ∧
      t.rng.discarded = s.rng.discarded + 1 ∧ (∀ m, m ≠ n → t.clusterAt m = s.clusterAt m) ∧ Only [.rng] s t := by
  intro x
  let s1 : State := { s with rng := { s.rng with discarded := s.rng.discarded + 1 } }
  have hfew : ¬ 3 ≤ x.consec + 1 := fun hm => Nat.not_le.2 hc (Nat.le_of_succ_le_succ hm)
  refine ⟨s1.setCluster n _, congrArg Host.Outcome.next ((if_neg hp).trans ((if_neg (st_ne_raw hst)).trans ((if_pos hst).trans (if_neg hfew)))),
    State.clusterAt_setCluster s1 n _, rfl, fun m hm => State.clusterAt_setCluster_ne s1 n m _ hm,
    (only_rng s s1.rng).trans (setCluster_only s1 n _)⟩

/-- R257, R258: the third failure in a row retires the cluster, whatever the alarms it raises do. -/
theorem healthTestFail_retires (hp : s.healthCause h ≠ 0) (hst : (s.clusterAt n).st = .startup ∨ (s.clusterAt n).st = .collect)
    (hc : (s.clusterAt n).consec = 2) :
    Completes (.healthTestFail n h) s fun t => (t.clusterAt n).st = .retired ∧ (t.clusterAt n).consec = 3 := by
  let x := s.clusterAt n
  let s1 : State := { s with rng := { s.rng with discarded := s.rng.discarded + 1 } }
  let s2 := s1.setCluster n { x with fails := satAdd 32 x.fails 1, cause := s.healthCause h, consec := 3, st := .retired }
  have hthird : 3 ≤ x.consec + 1 := Nat.succ_le_succ (Nat.le_of_eq hc.symm)
  have h2 : (s2.clusterAt n).st = .retired ∧ (s2.clusterAt n).consec = 3 := by simp [s2]
  have halarm : (s2.alarmEvent 19).clusterAt n = s2.clusterAt n := (alarmEvent_mayEndRaw s2 19).clusterAt_retired h2.1
  have hstep : exec (.healthTestFail n h) s =
      .next (if (s2.alarmEvent 19).healthy < 12 then (s2.alarmEvent 19).rngFatal else s2.alarmEvent 19) :=
    congrArg Host.Outcome.next ((if_neg hp).trans ((if_neg (st_ne_raw hst)).trans ((if_pos hst).trans (if_pos hthird))))
  rw [← halarm] at h2
  obtain ⟨hretired, hcount⟩ := h2
  by_cases hfew : (s2.alarmEvent 19).healthy < 12
  · obtain ⟨hretired', hcount'⟩ := rngFatal_retired hretired
    exact ⟨_, hstep.trans (congrArg Host.Outcome.next (if_pos hfew)), hretired', hcount'.trans hcount⟩
  · exact ⟨_, hstep.trans (congrArg Host.Outcome.next (if_neg hfew)), hretired, hcount⟩

/-- R266: in raw-sample mode a failure is only counted. -/
theorem healthTestFail_raw (hp : s.healthCause h ≠ 0) (hst : (s.clusterAt n).st = .raw) :
    exec (.healthTestFail n h) s =
      .next (s.setCluster n { s.clusterAt n with fails := satAdd 32 (s.clusterAt n).fails 1, cause := s.healthCause h }) :=
  congrArg Host.Outcome.next ((if_neg hp).trans (if_pos hst))

end Clusters

/-! ### Raw-sample mode (R266) -/

section Raw

variable {s : State} {p : Path}

theorem exec_rawSourceSelect (hr : s.rng.raw = true) (v : W64) : exec (.rawSourceSelect v) s = .next { s with rng := { s.rng with
    rawCluster := wbits 7 4 v, rawOsc := wbits 3 0 v, rawBuf := [], rawDropped := 0, rawEmpty := false } } :=
  congrArg Host.Outcome.next (if_pos hr)

theorem exec_rawBufferFeed (hr : s.rng.raw = true) (ho : s.rng.rawOsc ≤ 8) (v : W64) :
    exec (.rawBufferFeed v) s = .next { s with rng := (if s.rng.rawBuf.length < 1024
      then { s.rng with rawBuf := s.rng.rawBuf ++ [v] } else { s.rng with rawDropped := satAdd 32 s.rng.rawDropped 1 }) } := by
  refine congrArg Host.Outcome.next ((if_neg (by simp [hr, ho])).trans ?_)
  split <;> rfl

/-- A read of RNG_RAW_DATA on a path that reads the RNG's block answers what leaves the buffer. -/
theorem exec_rawDataRead (ha : s.answers p = true) (hv : s.reads p 0x7 = true) :
    exec (.rawDataRead p) s = .next (s.takeRaw.2.emit (.regData p 0x70808 s.takeRaw.1)) :=
  congrArg Host.Outcome.next ((if_neg (by simp [ha])).trans (if_pos hv))

theorem takeRaw_cons {w : W64} {rest : List W64} (hb : s.rng.rawBuf = w :: rest) :
    s.takeRaw = (w, { s with rng := { s.rng with rawBuf := rest } }) := by
  rw [State.takeRaw, hb]

theorem takeRaw_nil (hb : s.rng.rawBuf = []) : s.takeRaw = (0, { s with rng := { s.rng with rawEmpty := true } }) := by
  rw [State.takeRaw, hb]

end Raw

/-- Settles O37: each command by the state of its cluster; a retired cluster stays so through the alarms that its retirement raises. -/
theorem entropyClustersWork : Obligations.EntropyClustersWork := by
  unfold Obligations.EntropyClustersWork
  refine ⟨fun s n => ⟨exec_settleEnd, fun h => exec_startupTestEnd, fun h => exec_collectionEnd,
    fun b rest hb hf hr => ⟨seedBlockReady_held hb hf hr, seedBlockReady_delivered hb hf hr⟩, fun h => healthTestFail_restarts,
    fun h hp hst => healthTestFail_retires hp (.inr hst), fun h => healthTestFail_raw⟩,
    fun s v p hr => ⟨exec_rawSourceSelect hr v, fun ho => exec_rawBufferFeed hr ho v, fun w rest ha hv hb => ?_, fun ha hv hb => ?_⟩⟩
  · rw [exec_rawDataRead ha hv, takeRaw_cons hb]
    rfl
  · rw [exec_rawDataRead ha hv, takeRaw_nil hb]
    rfl

/-! ### DRBGs (R261 to R264) -/

section Drbgs

variable {s : State} {n : Nat}

theorem exec_drbgSeeded {b : Bytes} (hb : (s.drbgAt n).seeding = some b) :
    let d := s.drbgAt n
    exec (.drbgSeeded n) s = .next (s.setDrbg n { d with
      st := .serving
      v := if d.st = .unseeded then Config.drbgInstantiate (slice 0 48 b) (s.personalisation n) else Config.drbgReseed d.v (slice 0 48 b)
      seeding := none, requests := 0, seedings := (d.seedings + 1) % 2 ^ 32, seededAt := s.now, waits := false }) := by
  intro d
  change Host.Outcome.next _ = _
  rw [hb]

/-- R260: where no cluster holds a block, a DRBG that begins to wait goes on waiting. -/
theorem drbgWaits_none (h : ∀ c, (s.clusterAt c).held = []) (n : Nat) : s.drbgWaits n = s.setDrbg n { s.drbgAt n with waits := true } := by
  simp [State.drbgWaits, h]

/-- R262: at either limit a SERVING DRBG is DUE, and begins to wait. -/
theorem exec_drbgDue (hst : (s.drbgAt n).st = .serving)
    (hd : 65536 ≤ (s.drbgAt n).requests ∨ (s.drbgAt n).seededAt + 100000000 ≤ s.now) :
    exec (.drbgDue n) s = .next ((s.setDrbg n { s.drbgAt n with st := .due }).drbgWaits n) := congrArg Host.Outcome.next (if_pos ⟨hst, hd⟩)

theorem exec_drbgBlocked (hst : (s.drbgAt n).st = .due)
    (hd : 131072 ≤ (s.drbgAt n).requests ∨ (s.drbgAt n).seededAt + 200000000 ≤ s.now) :
    exec (.drbgBlocked n) s = .next (s.setDrbg n { s.drbgAt n with st := .blocked }) := congrArg Host.Outcome.next (if_pos ⟨hst, hd⟩)

/-- Below both limits a DRBG does not fall due. -/
theorem exec_drbgDue_early (hr : (s.drbgAt n).requests < 65536) (ht : s.now < (s.drbgAt n).seededAt + 100000000) :
    exec (.drbgDue n) s = .next s :=
  congrArg Host.Outcome.next (if_neg fun h => h.2.elim (Nat.not_le.2 hr) (Nat.not_le.2 ht))

/-- R262, R266: a DRBG that serves is not RAW_BLOCKED. -/
theorem st_ne_rawBlocked_of_serves (h : s.serves n = true) : (s.drbgAt n).st ≠ .rawBlocked := fun hst => by
  simp [State.serves, hst] at h

/-- R263: a draw from a home DRBG that serves gives its bytes, advances its state and counts. -/
theorem draw_of_serves {k : Nat} (h : s.serves (k % 64) = true) (n : Nat) :
    let d := s.drbgAt (k % 64)
    s.draw k n = (.bytes (fixLen n (Config.drbgGenerate d.v n)),
      s.setDrbg (k % 64) { d with v := Config.drbgNext d.v n, requests := d.requests + 1 }) :=
  (if_neg (st_ne_rawBlocked_of_serves h)).trans (if_pos h)

/-- R263, R266: a draw from a home DRBG that does not serve changes nothing and gives no bytes. -/
theorem draw_of_not_serves {k : Nat} (h : s.serves (k % 64) = false) (n : Nat) :
    s.draw k n = (.again, s) ∨ s.draw k n = (.rawBlocked, s) := by
  by_cases hst : (s.drbgAt (k % 64)).st = .rawBlocked
  · exact .inr (if_pos hst)
  · exact .inl ((if_neg hst).trans (if_neg (by simp [homeDrbg, h])))

/-- What a request leaves in its core, by how its draw ends. -/
def Draw.words : Draw → List TWord
  | .bytes bs => wordsOf bs .secret
  | .again => [notValid]
  | .rawBlocked => [notValid]

/-- R261, R263: a request of a length that one generate call serves leaves the words of its draw in the core. -/
theorem exec_drbgRequest (h0 : 0 < n) (hn : n ≤ 65536) (k : Nat) :
    let r := s.draw k n
    exec (.drbgRequest k n) s = .next (r.2.setCore k { r.2.coreAt k with drbg := r.1.words }) := by
  refine congrArg Host.Outcome.next ((if_neg (by omega)).trans ?_)
  dsimp only
  cases (s.draw k n).1 <;> rfl

theorem exec_rngStartupComplete (hr : s.rng.ready = false) (hp : 12 ≤ clusterNumbers.countP fun c => (s.clusterAt c).passed)
    (hs : ∀ d, d < 64 → (s.drbgAt d).st = .serving) :
    exec .rngStartupComplete s = .next { s with rng := { s.rng with ready := true } } := by
  have hall : (drbgNumbers.all fun d => decide ((s.drbgAt d).st = .serving)) = true :=
    List.all_eq_true.2 fun d hd => decide_eq_true (hs d (List.mem_range.1 hd))
  exact congrArg Host.Outcome.next (if_pos ⟨hr, hp, hall⟩)

end Drbgs

/-- Settles O38: seeding, the two limits of R262 on either side, a request by whether its home DRBG serves, and the start-up condition. -/
theorem drbgsSeedAndServe : Obligations.DrbgsSeedAndServe := by
  unfold Obligations.DrbgsSeedAndServe
  refine ⟨fun s n b => exec_drbgSeeded, fun s n => ⟨fun hst hd hheld => ?_, fun _ => exec_drbgDue_early, exec_drbgBlocked⟩,
    fun s k n => ?_, fun s => exec_rngStartupComplete⟩
  · rw [exec_drbgDue hst hd, drbgWaits_none (by simpa using hheld)]
    simp
  · intro d h0 hn
    refine ⟨fun hserves => ⟨_, exec_drbgRequest h0 hn k, ?_⟩, fun hserves => ?_⟩
    · rw [draw_of_serves hserves]
      let s1 := s.setDrbg (k % 64) { d with v := Config.drbgNext d.v n, requests := d.requests + 1 }
      refine ⟨congrArg Core.drbg (State.coreAt_setCore s1 k _), State.drbgAt_setDrbg s _ _, ?_⟩
      exact ((setDrbg_only s _ _).mono (by simp)).trans ((only_cores s1 _).mono (by simp))
    · rw [exec_drbgRequest h0 hn]
      obtain hdraw | hdraw := draw_of_not_serves hserves n <;> rw [hdraw] <;> rfl

end Sys2Proof.Machine

/-! SUPPORT. The block as a whole: what every operation leaves of the queue of commands and of the on-chip SRAM. One frame lemma an operation,
in the order of the model's files; each command's meaning is read through `State.via`, the state that it leaves. All but a few keep the SRAM
as it is (`Kept`); those that write or clear it keep its canonical form (`Steady`). -/
namespace Sys2Proof.Machine

/-! ### Frames -/

/-- The queue of commands and the on-chip SRAM stay as they are. -/
@[simp] abbrev Kept (s t : State) : Prop := t.pending = s.pending ∧ t.sram = s.sram

/-- The queue of commands stays as it is, and the on-chip SRAM keeps its canonical form. -/
def Steady (s t : State) : Prop := t.pending = s.pending ∧ (MemoryInv s → MemoryInv t)

theorem Kept.refl (s : State) : Kept s s := ⟨rfl, rfl⟩

theorem Kept.trans {s t u : State} (h : Kept s t) (k : Kept t u) : Kept s u := ⟨k.1.trans h.1, k.2.trans h.2⟩

/-- An operation whose frame names neither the queue nor the SRAM keeps both. -/
theorem Only.kept {ps : List Part} {s t : State} (h : Only ps s t) (hp : .pending ∉ ps) (hm : .sram ∉ ps) : Kept s t :=
  ⟨h .pending hp, h .sram hm⟩

theorem Kept.foldl {f : State → α → State} (h : ∀ s a, Kept s (f s a)) (as : List α) (s : State) : Kept s (as.foldl f s) := by
  induction as generalizing s with
  | nil => exact Kept.refl s
  | cons a as ih => exact (h s a).trans (ih _)

@[simp] theorem pending_foldl {f : State → α → State} (h : ∀ s a, (f s a).pending = s.pending) (as : List α) (s : State) :
    (as.foldl f s).pending = s.pending := by
  induction as generalizing s with
  | nil => rfl
  | cons a as ih => exact (ih _).trans (h s a)

@[simp] theorem sram_foldl {f : State → α → State} (h : ∀ s a, (f s a).sram = s.sram) (as : List α) (s : State) :
    (as.foldl f s).sram = s.sram := by
  induction as generalizing s with
  | nil => rfl
  | cons a as ih => exact (ih _).trans (h s a)

@[simp] theorem pending_ite (c : Prop) [Decidable c] (a b : State) :
    (if c then a else b).pending = if c then a.pending else b.pending := apply_ite ..

@[simp] theorem sram_ite (c : Prop) [Decidable c] (a b : State) :
    (if c then a else b).sram = if c then a.sram else b.sram := apply_ite ..

@[simp] theorem Answer.st_ite (c : Prop) [Decidable c] (a b : Answer) : (if c then a else b).st = if c then a.st else b.st := apply_ite ..

theorem Kept.steady {s t : State} (h : Kept s t) : Steady s t :=
  ⟨h.1, fun hs => (congrArg (Memory.wf · = true) h.2).mpr hs⟩

/-- A cleared SRAM has the canonical form. -/
theorem Steady.of_nil {s t : State} (hp : t.pending = s.pending) (hm : t.sram = []) : Steady s t :=
  ⟨hp, fun _ => (congrArg (Memory.wf · = true) hm).mpr rfl⟩

theorem Steady.trans {s t u : State} (h : Steady s t) (k : Steady t u) : Steady s u := ⟨k.1.trans h.1, k.2 ∘ h.2⟩


/-! ### Shared operations -/

@[simp] theorem State.setLane_kept (s : State) (n : Nat) (l : Lane) : Kept s (s.setLane n l) := ⟨rfl, rfl⟩

@[simp] theorem State.setEng_kept (s : State) (e : Nat) (g : Eng) : Kept s (s.setEng e g) := ⟨rfl, rfl⟩

@[simp] theorem State.setDom_kept (s : State) (d : Nat) (x : Domain) : Kept s (s.setDom d x) := ⟨rfl, rfl⟩


@[simp] theorem State.freshNat_kept (s : State) : Kept s (s.freshNat).2 := ⟨rfl, rfl⟩

@[simp] theorem State.sendMsix_kept (s : State) (fn vec : Nat) : Kept s (s.sendMsix fn vec) := by
  unfold State.sendMsix
  split <;> simp

@[simp] theorem State.refillDue_kept (s : State) : Kept s s.refillDue :=
  (refillDue_only s).kept (by decide) (by decide)

@[simp] theorem State.logRec_kept (s : State) (k : LogKind) (sub tenant unit : Nat) (body : List W64) :
    Kept s (s.logRec k sub tenant unit body) :=
  (logRec_only s k sub tenant unit body).kept (by decide) (by decide)

@[simp] theorem State.logEvent_kept (s : State) (k : LogKind) (sub a b : Nat) : Kept s (s.logEvent k sub a b) :=
  (logEvent_only s k sub a b).kept (by decide) (by decide)

@[simp] theorem State.logOn_kept (s : State) (p : Path) (addr what : Nat) : Kept s (s.logOn p addr what) :=
  (logOn_only s p addr what).kept (by decide) (by decide)

@[simp] theorem State.logAccess_kept (s : State) (addr what : Nat) : Kept s (s.logAccess addr what) :=
  (logAccess_only s addr what).kept (by decide) (by decide)

@[simp] theorem State.refused_kept (s : State) (b addr what : Nat) : Kept s (s.refused b addr what) :=
  (refused_only s b addr what).kept (by decide) (by decide)

@[simp] theorem State.sentryAdd_kept (s : State) (kind source level taken : Nat) (isProtected reported : Bool) (events : Nat) :
    Kept s (s.sentryAdd kind source level taken isProtected reported events) :=
  (sentryAdd_only s kind source level taken isProtected reported events).kept (by decide) (by decide)

@[simp] theorem State.eraseKeel_kept (s : State) : Kept s s.eraseKeel :=
  (eraseKeel_only s).kept (by decide) (by decide)

@[simp] theorem State.toMode_kept (s : State) (m : Mode) : Kept s (s.toMode m) :=
  (toMode_only s m).kept (by decide) (by decide)

@[simp] theorem State.rawOff_kept (s : State) : Kept s s.rawOff :=
  (rawOff_only s).kept (by decide) (by decide)

@[simp] theorem State.enterHalt_kept (s : State) (reason step code : Nat) : Kept s (s.enterHalt reason step code) :=
  (enterHalt_only s reason step code).kept (by decide) (by decide)

@[simp] theorem State.raise_kept (s : State) (srcs : List (Nat × Nat)) : Kept s (s.raise srcs) :=
  (raise_only s srcs).kept (by decide) (by decide)

@[simp] theorem State.filterEvent_kept (s : State) (src : Nat) : Kept s (s.filterEvent src).1 :=
  (filterEvent_only s src).kept (by decide) (by decide)

@[simp] theorem State.alarmEvent_kept (s : State) (src : Nat) : Kept s (s.alarmEvent src) :=
  (alarmEvent_only s src).kept (by decide) (by decide)

@[simp] theorem State.integrity_kept (s : State) (cause : BitVec 3) (path addr kd : Nat) : Kept s (s.integrity cause path addr kd) :=
  (integrity_only s cause path addr kd).kept (by decide) (by decide)

@[simp] theorem State.report_kept (s : State) (sub addr kd region master : Nat) (kind : Access) :
    Kept s (s.report sub addr kd region master kind) := by
  simp [State.report]

@[simp] theorem State.violation_kept (s : State) (addr kd region master : Nat) (kind : Access) :
    Kept s (s.violation addr kd region master kind) :=
  (violation_only s addr kd region master kind).kept (by decide) (by decide)

/-! ### Lines of DRAM -/

@[simp] theorem State.countEcc_kept (s : State) (r : DramReturn) : Kept s (s.countEcc r) :=
  (countEcc_only s r).kept (by decide) (by decide)

@[simp] theorem State.bump_kept (s : State) (k j : Nat) (r : DramReturn) : Kept s (s.bump k j r).2 :=
  (bump_only s k j r).kept (by decide) (by decide)

@[simp] theorem State.bring_kept (r : DramReturn) (n : Nat) (m : List Nat) (i : Nat) (s : State) : Kept s (State.bring r n m i s).2 :=
  (bring_only r n m i s).kept (by decide) (by decide)

@[simp] theorem State.walk_kept (s : State) (half i : Nat) (r : DramReturn) : Kept s (s.walk half i r).2 :=
  (walk_only s half i r).kept (by decide) (by decide)

@[simp] theorem State.writeBackBlock_kept (s : State) (k : Nat) : Kept s (s.writeBackBlock k) := by simp [State.writeBackBlock]

@[simp] theorem State.writeBackAll_kept (s : State) : Kept s s.writeBackAll := by simp [State.writeBackAll]

@[simp] theorem State.getLine_kept (s : State) (off : Nat) (r : DramReturn) : Kept s (s.getLine off r).2 :=
  (getLine_only s off r).kept (by decide) (by decide)

@[simp] theorem State.putLine_kept (s : State) (kd off : Nat) (ws : List TWord) (r : DramReturn) : Kept s (s.putLine kd off ws r).2 :=
  (putLine_only s kd off ws r).kept (by decide) (by decide)

@[simp] theorem State.endWrite_kept (kd off : Nat) (x : Option (BitVec 3) × State) : Kept x.2 (State.endWrite kd off x) :=
  (endWrite_only kd off x).kept (by decide) (by decide)

@[simp] theorem State.unitRead_kept (kd : Nat) (r : DramReturn) (n : Nat) (m : Nat) (s : State) : Kept s (State.unitRead kd r n m s).2 :=
  (unitRead_only kd r n m s).kept (by decide) (by decide)

@[simp] theorem State.unitPut_kept (s : State) (kd off : Nat) (ws : List TWord) (r : DramReturn) : Kept s (s.unitPut kd off ws r) :=
  (unitPut_only s kd off ws r).kept (by decide) (by decide)

/-! ### Work of units -/

@[simp] theorem State.pumpLink_kept (l : Nat) (n : Nat) (s : State) : Kept s (State.pumpLink l n s) :=
  (pumpLink_only l n s).kept (by decide) (by decide)

@[simp] theorem State.queueOn_kept (s : State) (l : Nat) (m : LinkMsg) : Kept s (s.queueOn l m) := by simp [State.queueOn]

@[simp] theorem State.sendOn_kept (s : State) (l typ vc dst : Nat) (payload : Bytes) : Kept s (s.sendOn l typ vc dst payload) :=
  (sendOn_only s l typ vc dst payload).kept (by decide) (by decide)

@[simp] theorem State.sendTo_kept (s : State) (typ vc dst : Nat) (payload : Bytes) : Kept s (s.sendTo typ vc dst payload) :=
  (sendTo_only s typ vc dst payload).kept (by decide) (by decide)

@[simp] theorem State.spillLine_kept (s : State) (i : Nat) (e : Entry) : Kept s (s.spillLine i e) :=
  (spillLine_only s i e).kept (by decide) (by decide)

@[simp] theorem State.enqueueGeneral_kept (s : State) (i : Nat) (e : Entry) : Kept s (s.enqueueGeneral i e) := by
  unfold State.enqueueGeneral
  dsimp only
  repeat' split
  all_goals simp

@[simp] theorem State.enqueue_kept (s : State) (i : Nat) (e : Entry) : Kept s (s.enqueue i e) := by
  unfold State.enqueue
  split <;> simp

@[simp] theorem State.moveReserved_kept (s : State) (f : Nat) : Kept s (s.moveReserved f) := by
  unfold State.moveReserved
  split <;> simp

@[simp] theorem State.release_kept (s : State) (i : Nat) (e : Entry) (c : Comp) : Kept s (s.release i e c) := by
  unfold State.release
  split <;> simp

@[simp] theorem State.releaseRun_kept (f n : Nat) (s : State) : Kept s (State.releaseRun f n s) := by
  induction n generalizing s with
  | zero => exact Kept.refl s
  | succ n ih =>
    unfold State.releaseRun
    repeat' split
    · exact Kept.refl s
    · exact Kept.refl s
    · simp [ih]

@[simp] theorem State.finish_kept (s : State) (i : Nat) (c : Comp) (out : Option Bytes) : Kept s (s.finish i c out) := by
  unfold State.finish
  dsimp only
  repeat' split
  all_goals simp

@[simp] theorem State.failBarge_kept (s : State) (i : Nat) (status : Nat) : Kept s (s.failBarge i status) := by
  unfold State.failBarge
  split <;> simp

/-! ### Roots -/

@[simp] theorem State.setSlot_kept (s : State) (i : Nat) (x : Slot) : Kept s (s.setSlot i x) := ⟨rfl, rfl⟩

@[simp] theorem State.logFuse_kept (s : State) (field : Nat) : Kept s (s.logFuse field) := by simp [State.logFuse]

@[simp] theorem State.programSlot_kept (s : State) (i : Nat) (v : Bytes) : Kept s (s.programSlot i v) := by simp [State.programSlot]

@[simp] theorem State.retireSlot_kept (s : State) (i : Nat) : Kept s (s.retireSlot i) := by simp [State.retireSlot]

@[simp] theorem State.extend_kept (s : State) (i : Nat) (item : Bytes) : Kept s (s.extend i item) := ⟨rfl, rfl⟩

@[simp] theorem State.zeroRoots_kept (s : State) : Kept s s.zeroRoots := ⟨rfl, rfl⟩

@[simp] theorem State.eraseSequence_kept (s : State) : Kept s s.eraseSequence := ⟨rfl, rfl⟩

/-! ### Gates -/

@[simp] theorem State.stopJob_kept (s : State) (k status : Nat) : Kept s (s.stopJob k status) :=
  (stopJob_only s k status).kept (by decide) (by decide)

@[simp] theorem State.refuse_kept (s : State) (g : Nat) (k : Access) (bad : Nat × Option Nat) : Kept s (s.refuse g k bad) :=
  (refuse_only s g k bad).kept (by decide) (by decide)

@[simp] theorem State.reportMsix_kept (s : State) : Kept s s.reportMsix := by simp [State.reportMsix]

@[simp] theorem State.egressZero_kept (s : State) (port : Nat) (as : List Nat) : Kept s (s.egressZero port as) := by
  induction as generalizing s with
  | nil => exact Kept.refl s
  | cons a as ih => simp [State.egressZero, ih]

@[simp] theorem State.startBarrier_kept (s : State) (gate : Nat) : Kept s (s.startBarrier gate) := ⟨rfl, rfl⟩

@[simp] theorem State.slotReturned_kept (s : State) (ring : Nat) : Kept s (s.slotReturned ring) :=
  (slotReturned_only s ring).kept (by decide) (by decide)

@[simp] theorem execGateBarrier_kept (gate : Nat) (s : State) : Kept s (s.via (execGateBarrier gate)) := by
  unfold execGateBarrier State.via
  dsimp only
  repeat' split
  all_goals simp

@[simp] theorem State.restarted_kept (s : State) : Kept s s.restarted := by simp [State.restarted]

@[simp] theorem execGateBarrierDone_kept (gate : Nat) (s : State) : Kept s (s.via (execGateBarrierDone gate)) := by
  unfold execGateBarrierDone State.via
  dsimp only
  repeat' split
  all_goals simp

@[simp] theorem State.countHeld_kept (s : State) (ws : List TWord) : Kept s (s.countHeld ws) := by simp [State.countHeld]

@[simp] theorem State.putSram_pending (s : State) (addr : Nat) (ws : List TWord) : (s.putSram addr ws).pending = s.pending := by
  induction ws generalizing s addr with
  | nil => rfl
  | cons w ws ih => exact ih _ _

theorem Memory.wf_filter {m : Tbl TWord} (h : Memory.wf m = true) (p : Nat × TWord → Bool) : Memory.wf (m.filter p) = true := by
  rw [Memory.wf_iff, Tbl.wf_iff] at *
  exact ⟨h.1.filter p, fun x hx => h.2 x (List.mem_of_mem_filter hx)⟩

theorem execDeclass_steady (core fetch src dst n : Nat) (cls : SecClass) (ecc : List Nat) (s : State) :
    Steady s (s.via (execDeclass core fetch src dst n cls ecc)) := by
  unfold execDeclass State.via
  dsimp only
  repeat' split
  case h_2 => exact ⟨State.putSram_pending _ _ _, fun h => putSram_wf _ s dst h⟩
  all_goals exact Kept.steady (by simp)

/-! ### Keys -/

@[simp] theorem State.bankAccess_kept (s : State) (m : Nat) : Kept s (s.bankAccess m) := ⟨rfl, rfl⟩

@[simp] theorem State.cachePut_kept (s : State) (x : CacheRec) : Kept s (s.cachePut x) := by
  unfold State.cachePut
  dsimp only
  repeat' split
  all_goals simp

@[simp] theorem State.storeUses_kept (s : State) (r : KRec) : Kept s (s.storeUses r) := by
  unfold State.storeUses
  split <;> simp

theorem State.cacheFill_kept (s : State) (r : KRec) (leased : Bool) : ∀ t, s.cacheFill r leased = some t → Kept s t := by
  unfold State.cacheFill
  dsimp only
  repeat' split
  all_goals simp

theorem State.writeBack_kept {s t : State} {m : Mooring} (h : s.writeBack m = some t) : Kept s t := by
  unfold State.writeBack at h
  split at h
  · cases h; simp
  · exact State.cacheFill_kept s _ _ t h

@[simp] theorem State.setDrive_kept (s : State) (d : Nat) (x : Drive) : Kept s (s.setDrive d x) := by simp [State.setDrive]

@[simp] theorem State.setStage_kept (s : State) (h : Nat) (st : PageStage) : Kept s (s.setStage h st) := ⟨rfl, rfl⟩

@[simp] theorem State.readSector_kept (s : State) (h n lba : Nat) (avoid tried : Option Nat) : Kept s (s.readSector h n lba avoid tried) := by
  unfold State.readSector
  split <;> simp

@[simp] theorem State.reissueReads_kept (s : State) (d : Nat) : Kept s (s.reissueReads d) := by
  refine Kept.foldl (fun s p => ?_) _ s
  repeat' split
  all_goals simp

@[simp] theorem State.resendReads_kept (s : State) : Kept s s.resendReads := by
  refine Kept.foldl (fun s p => ?_) _ s
  split <;> simp

@[simp] theorem State.startPageIn_kept (s : State) (h : Nat) : Kept s (s.startPageIn h) := by
  unfold State.startPageIn
  split <;> simp

@[simp] theorem State.startWaiting_kept (s : State) : Kept s s.startWaiting := by simp [State.startWaiting]

@[simp] theorem State.startPageIns_kept (s : State) (hs : List Nat) : Kept s (s.startPageIns hs) := by simp [State.startPageIns]

theorem State.evictMooring_kept {s t : State} {m : Nat} {old : Mooring} (h : s.evictMooring m old = some t) : Kept s t := by
  obtain ⟨u, hu, rfl⟩ := Option.map_eq_some_iff.1 h
  simpa using State.writeBack_kept hu

theorem State.install_kept {s t : State} {r : KRec} {leased : Bool} (h : s.install r leased = some t) : Kept s t := by
  unfold State.install at h
  split at h
  · cases h
  · obtain ⟨u, hu, rfl⟩ := Option.map_eq_some_iff.1 h
    have hk : Kept s u := by
      split at hu
      · cases hu; exact Kept.refl s
      · exact State.evictMooring_kept hu
    simpa using hk

theorem State.installAll_kept {s t : State} {rs : List (KRec × Bool)} (h : s.installAll rs = some t) : Kept s t := by
  induction rs generalizing s with
  | nil => exact Option.some.inj h ▸ Kept.refl s
  | cons r rs ih =>
    unfold State.installAll at h
    split at h
    · cases h
    · rename_i hu
      exact (State.install_kept hu).trans (ih h)

@[simp] theorem State.inNextTick_kept (s : State) {f : State → State} (h : ∀ s, Kept s (f s)) : Kept s (s.inNextTick f) := h _

@[simp] theorem State.failParked_kept (s : State) (i status : Nat) : Kept s (s.failParked i status) := by simp [State.failParked]

@[simp] theorem State.returnTo_kept (s : State) (h : Nat) (how : Returned) (i : Nat) : Kept s (s.returnTo h how i) := by
  unfold State.returnTo
  split
  · exact Kept.refl s
  · split
    · split
      · simp
      · split
        · cases how <;> simp
        · exact Kept.refl s
    · exact Kept.refl s

@[simp] theorem State.pageReturn_kept (s : State) (h : Nat) (how : Returned) : Kept s (s.pageReturn h how) := by simp [State.pageReturn]

@[simp] theorem State.pageInstall_kept (s : State) (h : Nat) (links : List (KRec × Bool)) : Kept s (s.pageInstall h links) := by
  unfold State.pageInstall
  split
  · rename_i hu
    simp [State.installAll_kept hu]
  · simp

theorem State.cacheFillAll_kept {s t : State} {rs : List KRec} (h : s.cacheFillAll rs = some t) : Kept s t := by
  induction rs generalizing s with
  | nil => exact Option.some.inj h ▸ Kept.refl s
  | cons r rs ih =>
    unfold State.cacheFillAll at h
    split at h
    · cases h
    · rename_i hu
      exact Kept.trans (State.cacheFill_kept s _ _ _ hu) (ih h)

@[simp] theorem State.pageDamaged_kept (s : State) (h : Nat) : Kept s (s.pageDamaged h) := by simp [State.pageDamaged]

@[simp] theorem State.pageFromStore_kept (s : State) (h : Nat) : Kept s (s.pageFromStore h) := by
  unfold State.pageFromStore
  split
  · simp
  · split
    · simp
    · rename_i hu
      split <;> simp [State.cacheFillAll_kept hu]

/-! ### Rings -/

@[simp] theorem State.ringFault_kept (s : State) (r code : Nat) : Kept s (s.ringFault r code) := by simp [State.ringFault]

@[simp] theorem State.ringInterrupt_kept (s : State) (r : Nat) : Kept s (s.ringInterrupt r) :=
  (ringInterrupt_only s r).kept (by decide) (by decide)

@[simp] theorem State.signal_kept (s : State) (r : Nat) (irq : Bool) : Kept s (s.signal r irq) := by simp [State.signal]

@[simp] theorem State.doorbell_kept (s : State) (r : Nat) (tail head : Option W32) : Kept s (s.doorbell r tail head) := by
  unfold State.doorbell
  dsimp only
  repeat' split
  all_goals simp

@[simp] theorem execDoorbellSqTail_kept (ring : Nat) (tail : W32) (head : Option W32) (s : State) :
    Kept s (s.via (execDoorbellSqTail ring tail head)) := by
  simp [State.via, execDoorbellSqTail]

@[simp] theorem execDoorbellCqHead_kept (ring : Nat) (head : W32) (tail : Option W32) (s : State) :
    Kept s (s.via (execDoorbellCqHead ring head tail)) := by
  simp [State.via, execDoorbellCqHead]

@[simp] theorem execSlotFetch_kept (ring : Nat) (s : State) : Kept s (s.via (execSlotFetch ring)) := by
  unfold execSlotFetch State.via
  dsimp only
  repeat' split
  all_goals simp

@[simp] theorem execSlotReadDone_kept (ring : Nat) (r : SlotReturn) (s : State) : Kept s (s.via (execSlotReadDone ring r)) := by
  unfold execSlotReadDone State.via
  dsimp only
  repeat' split
  all_goals simp

@[simp] theorem State.ltpTo_kept (s : State) (r typ arg : Nat) (body : Bytes) : Kept s (s.ltpTo r typ arg body) := by
  unfold State.ltpTo
  split <;> simp

@[simp] theorem State.ltpLines_kept (s : State) (r : Nat) (slot : W32) (comp : Bytes) (out : Option Bytes) :
    Kept s (s.ltpLines r slot comp out) := by
  unfold State.ltpLines
  repeat' split
  all_goals simp

@[simp] theorem State.putCompletion_kept (s : State) (r : Nat) (p : Pending) : Kept s (s.putCompletion r p) := by
  unfold State.putCompletion
  split <;> simp

@[simp] theorem State.barNext_kept (s : State) (r : Nat) : Kept s (s.barNext r) := by
  unfold State.barNext
  dsimp only
  repeat' split
  all_goals simp

@[simp] theorem execCompletionWrite_kept (ring : Nat) (ok : Bool) (s : State) : Kept s (s.via (execCompletionWrite ring ok)) := by
  unfold execCompletionWrite State.via
  dsimp only
  repeat' split
  all_goals simp

@[simp] theorem execCoalTimerExpire_kept (ring : Nat) (s : State) : Kept s (s.via (execCoalTimerExpire ring)) := by
  unfold execCoalTimerExpire State.via
  dsimp only
  repeat' split
  all_goals simp

@[simp] theorem execPendingMsixSend_kept (fn vec : Nat) (s : State) : Kept s (s.via (execPendingMsixSend fn vec)) := by
  simp [State.via, execPendingMsixSend]

@[simp] theorem State.openRing_kept (s : State) (r : Nat) : Kept s (s.openRing r) := by simp [State.openRing]

@[simp] theorem execRingOpen_kept (ring : Nat) (v : W64) (s : State) : Kept s (s.via (execRingOpen ring v)) := by
  unfold execRingOpen State.via
  dsimp only
  repeat' split
  all_goals simp

@[simp] theorem State.closeRing_kept (s : State) (r : Nat) : Kept s (s.closeRing r) := ⟨rfl, rfl⟩

@[simp] theorem execRingClose_kept (ring : Nat) (v : W64) (s : State) : Kept s (s.via (execRingClose ring v)) := by
  unfold execRingClose State.via
  dsimp only
  repeat' split
  all_goals simp

@[simp] theorem execRingDrained_kept (ring : Nat) (s : State) : Kept s (s.via (execRingDrained ring)) := by
  simp [State.via, execRingDrained]

@[simp] theorem State.abortBarge_kept (s : State) (i : Nat) : Kept s (s.abortBarge i) := by
  unfold State.abortBarge
  repeat' split
  all_goals simp

@[simp] theorem State.abortWhere_kept (s : State) (p : Entry → Bool) : Kept s (s.abortWhere p) := by simp [State.abortWhere]

@[simp] theorem execAbortAll_kept (ring : Nat) (s : State) : Kept s (s.via (execAbortAll ring)) := by simp [State.via, execAbortAll]

@[simp] theorem execAbortSeq_kept (ring seq : Nat) (s : State) : Kept s (s.via (execAbortSeq ring seq)) := by simp [State.via, execAbortSeq]

/-! ### The lockmaster -/

@[simp] theorem State.lookup_kept (s : State) (i : Nat) (e : Entry) : Kept s (s.lookup i e) := by
  unfold State.lookup
  extract_lets hs t e'
  have ht : Kept s t := Kept.foldl (fun s h => by split <;> simp) _ s
  split <;> simpa using ht

@[simp] theorem State.admitEntry_kept (s : State) (i : Nat) (e : Entry) (failed : Option Nat) : Kept s (s.admitEntry i e failed) := by
  unfold State.admitEntry
  dsimp only
  repeat' split
  all_goals simp

@[simp] theorem State.admitOn_kept (s : State) (r : Nat) (w : Waiting) (rest : List Waiting) : Kept s (s.admitOn r w rest) := by
  simp [State.admitOn]

@[simp] theorem State.admitForwarded_kept (s : State) (l : Nat) : Kept s (s.admitForwarded l) := by
  unfold State.admitForwarded
  split <;> simp

@[simp] theorem execAdmitBarge_kept (s : State) : Kept s (s.via execAdmitBarge) := by
  unfold execAdmitBarge State.via
  dsimp only
  repeat' split
  all_goals simp

@[simp] theorem State.startOn_kept (s : State) (k i : Nat) (e : Entry) : Kept s (s.startOn k i e) := ⟨rfl, rfl⟩

@[simp] theorem execDispatch_kept (core : Nat) (s : State) : Kept s (s.via (execDispatch core)) := by
  unfold execDispatch State.via
  dsimp only
  repeat' split
  all_goals simp

@[simp] theorem execDeadlineExpire_kept (barge : Nat) (s : State) : Kept s (s.via (execDeadlineExpire barge)) := by
  unfold execDeadlineExpire State.via
  dsimp only
  repeat' split
  all_goals simp

@[simp] theorem execPageTimeoutExpire_kept (barge : Nat) (s : State) : Kept s (s.via (execPageTimeoutExpire barge)) := by
  unfold execPageTimeoutExpire State.via
  dsimp only
  repeat' split
  all_goals simp

@[simp] theorem State.refillRead_kept (s : State) (i : Nat) (r : DramReturn) : Kept s (s.refillRead i r).2 := by
  unfold State.refillRead
  split <;> simp

@[simp] theorem execBasinRefill_kept (r : DramReturn) (s : State) : Kept s (s.via (execBasinRefill r)) := by
  unfold execBasinRefill State.via
  dsimp only
  repeat' split
  all_goals simp

@[simp] theorem execTelWindowRoll_kept (s : State) : Kept s (s.via execTelWindowRoll) := by simp [State.via, execTelWindowRoll]

/-! ### The logbook -/

@[simp] theorem State.countAudit_kept (s : State) (n : Nat) : Kept s (s.countAudit n) := by simp [State.countAudit]

@[simp] theorem execLogRecordEnter_kept (s : State) : Kept s (s.via execLogRecordEnter) := by
  unfold execLogRecordEnter State.via
  dsimp only
  repeat' split
  all_goals simp

@[simp] theorem State.archiveLines_kept (s : State) (r : Rec) (d : DramReturn) : Kept s (s.archiveLines r d) := by
  unfold State.archiveLines
  split <;> simp

@[simp] theorem execArchiveCopy_kept (d : DramReturn) (s : State) : Kept s (s.via (execArchiveCopy d)) := by
  unfold execArchiveCopy State.via
  dsimp only
  repeat' split
  all_goals simp

@[simp] theorem execRateWindowRefill_kept (s : State) : Kept s (s.via execRateWindowRefill) := by simp [State.via, execRateWindowRefill]

@[simp] theorem State.setCursor_kept (s : State) (p : Nat) (c : Cursor) : Kept s (s.setCursor p c) := ⟨rfl, rfl⟩

@[simp] theorem execLogCursorSeek_kept (v : W64) (s : State) : Kept s (s.via (execLogCursorSeek v)) := by
  simp [State.via, execLogCursorSeek]

@[simp] theorem State.logNext_kept (s : State) (path : Path) : Kept s (s.logNext path).2 := by
  unfold State.logNext
  split <;> simp

@[simp] theorem execLogNextRead_kept (path : Path) (s : State) : Kept s (s.via (execLogNextRead path)) := by
  simp [State.via, execLogNextRead]

/-! ### Cipher lanes -/

@[simp] theorem State.answer_kept (s : State) (code : Nat) : Kept s (s.answer code).st := by simp [State.answer]

@[simp] theorem State.setCtx_kept (s : State) (k : Nat) (c : LaneCtx) : Kept s (s.setCtx k c) :=
  (setCtx_only s k c).kept (by decide) (by decide)

@[simp] theorem State.laneSay_kept (s : State) (k : Nat) (out : List TWord) (code : Nat) : Kept s (s.laneSay k out code) :=
  (laneSay_only s k out code).kept (by decide) (by decide)

@[simp] theorem State.grantLanes_kept (s : State) : Kept s s.grantLanes :=
  (grantLanes_only s).kept (by decide) (by decide)

@[simp] theorem State.diagLane_kept (s : State) : Kept s s.diagLane :=
  (diagLane_only s).kept (by decide) (by decide)

@[simp] theorem State.closeLane_kept (s : State) (k : Nat) : Kept s (s.closeLane k) :=
  (closeLane_only s k).kept (by decide) (by decide)

@[simp] theorem State.settleLane_kept (s : State) (k : Nat) : Kept s (s.settleLane k) := by
  unfold State.settleLane
  split <;> simp

@[simp] theorem State.killSlots_kept (s : State) (p : KLabel → Bool) (owner : Nat → Bool) : Kept s (s.killSlots p owner) := ⟨rfl, rfl⟩

@[simp] theorem kduStartAll_kept (n : Nat) (s : State) : Kept s (kduStartAll n s) := by
  induction n generalizing s with
  | zero => exact Kept.refl s
  | succ n ih =>
    unfold kduStartAll
    split
    · exact Kept.refl s
    · split
      · exact Kept.refl s
      · dsimp only
        refine Kept.trans ?_ (ih _)
        split <;> simp

@[simp] theorem State.kduAsk_kept (s : State) (q : KduReq) : Kept s (s.kduAsk q) := by simp [State.kduAsk]

@[simp] theorem State.putSlot_kept (s : State) (n p : Nat) (k : KSlot) : Kept s (s.putSlot n p k) := ⟨rfl, rfl⟩

@[simp] theorem State.dropSlot_kept (s : State) (n p : Nat) : Kept s (s.dropSlot n p) := ⟨rfl, rfl⟩

@[simp] theorem State.freeSlot_kept (s : State) (k : Nat) (c : LaneCtx) (i : Nat) : Kept s (s.freeSlot k c i) := by
  unfold State.freeSlot
  dsimp only
  repeat' split
  all_goals simp

@[simp] theorem State.checkBlock_kept (s : State) (n t mism : Nat) : Kept s (s.checkBlock n t mism).1 :=
  (checkBlock_only s n t mism).kept (by decide) (by decide)

@[simp] theorem State.writeKey_kept (s : State) (k t : Nat) (kind : SlotKind) (cls : SecClass) (dst part : Nat) (parity : Bool)
    (bs : Bytes) :
    Kept s (s.writeKey k t kind cls dst part parity bs).st := by
  unfold State.writeKey
  repeat' split
  all_goals simp

@[simp] theorem State.giveNonce_kept (s : State) (k slot : Nat) (gcm : Bool) (nonce : Bytes) : Kept s (s.giveNonce k slot gcm nonce).st := by
  unfold State.giveNonce
  split <;> simp

@[simp] theorem State.takeCounter_kept (s : State) (m : Nat) (x : Mooring) : Kept s (s.takeCounter m x) := ⟨rfl, rfl⟩

@[simp] theorem State.touchSlot_kept (s : State) (c : LaneCtx) (i : Nat) : Kept s (s.touchSlot c i) := by
  unfold State.touchSlot
  split <;> simp

@[simp] theorem State.laneWork_kept (s : State) (c : LaneCtx) (i cycles : Nat) : Kept s (s.laneWork c i cycles) := by simp [State.laneWork]

@[simp] theorem State.nonceFor_kept (s : State) (k i sub : Nat) (gcm : Bool) : Kept s (s.nonceFor k i sub gcm).st := by
  unfold State.nonceFor
  repeat' split
  all_goals simp

@[simp] theorem State.cmdOpen_kept (s : State) (k : Nat) (data : List TWord) : Kept s (s.cmdOpen k data).st := by
  unfold State.cmdOpen
  dsimp only
  repeat' split
  all_goals simp

@[simp] theorem State.cmdLoad_kept (s : State) (k : Nat) (c : LaneCtx) (i : Nat) (data : List TWord) : Kept s (s.cmdLoad k c i data).st := by
  unfold State.cmdLoad
  dsimp only
  repeat' split
  all_goals simp

@[simp] theorem State.cmdBlock_kept (s : State) (k : Nat) (c : LaneCtx) (u : UnitCmd) (dec : Bool) : Kept s (s.cmdBlock k c u dec).st := by
  unfold State.cmdBlock
  extract_lets cmd t cmp label chk part
  split
  · simp
  · extract_lets n x fromT words ws given input refs sourceOk install child useOk bad y out s1 test cls
    have h1 : Kept s s1 := by simp [s1, chk]
    clear_value s1 child
    repeat' split
    all_goals simpa using h1

@[simp] theorem State.cmdZkey_kept (s : State) (c : LaneCtx) (cmd : W64) (mism : Nat) : Kept s (s.cmdZkey c cmd mism).st := by
  unfold State.cmdZkey
  split <;> simp

@[simp] theorem State.cmdKstream_kept (s : State) (k : Nat) (c : LaneCtx) (cmd : W64) (data : List TWord) (mism : Nat) :
    Kept s (s.cmdKstream k c cmd data mism).st := by
  unfold State.cmdKstream
  split <;> simp

@[simp] theorem State.cmdKstreamD_kept (s : State) (k : Nat) (c : LaneCtx) (cmd : W64) (data : List TWord) (mism : Nat) :
    Kept s (s.cmdKstreamD k c cmd data mism).st := by
  unfold State.cmdKstreamD
  split <;> simp

@[simp] theorem State.cmdTag_kept (s : State) (k : Nat) (c : LaneCtx) (cmd : W64) (data : List TWord) (mism : Nat) :
    Kept s (s.cmdTag k c cmd data mism).st := by
  unfold State.cmdTag
  split <;> simp

@[simp] theorem State.cmdTagchk_kept (s : State) (k : Nat) (c : LaneCtx) (cmd : W64) (data : List TWord) (mism : Nat) :
    Kept s (s.cmdTagchk k c cmd data mism).st := by
  unfold State.cmdTagchk
  split <;> simp

@[simp] theorem State.cmdStore_kept (s : State) (k : Nat) (c : LaneCtx) (cmd : W64) (data : List TWord) :
    Kept s (s.cmdStore k c cmd data).st := by
  unfold State.cmdStore
  split <;> simp

@[simp] theorem State.cmdHold_kept (s : State) (k : Nat) (c : LaneCtx) : Kept s (s.cmdHold k c).st := by simp [State.cmdHold]

@[simp] theorem State.cmdPut_kept (s : State) (k : Nat) (c : LaneCtx) (u : UnitCmd) : Kept s (s.cmdPut k c u).st := by
  unfold State.cmdPut
  dsimp only
  repeat' split
  all_goals simp

@[simp] theorem State.cmdLoadt_kept (s : State) (k : Nat) (c : LaneCtx) (cmd : W64) (data : List TWord) :
    Kept s (s.cmdLoadt k c cmd data).st := by
  unfold State.cmdLoadt
  dsimp only
  repeat' split
  all_goals simp

@[simp] theorem State.laneRun_kept (s : State) (k : Nat) (u : UnitCmd) : Kept s (s.laneRun k u).st := by
  unfold State.laneRun
  repeat' split
  all_goals simp

@[simp] theorem State.laneIssue_kept (s : State) (k : Nat) (u : UnitCmd) : Kept s (s.laneIssue k u) := by
  unfold State.laneIssue
  dsimp only
  split <;> simp

@[simp] theorem laneDrain_kept (n k : Nat) (s : State) : Kept s (laneDrain n k s) := by
  induction n generalizing s with
  | zero => exact Kept.refl s
  | succ n ih =>
    unfold laneDrain
    repeat' split
    all_goals simp [ih]

@[simp] theorem State.drainLane_kept (s : State) (k : Nat) : Kept s (s.drainLane k) := by simp [State.drainLane]

@[simp] theorem State.laneCommand_kept (s : State) (k : Nat) (u : UnitCmd) : Kept s (s.laneCommand k u) := by simp [State.laneCommand]

@[simp] theorem execLaneOpen_kept (core : Nat) (cmd : W64) (data : List TWord) (s : State) : Kept s (s.via (execLaneOpen core cmd data)) := by
  simp [State.via, execLaneOpen]

@[simp] theorem execLaneLoad_kept (core : Nat) (cmd : W64) (data : List TWord) (s : State) : Kept s (s.via (execLaneLoad core cmd data)) := by
  simp [State.via, execLaneLoad]

@[simp] theorem execEnc_kept (core : Nat) (cmd : W64) (data : List TWord) (mism : Nat) (s : State) :
    Kept s (s.via (execEnc core cmd data mism)) := by
  simp [State.via, execEnc]

@[simp] theorem execDec_kept (core : Nat) (cmd : W64) (data label : List TWord) (mism : Nat) (s : State) :
    Kept s (s.via (execDec core cmd data label mism)) := by
  simp [State.via, execDec]

@[simp] theorem execZkey_kept (core : Nat) (cmd : W64) (data : List TWord) (mism : Nat) (s : State) :
    Kept s (s.via (execZkey core cmd data mism)) := by
  simp [State.via, execZkey]

@[simp] theorem execNonce_kept (core : Nat) (cmd : W64) (data : List TWord) (s : State) : Kept s (s.via (execNonce core cmd data)) := by
  simp [State.via, execNonce]

@[simp] theorem execKstream_kept (core : Nat) (cmd : W64) (data : List TWord) (mism : Nat) (s : State) :
    Kept s (s.via (execKstream core cmd data mism)) := by
  simp [State.via, execKstream]

@[simp] theorem execKstreamD_kept (core : Nat) (cmd : W64) (data : List TWord) (mism : Nat) (s : State) :
    Kept s (s.via (execKstreamD core cmd data mism)) := by
  simp [State.via, execKstreamD]

@[simp] theorem execTag_kept (core : Nat) (cmd : W64) (data : List TWord) (mism : Nat) (s : State) :
    Kept s (s.via (execTag core cmd data mism)) := by
  simp [State.via, execTag]

@[simp] theorem execTagchk_kept (core : Nat) (cmd : W64) (data : List TWord) (mism : Nat) (s : State) :
    Kept s (s.via (execTagchk core cmd data mism)) := by
  simp [State.via, execTagchk]

@[simp] theorem execStore_kept (core : Nat) (cmd : W64) (data : List TWord) (s : State) : Kept s (s.via (execStore core cmd data)) := by
  simp [State.via, execStore]

@[simp] theorem execFree_kept (core : Nat) (cmd : W64) (data : List TWord) (s : State) : Kept s (s.via (execFree core cmd data)) := by
  simp [State.via, execFree]

@[simp] theorem execHold_kept (core : Nat) (cmd : W64) (data : List TWord) (s : State) : Kept s (s.via (execHold core cmd data)) := by
  simp [State.via, execHold]

@[simp] theorem execPut_kept (core : Nat) (cmd : W64) (data label : List TWord) (s : State) :
    Kept s (s.via (execPut core cmd data label)) := by
  simp [State.via, execPut]

@[simp] theorem execLoadt_kept (core : Nat) (cmd : W64) (data : List TWord) (s : State) : Kept s (s.via (execLoadt core cmd data)) := by
  simp [State.via, execLoadt]

@[simp] theorem execLaneClose_kept (core : Nat) (cmd : W64) (data : List TWord) (s : State) :
    Kept s (s.via (execLaneClose core cmd data)) := by
  simp [State.via, execLaneClose]

@[simp] theorem execHeldBufferZeroed_kept (core : Nat) (s : State) : Kept s (s.via (execHeldBufferZeroed core)) := by
  unfold execHeldBufferZeroed State.via
  dsimp only
  repeat' split
  all_goals simp

@[simp] theorem execMismatchWindowEnd_kept (s : State) : Kept s (s.via execMismatchWindowEnd) := by simp [State.via, execMismatchWindowEnd]

@[simp] theorem State.laneOut_kept (s : State) (n : Nat) : Kept s (s.laneOut n) := ⟨rfl, rfl⟩

@[simp] theorem State.laneSpare_kept (s : State) (n g : Nat) : Kept s (s.laneSpare n g) := by
  unfold State.laneSpare
  split <;> simp

@[simp] theorem State.retireLane_kept (s : State) (n : Nat) (sparePass : Bool) : Kept s (s.retireLane n sparePass) := by
  unfold State.retireLane
  dsimp only
  repeat' split
  all_goals simp

@[simp] theorem execLaneSelftest_kept (lane : Nat) (pass sparePass : Bool) (s : State) :
    Kept s (s.via (execLaneSelftest lane pass sparePass)) := by
  simp [State.via, execLaneSelftest]

@[simp] theorem execLaneDrainRetire_kept (lane : Nat) (sparePass : Bool) (s : State) :
    Kept s (s.via (execLaneDrainRetire lane sparePass)) := by
  simp [State.via, execLaneDrainRetire]

@[simp] theorem execCphDiagEnable_kept (v : W64) (s : State) : Kept s (s.via (execCphDiagEnable v)) := by
  simp [State.via, execCphDiagEnable]

@[simp] theorem execCphDiagCmd_kept (v : W64) (mism : Nat) (s : State) : Kept s (s.via (execCphDiagCmd v mism)) := by
  simp [State.via, execCphDiagCmd]

/-! ### Hash engines and tiles -/

@[simp] theorem State.hashSay_kept (s : State) (k : Nat) (out : List TWord) (code : Nat) : Kept s (s.hashSay k out code) := ⟨rfl, rfl⟩

@[simp] theorem State.diagEngine_kept (s : State) : Kept s s.diagEngine :=
  (diagEngine_only s).kept (by decide) (by decide)

@[simp] theorem State.releaseEng_kept (s : State) (k : Nat) : Kept s (s.releaseEng k) :=
  (releaseEng_only s k).kept (by decide) (by decide)

@[simp] theorem State.settleEng_kept (s : State) (k : Nat) : Kept s (s.settleEng k) := by
  unfold State.settleEng
  split <;> simp

@[simp] theorem State.cmdInit_kept (s : State) (k : Nat) (cmd : W64) : Kept s (s.cmdInit k cmd).st := by
  unfold State.cmdInit
  dsimp only
  repeat' split
  all_goals simp

@[simp] theorem State.cmdAbsorb_kept (s : State) (e : Nat) (cmd : W64) (data : List TWord) : Kept s (s.cmdAbsorb e cmd data).st := by
  unfold State.cmdAbsorb
  dsimp only
  repeat' split
  all_goals simp

@[simp] theorem State.cmdFinal_kept (s : State) (e : Nat) : Kept s (s.cmdFinal e).st := by
  unfold State.cmdFinal
  dsimp only
  repeat' split
  all_goals simp

@[simp] theorem State.cmdSqueeze_kept (s : State) (k e : Nat) (cmd : W64) : Kept s (s.cmdSqueeze k e cmd).st := by
  unfold State.cmdSqueeze
  dsimp only
  repeat' split
  all_goals simp

@[simp] theorem State.cmdCmp_kept (s : State) (k e : Nat) (cmd : W64) (data : List TWord) : Kept s (s.cmdCmp k e cmd data).st := by
  unfold State.cmdCmp
  dsimp only
  repeat' split
  all_goals simp

@[simp] theorem State.cmdHashReset_kept (s : State) (e : Nat) : Kept s (s.cmdHashReset e).st := by simp [State.cmdHashReset]

@[simp] theorem State.cmdHashKey_kept (s : State) (k e : Nat) (data : List TWord) : Kept s (s.cmdHashKey k e data).st := by
  simp [State.cmdHashKey]

@[simp] theorem State.hashRun_kept (s : State) (k : Nat) (u : UnitCmd) : Kept s (s.hashRun k u).st := by
  unfold State.hashRun
  repeat' split
  all_goals simp

@[simp] theorem State.hashIssue_kept (s : State) (k : Nat) (u : UnitCmd) : Kept s (s.hashIssue k u) := by
  unfold State.hashIssue
  dsimp only
  repeat' split
  all_goals simp

@[simp] theorem hashDrain_kept (n k : Nat) (s : State) : Kept s (hashDrain n k s) := by
  induction n generalizing s with
  | zero => exact Kept.refl s
  | succ n ih =>
    unfold hashDrain
    dsimp only
    repeat' split
    all_goals simp [ih]

@[simp] theorem State.drainHash_kept (s : State) (k : Nat) : Kept s (s.drainHash k) := by simp [State.drainHash]

@[simp] theorem State.hashCommand_kept (s : State) (k : Nat) (u : UnitCmd) : Kept s (s.hashCommand k u) := by simp [State.hashCommand]

@[simp] theorem execInit_kept (core : Nat) (cmd : W64) (data : List TWord) (s : State) : Kept s (s.via (execInit core cmd data)) := by
  simp [State.via, execInit]

@[simp] theorem execAbsorb_kept (core : Nat) (cmd : W64) (data : List TWord) (s : State) : Kept s (s.via (execAbsorb core cmd data)) := by
  simp [State.via, execAbsorb]

@[simp] theorem execHashKey_kept (core : Nat) (cmd : W64) (data : List TWord) (s : State) : Kept s (s.via (execHashKey core cmd data)) := by
  simp [State.via, execHashKey]

@[simp] theorem execFinal_kept (core : Nat) (cmd : W64) (data : List TWord) (s : State) : Kept s (s.via (execFinal core cmd data)) := by
  simp [State.via, execFinal]

@[simp] theorem execSqueeze_kept (core : Nat) (cmd : W64) (data : List TWord) (s : State) : Kept s (s.via (execSqueeze core cmd data)) := by
  simp [State.via, execSqueeze]

@[simp] theorem execCmp_kept (core : Nat) (cmd : W64) (data : List TWord) (s : State) : Kept s (s.via (execCmp core cmd data)) := by
  simp [State.via, execCmp]

@[simp] theorem execHashReset_kept (core : Nat) (cmd : W64) (data : List TWord) (s : State) :
    Kept s (s.via (execHashReset core cmd data)) := by
  simp [State.via, execHashReset]

@[simp] theorem State.hashFails_kept (s : State) (engine : Nat) : Kept s (s.hashFails engine) := by simp [State.hashFails]

@[simp] theorem execHashSelftest_kept (engine : Nat) (pass : Bool) (s : State) : Kept s (s.via (execHashSelftest engine pass)) := by
  simp [State.via, execHashSelftest]

@[simp] theorem execHshDiagEnable_kept (v : W64) (s : State) : Kept s (s.via (execHshDiagEnable v)) := by
  simp [State.via, execHshDiagEnable]

@[simp] theorem execHshDiagCmd_kept (v : W64) (s : State) : Kept s (s.via (execHshDiagCmd v)) := by simp [State.via, execHshDiagCmd]

@[simp] theorem State.tileSay_kept (s : State) (k : Nat) (out : List TWord) (code : Nat) : Kept s (s.tileSay k out code) := by
  simp [State.tileSay]

@[simp] theorem State.setJob_kept (s : State) (k : Nat) (j : Job) : Kept s (s.setJob k j) :=
  (setJob_only s k j).kept (by decide) (by decide)

@[simp] theorem State.jopenEnds_kept (s : State) (w : Nat × Nat × Nat) : Kept s (s.jopenEnds w) := ⟨rfl, rfl⟩

@[simp] theorem State.grantTiles_kept (s : State) : Kept s s.grantTiles := by
  refine Kept.foldl (fun s w => ?_) _ s
  repeat' split
  all_goals simp

@[simp] theorem State.diagTile_kept (s : State) : Kept s s.diagTile := by simp [State.diagTile]

@[simp] theorem State.closeJob_kept (s : State) (k : Nat) : Kept s (s.closeJob k) :=
  (closeJob_only s k).kept (by decide) (by decide)

@[simp] theorem State.settleJob_kept (s : State) (k : Nat) : Kept s (s.settleJob k) := by
  unfold State.settleJob
  split <;> simp

@[simp] theorem State.tileMismatch_kept (s : State) (n times : Nat) : Kept s (s.tileMismatch n times) :=
  (tileMismatch_only s n times).kept (by decide) (by decide)

@[simp] theorem State.checked_st (s : State) (k : Nat) (j : Job) (mism : Nat) (ok : State → Answer) :
    (s.checked k j mism ok).st = if mism = 0 then (ok s).st else if mism = 1 then (ok (s.tileMismatch j.tile 1)).st
      else (s.tileMismatch j.tile 2).closeJob k := by
  unfold State.checked
  repeat' split
  all_goals rfl

@[simp] theorem State.tileBusy_kept (s : State) (n cycles : Nat) : Kept s (s.tileBusy n cycles) := ⟨rfl, rfl⟩

@[simp] theorem State.cmdMac_kept (s : State) (k : Nat) (j : Job) (cmd : W64) (mism : Nat) : Kept s (s.cmdMac k j cmd mism).st := by
  simp [State.cmdMac]

@[simp] theorem State.cmdMacp_kept (s : State) (k : Nat) (j : Job) (cmd : W64) (mism : Nat) : Kept s (s.cmdMacp k j cmd mism).st := by
  simp [State.cmdMacp]

@[simp] theorem State.cmdRdacc_kept (s : State) (k : Nat) (j : Job) (cmd : W64) (mism : Nat) : Kept s (s.cmdRdacc k j cmd mism).st := by
  simp [State.cmdRdacc]

@[simp] theorem State.cmdClr_kept (s : State) (k : Nat) (j : Job) (cmd : W64) : Kept s (s.cmdClr k j cmd).st := by simp [State.cmdClr]

@[simp] theorem State.cmdJopen_kept (s : State) (k : Nat) (cmd : W64) (data : List TWord) : Kept s (s.cmdJopen k cmd data).st := by
  unfold State.cmdJopen
  dsimp only
  repeat' split
  all_goals simp

@[simp] theorem State.cmdKeyin_kept (s : State) (k : Nat) (j : Job) (cmd : W64) (data : List TWord) : Kept s (s.cmdKeyin k j cmd data).st := by
  simp [State.cmdKeyin]

@[simp] theorem State.cmdWput_kept (s : State) (k : Nat) (j : Job) (cmd : W64) (data : List TWord) : Kept s (s.cmdWput k j cmd data).st := by
  simp [State.cmdWput]

@[simp] theorem State.cmdWget_kept (s : State) (j : Job) (cmd : W64) : Kept s (s.cmdWget j cmd).st := by simp [State.cmdWget]

@[simp] theorem State.afterJob_kept (s : State) (k : Nat) (u : UnitCmd) : Kept s (s.afterJob k u).st := by
  unfold State.afterJob
  split <;> simp

@[simp] theorem State.tileRun_kept (s : State) (k : Nat) (u : UnitCmd) : Kept s (s.tileRun k u).st := by
  unfold State.tileRun
  repeat' split
  all_goals simp

@[simp] theorem State.tileIssue_kept (s : State) (k : Nat) (u : UnitCmd) : Kept s (s.tileIssue k u) := by
  unfold State.tileIssue
  dsimp only
  split <;> simp

@[simp] theorem tileDrain_kept (n k : Nat) (s : State) : Kept s (tileDrain n k s) := by
  induction n generalizing s with
  | zero => exact Kept.refl s
  | succ n ih =>
    unfold tileDrain
    repeat' split
    all_goals simp [ih]

@[simp] theorem State.drainTile_kept (s : State) (k : Nat) : Kept s (s.drainTile k) := by simp [State.drainTile]

@[simp] theorem State.tileCommand_kept (s : State) (k : Nat) (u : UnitCmd) : Kept s (s.tileCommand k u) := by simp [State.tileCommand]

@[simp] theorem State.runUnits_kept (s : State) : Kept s s.runUnits := by simp [State.runUnits]

@[simp] theorem execMac_kept (core : Nat) (cmd : W64) (data : List TWord) (mism : Nat) (s : State) :
    Kept s (s.via (execMac core cmd data mism)) := by
  simp [State.via, execMac]

@[simp] theorem execMacp_kept (core : Nat) (cmd : W64) (data : List TWord) (mism : Nat) (s : State) :
    Kept s (s.via (execMacp core cmd data mism)) := by
  simp [State.via, execMacp]

@[simp] theorem execRdacc_kept (core : Nat) (cmd : W64) (data : List TWord) (mism : Nat) (s : State) :
    Kept s (s.via (execRdacc core cmd data mism)) := by
  simp [State.via, execRdacc]

@[simp] theorem execClr_kept (core : Nat) (cmd : W64) (data : List TWord) (s : State) : Kept s (s.via (execClr core cmd data)) := by
  simp [State.via, execClr]

@[simp] theorem execJopen_kept (core : Nat) (cmd : W64) (data : List TWord) (s : State) : Kept s (s.via (execJopen core cmd data)) := by
  simp [State.via, execJopen]

@[simp] theorem execJclose_kept (core : Nat) (cmd : W64) (data : List TWord) (s : State) : Kept s (s.via (execJclose core cmd data)) := by
  simp [State.via, execJclose]

@[simp] theorem execKeyin_kept (core : Nat) (cmd : W64) (data : List TWord) (s : State) : Kept s (s.via (execKeyin core cmd data)) := by
  simp [State.via, execKeyin]

@[simp] theorem execWput_kept (core : Nat) (cmd : W64) (data : List TWord) (s : State) : Kept s (s.via (execWput core cmd data)) := by
  simp [State.via, execWput]

@[simp] theorem execWget_kept (core : Nat) (cmd : W64) (data : List TWord) (s : State) : Kept s (s.via (execWget core cmd data)) := by
  simp [State.via, execWget]

@[simp] theorem State.tileOut_kept (s : State) (n : Nat) : Kept s (s.tileOut n) := ⟨rfl, rfl⟩

@[simp] theorem State.tileSpare_kept (s : State) (n g : Nat) : Kept s (s.tileSpare n g) := by
  unfold State.tileSpare
  split <;> simp

@[simp] theorem State.retireTile_kept (s : State) (n : Nat) (sparePass : Bool) : Kept s (s.retireTile n sparePass) := by
  unfold State.retireTile
  dsimp only
  repeat' split
  all_goals simp

@[simp] theorem execJobClearDone_kept (tile base : Nat) (s : State) : Kept s (s.via (execJobClearDone tile base)) := by
  unfold execJobClearDone State.via
  dsimp only
  repeat' split
  all_goals simp

@[simp] theorem execTileSelftest_kept (tile : Nat) (pass sparePass : Bool) (s : State) :
    Kept s (s.via (execTileSelftest tile pass sparePass)) := by
  simp [State.via, execTileSelftest]

@[simp] theorem execBgnDiagEnable_kept (v : W64) (s : State) : Kept s (s.via (execBgnDiagEnable v)) := by
  simp [State.via, execBgnDiagEnable]

@[simp] theorem execBgnDiagCmd_kept (v : W64) (mism : Nat) (s : State) : Kept s (s.via (execBgnDiagCmd v mism)) := by
  simp [State.via, execBgnDiagCmd]

@[simp] theorem State.countUse_kept (s : State) (h idx : Nat) : Kept s (s.countUse h idx) := by
  unfold State.countUse
  split <;> simp

@[simp] theorem State.deliverLane_kept (s : State) (q : KduReq) (p code : Nat) (f : Bytes) : Kept s (s.deliverLane q p code f) := by
  unfold State.deliverLane
  split <;> simp

@[simp] theorem State.deliverStore_kept (s : State) (q : KduReq) (p : Nat) (label : KLabel) (code : Nat) :
    Kept s (s.deliverStore q p label code) := by
  unfold State.deliverStore
  dsimp only
  repeat' split
  all_goals simp

@[simp] theorem State.deliverEngine_kept (s : State) (q : KduReq) (code : Nat) (f : Bytes) : Kept s (s.deliverEngine q code f) := by
  unfold State.deliverEngine
  split <;> simp

@[simp] theorem State.deliverTile_kept (s : State) (q : KduReq) (a code : Nat) (f : Bytes) : Kept s (s.deliverTile q a code f) := by
  unfold State.deliverTile
  split <;> simp

@[simp] theorem execKduLoadDone_kept (disagree : Nat) (poisoned : Bool) (s : State) : Kept s (s.via (execKduLoadDone disagree poisoned)) := by
  unfold execKduLoadDone State.via
  dsimp only
  repeat' split
  all_goals simp

/-! ### Moorings -/

@[simp] theorem readSpans_kept (kd : Nat) (r : DramReturn) (l : List (Nat × Nat)) (s : State) : Kept s (readSpans kd r l s).2 := by
  induction l generalizing s with
  | nil => exact Kept.refl s
  | cons p l ih =>
    have hu := State.unitRead_kept kd r p.2 p.1 s
    unfold readSpans
    split
    · rename_i t e
      rw [e] at hu
      exact hu.trans (ih t)
    · exact hu

@[simp] theorem State.cacheRead_kept (s : State) (h : Nat) (r : DramReturn) : Kept s (s.cacheRead h r).2 := by
  unfold State.cacheRead
  split <;> simp

@[simp] theorem State.holdRead_kept (s : State) (h : Nat) (r : DramReturn) : Kept s (s.holdRead h r).2 := by
  unfold State.holdRead
  split <;> simp

@[simp] theorem State.pageMiss_kept (s : State) (h : Nat) : Kept s (s.pageMiss h) := by simp [State.pageMiss]

@[simp] theorem State.pageLookup_kept (s : State) (h : Nat) (r : DramReturn) : Kept s (s.pageLookup h r) := by
  have hc := State.cacheRead_kept s h r
  have hh := State.holdRead_kept s h r
  unfold State.pageLookup
  repeat' split
  all_goals simp_all

@[simp] theorem execPageInReturn_kept (handle : Nat) (r : DramReturn) (s : State) : Kept s (s.via (execPageInReturn handle r)) := by
  unfold execPageInReturn State.via
  dsimp only
  repeat' split
  all_goals simp

@[simp] theorem execMooringWaitRetry_kept (handle : Nat) (s : State) : Kept s (s.via (execMooringWaitRetry handle)) := by
  unfold execMooringWaitRetry State.via
  dsimp only
  repeat' split
  all_goals simp

@[simp] theorem execCacheFillRetry_kept (handle : Nat) (s : State) : Kept s (s.via (execCacheFillRetry handle)) := by
  unfold execCacheFillRetry State.via
  dsimp only
  repeat' split
  all_goals simp

@[simp] theorem State.dropMoorings_kept (s : State) (h : Nat) : Kept s (s.dropMoorings h) := ⟨rfl, rfl⟩

@[simp] theorem execMooringEccError_kept (m : Nat) (s : State) : Kept s (s.via (execMooringEccError m)) := by
  unfold execMooringEccError State.via
  dsimp only
  repeat' split
  all_goals simp

@[simp] theorem execMooringMove_kept (m bank : Nat) (s : State) : Kept s (s.via (execMooringMove m bank)) := by
  unfold execMooringMove State.via
  dsimp only
  repeat' split
  all_goals simp

@[simp] theorem State.retug_kept (s : State) (h : Nat) : Kept s (s.retug h) := by
  unfold State.retug
  split <;> simp

@[simp] theorem State.loseTug_kept (s : State) (tug : Nat) : Kept s (s.loseTug tug) := by simp [State.loseTug]

@[simp] theorem execTugSelfcheckFail_kept (tug : Nat) (s : State) : Kept s (s.via (execTugSelfcheckFail tug)) := by
  simp [State.via, execTugSelfcheckFail]

@[simp] theorem State.regather_kept (s : State) (cs : List Commit) : Kept s (s.regather cs) := ⟨rfl, rfl⟩

@[simp] theorem State.dropCommit_kept (s : State) (i : Nat) : Kept s (s.dropCommit i) :=
  (dropCommit_only s i).kept (by decide) (by decide)

@[simp] theorem State.failOn_kept (s : State) (k i status : Nat) : Kept s (s.failOn k i status) := by simp [State.failOn]

@[simp] theorem State.tugRead_kept (s : State) (k i : Nat) (e : Entry) (r : XferReturn) : Kept s (s.tugRead k i e r) := by
  unfold State.tugRead
  repeat' split
  all_goals simp

@[simp] theorem State.tugWrite_kept (s : State) (k i : Nat) (e : Entry) (out : Bytes) : Kept s (s.tugWrite k i e out) := by
  unfold State.tugWrite
  repeat' split
  all_goals simp

@[simp] theorem execTugTransferDone_kept (core : Nat) (write : Bool) (r : XferReturn) (s : State) :
    Kept s (s.via (execTugTransferDone core write r)) := by
  unfold execTugTransferDone State.via
  dsimp only
  repeat' split
  all_goals simp

@[simp] theorem State.setStore_kept (s : State) (st : StoreState) : Kept s (s.setStore st) := by simp [State.setStore]

@[simp] theorem State.withdraw_kept (s : State) : Kept s s.withdraw := by simp [State.withdraw]

@[simp] theorem State.failCommit_kept (s : State) (c : Commit) (status unit : Nat) : Kept s (s.failCommit c status unit) := by
  unfold State.failCommit
  extract_lets _ t u
  have ht : Kept s t := ⟨rfl, rfl⟩
  have hu : Kept s u := ht.trans (by simp only [u]; split <;> simp)
  split
  · split
    · split <;> simpa using hu
    · exact hu
  · refine ht.trans (Kept.foldl (fun s p => ?_) _ t)
    repeat' split
    all_goals simp

@[simp] theorem State.offlineCommit_kept (s : State) (c : Commit) : Kept s (s.offlineCommit c) := by simp [State.offlineCommit]

@[simp] theorem State.storeOffline_kept (s : State) : Kept s s.storeOffline := by simp [State.storeOffline]

@[simp] theorem State.dropDrive_kept (s : State) (d : Nat) : Kept s (s.dropDrive d) := by simp [State.dropDrive]

@[simp] theorem State.driveCommandFailed_kept (s : State) (d : Nat) : Kept s (s.driveCommandFailed d) := by simp [State.driveCommandFailed]

@[simp] theorem State.cargoTrains_kept (s : State) (d : Nat) : Kept s (s.cargoTrains d) := by simp [State.cargoTrains]

@[simp] theorem execDriveFail_kept (drive : Nat) (s : State) : Kept s (s.via (execDriveFail drive)) := by simp [State.via, execDriveFail]

@[simp] theorem execNvmeCommandTimeout_kept (drive : Nat) (s : State) : Kept s (s.via (execNvmeCommandTimeout drive)) := by
  simp [State.via, execNvmeCommandTimeout]

@[simp] theorem execRebuildComplete_kept (s : State) : Kept s (s.via execRebuildComplete) := by simp [State.via, execRebuildComplete]

@[simp] theorem State.takeSector_kept (s : State) (h n drive : Nat) (lba : Nat) (tried : Option Nat) (plain : Bytes) :
    Kept s (s.takeSector h n drive lba tried plain) := by
  simp [State.takeSector]

@[simp] theorem execSectorReadDone_kept (handle drive lba : Nat) (r : SectorReturn) (s : State) :
    Kept s (s.via (execSectorReadDone handle drive lba r)) := by
  unfold execSectorReadDone State.via
  dsimp only
  repeat' split
  all_goals simp

@[simp] theorem State.editPins_kept (s : State) (f : List Nat → List Nat) : Kept s (s.editPins f) := by
  unfold State.editPins
  split <;> simp

@[simp] theorem execPinAdd_kept (s : State) : Kept s (s.via execPinAdd) := by simp [State.via, execPinAdd]

@[simp] theorem execPinRemove_kept (s : State) : Kept s (s.via execPinRemove) := by simp [State.via, execPinRemove]

/-! ### Commits -/

@[simp] theorem State.sealFor_kept (s : State) (d : Nat) (bs : Bytes) : Kept s (s.sealFor d bs).2 := ⟨rfl, rfl⟩

@[simp] theorem State.gather_kept (s : State) (c : Commit) : Kept s (s.gather c) := ⟨rfl, rfl⟩

@[simp] theorem State.submitCommit_kept (s : State) (c : Commit) : Kept s (s.submitCommit c) := by
  unfold State.submitCommit
  dsimp only
  repeat' split
  all_goals simp

@[simp] theorem State.logCommit_kept (s : State) (c : Commit) : Kept s (s.logCommit c) := by simp [State.logCommit]

@[simp] theorem State.dropTenantKeys_kept (s : State) (t : Nat) : Kept s (s.dropTenantKeys t) := ⟨rfl, rfl⟩

@[simp] theorem State.dropPermits_kept (s : State) (p : Nat × Permit → Bool) : Kept s (s.dropPermits p) := ⟨rfl, rfl⟩

theorem State.cacheFillAll_getD_kept (s : State) (rs : List KRec) : Kept s ((s.cacheFillAll rs).getD s) := by
  cases e : s.cacheFillAll rs with
  | none => exact Kept.refl s
  | some t => exact State.cacheFillAll_kept e

@[simp] theorem State.applyChange_kept (s : State) (c : Change) : Kept s (s.applyChange c) := by
  cases c with
  | put rs =>
    cases rs with
    | nil => exact Kept.refl s
    | cons r rs => simp [State.applyChange, State.cacheFillAll_getD_kept _ (r :: rs)]
  | lease h e =>
    simp only [State.applyChange]
    repeat' split
    all_goals simp
  | delete h => simp [State.applyChange]
  | tenant t e => simp [State.applyChange]
  | officer n o => simp [State.applyChange]
  | discardPermits t => simp [State.applyChange]
  | discardOfficerPermits n => simp [State.applyChange]
  | calendar b k => simp [State.applyChange]
  | ackLog q => simp [State.applyChange]

@[simp] theorem State.issueLeased_kept (s : State) (h : Nat) : Kept s (s.issueLeased h) := by
  refine Kept.foldl (fun s k => ?_) _ s
  dsimp only
  repeat' split
  all_goals simp

@[simp] theorem State.addOutcome_kept (s : State) (o : OutcomeEntry) : Kept s (s.addOutcome o) := ⟨rfl, rfl⟩

@[simp] theorem State.commitNow_kept (s : State) (c : Commit) : Kept s (s.commitNow c) := by
  unfold State.commitNow
  extract_lets s1 _ _ s2 s3 s4 s5
  have h3 : Kept s s3 := by simp [s3, s2, s1]
  have h4 : Kept s s4 := by
    simp only [s4]
    split
    · simpa using h3
    · exact h3
  have h5 : Kept s s5 := h4.trans (Kept.foldl (fun s ch => by split <;> simp) _ s4)
  split
  · simpa using h5
  · exact h5

@[simp] theorem State.beginCommits_kept (s : State) (cs : List Commit) : Kept s (s.beginCommits cs) :=
  Kept.foldl (fun s c => by split <;> simp) cs s

@[simp] theorem State.dropUnwanted_kept (s : State) : Kept s s.dropUnwanted := ⟨rfl, rfl⟩

@[simp] theorem State.failPoisoned_kept (s : State) (poisoned : List Nat) : Kept s (s.failPoisoned poisoned) := by simp [State.failPoisoned]

@[simp] theorem execGroupWriteStart_kept (poisoned : List Nat) (s : State) : Kept s (s.via (execGroupWriteStart poisoned)) := by
  unfold execGroupWriteStart State.via
  dsimp only
  repeat' split
  all_goals simp

@[simp] theorem State.groupDone_kept (s : State) : Kept s s.groupDone := by simp [State.groupDone]

@[simp] theorem execCommitTick_kept (drive : Nat) (s : State) : Kept s (s.via (execCommitTick drive)) := by simp [State.via, execCommitTick]

@[simp] theorem State.holdWrite_kept (s : State) (c : Commit) (r : DramReturn) : Kept s (s.holdWrite c r) := by
  unfold State.holdWrite
  split <;> simp

@[simp] theorem execVolatileCommitDone_kept (r : DramReturn) (s : State) : Kept s (s.via (execVolatileCommitDone r)) := by
  unfold execVolatileCommitDone State.via
  dsimp only
  repeat' split
  all_goals simp

@[simp] theorem State.askLease_kept (s : State) (h n : Nat) : Kept s (s.askLease h n) := ⟨rfl, rfl⟩

@[simp] theorem execLeaseCommit_kept (core : Nat) (s : State) : Kept s (s.via (execLeaseCommit core)) := by
  unfold execLeaseCommit State.via
  dsimp only
  repeat' split
  all_goals simp

@[simp] theorem execCheckpointStart_kept (s : State) : Kept s (s.via execCheckpointStart) := by simp [State.via, execCheckpointStart]

@[simp] theorem State.checkpointDone_kept (s : State) (n : Nat) : Kept s (s.checkpointDone n) := ⟨rfl, rfl⟩

@[simp] theorem execCheckpointComplete_kept (s : State) : Kept s (s.via execCheckpointComplete) := by
  unfold execCheckpointComplete State.via
  dsimp only
  repeat' split
  all_goals simp

/-! ### Random generation -/

@[simp] theorem State.deliver_kept (s : State) (c d : Nat) (b : Bytes) : Kept s (s.deliver c d b) := ⟨rfl, rfl⟩

@[simp] theorem State.offer_kept (s : State) (c : Nat) (b : Bytes) : Kept s (s.offer c b) := by
  unfold State.offer
  repeat' split
  all_goals simp

@[simp] theorem State.drbgWaits_kept (s : State) (d : Nat) : Kept s (s.drbgWaits d) := by
  unfold State.drbgWaits
  dsimp only
  repeat' split
  all_goals simp

@[simp] theorem execSettleEnd_kept (cluster : Nat) (s : State) : Kept s (s.via (execSettleEnd cluster)) := by
  simp [State.via, execSettleEnd]

@[simp] theorem execStartupTestEnd_kept (cluster : Nat) (h : HealthData) (s : State) : Kept s (s.via (execStartupTestEnd cluster h)) := by
  simp [State.via, execStartupTestEnd]

@[simp] theorem execCollectionEnd_kept (cluster : Nat) (h : HealthData) (s : State) : Kept s (s.via (execCollectionEnd cluster h)) := by
  simp [State.via, execCollectionEnd]

@[simp] theorem execSeedBlockReady_kept (cluster : Nat) (s : State) : Kept s (s.via (execSeedBlockReady cluster)) := by
  unfold execSeedBlockReady State.via
  dsimp only
  repeat' split
  all_goals simp

@[simp] theorem State.rngFatal_kept (s : State) : Kept s s.rngFatal := by simp [State.rngFatal]

@[simp] theorem execHealthTestFail_kept (cluster : Nat) (h : HealthData) (s : State) : Kept s (s.via (execHealthTestFail cluster h)) := by
  simp [State.via, execHealthTestFail]

@[simp] theorem execDrbgSeeded_kept (drbg : Nat) (s : State) : Kept s (s.via (execDrbgSeeded drbg)) := by
  unfold execDrbgSeeded State.via
  dsimp only
  repeat' split
  all_goals simp

@[simp] theorem execDrbgDue_kept (drbg : Nat) (s : State) : Kept s (s.via (execDrbgDue drbg)) := by simp [State.via, execDrbgDue]

@[simp] theorem execDrbgBlocked_kept (drbg : Nat) (s : State) : Kept s (s.via (execDrbgBlocked drbg)) := by
  simp [State.via, execDrbgBlocked]

@[simp] theorem State.draw_kept (s : State) (k n : Nat) : Kept s (s.draw k n).2 := by
  unfold State.draw
  dsimp only
  repeat' split
  all_goals simp

@[simp] theorem execDrbgRequest_kept (core n : Nat) (s : State) : Kept s (s.via (execDrbgRequest core n)) := by
  unfold execDrbgRequest State.via
  dsimp only
  repeat' split
  all_goals simp

@[simp] theorem execRngStartupComplete_kept (s : State) : Kept s (s.via execRngStartupComplete) := by
  simp [State.via, execRngStartupComplete]

@[simp] theorem State.rngStart_kept (s : State) : Kept s s.rngStart := ⟨rfl, rfl⟩

@[simp] theorem State.rngHalfOff_kept (s : State) (half : Nat) : Kept s (s.rngHalfOff half) := ⟨rfl, rfl⟩

@[simp] theorem State.rngOff_kept (s : State) : Kept s s.rngOff := ⟨rfl, rfl⟩

@[simp] theorem State.rawOn_kept (s : State) : Kept s s.rawOn := ⟨rfl, rfl⟩

@[simp] theorem execRawSourceSelect_kept (v : W64) (s : State) : Kept s (s.via (execRawSourceSelect v)) := by
  simp [State.via, execRawSourceSelect]

@[simp] theorem State.takeRaw_kept (s : State) : Kept s (s.takeRaw).2 := by
  unfold State.takeRaw
  split <;> simp

@[simp] theorem execRawDataRead_kept (path : Path) (s : State) : Kept s (s.via (execRawDataRead path)) := by
  simp [State.via, execRawDataRead]

@[simp] theorem execRawBufferFeed_kept (v : W64) (s : State) : Kept s (s.via (execRawBufferFeed v)) := by
  simp [State.via, execRawBufferFeed]

/-! ### Services -/

@[simp] theorem State.gives_kept (s : State) (o : Outcome) : Kept s (s.gives o).2 := ⟨rfl, rfl⟩

@[simp] theorem State.fails_kept (s : State) (status : Nat) : Kept s (s.fails status).2 := ⟨rfl, rfl⟩

@[simp] theorem State.noSession_kept (s : State) : Kept s (s.noSession).2 := ⟨rfl, rfl⟩

@[simp] theorem State.doneWith_kept (s : State) (result : Bytes) (commit : Option (List Change)) : Kept s (s.doneWith result commit).2 := ⟨rfl, rfl⟩

@[simp] theorem State.doneOut_kept (s : State) (r : Run) (out : Bytes) (result : Bytes) (commit : Option (List Change)) :
    Kept s (s.doneOut r out result commit).2 := ⟨rfl, rfl⟩

@[simp] theorem State.checks_snd (s : State) (r : Run) (cs : List (Bool × Nat)) (k : Unit → Res × State) :
    (s.checks r cs k).2 = if (firstFail (r.reads cs)).isSome then s else (k ()).2 := by
  unfold State.checks
  split <;> simp_all [State.fails, State.gives]

@[simp] theorem State.spend_kept (s : State) (core cycles : Nat) : Kept s (s.spend core cycles) :=
  (spend_only s core cycles).kept (by decide) (by decide)

@[simp] theorem State.withAudit_snd (s : State) (r : Run) (k : Unit → Res × State) :
    (s.withAudit r k).2 = if (firstFail (r.reads [(s.auditRoom 7, stAuditFull), (s.outcomeRoom, stKeyLimit)])).isSome then s else (k ()).2 :=
  State.checks_snd ..

@[simp] theorem State.leaveAt_kept (s : State) (core : Nat) (o : Outcome) : Kept s (s.leaveAt core o) :=
  (leaveAt_only s core o).kept (by decide) (by decide)

@[simp] theorem State.leave_kept (s : State) (r : Run) (o : Outcome) : Kept s (s.leave r o) :=
  (leave_only s r o).kept (by decide) (by decide)

@[simp] theorem State.endService_kept (s : State) (r : Run) (o : Outcome) (commit : Option (List Change)) :
    Kept s (s.endService r o commit) := by
  unfold State.endService
  dsimp only
  repeat' split
  all_goals simp

@[simp] theorem State.reroute_kept (s : State) (r : Run) : Kept s (s.reroute r) := by simp [State.reroute]

@[simp] theorem State.sendBarge_kept (s : State) (d : Nat) (e : Entry) (input : Bytes) : Kept s (s.sendBarge d e input) := by
  simp [State.sendBarge]

@[simp] theorem State.askMembers_kept (s : State) (r : Run) (own : Outcome) {join : List Outcome → State → Res × State}
    (h : ∀ os s, Kept s (join os s).2) : Kept s (s.askMembers r own join).2 := by
  unfold State.askMembers
  repeat' split
  all_goals simp [h]

@[simp] theorem State.noted_kept (s : State) (r : Run) : Kept s (s.noted r) :=
  (noted_only s r).kept (by decide) (by decide)

@[simp] theorem State.serve_kept (s : State) (k op : Nat) (hw : Hw) {svc : Service} (h : ∀ r s, Kept s (svc r s).2) :
    Kept s (s.serve k op hw svc) := by
  unfold State.serve
  split
  · exact Kept.refl s
  · split
    · simp
    · dsimp only
      split <;> simp [h]

@[simp] theorem State.freeUnits_kept (s : State) (core : Nat) : Kept s (s.freeUnits core) :=
  (freeUnits_only s core).kept (by decide) (by decide)

@[simp] theorem State.endLife_kept (s : State) : Kept s s.endLife := by simp [State.endLife]

@[simp] theorem State.countOffline_kept (s : State) (status : Nat) : Kept s (s.countOffline status) :=
  (countOffline_only s status).kept (by decide) (by decide)

@[simp] theorem execBargeFinish_kept (core : Nat) (s : State) : Kept s (s.via (execBargeFinish core)) := by
  unfold execBargeFinish State.via
  dsimp only
  repeat' split
  all_goals simp

@[simp] theorem State.loadLinks_kept (s : State) (h n : Nat) : Kept s (s.loadLinks h n) := by simp [State.loadLinks]

@[simp] theorem State.countLoads_kept (s : State) (n : Nat) : Kept s (s.countLoads n) := ⟨rfl, rfl⟩

@[simp] theorem State.loadKeys_kept (s : State) (hs : List Nat) : Kept s (s.loadKeys hs) := by simp [State.loadKeys]

@[simp] theorem State.withLane_snd (s : State) (r : Run) (hs : List Nat) (k : State → Res × State) :
    (s.withLane r hs k).2 = if (firstFail (r.reads (s.lanes r))).isSome then s else (k (s.loadKeys hs)).2 := State.checks_snd ..

@[simp] theorem State.withTile_snd (s : State) (r : Run) (loads store : Bool) (k : Unit → Res × State) :
    (s.withTile r loads store k).2 = if (firstFail (r.reads (s.tiles r loads store))).isSome then s else (k ()).2 := State.checks_snd ..

@[simp] theorem State.drawFor_kept (s : State) (r : Run) (n : Nat) : Kept s (s.drawFor r n).2 := by
  unfold State.drawFor
  dsimp only
  repeat' split
  all_goals simp

@[simp] theorem State.poolValues_kept (r : Run) (accept : Byte → Option Nat) (n fuel : Nat) (p : Pool) (s : State) :
    Kept s (s.poolValues r accept n fuel p).2 := by
  induction fuel generalizing n p s with
  | zero =>
    unfold State.poolValues
    dsimp only
    split <;> exact Kept.refl s
  | succ f ih =>
    unfold State.poolValues
    dsimp only
    repeat' split
    all_goals simp [ih]

@[simp] theorem State.engineWork_kept (s : State) (alg n : Nat) : Kept s (s.engineWork alg n) := by
  unfold State.engineWork
  dsimp only
  repeat' split
  all_goals simp

@[simp] theorem State.issueNonce_kept (s : State) (h : Nat) : Kept s (s.issueNonce h).2 :=
  (issueNonce_only s h).kept (by decide) (by decide)

@[simp] theorem State.logPermit_kept (s : State) (what tenant no action officerA officerB status : Nat) :
    Kept s (s.logPermit what tenant no action officerA officerB status) :=
  (logPermit_only s what tenant no action officerA officerB status).kept (by decide) (by decide)

@[simp] theorem State.usePermit_kept (s : State) (r : Run) (action : Nat) (device : Bool) : Kept s (s.usePermit r action device).2 :=
  (usePermit_only s r action device).kept (by decide) (by decide)

@[simp] theorem State.withPermit_snd (s : State) (r : Run) (action : Nat) (k : Option Permit → State → Res × State) (device : Bool) :
    (s.withPermit r action k device).2 =
      if (s.usePermit r action device).1.1.isSome ∨ (s.usePermit r action device).2.unsure r then (s.usePermit r action device).2
      else (k (s.usePermit r action device).1.2 (s.usePermit r action device).2).2 := by
  unfold State.withPermit
  dsimp only
  split
  · simp_all [State.fails, State.gives]
  · split <;> simp_all

@[simp] theorem State.withHandles_snd (s : State) (given : Bool) (k : Unit → Res × State) :
    (s.withHandles given k).2 = if given then (k ()).2 else s := by
  unfold State.withHandles
  split <;> rfl

/-! ### PIN and card services -/

@[simp] theorem State.putPin_kept (s before : State) (r : Run) (f h : Nat) (pin : Option (List Nat)) (pan : List Nat) (pool : Pool)
    (cycles : Nat) (hb : Kept s before) : Kept s (s.putPin before r f h pin pan pool cycles).2 := by
  unfold State.putPin
  dsimp only
  split
  · simp
  · exact hb
  · simp

@[simp] theorem pinTranslateSvc_kept (r : Run) (s : State) : Kept s (pinTranslateSvc r s).2 := by simp [pinTranslateSvc]

@[simp] theorem execPinTranslate_kept (core : Nat) (hw : Hw) (s : State) : Kept s (s.via (execPinTranslate core hw)) := by
  simp [State.via, execPinTranslate]

@[simp] theorem pinReference_kept (o : PinOp) (modes : String) (verify : Bool) (r : Run) (s : State) :
    Kept s (pinReference o modes verify r s).2 := by
  simp [pinReference]

@[simp] theorem execPinVerify3624_kept (core : Nat) (hw : Hw) (s : State) : Kept s (s.via (execPinVerify3624 core hw)) := by
  simp [State.via, execPinVerify3624]

@[simp] theorem execPinVerifyPvv_kept (core : Nat) (hw : Hw) (s : State) : Kept s (s.via (execPinVerifyPvv core hw)) := by
  simp [State.via, execPinVerifyPvv]

@[simp] theorem execOffsetGenerate_kept (core : Nat) (hw : Hw) (s : State) : Kept s (s.via (execOffsetGenerate core hw)) := by
  simp [State.via, execOffsetGenerate]

@[simp] theorem execPvvGenerate_kept (core : Nat) (hw : Hw) (s : State) : Kept s (s.via (execPvvGenerate core hw)) := by
  simp [State.via, execPvvGenerate]

@[simp] theorem pinChange_kept (o : PinOp) (r : Run) (s : State) : Kept s (pinChange o r s).2 := by simp [pinChange]

@[simp] theorem execPinChange3624_kept (core : Nat) (hw : Hw) (s : State) : Kept s (s.via (execPinChange3624 core hw)) := by
  simp [State.via, execPinChange3624]

@[simp] theorem execPinChangePvv_kept (core : Nat) (hw : Hw) (s : State) : Kept s (s.via (execPinChangePvv core hw)) := by
  simp [State.via, execPinChangePvv]

@[simp] theorem pinGenerateSvc_kept (r : Run) (s : State) : Kept s (pinGenerateSvc r s).2 := by
  simp only [pinGenerateSvc, State.checks_snd, State.withLane_snd]
  repeat' split
  all_goals simp

@[simp] theorem execPinGenerate_kept (core : Nat) (hw : Hw) (s : State) : Kept s (s.via (execPinGenerate core hw)) := by
  simp [State.via, execPinGenerate]

@[simp] theorem pinMailerSvc_kept (r : Run) (s : State) : Kept s (pinMailerSvc r s).2 := by
  simp only [pinMailerSvc, State.checks_snd]
  repeat' split
  all_goals simp

@[simp] theorem execPinMailer_kept (core : Nat) (hw : Hw) (s : State) : Kept s (s.via (execPinMailer core hw)) := by
  simp [State.via, execPinMailer]

@[simp] theorem cvvSvc_kept (verify : Bool) (r : Run) (s : State) : Kept s (cvvSvc verify r s).2 := by simp [cvvSvc]

@[simp] theorem execCvvGenerate_kept (core : Nat) (hw : Hw) (s : State) : Kept s (s.via (execCvvGenerate core hw)) := by
  simp [State.via, execCvvGenerate]

@[simp] theorem execCvvVerify_kept (core : Nat) (hw : Hw) (s : State) : Kept s (s.via (execCvvVerify core hw)) := by
  simp [State.via, execCvvVerify]

@[simp] theorem cvc3Svc_kept (r : Run) (s : State) : Kept s (cvc3Svc r s).2 := by simp [cvc3Svc]

@[simp] theorem execCvc3Verify_kept (core : Nat) (hw : Hw) (s : State) : Kept s (s.via (execCvc3Verify core hw)) := by
  simp [State.via, execCvc3Verify]

@[simp] theorem dukptPinSvc_kept (r : Run) (s : State) : Kept s (dukptPinSvc r s).2 := by simp [dukptPinSvc]

@[simp] theorem execDukptPinTranslate_kept (core : Nat) (hw : Hw) (s : State) : Kept s (s.via (execDukptPinTranslate core hw)) := by
  simp [State.via, execDukptPinTranslate]

@[simp] theorem dukptMacSvc_kept (r : Run) (s : State) : Kept s (dukptMacSvc r s).2 := by simp [dukptMacSvc]

@[simp] theorem execDukptMacVerify_kept (core : Nat) (hw : Hw) (s : State) : Kept s (s.via (execDukptMacVerify core hw)) := by
  simp [State.via, execDukptMacVerify]

@[simp] theorem dukptExportSvc_kept (r : Run) (s : State) : Kept s (dukptExportSvc r s).2 := by
  simp only [dukptExportSvc, State.checks_snd]
  repeat' split
  all_goals simp

@[simp] theorem execDukptInitialKeyExport_kept (core : Nat) (hw : Hw) (s : State) : Kept s (s.via (execDukptInitialKeyExport core hw)) := by
  simp [State.via, execDukptInitialKeyExport]

/-! ### Data services -/

@[simp] theorem arqcSvc_kept (arpc : Bool) (r : Run) (s : State) : Kept s (arqcSvc arpc r s).2 := by simp [arqcSvc]

@[simp] theorem execArqcVerify_kept (core : Nat) (hw : Hw) (s : State) : Kept s (s.via (execArqcVerify core hw)) := by
  simp [State.via, execArqcVerify]

@[simp] theorem execArqcVerifyArpc_kept (core : Nat) (hw : Hw) (s : State) : Kept s (s.via (execArqcVerifyArpc core hw)) := by
  simp [State.via, execArqcVerifyArpc]

@[simp] theorem scriptSvc_kept (mac : Bool) (r : Run) (s : State) : Kept s (scriptSvc mac r s).2 := by
  simp only [scriptSvc, State.checks_snd]
  repeat' split
  all_goals simp

@[simp] theorem execScriptMac_kept (core : Nat) (hw : Hw) (s : State) : Kept s (s.via (execScriptMac core hw)) := by
  simp [State.via, execScriptMac]

@[simp] theorem execScriptEncrypt_kept (core : Nat) (hw : Hw) (s : State) : Kept s (s.via (execScriptEncrypt core hw)) := by
  simp [State.via, execScriptEncrypt]

@[simp] theorem State.macWork_kept (s : State) (r : Run) : Kept s (s.macWork r) := by simp [State.macWork]

@[simp] theorem macSvc_kept (verify : Bool) (r : Run) (s : State) : Kept s (macSvc verify r s).2 := by
  simp only [macSvc, State.checks_snd]
  repeat' split
  all_goals simp

@[simp] theorem execMacGenerate_kept (core : Nat) (hw : Hw) (s : State) : Kept s (s.via (execMacGenerate core hw)) := by
  simp [State.via, execMacGenerate]

@[simp] theorem execMacVerify_kept (core : Nat) (hw : Hw) (s : State) : Kept s (s.via (execMacVerify core hw)) := by
  simp [State.via, execMacVerify]

@[simp] theorem State.heldAfter_kept (s : State) (core : Nat) (used : Bool) : Kept s (s.heldAfter core used) := by simp [State.heldAfter]

@[simp] theorem cipherSvc_kept (enc : Bool) (r : Run) (s : State) : Kept s (cipherSvc enc r s).2 := by
  simp only [cipherSvc, State.checks_snd]
  repeat' split
  all_goals simp

@[simp] theorem execEncrypt_kept (core : Nat) (hw : Hw) (s : State) : Kept s (s.via (execEncrypt core hw)) := by
  simp [State.via, execEncrypt]

@[simp] theorem execDecrypt_kept (core : Nat) (hw : Hw) (s : State) : Kept s (s.via (execDecrypt core hw)) := by
  simp [State.via, execDecrypt]

@[simp] theorem randomSvc_kept (r : Run) (s : State) : Kept s (randomSvc r s).2 := by
  simp only [randomSvc, State.checks_snd]
  repeat' split
  all_goals simp

@[simp] theorem execRandomBytes_kept (core : Nat) (hw : Hw) (s : State) : Kept s (s.via (execRandomBytes core hw)) := by
  simp [State.via, execRandomBytes]

@[simp] theorem hashSvc_kept (r : Run) (s : State) : Kept s (hashSvc r s).2 := by
  simp only [hashSvc, State.checks_snd]
  repeat' split
  all_goals simp

@[simp] theorem execHash_kept (core : Nat) (hw : Hw) (s : State) : Kept s (s.via (execHash core hw)) := by simp [State.via, execHash]

/-! ### Key management -/

@[simp] theorem keyGenerateSvc_kept (r : Run) (s : State) : Kept s (keyGenerateSvc r s).2 := by
  simp only [keyGenerateSvc, State.checks_snd, State.withPermit_snd]
  repeat' split
  all_goals simp

@[simp] theorem execKeyGenerate_kept (core : Nat) (hw : Hw) (s : State) : Kept s (s.via (execKeyGenerate core hw)) := by
  simp [State.via, execKeyGenerate]

@[simp] theorem keyCheckSvc_kept (r : Run) (s : State) : Kept s (keyCheckSvc r s).2 := by simp [keyCheckSvc]

@[simp] theorem execKeyCheckValue_kept (core : Nat) (hw : Hw) (s : State) : Kept s (s.via (execKeyCheckValue core hw)) := by
  simp [State.via, execKeyCheckValue]

@[simp] theorem keyImportSvc_kept (r : Run) (s : State) : Kept s (keyImportSvc r s).2 := by simp [keyImportSvc]

@[simp] theorem execKeyImport_kept (core : Nat) (hw : Hw) (s : State) : Kept s (s.via (execKeyImport core hw)) := by
  simp [State.via, execKeyImport]

@[simp] theorem State.writeBlock_kept (s before : State) (r : Run) (kek : Nat) (hl : KLabel) (key : Bytes) (cycles : Nat → Nat)
    (hb : Kept s before) : Kept s (s.writeBlock before r kek hl key cycles).2 := by
  unfold State.writeBlock
  dsimp only
  split
  · exact hb
  · simp
  · simp

@[simp] theorem keyExportSvc_kept (r : Run) (s : State) : Kept s (keyExportSvc r s).2 := by simp [keyExportSvc]

@[simp] theorem execKeyExport_kept (core : Nat) (hw : Hw) (s : State) : Kept s (s.via (execKeyExport core hw)) := by
  simp [State.via, execKeyExport]

@[simp] theorem keyTranslateSvc_kept (r : Run) (s : State) : Kept s (keyTranslateSvc r s).2 := by
  simp only [keyTranslateSvc, State.checks_snd, State.withPermit_snd, State.withHandles_snd, State.withLane_snd]
  repeat' split
  all_goals simp

@[simp] theorem execKeyTranslate_kept (core : Nat) (hw : Hw) (s : State) : Kept s (s.via (execKeyTranslate core hw)) := by
  simp [State.via, execKeyTranslate]

@[simp] theorem State.setComps_kept (s : State) (cs : List CompSession) : Kept s (s.setComps cs) := ⟨rfl, rfl⟩

@[simp] theorem State.addComponents_kept (s : State) (c : CompSession) : Kept s (s.addComponents c) := ⟨rfl, rfl⟩

@[simp] theorem componentOpenSvc_kept (r : Run) (s : State) : Kept s (componentOpenSvc r s).2 := by
  simp only [componentOpenSvc, State.checks_snd, State.withPermit_snd, State.withTile_snd]
  repeat' split
  all_goals simp

@[simp] theorem execComponentOpen_kept (core : Nat) (hw : Hw) (s : State) : Kept s (s.via (execComponentOpen core hw)) := by
  simp [State.via, execComponentOpen]

@[simp] theorem State.addPart_kept (s : State) (no : Nat) (part : Bytes) : Kept s (s.addPart no part) := ⟨rfl, rfl⟩

@[simp] theorem componentAddSvc_kept (r : Run) (s : State) : Kept s (componentAddSvc r s).2 := by
  simp only [componentAddSvc, State.checks_snd]
  repeat' split
  all_goals simp

@[simp] theorem execComponentAdd_kept (core : Nat) (hw : Hw) (s : State) : Kept s (s.via (execComponentAdd core hw)) := by
  simp [State.via, execComponentAdd]

@[simp] theorem componentCloseSvc_kept (r : Run) (s : State) : Kept s (componentCloseSvc r s).2 := by
  simp only [componentCloseSvc, State.checks_snd]
  repeat' split
  all_goals simp

@[simp] theorem execComponentClose_kept (core : Nat) (hw : Hw) (s : State) : Kept s (s.via (execComponentClose core hw)) := by
  simp [State.via, execComponentClose]

@[simp] theorem execComponentSessionExpire_kept (session : Nat) (s : State) : Kept s (s.via (execComponentSessionExpire session)) := by
  simp [State.via, execComponentSessionExpire]

@[simp] theorem keyDeleteSvc_kept (r : Run) (s : State) : Kept s (keyDeleteSvc r s).2 := by simp [keyDeleteSvc]

@[simp] theorem execKeyDelete_kept (core : Nat) (hw : Hw) (s : State) : Kept s (s.via (execKeyDelete core hw)) := by
  simp [State.via, execKeyDelete]

@[simp] theorem State.loadChains_kept (s : State) (a b : Nat) : Kept s (s.loadChains a b) := by simp [State.loadChains]

@[simp] theorem tr34ImportSvc_kept (r : Run) (s : State) : Kept s (tr34ImportSvc r s).2 := by
  simp only [tr34ImportSvc, State.checks_snd, State.withPermit_snd, State.withHandles_snd, State.withTile_snd]
  repeat' split
  all_goals simp

@[simp] theorem execTr34Import_kept (core : Nat) (hw : Hw) (s : State) : Kept s (s.via (execTr34Import core hw)) := by
  simp [State.via, execTr34Import]

@[simp] theorem tr34ExportSvc_kept (r : Run) (s : State) : Kept s (tr34ExportSvc r s).2 := by
  simp only [tr34ExportSvc, State.checks_snd, State.withPermit_snd, State.withHandles_snd, State.withTile_snd]
  repeat' split
  all_goals simp

@[simp] theorem execTr34Export_kept (core : Nat) (hw : Hw) (s : State) : Kept s (s.via (execTr34Export core hw)) := by
  simp [State.via, execTr34Export]

/-! ### Administration -/

@[simp] theorem permitLodgeSvc_kept (r : Run) (s : State) : Kept s (permitLodgeSvc r s).2 := by
  simp only [permitLodgeSvc, State.checks_snd]
  repeat' split
  all_goals simp

@[simp] theorem execPermitLodge_kept (core : Nat) (hw : Hw) (s : State) : Kept s (s.via (execPermitLodge core hw)) := by
  simp [State.via, execPermitLodge]

@[simp] theorem State.withdrawHere_kept (s : State) (t no : Nat) : Kept s (s.withdrawHere t no).2 := by
  unfold State.withdrawHere
  split <;> simp

@[simp] theorem joinWithdraw_kept (os : List Outcome) (s : State) : Kept s (joinWithdraw os s).2 := by
  unfold joinWithdraw
  split <;> simp

@[simp] theorem permitWithdrawSvc_kept (r : Run) (s : State) : Kept s (permitWithdrawSvc r s).2 := by
  simp only [permitWithdrawSvc, State.checks_snd]
  repeat' split
  all_goals simp

@[simp] theorem execPermitWithdraw_kept (core : Nat) (hw : Hw) (s : State) : Kept s (s.via (execPermitWithdraw core hw)) := by
  simp [State.via, execPermitWithdraw]

@[simp] theorem State.tenantOp_kept (s : State) (r : Run) (action : Nat) {k : Nat → State → Res × State} (h : ∀ t s, Kept s (k t s).2) :
    Kept s (s.tenantOp r action k).2 := by
  simp [State.tenantOp, h]

@[simp] theorem tenantCreateSvc_kept (r : Run) (s : State) : Kept s (tenantCreateSvc r s).2 := by simp [tenantCreateSvc]

@[simp] theorem execTenantCreate_kept (core : Nat) (hw : Hw) (s : State) : Kept s (s.via (execTenantCreate core hw)) := by
  simp [State.via, execTenantCreate]

@[simp] theorem tenantPolicySvc_kept (r : Run) (s : State) : Kept s (tenantPolicySvc r s).2 := by simp [tenantPolicySvc]

@[simp] theorem execTenantPolicy_kept (core : Nat) (hw : Hw) (s : State) : Kept s (s.via (execTenantPolicy core hw)) := by
  simp [State.via, execTenantPolicy]

@[simp] theorem tenantDeleteSvc_kept (r : Run) (s : State) : Kept s (tenantDeleteSvc r s).2 := by simp [tenantDeleteSvc]

@[simp] theorem execTenantDelete_kept (core : Nat) (hw : Hw) (s : State) : Kept s (s.via (execTenantDelete core hw)) := by
  simp [State.via, execTenantDelete]

@[simp] theorem execTenantReclaimDone_kept (tenant : Nat) (s : State) : Kept s (s.via (execTenantReclaimDone tenant)) := by
  simp [State.via, execTenantReclaimDone]

@[simp] theorem officerEnrolSvc_kept (r : Run) (s : State) : Kept s (officerEnrolSvc r s).2 := by simp [officerEnrolSvc]

@[simp] theorem execOfficerEnrol_kept (core : Nat) (hw : Hw) (s : State) : Kept s (s.via (execOfficerEnrol core hw)) := by
  simp [State.via, execOfficerEnrol]

@[simp] theorem officerRevokeSvc_kept (r : Run) (s : State) : Kept s (officerRevokeSvc r s).2 := by simp [officerRevokeSvc]

@[simp] theorem execOfficerRevoke_kept (core : Nat) (hw : Hw) (s : State) : Kept s (s.via (execOfficerRevoke core hw)) := by
  simp [State.via, execOfficerRevoke]

@[simp] theorem calendarSetSvc_kept (r : Run) (s : State) : Kept s (calendarSetSvc r s).2 := by
  simp only [calendarSetSvc, State.checks_snd, State.withPermit_snd]
  repeat' split
  all_goals simp

@[simp] theorem execCalendarSet_kept (core : Nat) (hw : Hw) (s : State) : Kept s (s.via (execCalendarSet core hw)) := by
  simp [State.via, execCalendarSet]

@[simp] theorem joinQuery_kept (os : List Outcome) (s : State) : Kept s (joinQuery os s).2 := by
  unfold joinQuery
  dsimp only
  repeat' split
  all_goals simp

@[simp] theorem journalQuerySvc_kept (r : Run) (s : State) : Kept s (journalQuerySvc r s).2 := by simp [journalQuerySvc]

@[simp] theorem execJournalQuery_kept (core : Nat) (hw : Hw) (s : State) : Kept s (s.via (execJournalQuery core hw)) := by
  simp [State.via, execJournalQuery]

/-! ### Asymmetric services -/

@[simp] theorem State.drawAccepted_kept (r : Run) (n : Nat) (accept : Bytes → Bool) (fuel : Nat) (s : State) :
    Kept s (s.drawAccepted r n accept fuel).2 := by
  induction fuel generalizing s with
  | zero => exact Kept.refl s
  | succ f ih =>
    unfold State.drawAccepted
    dsimp only
    repeat' split
    all_goals simp [ih]

@[simp] theorem State.withRandom_kept (s before : State) (r : Run) (n : Nat) {k : Bytes → State → Res × State} (accept : Bytes → Bool)
    (hb : Kept s before) (h : ∀ bs s, Kept s (k bs s).2) : Kept s (s.withRandom before r n k accept).2 := by
  unfold State.withRandom
  dsimp only
  repeat' split
  · exact h [] s
  · exact hb
  · simp
  · simp [h]

@[simp] theorem State.withRoom_snd (s : State) (r : Run) (n : Nat) (k : Unit → Res × State) :
    (s.withRoom r n k).2 = if r.b.outCap < n then s else (k ()).2 := by
  unfold State.withRoom
  split <;> rfl

@[simp] theorem keygenSvc_kept (op : Nat) (algs : List String) (r : Run) (s : State) : Kept s (keygenSvc op algs r s).2 := by
  simp [keygenSvc]

@[simp] theorem execAsymKeygen_kept (core : Nat) (hw : Hw) (s : State) : Kept s (s.via (execAsymKeygen core hw)) := by
  simp [State.via, execAsymKeygen]

@[simp] theorem execPqKeygen_kept (core : Nat) (hw : Hw) (s : State) : Kept s (s.via (execPqKeygen core hw)) := by
  simp [State.via, execPqKeygen]

@[simp] theorem pubkeyReadSvc_kept (r : Run) (s : State) : Kept s (pubkeyReadSvc r s).2 := by simp [pubkeyReadSvc]

@[simp] theorem execPubkeyRead_kept (core : Nat) (hw : Hw) (s : State) : Kept s (s.via (execPubkeyRead core hw)) := by
  simp [State.via, execPubkeyRead]

@[simp] theorem signSvc_kept (op : Nat) (usages : List String) (algs : List (String × List Nat)) (schemes : List Nat) (r : Run)
    (s : State) :
    Kept s (signSvc op usages algs schemes r s).2 := by
  simp [signSvc]

@[simp] theorem execSign_kept (core : Nat) (hw : Hw) (s : State) : Kept s (s.via (execSign core hw)) := by simp [State.via, execSign]

@[simp] theorem execMldsaSign_kept (core : Nat) (hw : Hw) (s : State) : Kept s (s.via (execMldsaSign core hw)) := by
  simp [State.via, execMldsaSign]

@[simp] theorem verifySvc_kept (op : Nat) (usages : List String) (algs : List (String × List Nat)) (schemes : List Nat) (r : Run)
    (s : State) :
    Kept s (verifySvc op usages algs schemes r s).2 := by
  simp [verifySvc]

@[simp] theorem execVerify_kept (core : Nat) (hw : Hw) (s : State) : Kept s (s.via (execVerify core hw)) := by simp [State.via, execVerify]

@[simp] theorem execMldsaVerify_kept (core : Nat) (hw : Hw) (s : State) : Kept s (s.via (execMldsaVerify core hw)) := by
  simp [State.via, execMldsaVerify]

@[simp] theorem rsaEncryptSvc_kept (r : Run) (s : State) : Kept s (rsaEncryptSvc r s).2 := by simp [rsaEncryptSvc]

@[simp] theorem execRsaEncrypt_kept (core : Nat) (hw : Hw) (s : State) : Kept s (s.via (execRsaEncrypt core hw)) := by
  simp [State.via, execRsaEncrypt]

@[simp] theorem rsaDecryptSvc_kept (r : Run) (s : State) : Kept s (rsaDecryptSvc r s).2 := by simp [rsaDecryptSvc]

@[simp] theorem execRsaDecrypt_kept (core : Nat) (hw : Hw) (s : State) : Kept s (s.via (execRsaDecrypt core hw)) := by
  simp [State.via, execRsaDecrypt]

@[simp] theorem State.doneDerived_kept (s before : State) (l : KLabel) (key : Bytes) : Kept s (s.doneDerived before l key).2 := ⟨rfl, rfl⟩

@[simp] theorem agreeSvc_kept (r : Run) (s : State) : Kept s (agreeSvc r s).2 := by simp [agreeSvc]

@[simp] theorem execAgree_kept (core : Nat) (hw : Hw) (s : State) : Kept s (s.via (execAgree core hw)) := by simp [State.via, execAgree]

@[simp] theorem encapsSvc_kept (r : Run) (s : State) : Kept s (encapsSvc r s).2 := by simp [encapsSvc]

@[simp] theorem execMlkemEncaps_kept (core : Nat) (hw : Hw) (s : State) : Kept s (s.via (execMlkemEncaps core hw)) := by
  simp [State.via, execMlkemEncaps]

@[simp] theorem decapsSvc_kept (r : Run) (s : State) : Kept s (decapsSvc r s).2 := by simp [decapsSvc]

@[simp] theorem execMlkemDecaps_kept (core : Nat) (hw : Hw) (s : State) : Kept s (s.via (execMlkemDecaps core hw)) := by
  simp [State.via, execMlkemDecaps]

@[simp] theorem attestSvc_kept (r : Run) (s : State) : Kept s (attestSvc r s).2 := by simp [attestSvc]

@[simp] theorem execAttestReport_kept (core : Nat) (hw : Hw) (s : State) : Kept s (s.via (execAttestReport core hw)) := by
  simp [State.via, execAttestReport]

@[simp] theorem certReadSvc_kept (r : Run) (s : State) : Kept s (certReadSvc r s).2 := by simp [certReadSvc]

@[simp] theorem execCertRead_kept (core : Nat) (hw : Hw) (s : State) : Kept s (s.via (execCertRead core hw)) := by
  simp [State.via, execCertRead]

/-! ### The life cycle -/

@[simp] theorem State.issueChallenge_kept (s : State) (scope : BitVec 4) : Kept s (s.issueChallenge scope) := by
  unfold State.issueChallenge
  dsimp only
  repeat' split
  all_goals simp

@[simp] theorem State.retryChallenge_kept (s : State) : Kept s s.retryChallenge := by
  unfold State.retryChallenge
  split
  · exact State.issueChallenge_kept s _
  · exact Kept.refl s

@[simp] theorem execYuhildRequest_kept (scope : BitVec 4) (s : State) : Kept s (s.via (execYuhildRequest scope)) := by
  simp [State.via, execYuhildRequest]

@[simp] theorem execYuhildSubmit_kept (s : State) : Kept s (s.via execYuhildSubmit) := by simp [State.via, execYuhildSubmit]

@[simp] theorem State.unlock_kept (s : State) (c : Bytes) : Kept s (s.unlock c) := by simp [State.unlock]

@[simp] theorem execYuhildVerifyDone_kept (s : State) : Kept s (s.via execYuhildVerifyDone) := by
  unfold execYuhildVerifyDone State.via
  dsimp only
  repeat' split
  all_goals simp

@[simp] theorem endOfLifeSvc_kept (r : Run) (s : State) : Kept s (endOfLifeSvc r s).2 := by simp [endOfLifeSvc]

@[simp] theorem execEndOfLife_kept (core : Nat) (hw : Hw) (s : State) : Kept s (s.via (execEndOfLife core hw)) := by
  simp [State.via, execEndOfLife]

/-! ### The store -/

@[simp] theorem State.deriveDriveKeys_kept (s : State) (cr : Bytes) : Kept s (s.deriveDriveKeys cr) := by simp [State.deriveDriveKeys]

@[simp] theorem State.dropAllKeys_kept (s : State) : Kept s s.dropAllKeys := ⟨rfl, rfl⟩

@[simp] theorem State.rereadPageIns_kept (s : State) : Kept s s.rereadPageIns := by simp [State.rereadPageIns]

@[simp] theorem State.formatStore_kept (s : State) : Kept s s.formatStore := by simp [State.formatStore]

@[simp] theorem cargoFormatSvc_kept (r : Run) (s : State) : Kept s (cargoFormatSvc r s).2 := by simp [cargoFormatSvc]

@[simp] theorem execCargoFormat_kept (core : Nat) (hw : Hw) (s : State) : Kept s (s.via (execCargoFormat core hw)) := by
  simp [State.via, execCargoFormat]

@[simp] theorem State.rewriteHold_kept (s : State) : Kept s s.rewriteHold := by
  unfold State.rewriteHold
  split <;> simp

@[simp] theorem State.rewriteSectors_kept (s : State) (lo n : Nat) : Kept s (s.rewriteSectors lo n) := ⟨rfl, rfl⟩

@[simp] theorem State.migrateTo_kept (s : State) (hi : Nat) : Kept s (s.migrateTo hi) := by
  unfold State.migrateTo
  split <;> simp

@[simp] theorem State.migrateEnd_kept (s : State) (f : Nat) : Kept s (s.migrateEnd f) := by simp [State.migrateEnd]

@[simp] theorem State.migrateBegin_kept (s : State) (r : Run) (f : Nat) : Kept s (s.migrateBegin r f) := by simp [State.migrateBegin]

@[simp] theorem versionMigrateSvc_kept (bad : Option (BitVec 3 × Nat)) (r : Run) (s : State) : Kept s (versionMigrateSvc bad r s).2 := by
  simp only [versionMigrateSvc, State.checks_snd, State.withPermit_snd]
  repeat' split
  all_goals simp

@[simp] theorem execVersionMigrate_kept (core : Nat) (hw : Hw) (bad : Option (BitVec 3 × Nat)) (s : State) :
    Kept s (s.via (execVersionMigrate core hw bad)) := by
  simp [State.via, execVersionMigrate]

/-! ### Resets -/

@[simp] theorem State.kept_pending (s : State) : s.kept.pending = s.pending := rfl
@[simp] theorem State.kept_sram (s : State) : s.kept.sram = [] := rfl

@[simp] theorem State.sentryLost_kept (s : State) : Kept s s.sentryLost := ⟨rfl, rfl⟩

theorem State.losePower_steady (s : State) (v : Bool) : Steady s (s.losePower v) := by
  unfold State.losePower
  split
  · exact (Kept.refl s).steady
  · cases v <;> exact Steady.of_nil (by simp) rfl

theorem State.returnPower_steady (s : State) : Steady s s.returnPower := Steady.of_nil rfl rfl

theorem State.resetWith_steady (s : State) (cause : Nat) : Steady s (s.resetWith cause) := Steady.of_nil rfl rfl

theorem execMainPowerLost_steady (v : Bool) (s : State) : Steady s (s.via (execMainPowerLost v)) := s.losePower_steady v

theorem execSentryPowerLost_steady (s : State) : Steady s (s.via execSentryPowerLost) := by
  unfold execSentryPowerLost State.via
  dsimp only
  split
  · exact (Kept.refl s).steady
  · exact Steady.of_nil rfl rfl

theorem execMainPowerReturn_steady (s : State) : Steady s (s.via execMainPowerReturn) := by
  unfold execMainPowerReturn State.via
  dsimp only
  repeat' split
  · exact (Kept.refl s).steady
  · exact Steady.of_nil rfl rfl
  · exact Steady.of_nil (State.sentryAdd_kept ..).1 (State.sentryAdd_kept ..).2

theorem execResetNLow_steady (cycles : Nat) (low v : Bool) (s : State) : Steady s (s.via (execResetNLow cycles low v)) := by
  unfold execResetNLow State.via
  dsimp only
  repeat' split
  · exact (Kept.refl s).steady
  · exact Kept.steady (by simp)
  · exact s.losePower_steady v
  · exact s.resetWith_steady _

/-! ### The lengthsman -/

@[simp] theorem State.conditionGone_kept (s : State) (src : Nat) : Kept s (s.conditionGone src) := ⟨rfl, rfl⟩

@[simp] theorem State.sampleClear_kept (s : State) (src : Nat) : Kept s (s.sampleClear src) := ⟨rfl, rfl⟩

@[simp] theorem State.sampleOne_kept (p : State × List (Nat × Nat)) (x : Nat × Bool) : Kept p.1 (State.sampleOne p x).1 := by
  unfold State.sampleOne
  dsimp only
  repeat' split
  all_goals simp

@[simp] theorem execAlarmSample_kept (samples : List (Nat × Bool)) (s : State) : Kept s (s.via (execAlarmSample samples)) := by
  have hf : ∀ (xs : List (Nat × Bool)) (p : State × List (Nat × Nat)), Kept p.1 (xs.foldl State.sampleOne p).1 := by
    intro xs
    induction xs with
    | nil => exact fun p => Kept.refl p.1
    | cons x xs ih => exact fun p => (State.sampleOne_kept p x).trans (ih _)
  have h (t : State) : Kept t ((samples.foldl State.sampleOne (t, [])).1) := hf samples (t, [])
  simp [State.via, execAlarmSample, h]

@[simp] theorem State.clearLatch_kept (s : State) (src : Nat) : Kept s (s.clearLatch src) := by simp [State.clearLatch]

@[simp] theorem execLatchHoldExpire_kept (source : Nat) (s : State) : Kept s (s.via (execLatchHoldExpire source)) := by
  unfold execLatchHoldExpire State.via
  dsimp only
  repeat' split
  all_goals simp

@[simp] theorem execLatchClearWrite_kept (v : W64) (s : State) : Kept s (s.via (execLatchClearWrite v)) := by
  simp [State.via, execLatchClearWrite]

@[simp] theorem State.cellOne_kept (p : State × List Nat) (x : Nat × Bool) : Kept p.1 (State.cellOne p x).1 := by
  unfold State.cellOne
  dsimp only
  repeat' split
  all_goals simp

@[simp] theorem execCellSample_kept (samples : List (Nat × Bool)) (s : State) : Kept s (s.via (execCellSample samples)) := by
  have hf : ∀ (xs : List (Nat × Bool)) (p : State × List Nat), Kept p.1 (xs.foldl State.cellOne p).1 := by
    intro xs
    induction xs with
    | nil => exact fun p => Kept.refl p.1
    | cons x xs ih => exact fun p => (State.cellOne_kept p x).trans (ih _)
  have h (t : State) : Kept t ((samples.foldl State.cellOne (t, [])).1) := hf samples (t, [])
  simp [State.via, execCellSample, h]

/-! ### The SLU -/

@[simp] theorem State.giveWords_kept (s : State) (master : Nat) (ws : List TWord) : Kept s (s.giveWords master ws) := ⟨rfl, rfl⟩

@[simp] theorem State.failJob_kept (s : State) (master core status : Nat) : Kept s (s.failJob master core status) := by simp [State.failJob]

@[simp] theorem State.refuseLine_kept (s : State) (master core : Nat) (k : Access) (bad : Nat × Option Nat) :
    Kept s (s.refuseLine master core k bad) := by
  simp [State.refuseLine]

@[simp] theorem State.outOfRange_kept (s : State) (master core : Nat) : Kept s (s.outOfRange master core) := by simp [State.outOfRange]

@[simp] theorem State.otherDomain_kept (s : State) (master core : Nat) : Kept s (s.otherDomain master core) := by simp [State.otherDomain]

@[simp] theorem State.readLine_kept (s : State) (master core kd off : Nat) (r : DramReturn) : Kept s (s.readLine master core kd off r) := by
  unfold State.readLine
  dsimp only
  repeat' split
  all_goals simp

@[simp] theorem execLineRead_kept (master core addr : Nat) (r : DramReturn) (s : State) :
    Kept s (s.via (execLineRead master core addr r)) := by
  unfold execLineRead State.via
  dsimp only
  repeat' split
  all_goals simp

@[simp] theorem State.writeLine_kept (s : State) (master core kd off : Nat) (words : List TWord) (r : DramReturn) :
    Kept s (s.writeLine master core kd off words r) := by
  unfold State.writeLine
  dsimp only
  repeat' split
  all_goals simp

@[simp] theorem execFullLineWrite_kept (master core addr : Nat) (words : List TWord) (r : DramReturn) (s : State) :
    Kept s (s.via (execFullLineWrite master core addr words r)) := by
  unfold execFullLineWrite State.via
  dsimp only
  repeat' split
  all_goals simp

@[simp] theorem State.writePart_kept (s : State) (master core kd off : Nat) (ws : List (Nat × TWord)) (r : DramReturn) :
    Kept s (s.writePart master core kd off ws r) := by
  unfold State.writePart
  dsimp only
  repeat' split
  all_goals simp

@[simp] theorem State.writeSplit_kept (s : State) (master core kd off : Nat) (ws : List (Nat × TWord)) (r : DramReturn) (l : Nat) :
    Kept s (s.writeSplit master core kd off ws r l) := by
  simp [State.writeSplit]

@[simp] theorem execPartialWrite_kept (master core addr : Nat) (words : List (Nat × TWord)) (r : DramReturn) (s : State) :
    Kept s (s.via (execPartialWrite master core addr words r)) := by
  unfold execPartialWrite State.via
  dsimp only
  repeat' split
  all_goals simp

@[simp] theorem execPatrolScrub_kept (channel words : Nat) (r : DramReturn) (s : State) :
    Kept s (s.via (execPatrolScrub channel words r)) := by
  simp [State.via, execPatrolScrub]

/-! ### The wharf -/

@[simp] theorem State.flrRing_kept (s : State) (r : Nat) : Kept s (s.flrRing r) := by
  unfold State.flrRing
  extract_lets g lost t
  have ht : Kept s t := Kept.foldl (fun s p => by split <;> simp) _ s
  split
  · exact ht.trans ⟨rfl, rfl⟩
  · exact ht.trans (Kept.trans ⟨rfl, rfl⟩ (State.abortWhere_kept ..))

@[simp] theorem State.functionReset_kept (s : State) (p : Nat → Bool) : Kept s (s.functionReset p) := by simp [State.functionReset]

@[simp] theorem execFunctionLevelReset_kept (fn : Nat) (s : State) : Kept s (s.via (execFunctionLevelReset fn)) := by
  simp [State.via, execFunctionLevelReset]

@[simp] theorem execHotReset_kept (s : State) : Kept s (s.via execHotReset) := by simp [State.via, execHotReset]

@[simp] theorem execVfEnableClear_kept (s : State) : Kept s (s.via execVfEnableClear) := by simp [State.via, execVfEnableClear]

@[simp] theorem State.pcieDown_kept (s : State) : Kept s s.pcieDown := by simp [State.pcieDown]

@[simp] theorem execPcieLinkDown_kept (s : State) : Kept s (s.via execPcieLinkDown) := by simp [State.via, execPcieLinkDown]

@[simp] theorem execPcieLinkUp_kept (gen width vfs : Nat) (bme : List Nat) (masked : List (Nat × Nat)) (s : State) :
    Kept s (s.via (execPcieLinkUp gen width vfs bme masked)) := by
  unfold execPcieLinkUp State.via
  dsimp only
  repeat' split
  all_goals simp

@[simp] theorem State.ethFollow_kept (s : State) (p : Nat) : Kept s (s.ethFollow p) := by simp [State.ethFollow]

@[simp] theorem State.putSession_kept (s : State) (n : Nat) (x : Session) : Kept s (s.putSession n x) := ⟨rfl, rfl⟩

@[simp] theorem State.sessionTraffic_kept (s : State) (n : Nat) : Kept s (s.sessionTraffic n) := by
  unfold State.sessionTraffic
  split <;> simp

@[simp] theorem State.dropSession_kept (s : State) (n what : Nat) : Kept s (s.dropSession n what) := by
  unfold State.dropSession
  split <;> simp

@[simp] theorem State.dropSessions_kept (s : State) (p : Session → Bool) : Kept s (s.dropSessions p) := by simp [State.dropSessions]

@[simp] theorem execTcpConnect_kept (port : Nat) (s : State) : Kept s (s.via (execTcpConnect port)) := by simp [State.via, execTcpConnect]

@[simp] theorem execControlPacket_kept (port : Nat) (s : State) : Kept s (s.via (execControlPacket port)) := by
  simp [State.via, execControlPacket]

@[simp] theorem execTcpKeepalive_kept (session : Nat) (s : State) : Kept s (s.via (execTcpKeepalive session)) := by
  unfold execTcpKeepalive State.via
  dsimp only
  repeat' split
  all_goals simp

@[simp] theorem State.handshakeFails_kept (s : State) (n what : Nat) : Kept s (s.handshakeFails n what) := by simp [State.handshakeFails]

@[simp] theorem execTlsClientHello_kept (session : Nat) (hello : Bytes) (s : State) : Kept s (s.via (execTlsClientHello session hello)) := by
  unfold execTlsClientHello State.via
  dsimp only
  repeat' split
  all_goals simp

@[simp] theorem execClientFinished_kept (session : Nat) (chain : List Bytes) (flight : Bytes) (s : State) :
    Kept s (s.via (execClientFinished session chain flight)) := by
  unfold execClientFinished State.via
  dsimp only
  repeat' split
  all_goals simp

@[simp] theorem execTlsKeyUpdate_kept (session : Nat) (s : State) : Kept s (s.via (execTlsKeyUpdate session)) := by
  unfold execTlsKeyUpdate State.via
  dsimp only
  repeat' split
  all_goals simp

@[simp] theorem execHandshakeTimeout_kept (session : Nat) (s : State) : Kept s (s.via (execHandshakeTimeout session)) := by
  unfold execHandshakeTimeout State.via
  dsimp only
  repeat' split
  all_goals simp

@[simp] theorem execTlsSessionClose_kept (session : Nat) (s : State) : Kept s (s.via (execTlsSessionClose session)) := by
  simp [State.via, execTlsSessionClose]

@[simp] theorem execLoopbackStart_kept (v : W64) (s : State) : Kept s (s.via (execLoopbackStart v)) := by
  simp [State.via, execLoopbackStart]

@[simp] theorem State.cargoRetrains_kept (s : State) : Kept s s.cargoRetrains := by simp [State.cargoRetrains]

@[simp] theorem State.endLoop_kept (s : State) (result checked errors : Nat) : Kept s (s.endLoop result checked errors) :=
  (endLoop_only s result checked errors).kept (by decide) (by decide)

@[simp] theorem execLoopbackEnd_kept (checked errors : Nat) (s : State) : Kept s (s.via (execLoopbackEnd checked errors)) := by
  unfold execLoopbackEnd State.via
  dsimp only
  repeat' split
  all_goals simp

@[simp] theorem State.stopLoops_kept (s : State) : Kept s s.stopLoops :=
  (stopLoops_only s).kept (by decide) (by decide)

@[simp] theorem execPartnerLoopback_kept (iface : Nat) (s : State) : Kept s (s.via (execPartnerLoopback iface)) := by
  simp [State.via, execPartnerLoopback]

/-! ### LTP -/

@[simp] theorem State.ltpError_kept (s : State) (n ring code : Nat) : Kept s (s.ltpError n ring code) := ⟨rfl, rfl⟩

@[simp] theorem State.malformed_kept (s : State) (n ring : Nat) : Kept s (s.malformed n ring) := by simp [State.malformed]

@[simp] theorem execLtpMalformedMessage_kept (session : Nat) (s : State) : Kept s (s.via (execLtpMalformedMessage session)) := by
  simp [State.via, execLtpMalformedMessage]

@[simp] theorem State.bindAck_kept (s : State) (n r code : Nat) : Kept s (s.bindAck n r code) := ⟨rfl, rfl⟩

@[simp] theorem State.resend_kept (s : State) (n r : Nat) : Kept s (s.resend n r) := ⟨rfl, rfl⟩

@[simp] theorem State.bindTo_kept (s : State) (n r : Nat) : Kept s (s.bindTo n r) := by
  unfold State.bindTo
  dsimp only
  repeat' split
  all_goals simp

@[simp] theorem execBind_kept (session ring cqLog : Nat) (s : State) : Kept s (s.via (execBind session ring cqLog)) := by
  unfold execBind State.via
  dsimp only
  repeat' split
  all_goals simp

@[simp] theorem execUnbind_kept (session ring : Nat) (close : Bool) (s : State) : Kept s (s.via (execUnbind session ring close)) := by
  simp [State.via, execUnbind]

@[simp] theorem State.ringClosed_kept (s : State) (n r : Nat) (b : Barge) (v1 : Bool) : Kept s (s.ringClosed n r b v1) := ⟨rfl, rfl⟩

@[simp] theorem State.ltpArrive_kept (s : State) (n r : Nat) (b : Barge) (input : Bytes) (lengthOk v1 : Bool) :
    Kept s (s.ltpArrive n r b input lengthOk v1) := by
  simp [State.ltpArrive]

@[simp] theorem execLtpBarge_kept (session ring : Nat) (barge input : Bytes) (s : State) :
    Kept s (s.via (execLtpBarge session ring barge input)) := by
  unfold execLtpBarge State.via
  dsimp only
  repeat' split
  all_goals simp

@[simp] theorem execLtpV1Barge_kept (session ring : Nat) (descriptor params input : Bytes) (s : State) :
    Kept s (s.via (execLtpV1Barge session ring descriptor params input)) := by
  unfold execLtpV1Barge State.via
  dsimp only
  repeat' split
  all_goals simp

@[simp] theorem execLtpAck_kept (session ring : Nat) (head : W32) (s : State) : Kept s (s.via (execLtpAck session ring head)) := by
  unfold execLtpAck State.via
  dsimp only
  repeat' split
  all_goals simp

@[simp] theorem execLtpAbort_kept (session ring : Nat) (arg : W64) (s : State) : Kept s (s.via (execLtpAbort session ring arg)) := by
  unfold execLtpAbort State.via
  dsimp only
  repeat' split
  all_goals simp

/-! ### Broviry and the cluster -/

@[simp] theorem State.tellMembers_kept (s : State) (payload : Bytes) : Kept s (s.tellMembers payload) := by simp [State.tellMembers]

@[simp] theorem State.decided_kept (s : State) (u : MapUpdate) : Kept s (s.decide_ u) := by simp [State.decide_]

@[simp] theorem State.declareLost_kept (s : State) (ds : List Nat) : Kept s (s.declareLost ds) := by
  unfold State.declareLost
  split <;> simp

@[simp] theorem State.reactToCut_kept (s : State) : Kept s s.reactToCut := by
  unfold State.reactToCut
  split <;> simp

@[simp] theorem State.linkDown_kept (s : State) (l reason : Nat) : Kept s (s.linkDown l reason) := by simp [State.linkDown]

@[simp] theorem State.wornLinks_kept (s : State) : Kept s s.wornLinks := by simp [State.wornLinks]

@[simp] theorem State.linksOff_kept (s : State) : Kept s s.linksOff := ⟨rfl, rfl⟩

@[simp] theorem execNakReceived_kept (link lseq : Nat) (s : State) : Kept s (s.via (execNakReceived link lseq)) := by
  simp [State.via, execNakReceived]

@[simp] theorem State.linkAcked_kept (s : State) (l lseq : Nat) : Kept s (s.linkAcked l lseq) := by simp [State.linkAcked]

@[simp] theorem State.replicasLost_kept (s : State) (ds : List Nat) : Kept s (s.replicasLost ds) := by simp [State.replicasLost]

@[simp] theorem State.forgetAsked_kept (s : State) (ds : List Nat) : Kept s (s.forgetAsked ds) := ⟨rfl, rfl⟩

@[simp] theorem State.switchMap_kept (s : State) (c : ClusterCfg) (u : MapUpdate) : Kept s (s.switchMap c u) := by simp [State.switchMap]

@[simp] theorem State.settleLost_kept (s : State) (ds : List Nat) : Kept s (s.settleLost ds) := by
  unfold State.settleLost
  refine Kept.trans (t := { s with brv := { s.brv with settle := none } }) ⟨rfl, rfl⟩ (Kept.foldl (fun s i => ?_) _ _)
  split <;> simp

@[simp] theorem State.settled_kept (s : State) : Kept s s.settled := by
  unfold State.settled
  split <;> simp

@[simp] theorem execMapSwitch_kept (s : State) : Kept s (s.via execMapSwitch) := by
  unfold execMapSwitch State.via
  dsimp only
  repeat' split
  all_goals simp

@[simp] theorem execHaltNoticeReceive_kept (dev : Nat) (withdraw : Bool) (s : State) :
    Kept s (s.via (execHaltNoticeReceive dev withdraw)) := by
  unfold execHaltNoticeReceive State.via
  dsimp only
  repeat' split
  all_goals simp

@[simp] theorem State.askLeave_kept (s : State) : Kept s (s.askLeave).2 :=
  (askLeave_only s).kept (by decide) (by decide)

@[simp] theorem State.tryForm_kept (s : State) (c : ClusterCfg) : Kept s (s.tryForm c) := by simp [State.tryForm]

@[simp] theorem State.sendMap_kept (s : State) (d : Nat) : Kept s (s.sendMap d) := by simp [State.sendMap]

@[simp] theorem State.heardFrom_kept (s : State) (c : ClusterCfg) (d : Nat) (joins : Bool) : Kept s (s.heardFrom c d joins) := by
  simp [State.heardFrom]

@[simp] theorem State.discardFounded_kept (s : State) (c : ClusterCfg) : Kept s (s.discardFounded c) := ⟨rfl, rfl⟩

@[simp] theorem State.tellHeads_kept (s : State) (c : ClusterCfg) (joins : Bool) : Kept s (s.tellHeads c joins) := by simp [State.tellHeads]

@[simp] theorem execClusterJoin_kept (s : State) : Kept s (s.via execClusterJoin) := by
  unfold execClusterJoin State.via
  dsimp only
  repeat' split
  all_goals simp

@[simp] theorem execResyncComplete_kept (bucket : Nat) (s : State) : Kept s (s.via (execResyncComplete bucket)) := by
  simp [State.via, execResyncComplete]

@[simp] theorem State.attest_kept (s : State) (c : ClusterCfg) (expect : Option Nat) (p : PeerHello) : Kept s (s.attest c expect p).2 := by
  unfold State.attest
  dsimp only
  repeat' split
  all_goals simp

@[simp] theorem State.attemptFails_kept (s : State) (l reason : Nat) : Kept s (s.attemptFails l reason) := by simp [State.attemptFails]

@[simp] theorem State.alignTime_kept (s : State) (p : PeerHello) : Kept s (s.alignTime p) := by simp [State.alignTime]

@[simp] theorem State.keyLink_kept (s : State) (l : Nat) (lower : Bool) (keys : Bytes) (peer : Nat) :
    Kept s (s.keyLink l lower keys peer) := ⟨rfl, rfl⟩

@[simp] theorem State.mend_kept (s : State) (d l : Nat) : Kept s (s.mend d l) := ⟨rfl, rfl⟩

@[simp] theorem State.linkLive_kept (s : State) (c : ClusterCfg) (l peer : Nat) : Kept s (s.linkLive c l peer) := by
  unfold State.linkLive
  dsimp only
  repeat' split
  all_goals simp

@[simp] theorem State.linkUp_kept (s : State) (c : ClusterCfg) (l : Nat) (p : PeerHello) (z t : Bytes) : Kept s (s.linkUp c l p z t) := by
  simp [State.linkUp]

@[simp] theorem execLinkUpAttempt_kept (link : Nat) (trained : Bool) (peer : PeerHello) (s : State) :
    Kept s (s.via (execLinkUpAttempt link trained peer)) := by
  unfold execLinkUpAttempt State.via
  dsimp only
  repeat' split
  all_goals simp

@[simp] theorem execLinkUpRetry_kept (link : Nat) (s : State) : Kept s (s.via (execLinkUpRetry link)) := by
  unfold execLinkUpRetry State.via
  dsimp only
  repeat' split
  all_goals simp

@[simp] theorem State.streamTo_kept (s : State) (d : Nat) : Kept s (s.streamTo d) := by simp [State.streamTo]

@[simp] theorem execPairKeyAgree_kept (dev : Nat) (peer : PeerHello) (s : State) : Kept s (s.via (execPairKeyAgree dev peer)) := by
  unfold execPairKeyAgree State.via
  dsimp only
  repeat' split
  all_goals simp

@[simp] theorem execHeartbeatSend_kept (s : State) : Kept s (s.via execHeartbeatSend) := by simp [State.via, execHeartbeatSend]

@[simp] theorem execHeartbeatTimeout_kept (link : Nat) (s : State) : Kept s (s.via (execHeartbeatTimeout link)) := by
  simp [State.via, execHeartbeatTimeout]

@[simp] theorem execTimeSyncSend_kept (s : State) : Kept s (s.via execTimeSyncSend) := by simp [State.via, execTimeSyncSend]

@[simp] theorem execTimeSyncReceive_kept (link masterTime delay : Nat) (s : State) :
    Kept s (s.via (execTimeSyncReceive link masterTime delay)) := by
  simp [State.via, execTimeSyncReceive]

@[simp] theorem State.control_kept (s : State) (c : ClusterCfg) (l : Nat) (m : LinkMsg) : Kept s (s.control c l m) := by
  unfold State.control
  dsimp only
  repeat' split
  all_goals simp

@[simp] theorem execLinkFrameReceive_kept (link : Nat) (f : Frame) (acked : Nat) (s : State) :
    Kept s (s.via (execLinkFrameReceive link f acked)) := by
  unfold execLinkFrameReceive State.via
  dsimp only
  repeat' split
  all_goals simp

@[simp] theorem State.headInput_kept (s : State) (e : Entry) (r : XferReturn) : Kept s (s.headInput e r).2 := by
  unfold State.headInput
  dsimp only
  repeat' split
  all_goals simp

@[simp] theorem State.headOutput_kept (s : State) (e : Entry) (out : Bytes) : Kept s (s.headOutput e out).2 := by
  unfold State.headOutput
  dsimp only
  repeat' split
  all_goals simp

@[simp] theorem State.forwardTo_kept (s : State) (i d : Nat) (e : Entry) (input : Bytes) : Kept s (s.forwardTo i d e input) := by
  simp [State.forwardTo]

@[simp] theorem execForwardBarge_kept (barge : Nat) (r : XferReturn) (s : State) : Kept s (s.via (execForwardBarge barge r)) := by
  unfold execForwardBarge State.via
  dsimp only
  repeat' split
  all_goals simp

@[simp] theorem execForwardedBargeReceive_kept (link : Nat) (fb : FwdBarge) (s : State) :
    Kept s (s.via (execForwardedBargeReceive link fb)) := by
  unfold execForwardedBargeReceive State.via
  dsimp only
  repeat' split
  all_goals simp

@[simp] theorem execForwardedCompletionReceive_kept (home ring seq : Nat) (comp : Comp) (output : Option Bytes) (s : State) :
    Kept s (s.via (execForwardedCompletionReceive home ring seq comp output)) := by
  unfold execForwardedCompletionReceive State.via
  dsimp only
  repeat' split
  all_goals simp

@[simp] theorem execAbortFrameReceive_kept (head ring : Nat) (arg : W64) (s : State) :
    Kept s (s.via (execAbortFrameReceive head ring arg)) := by
  simp [State.via, execAbortFrameReceive]

@[simp] theorem execReplicationReceive_kept (dev : Nat) (sealed : Bytes) (s : State) : Kept s (s.via (execReplicationReceive dev sealed)) := by
  unfold execReplicationReceive State.via
  dsimp only
  repeat' split
  all_goals simp

@[simp] theorem execReplicationAckReceive_kept (dev commit : Nat) (s : State) : Kept s (s.via (execReplicationAckReceive dev commit)) := by
  unfold execReplicationAckReceive State.via
  dsimp only
  repeat' split
  all_goals simp

@[simp] theorem clusterHomeSvc_kept (r : Run) (s : State) : Kept s (clusterHomeSvc r s).2 := by simp [clusterHomeSvc]

@[simp] theorem execClusterHome_kept (core : Nat) (hw : Hw) (s : State) : Kept s (s.via (execClusterHome core hw)) := by
  simp [State.via, execClusterHome]

/-! ### Audit -/

@[simp] theorem auditReadSvc_kept (r : Run) (s : State) : Kept s (auditReadSvc r s).2 := by
  simp only [auditReadSvc, State.checks_snd]
  repeat' split
  all_goals simp

@[simp] theorem execAuditRead_kept (core : Nat) (hw : Hw) (s : State) : Kept s (s.via (execAuditRead core hw)) := by
  simp [State.via, execAuditRead]

@[simp] theorem auditSealSvc_kept (r : Run) (s : State) : Kept s (auditSealSvc r s).2 := by simp [auditSealSvc]

@[simp] theorem execAuditSeal_kept (core : Nat) (hw : Hw) (s : State) : Kept s (s.via (execAuditSeal core hw)) := by
  simp [State.via, execAuditSeal]

@[simp] theorem auditAckSvc_kept (r : Run) (s : State) : Kept s (auditAckSvc r s).2 := by simp [auditAckSvc]

@[simp] theorem execAuditAck_kept (core : Nat) (hw : Hw) (s : State) : Kept s (s.via (execAuditAck core hw)) := by
  simp [State.via, execAuditAck]

@[simp] theorem auditStatusSvc_kept (r : Run) (s : State) : Kept s (auditStatusSvc r s).2 := by simp [auditStatusSvc]

@[simp] theorem execAuditStatus_kept (core : Nat) (hw : Hw) (s : State) : Kept s (s.via (execAuditStatus core hw)) := by
  simp [State.via, execAuditStatus]

theorem relayed_kept {op : Nat} {svc : Service} (h : relayed op = some svc) (r : Run) (s : State) : Kept s (svc r s).2 := by
  unfold relayed at h
  split at h <;> cases h <;> simp

@[simp] theorem State.relay_kept (s : State) (core : Nat) (hw : Hw) : Kept s (s.relay core hw) := by
  unfold State.relay
  dsimp only
  repeat' split
  all_goals simp
  rename_i e
  exact State.serve_kept _ _ _ _ (relayed_kept e)

@[simp] theorem execClusterRelay_kept (core : Nat) (hw : Hw) (s : State) : Kept s (s.via (execClusterRelay core hw)) := by
  simp [State.via, execClusterRelay]

/-! ### Cargo services -/

@[simp] theorem State.setSession_kept (s : State) (c : CargoSession) : Kept s (s.setSession c) := ⟨rfl, rfl⟩

@[simp] theorem State.endSession_kept (s : State) (n : Nat) : Kept s (s.endSession n) := ⟨rfl, rfl⟩

@[simp] theorem State.newSession_kept (s : State) (c : CargoSession) : Kept s (s.newSession c) := ⟨rfl, rfl⟩

@[simp] theorem State.keepSnapshot_kept (s : State) (k : Nat) : Kept s (s.keepSnapshot k) := ⟨rfl, rfl⟩

@[simp] theorem backupOpenSvc_kept (r : Run) (s : State) : Kept s (backupOpenSvc r s).2 := by
  simp only [backupOpenSvc, State.checks_snd, State.withPermit_snd, State.withTile_snd]
  repeat' split
  all_goals simp

@[simp] theorem execBackupOpen_kept (core : Nat) (hw : Hw) (s : State) : Kept s (s.via (execBackupOpen core hw)) := by
  simp [State.via, execBackupOpen]

@[simp] theorem backupReadSvc_kept (r : Run) (s : State) : Kept s (backupReadSvc r s).2 := by
  simp only [backupReadSvc, State.checks_snd]
  repeat' split
  all_goals simp

@[simp] theorem execBackupRead_kept (core : Nat) (hw : Hw) (s : State) : Kept s (s.via (execBackupRead core hw)) := by
  simp [State.via, execBackupRead]

@[simp] theorem backupCloseSvc_kept (r : Run) (s : State) : Kept s (backupCloseSvc r s).2 := by
  simp only [backupCloseSvc, State.checks_snd, State.withTile_snd]
  repeat' split
  all_goals simp

@[simp] theorem execBackupClose_kept (core : Nat) (hw : Hw) (s : State) : Kept s (s.via (execBackupClose core hw)) := by
  simp [State.via, execBackupClose]

@[simp] theorem restoreOpenSvc_kept (r : Run) (s : State) : Kept s (restoreOpenSvc r s).2 := by
  simp only [restoreOpenSvc, State.checks_snd, State.withPermit_snd, State.withTile_snd]
  repeat' split
  all_goals simp

@[simp] theorem execRestoreOpen_kept (core : Nat) (hw : Hw) (s : State) : Kept s (s.via (execRestoreOpen core hw)) := by
  simp [State.via, execRestoreOpen]

@[simp] theorem restoreShareSvc_kept (r : Run) (s : State) : Kept s (restoreShareSvc r s).2 := by
  simp only [restoreShareSvc, State.checks_snd]
  repeat' split
  all_goals simp

@[simp] theorem execRestoreShare_kept (core : Nat) (hw : Hw) (s : State) : Kept s (s.via (execRestoreShare core hw)) := by
  simp [State.via, execRestoreShare]

@[simp] theorem restoreWriteSvc_kept (r : Run) (s : State) : Kept s (restoreWriteSvc r s).2 := by
  simp only [restoreWriteSvc, State.checks_snd]
  repeat' split
  all_goals simp

@[simp] theorem execRestoreWrite_kept (core : Nat) (hw : Hw) (s : State) : Kept s (s.via (execRestoreWrite core hw)) := by
  simp [State.via, execRestoreWrite]

@[simp] theorem restoreCloseSvc_kept (r : Run) (s : State) : Kept s (restoreCloseSvc r s).2 := by
  simp only [restoreCloseSvc, State.checks_snd]
  repeat' split
  all_goals simp

@[simp] theorem execRestoreClose_kept (core : Nat) (hw : Hw) (s : State) : Kept s (s.via (execRestoreClose core hw)) := by
  simp [State.via, execRestoreClose]

@[simp] theorem cargoSessionEndSvc_kept (r : Run) (s : State) : Kept s (cargoSessionEndSvc r s).2 := by simp [cargoSessionEndSvc]

@[simp] theorem execCargoSessionEnd_kept (core : Nat) (hw : Hw) (s : State) : Kept s (s.via (execCargoSessionEnd core hw)) := by
  simp [State.via, execCargoSessionEnd]

/-! ### Diagnostic services -/

/-- A diagnostic stream's unit keeps the queue and the SRAM. -/
def StreamUnit.Keeps (u : StreamUnit) : Prop :=
  (∀ s cmd, Kept s (u.need s cmd).2) ∧ ∀ s cmd ws n, Kept s (u.run s cmd ws n).st

theorem StreamUnit.Keeps.stream {u : StreamUnit} (h : u.Keeps) (n : Nat) (ws : List W64) (ms : List Nat) (s : State) (out : List TWord) :
    Kept s (u.stream n ws ms s out).2 := by
  obtain ⟨hneed, hrun⟩ := h
  induction n generalizing ws ms s out with
  | zero => exact Kept.refl s
  | succ n ih =>
    cases ws with
    | nil => exact Kept.refl s
    | cons w ws =>
      unfold StreamUnit.stream
      dsimp only
      split
      · exact hneed s w
      · exact ((hneed s w).trans (hrun ..)).trans (ih ..)

theorem laneUnit_keeps (k : Nat) : (laneUnit k).Keeps := by
  refine ⟨fun s cmd => ?_, fun s cmd ws n => ?_⟩
  · unfold laneUnit laneNeed
    dsimp only
    repeat' split
    all_goals simp
  · simp only [laneUnit]
    split <;> split <;> simp

theorem hashUnit_keeps (k : Nat) : (hashUnit k).Keeps := by
  refine ⟨fun s cmd => ?_, fun s cmd ws n => ?_⟩
  · simp only [hashUnit]
    split <;> simp
  · simp [hashUnit]

theorem tileUnit_keeps (k : Nat) : (tileUnit k).Keeps := by
  refine ⟨fun s cmd => ?_, fun s cmd ws n => ?_⟩
  · simp only [tileUnit]
    split <;> simp
  · simp only [tileUnit]
    split <;> split <;> simp

@[simp] theorem State.stopOutput_kept (s : State) (r : Run) (out : List TWord) : Kept s (s.stopOutput r out).2 := by
  unfold State.stopOutput
  dsimp only
  repeat' split
  all_goals simp

@[simp] theorem State.diagOutcome_kept (s : State) (r : Run) (out : List TWord) : Kept s (s.diagOutcome r out).2 := by
  unfold State.diagOutcome
  repeat' split
  all_goals simp

@[simp] theorem State.diagOutput_kept (s : State) (r : Run) (out : List TWord) : Kept s (s.diagOutput r out).2 := by simp [State.diagOutput]

@[simp] theorem State.laneDiagRun_kept (s : State) (r : Run) (mism : List Nat) : Kept s (s.laneDiagRun r mism).2 := by
  simp [State.laneDiagRun, (laneUnit_keeps r.core).stream]

@[simp] theorem laneDiagSvc_kept (mism : List Nat) (r : Run) (s : State) : Kept s (laneDiagSvc mism r s).2 := by
  simp only [laneDiagSvc, State.checks_snd]
  repeat' split
  all_goals simp

@[simp] theorem execLaneDiag_kept (core : Nat) (mism : List Nat) (s : State) : Kept s (s.via (execLaneDiag core mism)) := by
  simp [State.via, execLaneDiag]

@[simp] theorem State.hashDiagRun_kept (s : State) (r : Run) : Kept s (s.hashDiagRun r).2 := by
  simp [State.hashDiagRun, (hashUnit_keeps r.core).stream]

@[simp] theorem hashDiagSvc_kept (r : Run) (s : State) : Kept s (hashDiagSvc r s).2 := by
  simp only [hashDiagSvc, State.checks_snd]
  repeat' split
  all_goals simp

@[simp] theorem execHashDiag_kept (core : Nat) (s : State) : Kept s (s.via (execHashDiag core)) := by simp [State.via, execHashDiag]

@[simp] theorem State.tileDiagRun_kept (s : State) (r : Run) (mism : List Nat) : Kept s (s.tileDiagRun r mism).2 := by
  simp [State.tileDiagRun, (tileUnit_keeps r.core).stream]

@[simp] theorem tileDiagSvc_kept (mism : List Nat) (r : Run) (s : State) : Kept s (tileDiagSvc mism r s).2 := by
  simp only [tileDiagSvc, State.checks_snd]
  repeat' split
  all_goals simp

@[simp] theorem execTileDiag_kept (core : Nat) (mism : List Nat) (s : State) : Kept s (s.via (execTileDiag core mism)) := by
  simp [State.via, execTileDiag]

/-! ### Functions -/

@[simp] theorem State.setReason_kept (s : State) (f code : Nat) : Kept s (s.setReason f code) := ⟨rfl, rfl⟩

@[simp] theorem State.fnWrite_kept (s : State) {k : Nat → State} (h : ∀ f, Kept s (k f)) : Kept s (s.fnWrite k) := by
  unfold State.fnWrite
  dsimp only
  split
  · simp
  · exact h _

@[simp] theorem State.stopFn_kept (s : State) (f : Nat) : Kept s (s.stopFn f) := by simp [State.stopFn]

@[simp] theorem execFnStop_kept (s : State) : Kept s (s.via execFnStop) := by simp [State.via, execFnStop]

@[simp] theorem State.openPending_kept (s : State) (f : Nat) : Kept s (s.openPending f) := ⟨rfl, rfl⟩

@[simp] theorem execFnChange_kept (s : State) : Kept s (s.via execFnChange) := by
  unfold execFnChange State.via
  dsimp only
  repeat' split
  all_goals simp

@[simp] theorem State.pageInPins_kept (s : State) : Kept s s.pageInPins := by simp [State.pageInPins]

@[simp] theorem State.powerTo_kept (s : State) (d : Nat) (on : Bool) : Kept s (s.powerTo d on) := by simp [State.powerTo]

@[simp] theorem State.ethRestart_kept (s : State) (p : Nat) : Kept s (s.ethRestart p) := by simp [State.ethRestart]

@[simp] theorem State.linkRestart_kept (s : State) (l : Nat) : Kept s (s.linkRestart l) := by
  unfold State.linkRestart
  dsimp only
  repeat' split
  all_goals simp

@[simp] theorem State.fnEffects_kept (s : State) (f : Nat) : Kept s (s.fnEffects f) := by simp [State.fnEffects]

@[simp] theorem State.switchFn_kept (s : State) (f : Nat) (m : Manifest) : Kept s (s.switchFn f m) := by simp [State.switchFn]

@[simp] theorem State.refuseRestart_kept (s : State) (f code : Nat) : Kept s (s.refuseRestart f code) := by simp [State.refuseRestart]

@[simp] theorem State.restartFn_kept (s : State) (f : Nat) : Kept s (s.restartFn f) := by
  unfold State.restartFn
  repeat' split
  all_goals simp

@[simp] theorem execFnRestart_kept (s : State) : Kept s (s.via execFnRestart) := by simp [State.via, execFnRestart]

/-! ### Power and modes -/

@[simp] theorem State.setDomains_kept (s : State) (f : Nat → DomState) : Kept s (s.setDomains f) := ⟨rfl, rfl⟩

theorem State.domainZeroed_steady (s : State) (d : Nat) : Steady s (s.domainZeroed d) := by
  unfold State.domainZeroed
  repeat' split
  · exact ⟨rfl, fun h => Memory.wf_filter h _⟩
  · exact (Kept.foldl (fun s n => State.setLane_kept s n _) _ s).steady
  · exact (Kept.foldl (fun s e => State.setEng_kept s e _) _ s).steady
  · exact (Kept.refl s).steady

@[simp] theorem State.enginesCleared_pending (s : State) : s.enginesCleared.pending = s.pending := rfl

@[simp] theorem State.enginesCleared_sram (s : State) : s.enginesCleared.sram = [] := rfl

@[simp] theorem State.modeResult_kept (s : State) (result : Nat) : Kept s (s.modeResult result) := by simp [State.modeResult]

@[simp] theorem State.modeRequest_kept (s : State) (p : Path) (code : Nat) (refusal : Option Nat) {k : State → State} (h : ∀ s, Kept s (k s)) :
    Kept s (s.modeRequest p code refusal k) := by
  unfold State.modeRequest
  dsimp only
  repeat' split
  all_goals simp [h]

theorem State.modeRequest_steady (s : State) (p : Path) (code : Nat) (refusal : Option Nat) {k : State → State}
    (h : ∀ s, Steady s (k s)) : Steady s (s.modeRequest p code refusal k) := by
  unfold State.modeRequest
  dsimp only
  repeat' split
  case h_2 => exact h _
  all_goals exact Kept.steady (by simp)

@[simp] theorem execDormantRequest_kept (path : Path) (s : State) : Kept s (s.via (execDormantRequest path)) := by
  simp [State.via, execDormantRequest]

@[simp] theorem State.dormantLosses_pending (s : State) : s.dormantLosses.pending = s.pending := by
  simp [State.dormantLosses]

@[simp] theorem State.dormantLosses_sram (s : State) : s.dormantLosses.sram = [] := by
  simp [State.dormantLosses]

theorem execDormantDrainDone_steady (s : State) : Steady s (s.via execDormantDrainDone) := by
  unfold execDormantDrainDone State.via
  dsimp only
  repeat' split
  · exact Steady.of_nil (by simp) (by simp)
  · exact (Kept.refl s).steady
  · exact (Kept.refl s).steady

@[simp] theorem execDrainTimeout_kept (s : State) : Kept s (s.via execDrainTimeout) := by
  unfold execDrainTimeout State.via
  dsimp only
  repeat' split
  all_goals simp

@[simp] theorem State.linksTrain_kept (s : State) : Kept s s.linksTrain := by
  unfold State.linksTrain
  split <;> simp

@[simp] theorem State.resumeResets_kept (s : State) : Kept s s.resumeResets := ⟨rfl, rfl⟩

@[simp] theorem execResumeRequest_kept (path : Path) (s : State) : Kept s (s.via (execResumeRequest path)) := by
  simp [State.via, execResumeRequest]

theorem State.resumeFails_steady (s : State) : Steady s s.resumeFails := Steady.of_nil (State.modeResult_kept s 7).1 rfl

@[simp] theorem State.resumeChecked_kept (s : State) (lanes tiles engines : List Nat) : Kept s (s.resumeChecked lanes tiles engines) := by
  unfold State.resumeChecked
  extract_lets s1 s2 s3 s4
  have h1 : Kept s s1 := Kept.foldl (fun s n => by simp) _ s
  have h2 : Kept s1 s2 := Kept.foldl (fun s n => by simp) _ s1
  have h3 : Kept s2 s3 := Kept.foldl (fun s n => by simp) _ s2
  have h4 : Kept s3 s4 := Kept.foldl (fun s n => by simp) _ s3
  exact (((h1.trans h2).trans h3).trans h4).trans (Kept.foldl (fun s e => by simp) _ s4)

theorem execResumeComplete_steady (images : List Bytes) (trained : Bool) (lanes tiles engines : List Nat) (s : State) :
    Steady s (s.via (execResumeComplete images trained lanes tiles engines)) := by
  unfold execResumeComplete State.via
  dsimp only
  split
  · split
    · exact s.resumeFails_steady
    · split
      · exact (Kept.refl s).steady
      · exact Kept.steady (by simp)
  · exact (Kept.refl s).steady

@[simp] theorem execHaltRequest_kept (path : Path) (s : State) : Kept s (s.via (execHaltRequest path)) := by
  simp [State.via, execHaltRequest]

@[simp] theorem State.countFlush_kept (s : State) (delivered : Bool) : Kept s (s.countFlush delivered) := ⟨rfl, rfl⟩

@[simp] theorem State.flushOne_kept (failed : List (Nat × Nat)) (r : Nat) (s : State) (p : Nat × Pending) :
    Kept s (State.flushOne failed r s p) := by
  unfold State.flushOne
  repeat' split
  all_goals simp

@[simp] theorem State.flushRing_kept (failed : List (Nat × Nat)) (s : State) (r : Nat) : Kept s (State.flushRing failed s r) := by
  simp [State.flushRing]

@[simp] theorem State.haltEnd_pending (s : State) : s.haltEnd.pending = s.pending := by
  simp [State.haltEnd]

@[simp] theorem State.haltEnd_sram (s : State) : s.haltEnd.sram = [] := by
  simp [State.haltEnd]

theorem execHaltFlushDone_steady (failed : List (Nat × Nat)) (s : State) : Steady s (s.via (execHaltFlushDone failed)) := by
  unfold execHaltFlushDone State.via
  dsimp only
  split
  · exact Steady.of_nil (by simp) (by simp)
  · exact (Kept.refl s).steady

theorem execResetRequest_steady (path : Path) (s : State) : Steady s (s.via (execResetRequest path)) := by
  unfold execResetRequest State.via
  exact s.modeRequest_steady path 4 _ fun t => Steady.of_nil (State.modeResult_kept t 1).1 rfl

@[simp] theorem State.throttled_kept (s : State) (sub a b : Nat) : Kept s (s.throttled sub a b) := by simp [State.throttled]

theorem execDomainIdleGate_steady (domain : Nat) (s : State) : Steady s (s.via (execDomainIdleGate domain)) := by
  unfold execDomainIdleGate State.via
  dsimp only
  repeat' split
  · exact (Kept.refl s).steady
  · exact (Kept.refl s).steady
  · exact Kept.steady (by simp)
  · exact (s.domainZeroed_steady domain).trans (Kept.steady (by simp))

@[simp] theorem execDomainWake_kept (domain : Nat) (s : State) : Kept s (s.via (execDomainWake domain)) := by
  simp [State.via, execDomainWake]

@[simp] theorem State.unitsFail_kept (s : State) (d : Nat) : Kept s (s.unitsFail d) := by simp [State.unitsFail]

theorem State.domainFails_steady (s : State) (d : Nat) : Steady s (s.domainFails d) := by
  unfold State.domainFails
  extract_lets _ t u v
  have hv : Kept s v := by simp [v, u, t]
  split
  · exact hv.steady.trans v.resumeFails_steady
  · exact hv.steady

theorem execDomainWakeDone_steady (domain : Nat) (pass : Bool) (s : State) : Steady s (s.via (execDomainWakeDone domain pass)) := by
  unfold execDomainWakeDone State.via
  dsimp only
  repeat' split
  · exact Kept.steady (by simp)
  · exact s.domainFails_steady domain
  · exact (Kept.refl s).steady

theorem execDomainPowerFail_steady (domain : Nat) (s : State) : Steady s (s.via (execDomainPowerFail domain)) := by
  unfold execDomainPowerFail State.via
  dsimp only
  split
  · exact s.domainFails_steady domain
  · exact (Kept.refl s).steady

@[simp] theorem execAvsUpdate_kept (s : State) : Kept s (s.via execAvsUpdate) := by simp [State.via, execAvsUpdate]

@[simp] theorem execSupplyReading_kept (mv ma10 : Nat) (s : State) : Kept s (s.via (execSupplyReading mv ma10)) := by
  simp [State.via, execSupplyReading]

@[simp] theorem execDroopDetect_kept (s : State) : Kept s (s.via execDroopDetect) := by simp [State.via, execDroopDetect]

@[simp] theorem execStretchEnd_kept (s : State) : Kept s (s.via execStretchEnd) := by simp [State.via, execStretchEnd]

@[simp] theorem State.stepDown_kept (s : State) (sub level : Nat) : Kept s (s.stepDown sub level) := by simp [State.stepDown]

@[simp] theorem execThermalSample_kept (temps : List Int) (s : State) : Kept s (s.via (execThermalSample temps)) := by
  unfold execThermalSample State.via
  dsimp only
  repeat' split
  all_goals simp

@[simp] theorem execPowerCapStep_kept (s : State) : Kept s (s.via execPowerCapStep) := by
  unfold execPowerCapStep State.via
  dsimp only
  repeat' split
  all_goals simp

/-! ### Drydock -/

@[simp] theorem drydockEnterSvc_kept (r : Run) (s : State) : Kept s (drydockEnterSvc r s).2 := by
  simp only [drydockEnterSvc, State.checks_snd, State.withPermit_snd]
  repeat' split
  all_goals simp

@[simp] theorem execDrydockEnter_kept (core : Nat) (hw : Hw) (s : State) : Kept s (s.via (execDrydockEnter core hw)) := by
  simp [State.via, execDrydockEnter]

@[simp] theorem execDrydockDrainDone_kept (s : State) : Kept s (s.via execDrydockDrainDone) := by
  unfold execDrydockDrainDone State.via
  dsimp only
  repeat' split
  all_goals simp

@[simp] theorem State.diagsClosed_kept (s : State) : Kept s s.diagsClosed := by simp [State.diagsClosed]

@[simp] theorem drydockExitSvc_kept (r : Run) (s : State) : Kept s (drydockExitSvc r s).2 := by simp [drydockExitSvc]

@[simp] theorem execDrydockExit_kept (core : Nat) (hw : Hw) (s : State) : Kept s (s.via (execDrydockExit core hw)) := by
  simp [State.via, execDrydockExit]

@[simp] theorem functionGrantSvc_kept (r : Run) (s : State) : Kept s (functionGrantSvc r s).2 := by simp [functionGrantSvc]

@[simp] theorem execFunctionGrant_kept (core : Nat) (hw : Hw) (s : State) : Kept s (s.via (execFunctionGrant core hw)) := by
  simp [State.via, execFunctionGrant]

@[simp] theorem State.stageCopy_kept (s : State) (c : Bytes) : Kept s (s.stageCopy c) := by
  unfold State.stageCopy
  split <;> simp

@[simp] theorem firmwareUpdateSvc_kept (flashOk : Bool) (r : Run) (s : State) : Kept s (firmwareUpdateSvc flashOk r s).2 := by
  simp only [firmwareUpdateSvc, State.checks_snd, State.withPermit_snd]
  repeat' split
  all_goals simp

@[simp] theorem execFirmwareUpdate_kept (core : Nat) (hw : Hw) (flashOk : Bool) (s : State) :
    Kept s (s.via (execFirmwareUpdate core hw flashOk)) := by
  simp [State.via, execFirmwareUpdate]

@[simp] theorem rawRngOnSvc_kept (r : Run) (s : State) : Kept s (rawRngOnSvc r s).2 := by simp [rawRngOnSvc]

@[simp] theorem execRawRngOn_kept (core : Nat) (hw : Hw) (s : State) : Kept s (s.via (execRawRngOn core hw)) := by
  simp [State.via, execRawRngOn]

@[simp] theorem rawRngOffSvc_kept (r : Run) (s : State) : Kept s (rawRngOffSvc r s).2 := by simp [rawRngOffSvc]

@[simp] theorem execRawRngOff_kept (core : Nat) (hw : Hw) (s : State) : Kept s (s.via (execRawRngOff core hw)) := by
  simp [State.via, execRawRngOff]

/-! ### LAUNCH -/

@[simp] theorem State.launchStep1_kept (s : State) : Kept s s.launchStep1 := ⟨rfl, rfl⟩

@[simp] theorem State.retireTorn_kept (s : State) : Kept s s.retireTorn := by simp [State.retireTorn]

@[simp] theorem State.reportEntry_kept (s : State) (p : Nat × SEntry) : Kept s (s.reportEntry p) := by simp [State.reportEntry]

@[simp] theorem State.reportSentry_kept (s : State) : Kept s s.reportSentry := by simp [State.reportSentry]

@[simp] theorem State.advanceEpoch_kept (s : State) : Kept s s.advanceEpoch := ⟨rfl, rfl⟩

@[simp] theorem State.rotateSigner_kept (s : State) (c : Bytes) : Kept s (s.rotateSigner c) := by
  unfold State.rotateSigner
  split <;> simp

@[simp] theorem State.rotateCsig_kept (s : State) (c : Bytes) : Kept s (s.rotateCsig c) := by simp [State.rotateCsig]

@[simp] theorem State.measureCopy_kept (s : State) (useB : Bool) (c : Bytes) : Kept s (s.measureCopy useB c) := by simp [State.measureCopy]

@[simp] theorem State.loadConfig_kept (s : State) (env : LaunchEnv) (c : Bytes) : Kept s (s.loadConfig env c) := ⟨rfl, rfl⟩

@[simp] theorem State.launchStep5_kept (s : State) (env : LaunchEnv) : Kept s (s.launchStep5 env) := by
  unfold State.launchStep5
  dsimp only
  repeat' split
  all_goals simp

@[simp] theorem State.launchStep6_kept (s : State) : Kept s s.launchStep6 := by simp [State.launchStep6]

@[simp] theorem State.selfTests_kept (s : State) (env : LaunchEnv) : Kept s (s.selfTests env) := by simp [State.selfTests]

@[simp] theorem State.launchStep7_kept (s : State) (env : LaunchEnv) : Kept s (s.launchStep7 env) := by
  unfold State.launchStep7
  extract_lets t u _ v
  have hu : Kept t u := Kept.foldl (fun s d => State.setDom_kept s d _) _ t
  have hv : Kept s v := Kept.trans (t := t) (by simp [t]) (hu.trans (Kept.trans ⟨rfl, rfl⟩ (State.selfTests_kept _ env)))
  split
  · simpa using hv
  · exact hv.trans (Kept.trans ⟨rfl, rfl⟩ (State.rngStart_kept _))

@[simp] theorem State.launching_kept (s : State) {k : State → State} (h : ∀ s, Kept s (k s)) : Kept s (s.launching k) := by
  unfold State.launching
  split
  · exact h s
  · exact Kept.refl s

@[simp] theorem State.launchStep3_kept (s : State) (env : LaunchEnv) : Kept s (s.launchStep3 env) := by simp [State.launchStep3]

@[simp] theorem State.launchStep4_kept (s : State) (env : LaunchEnv) : Kept s (s.launchStep4 env) := by simp [State.launchStep4]

@[simp] theorem State.launchBegin_kept (s : State) (env : LaunchEnv) : Kept s (s.launchBegin env) := by
  unfold State.launchBegin
  dsimp only
  repeat' split
  all_goals simp

@[simp] theorem execDramTrainingDone_kept (ok : Bool) (s : State) : Kept s (s.via (execDramTrainingDone ok)) := by
  unfold execDramTrainingDone State.via
  dsimp only
  repeat' split
  all_goals simp

@[simp] theorem State.launchDraw_kept (s : State) : Kept s (s.launchDraw).2 := by
  unfold State.launchDraw
  dsimp only
  repeat' split
  all_goals simp

@[simp] theorem State.newKeel_kept (s : State) (secret seed : Bytes) : Kept s (s.newKeel secret seed).2 := by
  unfold State.newKeel
  dsimp only
  repeat' split
  all_goals simp

@[simp] theorem State.deriveRoots_kept (s : State) : Kept s s.deriveRoots := ⟨rfl, rfl⟩

@[simp] theorem State.launchStep9_kept (s : State) (secret seed : Bytes) : Kept s (s.launchStep9 secret seed) := by
  unfold State.launchStep9
  extract_lets _ t x
  have ht : Kept s t := ⟨rfl, rfl⟩
  have hx : Kept s x.2 := by
    simp only [x]
    split
    · exact ht.trans (State.newKeel_kept ..)
    · exact ht
  clear_value t x
  obtain ⟨b, u⟩ := x
  cases b
  · exact Kept.trans hx (State.enterHalt_kept ..)
  · dsimp only at hx ⊢
    split
    · exact hx.trans (State.enterHalt_kept ..)
    · simpa using hx

@[simp] theorem State.launchStep10_kept (s : State) (keys : Bytes) : Kept s (s.launchStep10 keys) := ⟨rfl, rfl⟩

@[simp] theorem State.launchStep11_kept (s : State) : Kept s s.launchStep11 := by simp [State.launchStep11]

@[simp] theorem State.findDrives_kept (s : State) (env : LaunchEnv) : Kept s (s.findDrives env) := by simp [State.findDrives]

@[simp] theorem State.replayRec_kept (s : State) (c : Commit) : Kept s (s.replayRec c) := by simp [State.replayRec]

@[simp] theorem State.replay_kept (s : State) (done : List Commit) : Kept s (s.replay done) := by
  unfold State.replay
  extract_lets start old fresh _ s1 _ _ s2 s3
  have h2 : Kept s s2 := ⟨rfl, rfl⟩
  have h3 : Kept s s3 := h2.trans (Kept.foldl (fun s c => by
    split
    · exact Kept.foldl (fun s ch => by split <;> simp) _ s
    · exact (Kept.foldl (fun s ch => by split <;> simp) _ s).trans (State.addOutcome_kept ..)) _ s2)
  exact h3.trans (Kept.foldl State.replayRec_kept _ s3)

@[simp] theorem State.attached_kept (s : State) (st : StoreState) (sector : Nat) : Kept s (s.attached st sector) := by simp [State.attached]

@[simp] theorem State.rejectStore_kept (s : State) : Kept s s.rejectStore := by simp [State.rejectStore]

@[simp] theorem State.attach_kept (s : State) (env : LaunchEnv) : Kept s (s.attach env) := by
  unfold State.attach
  dsimp only
  repeat' split
  all_goals simp

@[simp] theorem State.settleMigration_kept (s : State) : Kept s s.settleMigration := by
  unfold State.settleMigration
  dsimp only
  repeat' split
  all_goals simp

@[simp] theorem State.archiveFrom_kept (s : State) (cargo : List Rec) : Kept s (s.archiveFrom cargo) := ⟨rfl, rfl⟩

@[simp] theorem State.attachVolatile_kept (s : State) : Kept s s.attachVolatile := by simp [State.attachVolatile]

@[simp] theorem State.drivesBack_kept (s : State) : Kept s s.drivesBack := by
  unfold State.drivesBack
  split <;> simp

@[simp] theorem State.attachDrives_kept (s : State) (env : LaunchEnv) : Kept s (s.attachDrives env) := by
  unfold State.attachDrives
  dsimp only
  repeat' split
  all_goals simp

@[simp] theorem State.freeRevoked_kept (s : State) : Kept s s.freeRevoked := ⟨rfl, rfl⟩

@[simp] theorem State.launchStep12_kept (s : State) (env : LaunchEnv) : Kept s (s.launchStep12 env) := by simp [State.launchStep12]

@[simp] theorem State.launchStep14_kept (s : State) : Kept s s.launchStep14 := by simp [State.launchStep14]

@[simp] theorem State.launchStep13_kept (s : State) : Kept s s.launchStep13 := by simp [State.launchStep13]

@[simp] theorem State.launchRest_kept (s : State) (env : LaunchEnv) : Kept s (s.launchRest env) := by
  unfold State.launchRest
  dsimp only
  split <;> simp

@[simp] theorem execLaunch_kept (env : LaunchEnv) (s : State) : Kept s (s.via (execLaunch env)) := by
  unfold execLaunch State.via
  dsimp only
  repeat' split
  all_goals simp

/-! ### Pins -/

@[simp] theorem State.driveSeated_kept (s : State) (d : Nat) : Kept s (s.driveSeated d) := by
  unfold State.driveSeated
  dsimp only
  repeat' split
  all_goals simp

@[simp] theorem State.driveInput_kept (s : State) (d : Nat) (absent : Bool) : Kept s (s.driveInput d absent) := by simp [State.driveInput]

@[simp] theorem State.moduleInput_kept (s : State) (p : Nat) : Kept s (s.moduleInput p) := by simp [State.moduleInput]

@[simp] theorem execGpioInputChange_kept (pin : Nat) (level : Bool) (s : State) : Kept s (s.via (execGpioInputChange pin level)) := by
  simp [State.via, execGpioInputChange]

/-! ### Register reads -/

@[simp] theorem State.readReport_kept (s : State) (i : Nat) : Kept s (s.readReport i) := by
  unfold State.readReport
  split <;> simp

@[simp] theorem State.settleCursor_kept (s : State) (path : Path) : Kept s (s.settleCursor path) := by
  unfold State.settleCursor
  split <;> simp

@[simp] theorem State.readReg_kept (s : State) (path : Path) (addr : Nat) : Kept s (s.readReg path addr).2 := by
  unfold State.readReg
  repeat' split
  all_goals simp

/-! ### Register writes -/

@[simp] theorem State.writeGlb_kept (s : State) (o : Nat) (v mask : W64) : Kept s (s.writeGlb o v mask) := by
  unfold State.writeGlb
  split <;> simp

@[simp] theorem State.writeAbort_kept (s : State) (r : Nat) (v mask : W64) : Kept s (s.writeAbort r v mask) := by simp [State.writeAbort]

@[simp] theorem State.writeCtl_kept (s : State) (r : Nat) (v mask : W64) : Kept s (s.writeCtl r v mask) := by simp [State.writeCtl]

@[simp] theorem State.writeRing_kept (s : State) (r o : Nat) (v mask : W64) : Kept s (s.writeRing r o v mask) := by
  unfold State.writeRing
  split <;> simp

@[simp] theorem State.writeMor_kept (s : State) (o : Nat) (v mask : W64) : Kept s (s.writeMor o v mask) := by
  unfold State.writeMor
  split <;> simp

@[simp] theorem State.writeCph_kept (s : State) (o : Nat) (v mask : W64) : Kept s (s.writeCph o v mask) := by
  unfold State.writeCph
  split <;> simp

@[simp] theorem State.writeHsh_kept (s : State) (o : Nat) (v mask : W64) : Kept s (s.writeHsh o v mask) := by
  unfold State.writeHsh
  split <;> simp

@[simp] theorem State.writeBgn_kept (s : State) (o : Nat) (v mask : W64) : Kept s (s.writeBgn o v mask) := by
  unfold State.writeBgn
  split <;> simp

@[simp] theorem State.writeRng_kept (s : State) (o : Nat) (v mask : W64) : Kept s (s.writeRng o v mask) := by
  unfold State.writeRng
  split <;> simp

@[simp] theorem State.editPending_kept (s : State) (f : Nat) (k : Manifest → Manifest) : Kept s (s.editPending f k) := by
  unfold State.editPending
  split <;> simp

@[simp] theorem State.writeGte_kept (s : State) (o : Nat) (v mask : W64) : Kept s (s.writeGte o v mask) := by
  unfold State.writeGte
  repeat' split
  all_goals simp

@[simp] theorem State.writeLcy_kept (s : State) (o : Nat) (v mask : W64) : Kept s (s.writeLcy o v mask) := by
  unfold State.writeLcy
  repeat' split
  all_goals simp

@[simp] theorem State.writeLen_kept (s : State) (o : Nat) (v mask : W64) : Kept s (s.writeLen o v mask) := by
  unfold State.writeLen
  repeat' split
  all_goals simp

theorem State.writeMode_steady (s : State) (path : Path) (code : Nat) : Steady s (s.writeMode path code) := by
  unfold State.writeMode
  split
  case h_4 => exact execResetRequest_steady path s
  all_goals exact Kept.steady (by simp)

@[simp] theorem State.writeFnCtl_kept (s : State) (v : W64) : Kept s (s.writeFnCtl v) := by simp [State.writeFnCtl]

theorem State.writePwr_steady (s : State) (path : Path) (o : Nat) (v mask : W64) : Steady s (s.writePwr path o v mask) := by
  unfold State.writePwr
  split
  · split
    · exact s.writeMode_steady path _
    · exact (Kept.refl s).steady
  · exact Kept.steady (by simp)
  · exact Kept.steady (by simp)
  · exact Kept.steady (by simp)
  · split <;> exact Kept.steady (by simp)

@[simp] theorem State.writeLog_kept (s : State) (path : Path) (o : Nat) (v mask : W64) : Kept s (s.writeLog path o v mask) := by
  unfold State.writeLog
  repeat' split
  all_goals simp

theorem State.writeReg_steady (s : State) (path : Path) (addr : Nat) (v mask : W64) : Steady s (s.writeReg path addr v mask) := by
  unfold State.writeReg
  dsimp only
  split
  case h_12 => exact s.writePwr_steady path _ v mask
  all_goals exact Kept.steady (by simp)

@[simp] theorem State.vfWrite_kept (s : State) (n off : Nat) (v mask : W64) : Kept s (s.vfWrite n off v mask) := by
  unfold State.vfWrite
  dsimp only
  repeat' split
  all_goals simp

theorem execRegisterWrite_steady (path : Path) (addr size : Nat) (v : W64) (s : State) :
    Steady s (s.via (execRegisterWrite path addr size v)) := by
  have hp (path : Path) (base o : Nat) (v mask : W64) : Steady s (if base = 0xD0000 then s.writePwr path o v mask else s) := by
    split
    · exact s.writePwr_steady path o v mask
    · exact (Kept.refl s).steady
  unfold execRegisterWrite State.via
  dsimp only
  split
  · exact (Kept.refl s).steady
  · split
    · exact Kept.steady (by simp)
    · split
      · exact Kept.steady (by simp)
      · exact hp ..
      · exact hp ..
      · split
        · split
          · exact s.writeReg_steady ..
          · exact (Kept.refl s).steady
          · exact Kept.steady (by simp)
        · exact (Kept.refl s).steady

@[simp] theorem execMisalignedRegisterAccess_kept (path : Path) (write : Bool) (addr size : Nat) (s : State) :
    Kept s (s.via (execMisalignedRegisterAccess path write addr size)) := by
  simp [State.via, execMisalignedRegisterAccess]

@[simp] theorem execGlbTimeLowRead_kept (path : Path) (s : State) : Kept s (s.via (execGlbTimeLowRead path)) := by
  simp [State.via, execGlbTimeLowRead]

@[simp] theorem State.setTow_kept (s : State) (path : Path) (r : Option TowRead) : Kept s (s.setTow path r) := by simp [State.setTow]

@[simp] theorem State.towData_kept (s : State) (path : Path) (addr : Nat) : Kept s (s.towData path addr).2 := by
  unfold State.towData
  repeat' split
  all_goals simp

@[simp] theorem execTowpathRead_kept (path : Path) (addr : Nat) (ready : Bool) (s : State) :
    Kept s (s.via (execTowpathRead path addr ready)) := by
  simp [State.via, execTowpathRead]

@[simp] theorem execTowpathReadTimeout_kept (path : Path) (s : State) : Kept s (s.via (execTowpathReadTimeout path)) := by
  unfold execTowpathReadTimeout State.via
  dsimp only
  repeat' split
  all_goals simp

theorem execTowpathWrite_steady (path : Path) (addr : Nat) (v : W64) (s : State) :
    Steady s (s.via (execTowpathWrite path addr v)) := by
  unfold execTowpathWrite State.via
  dsimp only
  repeat' split
  · exact (Kept.refl s).steady
  · exact Kept.steady (by simp)
  · exact (Kept.refl s).steady
  · exact s.writeMode_steady path _

@[simp] theorem State.debugWord_kept (s : State) (addr : Nat) (w : TWord) : Kept s (s.debugWord addr w).2 := by
  unfold State.debugWord
  dsimp only
  repeat' split
  all_goals simp

@[simp] theorem State.debugDram_kept (s : State) (addr kd off : Nat) : Kept s (s.debugDram addr kd off).2 := by
  unfold State.debugDram
  dsimp only
  repeat' split
  all_goals simp

@[simp] theorem State.debugRead_kept (s : State) (addr : Nat) (ecc : Bool) : Kept s (s.debugRead addr ecc).2 := by
  unfold State.debugRead
  dsimp only
  repeat' split
  all_goals simp

theorem State.debugWrite_steady (s : State) (addr : Nat) (v : W64) : Steady s (s.debugWrite addr v) := by
  unfold State.debugWrite
  dsimp only
  repeat' split
  · exact (Kept.refl s).steady
  · exact Kept.steady (by simp)
  · exact s.writeReg_steady ..

theorem State.debugDo_steady (s : State) (write : Bool) (addr : Nat) (v : W64) (ecc : Bool) : Steady s (s.debugDo write addr v ecc) := by
  unfold State.debugDo
  split
  · exact s.debugWrite_steady addr v
  · exact Kept.steady (by simp)

theorem execDebugAccess_steady (write : Bool) (addr : Nat) (v : W64) (ecc : Bool) (s : State) :
    Steady s (s.via (execDebugAccess write addr v ecc)) := by
  unfold execDebugAccess State.via
  dsimp only
  split
  · exact (Kept.refl s).steady
  · split
    · exact s.debugDo_steady ..
    · split
      · exact Kept.steady (by simp)
      · split
        · exact Kept.steady (by simp)
        · exact s.debugDo_steady ..

/-! ### The tick -/

@[simp] theorem State.unitsTick_kept (s : State) : Kept s s.unitsTick := by simp [State.unitsTick]

@[simp] theorem State.tick_kept (s : State) : Kept s s.tick := by simp [State.tick]

/-! ### Every command, every step -/

/-- Every command's meaning answers a next state. -/
theorem exec_eq_via (c : Instr) (s : State) : exec c s = .next (s.via (exec c)) := by
  cases c <;> rfl

/-- What a command leaves, by the frame of its meaning: named here are those that may write or clear the SRAM. -/
theorem exec_steady (c : Instr) (s : State) : Steady s (s.via (exec c)) := by
  change Steady s (s.via fun t => exec c t)
  cases c with
  | registerWrite path addr size v => exact execRegisterWrite_steady path addr size v s
  | towpathWrite path addr v => exact execTowpathWrite_steady path addr v s
  | debugAccess write addr v ecc => exact execDebugAccess_steady write addr v ecc s
  | declass core fetch src dst n cls ecc => exact execDeclass_steady core fetch src dst n cls ecc s
  | mainPowerLost v => exact execMainPowerLost_steady v s
  | mainPowerReturn => exact execMainPowerReturn_steady s
  | sentryPowerLost => exact execSentryPowerLost_steady s
  | resetNLow cycles low v => exact execResetNLow_steady cycles low v s
  | resetRequest path => exact execResetRequest_steady path s
  | dormantDrainDone => exact execDormantDrainDone_steady s
  | resumeComplete images trained lanes tiles engines => exact execResumeComplete_steady images trained lanes tiles engines s
  | haltFlushDone failed => exact execHaltFlushDone_steady failed s
  | domainIdleGate d => exact execDomainIdleGate_steady d s
  | domainWakeDone d pass => exact execDomainWakeDone_steady d pass s
  | domainPowerFail d => exact execDomainPowerFail_steady d s
  | _ => exact Kept.steady (by simp [exec])

theorem step_of_cons {s : State} {c : Instr} {rest : List Instr} (h : s.pending = c :: rest) :
    step s = exec c { s with pending := rest } := by
  simp only [step, h]

theorem step_of_nil {s : State} (h : s.pending = []) : step s = .next s.tick := by
  simp only [step, h]

/-- A step answers a next state, which has the queue's rest and keeps the SRAM's canonical form. -/
theorem step_steady (s : State) : ∃ t, step s = .next t ∧ t.pending = s.pending.tail ∧ (MemoryInv s → MemoryInv t) := by
  cases h : s.pending with
  | nil =>
    obtain ⟨hp, hm⟩ := (State.tick_kept s).steady
    exact ⟨_, step_of_nil h, hp.trans h, hm⟩
  | cons c rest =>
    obtain ⟨hp, hm⟩ := exec_steady c { s with pending := rest }
    exact ⟨_, (step_of_cons h).trans (exec_eq_via ..), hp, hm⟩

/-- Settles O1: it is the definition of a step on a queue that is not empty. -/
theorem stepRunsFrontCommand : Obligations.StepRunsFrontCommand := by
  unfold Obligations.StepRunsFrontCommand
  exact fun s c rest => step_of_cons

/-- Settles O3: each arm of `exec` is a next state. -/
theorem noCommandStops : Obligations.NoCommandStops := by
  unfold Obligations.NoCommandStops
  refine ⟨fun c s => ⟨_, exec_eq_via c s⟩, fun s hs => ?_⟩
  obtain ⟨t, ht, -⟩ := step_steady s
  exact hs t ht

/-- Settles O4: a step hands the rest of the queue to its command, and no command's frame names the queue. -/
theorem queueFirstInFirstOut : Obligations.QueueFirstInFirstOut := by
  unfold Obligations.QueueFirstInFirstOut
  intro s t h
  obtain ⟨u, hu, hp, -⟩ := step_steady s
  obtain rfl : u = t := Host.Outcome.next.inj (hu.symm.trans h)
  exact hp

/-- Settles O5: every command leaves the SRAM as it is, clears it, drops words of it, or writes words of it by `State.setSram`. -/
theorem stepKeepsMemoryCanonical : Obligations.StepKeepsMemoryCanonical := by
  unfold Obligations.StepKeepsMemoryCanonical
  intro s t hs h
  obtain ⟨u, hu, -, hm⟩ := step_steady s
  obtain rfl : u = t := Host.Outcome.next.inj (hu.symm.trans h)
  exact hm hs

/-- Settles O6: the SRAM is empty at reset. -/
theorem resetMemoryCanonical : Obligations.ResetMemoryCanonical := by
  unfold Obligations.ResetMemoryCanonical
  exact (rfl : Memory.wf [] = true)

end Sys2Proof.Machine

/-! SUPPORT. The tick of an empty queue: with nothing that waits for it in the units, only the clock changes. -/
namespace Sys2Proof.Machine

/-! ### What waits in no unit -/

theorem Tbl.mem_of_find {α : Type} {k : Nat} {a : α} {t : Tbl α} (h : Tbl.find k t = some a) : (k, a) ∈ t := by
  induction t with
  | nil => cases h
  | cons p t ih =>
    obtain ⟨j, b⟩ := p
    by_cases hk : j = k
    · obtain rfl := hk
      simp_all [Tbl.find]
    · simp only [Tbl.find, hk, if_false] at h
      exact List.mem_cons_of_mem _ (ih h)

section Idle

variable {s : State}

theorem reportMsix_of_nil (h : s.wharf.msixRefused = []) : s.reportMsix = s := by
  have hw : { s.wharf with msixRefused := [] } = s.wharf := by rw [← h]
  simp only [State.reportMsix, h, List.foldl_nil, hw]

theorem wornLinks_of_fresh (h : ∀ p ∈ s.brv.links, p.2.rxCtr < 2 ^ 48 ∧ p.2.txCtr < 2 ^ 48) : s.wornLinks = s := by
  have hnil : (s.brv.links.filter fun p => decide (2 ^ 48 ≤ p.2.rxCtr) || decide (2 ^ 48 ≤ p.2.txCtr)) = [] :=
    List.filter_eq_nil_iff.2 fun p hp => by simpa using h p hp
  simp only [State.wornLinks, hnil, List.foldl_nil]

theorem retryChallenge_of_none (h : s.lcy.nextReq = none) : s.retryChallenge = s := by
  unfold State.retryChallenge
  rw [h]
  split
  · rename_i hn
    cases hn
  · rfl

theorem UnitsIdle.core (h : UnitsIdle s) (k : Nat) : (s.coreAt k).laneIn = [] ∧ (s.coreAt k).hashIn = [] ∧ (s.coreAt k).tileIn = [] := by
  unfold State.coreAt tget
  cases hk : Tbl.find k s.cores with
  | none => exact ⟨rfl, rfl, rfl⟩
  | some c => exact h _ (Tbl.mem_of_find hk)

theorem runUnits_of_idle (h : UnitsIdle s) : s.runUnits = s := by
  have hcore (k : Nat) : ((s.drainLane k).drainHash k).drainTile k = s := by
    obtain ⟨hl, hh, ht⟩ := h.core k
    have h1 : s.drainLane k = s := by simp only [State.drainLane, hl, List.length_nil, laneDrain]
    have h2 : s.drainHash k = s := by simp only [State.drainHash, hh, List.length_nil, hashDrain]
    have h3 : s.drainTile k = s := by simp only [State.drainTile, ht, List.length_nil, tileDrain]
    rw [h1, h2, h3]
  unfold State.runUnits
  induction s.cores.map Prod.fst with
  | nil => rfl
  | cons k ks ih => rw [List.foldl_cons, hcore, ih]

theorem unitsTick_of_idle (hm : s.wharf.msixRefused = []) (hl : ∀ p ∈ s.brv.links, p.2.rxCtr < 2 ^ 48 ∧ p.2.txCtr < 2 ^ 48)
    (hq : s.lcy.nextReq = none) (hu : UnitsIdle s) : s.unitsTick = s := by
  rw [State.unitsTick, reportMsix_of_nil hm, wornLinks_of_fresh hl, retryChallenge_of_none hq, runUnits_of_idle hu]

end Idle

theorem only_clock (s : State) (c : Clock) : Only [.clock] s { s with clock := c } := by
  rintro (_ | _) hp <;> first | rfl | exact absurd (List.mem_singleton.2 rfl) hp

/-- Sentry time advances by one where the tick's phase reaches a sentry tick (R14, R15). -/
theorem tick_stime (n : Nat) (c : Clock) : (c.tick n).stime = c.stime + (if sentrySpan n ≤ c.phase + 4096 then 1 else 0) := by
  simp only [Clock.tick]
  split <;> rfl

/-- Settles O2: each of the tick's four units finds nothing to do, so that the clock's own tick is all. -/
theorem emptyQueueIsOneTick : Obligations.EmptyQueueIsOneTick := by
  unfold Obligations.EmptyQueueIsOneTick
  intro s hs
  rw [step_of_nil hs]
  refine ⟨fun hm hq hr hl hu => ⟨{ s with clock := s.clock.tick s.cfg.spread }, ?_, only_clock s _, rfl, tick_stime _ _⟩,
    fun hm hp => ?_, fun hm hp => ?_⟩
  · rw [State.tick, if_pos hm]
    exact congrArg Host.Outcome.next (unitsTick_of_idle (s := { s with clock := s.clock.tick s.cfg.spread }) hr hl hq hu)
  · rw [State.tick, hm, hp]
    rfl
  · rw [State.tick, hm, hp]
    rfl

end Sys2Proof.Machine

/-! SUPPORT. The place a new entry of the sentry record takes (R351), and the Yuhild unlock (R334 to R337). -/
namespace Sys2Proof.Machine

/-! ### The sentry record's places -/

/-- An entry that meets a test, and that no entry meeting it is older than. -/
def IsOldest (p : SEntry → Bool) (t : Tbl SEntry) (x : Nat × SEntry) : Prop :=
  x ∈ t ∧ p x.2 = true ∧ ∀ y ∈ t, p y.2 = true → x.2.order ≤ y.2.order

theorem oldestWhere_append (p : SEntry → Bool) (t : Tbl SEntry) (x : Nat × SEntry) : oldestWhere p (t ++ [x]) =
    if p x.2 then
      match oldestWhere p t with
      | none => some x
      | some y => if x.2.order < y.2.order then some x else some y
    else oldestWhere p t := by
  simp only [oldestWhere, List.foldl_append, List.foldl_cons, List.foldl_nil]
  split
  · split <;> simp_all
  · rfl

/-- The search finds none where no entry meets the test, and an oldest one where one does. -/
theorem oldestWhere_spec (p : SEntry → Bool) (t : Tbl SEntry) :
    (oldestWhere p t = none ∧ ∀ y ∈ t, p y.2 = false) ∨ ∃ x, oldestWhere p t = some x ∧ IsOldest p t x := by
  induction t using List.reverseRecOn with
  | nil => exact .inl ⟨rfl, by simp⟩
  | append_singleton t x ih =>
    rw [oldestWhere_append]
    simp only [IsOldest, List.mem_append, List.mem_singleton, or_imp, forall_and, forall_eq]
    obtain ⟨hnone, hall⟩ | ⟨y, hy, hmem, hp, hle⟩ := ih
    · cases hx : p x.2 with
      | false => exact .inl ⟨hnone, hall, rfl⟩
      | true => exact .inr ⟨x, by simp [hnone], .inr rfl, hx, fun z hz hpz => by simp [hall z hz] at hpz, fun _ => Nat.le_refl _⟩
    · cases hx : p x.2 with
      | false => exact .inr ⟨y, hy, .inl hmem, hp, hle, fun h => by cases h⟩
      | true =>
        by_cases hlt : x.2.order < y.2.order
        · exact .inr ⟨x, by simp [hy, hlt], .inr rfl, hx, fun z hz hpz => by have := hle z hz hpz; omega, fun _ => Nat.le_refl _⟩
        · exact .inr ⟨y, by simp [hy, hlt], .inl hmem, hp, hle, fun _ => Nat.not_lt.1 hlt⟩

theorem oldestWhere_eq_none {p : SEntry → Bool} {t : Tbl SEntry} (h : ∀ x ∈ t, p x.2 = false) : oldestWhere p t = none := by
  obtain ⟨hn, -⟩ | ⟨x, -, hmem, hp, -⟩ := oldestWhere_spec p t
  · exact hn
  · simp [h x hmem] at hp

theorem oldestWhere_eq_some {p : SEntry → Bool} {t : Tbl SEntry} (h : ¬ ∀ x ∈ t, p x.2 = false) :
    ∃ x, oldestWhere p t = some x ∧ IsOldest p t x := (oldestWhere_spec p t).resolve_left fun hn => h hn.2

/-- With all 64 places taken none is free. -/
theorem freePlace_none {t : Tbl SEntry} (h : ∀ i, i < 64 → Tbl.find i t ≠ none) :
    ((List.range 64).find? fun i => (Tbl.find i t).isNone) = none :=
  List.find?_eq_none.2 fun i hi => by simpa using h i (List.mem_range.1 hi)

/-- Settles O42: the five cases of R351 in their order, the oldest entry of each kind by `oldestWhere_spec`. -/
theorem sentryRecordPlaces : Obligations.SentryRecordPlaces := by
  unfold Obligations.SentryRecordPlaces
  intro t isProtected pl full oldest none_ plain
  refine ⟨fun hfree => ?_, fun hfull hrep => ?_, fun hfull hrep hplain => ?_, fun hfull hrep hplain hprot => ?_,
    fun hfull hrep hplain hprot => ?_⟩
  · obtain ⟨j, hj, hnone⟩ : ∃ i, i < 64 ∧ Tbl.find i t = none := by simpa [full] using hfree
    obtain ⟨i, hi⟩ := Option.isSome_iff_exists.1 ((List.find?_isSome (xs := List.range 64) (p := fun i => (Tbl.find i t).isNone)).2
      ⟨j, List.mem_range.2 hj, by simp [hnone]⟩)
    exact ⟨i, by simp only [pl, srecPlace, hi], List.mem_range.1 (List.mem_of_find?_eq_some hi), by simpa using List.find?_some hi⟩
  · obtain ⟨x, hx, hmem, hp, hle⟩ := oldestWhere_eq_some hrep
    exact ⟨x.1, by simp only [pl, srecPlace, freePlace_none hfull, hx], x.2, hmem, hp, hle⟩
  · obtain ⟨x, hx, hmem, hp, hle⟩ := oldestWhere_eq_some (p := fun e => !e.isProtected && !e.reported) hplain
    exact ⟨x.1, by simp only [pl, srecPlace, freePlace_none hfull, oldestWhere_eq_none hrep, hx], x.2, hmem, hp, hle⟩
  · have hall : ∀ x ∈ t, x.2.isProtected = true := fun x hx => by simpa [plain, hrep x hx] using hplain x hx
    have hsome : ¬ ∀ x ∈ t, x.2.isProtected = false := fun h => by
      obtain ⟨e, he⟩ := Option.ne_none_iff_exists'.1 (hfull 0 (by decide))
      have hmem := Tbl.mem_of_find he
      exact absurd ((h _ hmem).symm.trans (hall _ hmem)) (by decide)
    obtain ⟨x, hx, hmem, hp, hle⟩ := oldestWhere_eq_some hsome
    refine ⟨x.1, ?_, x.2, hmem, hp, hle⟩
    simp only [pl, srecPlace, freePlace_none hfull, oldestWhere_eq_none hrep, oldestWhere_eq_none (p := fun e => !e.isProtected && !e.reported) hplain, hprot, hx, if_true, Option.map]
  · simp only [pl, srecPlace, freePlace_none hfull, oldestWhere_eq_none hrep, oldestWhere_eq_none (p := fun e => !e.isProtected && !e.reported) hplain, hprot]
    rfl

/-! ### The Yuhild unlock -/

section Yuhild

variable {s : State}

@[simp] theorem challenge_length (s : State) (scope : BitVec 4) (nonce : Bytes) : (s.challenge scope nonce).length = 112 := by
  simp [State.challenge, zeros]

/-- R334: where cluster 11's DRBG serves, the challenge is new, and nothing but it and the DRBG changes. -/
theorem issueChallenge_of_serves (hp : s.lcs = .production) (hserves : s.serves 24 = true) (scope : BitVec 4) :
    ∃ nonce : Bytes, nonce.length = 32 ∧ (s.issueChallenge scope).lcy.chal = some (s.challenge scope nonce) ∧
      (s.issueChallenge scope).lcy.nextReq = none ∧ Only [.lcy, .rng] s (s.issueChallenge scope) := by
  unfold State.issueChallenge
  rw [if_neg (not_not_intro hp), draw_of_serves (k := 88) hserves]
  exact ⟨_, fixLen_length 32 _, rfl, rfl, ((setDrbg_only s _ _).mono (by simp)).trans ((only_lcy _ _).mono (by simp))⟩

theorem exec_yuhildRequest {scope : BitVec 4} (h0 : scope ≠ 0) (hb : s.lcy.busy = none) :
    exec (.yuhildRequest scope) s = .next (s.issueChallenge scope) :=
  congrArg Host.Outcome.next ((if_neg h0).trans (if_neg (by simp [hb])))

theorem exec_yuhildRequest_busy {scope : BitVec 4} (h0 : scope ≠ 0) {b : Option Bytes × Bytes} (hb : s.lcy.busy = some b) :
    exec (.yuhildRequest scope) s = .next { s with lcy := { s.lcy with nextReq := some scope } } :=
  congrArg Host.Outcome.next ((if_neg h0).trans (if_pos (by simp [hb])))

/-- The state in which a verification has ended with a RESULT, the unlock of R336 still to come. -/
def State.responseEnded (s : State) (code : Nat) : State := { s with lcy := { s.lcy with busy := none, nextReq := none, result := code } }

@[simp] theorem responseEnded_lcy (s : State) (code : Nat) :
    (s.responseEnded code).lcy = { s.lcy with busy := none, nextReq := none, result := code } := rfl

theorem unlock_lcy (s : State) (c : Bytes) :
    (s.unlock c).lcy = { s.lcy with chal := none, unlocked := some (BitVec.ofNat 4 (le 2 1 c)) } := by
  unfold State.unlock
  rw [sentryAdd_only _ _ _ _ _ _ _ _ .lcy (by decide), logEvent_only _ _ _ _ _ .lcy (by decide)]
  rfl

/-- What the end of a verification does with the challenge it was of (R335). -/
def State.unlockedBy (s : State) (code : Nat) : Option Bytes → State
  | some c => if code = 1 then s.unlock c else s
  | none => s

/-- R335, R337: with no request waiting, the verification's end sets RESULT, and unlocks the scope where it is 1. -/
theorem exec_yuhildVerifyDone {chal : Option Bytes} {resp : Bytes} (hb : s.lcy.busy = some (chal, resp)) (hq : s.lcy.nextReq = none) :
    exec .yuhildVerifyDone s = .next ((s.responseEnded (s.yuhildResult chal resp)).unlockedBy (s.yuhildResult chal resp) chal) := by
  change Host.Outcome.next _ = _
  rw [hb, hq]
  cases chal <;> rfl

theorem unlockedBy_one (s : State) (c : Bytes) : s.unlockedBy 1 (some c) = s.unlock c := by simp [State.unlockedBy]

theorem unlockedBy_of_ne {code : Nat} (h : code ≠ 1) (chal : Option Bytes) : s.unlockedBy code chal = s := by
  cases chal with
  | none => rfl
  | some c => exact if_neg h

end Yuhild

/-- Settles O41: a request, a SUBMIT and the end of a verification, each by whether a response is being verified. -/
theorem yuhildUnlocks : Obligations.YuhildUnlocks := by
  unfold Obligations.YuhildUnlocks
  refine ⟨fun s scope h0 => ⟨fun hb hp hserves _ => ?_, fun b hb => exec_yuhildRequest_busy h0 hb⟩,
    fun s => ⟨fun hb => congrArg Host.Outcome.next (if_neg (by simp [hb])), fun b hb => congrArg Host.Outcome.next (if_pos (by simp [hb]))⟩,
    fun s chal resp hb hq => ?_⟩
  · obtain ⟨nonce, hlen, hchal, hnext, honly⟩ := issueChallenge_of_serves hp hserves scope
    exact ⟨_, exec_yuhildRequest h0 hb, nonce, hlen, hchal, hnext, challenge_length s scope nonce, honly⟩
  · intro code
    refine ⟨(s.responseEnded code).unlockedBy code chal, exec_yuhildVerifyDone hb hq, ?_⟩
    clear_value code
    by_cases h1 : code = 1
    · subst h1
      cases chal with
      | none => exact ⟨by simp [State.unlockedBy], by simp [State.unlockedBy], fun c hc => (by cases hc), fun h => absurd rfl h⟩
      | some c =>
        rw [unlockedBy_one, unlock_lcy]
        exact ⟨by simp, by simp, fun c' hc _ => by cases hc; simp, fun h => absurd rfl h⟩
    · rw [unlockedBy_of_ne h1]
      
      exact ⟨by simp, by simp, fun _ _ h => absurd h h1, fun _ => ⟨by simp, by simp, only_lcy s _⟩⟩

end Sys2Proof.Machine

/-! SUPPORT. The device's mode under HALT and alarms, the patrol scrubber (R282), INTEGRITY (R283) and the barriers of the gates (R302). -/
namespace Sys2Proof.Machine

/-! ### The mode after a HALT or an alarm -/

/-- The mode is as it was, or HALT. -/
def ModeHalts (s t : State) : Prop := t.glb.mode = s.glb.mode ∨ t.glb.mode = .halt

theorem ModeHalts.of_eq {s t : State} (h : t.glb = s.glb) : ModeHalts s t := .inl (congrArg Glb.mode h)

theorem Only.modeHalts {ps : List Part} {s t : State} (h : Only ps s t) (hp : .glb ∉ ps) : ModeHalts s t := .of_eq (h .glb hp)

theorem ModeHalts.trans {s t u : State} (h1 : ModeHalts s t) (h2 : ModeHalts t u) : ModeHalts s u :=
  h2.elim (fun h => h1.elim (fun h' => .inl (h.trans h')) fun h' => .inr (h.trans h')) .inr

theorem ModeHalts.halt {s t : State} (h : ModeHalts s t) (hs : s.glb.mode = .halt) : t.glb.mode = .halt :=
  h.elim (·.trans hs) id

@[simp] theorem withGlb_mode (s : State) (g : Glb) : (s.withGlb g).glb.mode = g.mode := by rw [withGlb_glb]

@[simp] theorem setInt_mode (s : State) (bits : BitVec 6) : (s.setInt bits).glb.mode = s.glb.mode := by simp [State.setInt]

@[simp] theorem logRec_glb (s : State) (k : LogKind) (sub tenant path : Nat) (body : List W64) : (s.logRec k sub tenant path body).glb = s.glb :=
  logRec_only s k sub tenant path body .glb (by decide)

@[simp] theorem logEvent_glb (s : State) (k : LogKind) (sub a b : Nat) : (s.logEvent k sub a b).glb = s.glb :=
  logEvent_only s k sub a b .glb (by decide)

@[simp] theorem toMode_mode (s : State) (m : Mode) : (s.toMode m).glb.mode = m := by simp [State.toMode]

/-- R364: with main power a HALT ends in mode HALT. -/
theorem enterHalt_mode {s : State} (h : s.glb.mode ≠ .sentry) (reason step code : Nat) :
    (s.enterHalt reason step code).glb.mode = .halt := by
  unfold State.enterHalt
  split
  · rename_i hs
    exact hs.resolve_right h
  · simp

theorem enterHalt_modeHalts (s : State) (reason step code : Nat) : ModeHalts s (s.enterHalt reason step code) := by
  by_cases h : s.glb.mode = .sentry
  · exact .of_eq (congrArg State.glb (if_pos (.inr h)))
  · exact .inr (enterHalt_mode h reason step code)

/-- Of all that raised sources do (R347), HALT alone changes the mode. -/
theorem raise_modeHalts (s : State) (srcs : List (Nat × Nat)) : ModeHalts s (s.raise srcs) := by
  unfold State.raise
  split
  · exact .inl rfl
  · extract_lets level prior prior' taken lowest latches events len0 s1 s2 s3 s4 pwr0 s5 s6
    have h2 : ModeHalts s s2 := by
      simp only [s2]
      split <;> exact .of_eq rfl
    have h3 : ModeHalts s2 s3 := (Only.foldl (ps := [.len]) (fun s p => by
      split
      · exact sentryAdd_only s _ _ _ _ _ _ _
      · exact Only.refl _ s) srcs s2).modeHalts (by decide)
    have h4 : ModeHalts s3 s4 := by
      simp only [s4]
      split
      · exact enterHalt_modeHalts s3 _ _ _
      · exact .inl rfl
    have h6 : ModeHalts s4 s6 :=
      (Only.foldl (ps := [.log]) (fun s p => logRec_only s _ _ _ _ _) srcs s5).modeHalts (s := s5) (by decide)
    refine h2.trans (h3.trans (h4.trans (h6.trans ?_)))
    repeat' split
    · exact .inl rfl
    · exact .inl (setInt_mode s6 _)
    · exact .inl (setInt_mode s6 _)
    · exact .inl rfl

theorem alarmEvent_modeHalts (s : State) (src : Nat) : ModeHalts s (s.alarmEvent src) := by
  unfold State.alarmEvent
  extract_lets s1 f
  have h1 : ModeHalts s s1 := by
    simp only [s1]
    split
    · exact enterHalt_modeHalts s _ _ _
    · exact .inl rfl
  have hf : ModeHalts s1 f.1 := (filterEvent_only s1 src).modeHalts (by decide)
  split
  · exact h1.trans (hf.trans (raise_modeHalts _ _))
  · exact h1.trans hf

/-- R283: an INTEGRITY event stops the SLU, joins its cause to the report and is counted; nothing after that touches the SLU. -/
theorem integrity_slu (s : State) (cause : BitVec 3) (path addr kd : Nat) : (s.integrity cause path addr kd).slu = { s.slu with
    stopped := true
    cause := s.slu.cause ||| cause
    integrityCount := s.slu.integrityCount + 1
    firstIntegrity := s.slu.firstIntegrity.or (some (path, addr, kd)) } := by
  unfold State.integrity
  extract_lets slu0 s1 s2 s3 pwr0 first s4
  have h2 : s2.slu = s1.slu := logRec_only s1 _ _ _ _ _ .slu (by decide)
  have h3 : s3.slu = s2.slu := enterHalt_only s2 _ _ _ .slu (by decide)
  have h4 : (s4.alarmEvent 21).slu = s4.slu := alarmEvent_only s4 21 .slu (by decide)
  exact h4.trans (h3.trans h2)

/-- R283, R364: with main power an INTEGRITY event ends in HALT. -/
theorem integrity_mode {s : State} (h : s.glb.mode ≠ .sentry) (cause : BitVec 3) (path addr kd : Nat) :
    (s.integrity cause path addr kd).glb.mode = .halt := by
  unfold State.integrity
  extract_lets slu0 s1 s2 s3 pwr0 first s4
  have h2 : s2.glb.mode = s.glb.mode := congrArg Glb.mode (logRec_glb s1 _ _ _ _ _)
  have h3 : s3.glb.mode = .halt := enterHalt_mode (by rwa [h2]) _ _ _
  exact (alarmEvent_modeHalts s4 21).halt h3

/-! ### The patrol scrubber -/

/-- What a scrub of a channel counts (R282), an uncorrectable counter block still to be told. -/
def State.scrubCounted (s : State) (channel words : Nat) (r : DramReturn) : State :=
  let total := s.slu.fitted / 16
  let n := tget 0 channel s.slu.scrubbed + words
  let whole := decide (0 < total) && decide (total ≤ n)
  { s with slu := { s.slu with
    ceData := satAdd 32 s.slu.ceData r.dataCorrected
    ceNode := satAdd 16 s.slu.ceNode r.nodeCorrected
    ueData := satAdd 16 s.slu.ueData r.lostLines.length
    scrubbed := Tbl.put channel (if whole then n - total else n) s.slu.scrubbed
    passes := if whole then s.slu.passes + 1 else s.slu.passes } }

theorem exec_patrolScrub {s : State} {channel : Nat} (h : s.sluTakes channel = true) (words : Nat) (r : DramReturn) :
    exec (.patrolScrub channel words r) s = .next (if r.lostNodes = [] then s.scrubCounted channel words r
      else (s.scrubCounted channel words r).freshNat.2.integrity 1 channel ((s.scrubCounted channel words r).freshNat.1 % 2 ^ 36) 0) :=
  congrArg Host.Outcome.next (if_neg (by simp [h]))

/-- Settles O40: a scrub's counts are `scrubCounted`; an uncorrectable counter block is then an INTEGRITY event. -/
theorem scrubAndEccCount : Obligations.ScrubAndEccCount := by
  unfold Obligations.ScrubAndEccCount
  refine ⟨fun s ch n r => ?_, fun s cause path addr kd => ?_⟩
  · intro total sum hch
    refine ⟨fun hr => ⟨s.scrubCounted ch n r, ?_, rfl, rfl, rfl, ?_, ?_, only_slu s _⟩,
      fun hr => ⟨_, exec_patrolScrub hch n r, ?_⟩⟩
    · rw [exec_patrolScrub hch, if_pos hr]
    · simp [State.scrubCounted, tget_put, total, sum]
    · simp [State.scrubCounted, total, sum]
    · simp only [if_neg hr, integrity_slu]
      exact ⟨trivial, rfl, rfl⟩
  · intro t
    refine ⟨?_, ?_, ?_, fun h => integrity_mode h _ _ _ _⟩ <;> simp only [t, integrity_slu]

/-! ### The barriers of the gates -/

section Barriers

variable {s : State} {g : Nat}

theorem exec_gateBarrier (hm : s.glb.mode = .drydock) : exec (.gateBarrier g) s = .next (match Tbl.find g s.gte.barriers with
    | some _ => s
    | none => s.startBarrier g) := congrArg Host.Outcome.next (if_pos hm)

/-- R301: a barrier that waits for an access goes on. -/
theorem exec_gateBarrierDone_waits {r : Nat} {rs : List Nat} (hb : Tbl.find g s.gte.barriers = some (r :: rs)) :
    exec (.gateBarrierDone g) s = .next s := by
  change Host.Outcome.next _ = _
  rw [hb]

/-- R301: a barrier that waits for no access ends, and with the last one that a RESTART waits for, the RESTART. -/
theorem exec_gateBarrierDone (hb : Tbl.find g s.gte.barriers = some []) :
    let s1 : State := { s with
      gte := { s.gte with barriers := Tbl.del g s.gte.barriers }
      pwr := { s.pwr with restarting := s.pwr.restarting.filter (· != g) } }
    exec (.gateBarrierDone g) s =
      .next (if s.pwr.restarting ≠ [] ∧ s.pwr.restarting.filter (· != g) = [] then s1.restarted else s1) := by
  change Host.Outcome.next _ = _
  rw [hb]

/-- Outside a RESTART the end of a barrier takes it out of the table, and that is all. -/
theorem exec_gateBarrierDone_alone (hb : Tbl.find g s.gte.barriers = some []) (hr : s.pwr.restarting = []) :
    exec (.gateBarrierDone g) s = .next { s with gte := { s.gte with barriers := Tbl.del g s.gte.barriers } } := by
  have hpwr : { s.pwr with restarting := s.pwr.restarting.filter (· != g) } = s.pwr := by rw [hr, List.filter_nil, ← hr]
  rw [exec_gateBarrierDone hb, if_neg fun h => h.1 hr, hpwr]

/-- With the one barrier that a RESTART waits for, the RESTART ends. -/
theorem exec_gateBarrierDone_last (hb : Tbl.find g s.gte.barriers = some []) (hr : s.pwr.restarting = [g]) :
    exec (.gateBarrierDone g) s = .next (({ s with
      gte := { s.gte with barriers := Tbl.del g s.gte.barriers }, pwr := { s.pwr with restarting := [] } } : State).setInt intRestarted) := by
  rw [exec_gateBarrierDone hb, if_pos (by simp [hr])]
  simp only [hr, List.filter_cons, List.filter_nil, bne_self_eq_false, Bool.false_eq_true, if_false]
  rfl

end Barriers

/-- Settles O23: the write and the end of a barrier, by the gate's entry in the table of barriers. -/
theorem gateBarriersRunAndEnd : Obligations.GateBarriersRunAndEnd := by
  unfold Obligations.GateBarriersRunAndEnd
  intro s g hm
  refine ⟨fun hb => ⟨s.startBarrier g, ?_, Tbl.find_put _ _ _, rfl, fun h hne => Tbl.find_put_ne _ _ _ _ hne⟩, fun hb => ?_,
    fun hb hr => ⟨_, exec_gateBarrierDone_alone hb hr, Tbl.find_del _ _, rfl, fun h hne => Tbl.find_del_ne _ _ _ hne⟩,
    fun r rs => exec_gateBarrierDone_waits, exec_gateBarrierDone_last⟩
  · rw [exec_gateBarrier hm, hb]
  · obtain ⟨b, hb⟩ := Option.isSome_iff_exists.1 hb
    rw [exec_gateBarrier hm, hb]

end Sys2Proof.Machine

/-! SUPPORT. DECLASS (R307): words of core scratch copied with the class named. -/
namespace Sys2Proof.Machine

/-! ### Words of core scratch written in a row -/

/-- Words written from an aligned address stand there in their order; every other word is as it was. -/
theorem sramAt_putSram (ws : List TWord) (s : State) {addr : Nat} (h : addr % 8 = 0) (a : Nat) : (s.putSram addr ws).sramAt a =
    if addr / 8 ≤ a then ws[a - addr / 8]?.getD (s.sramAt a) else s.sramAt a := by
  induction ws generalizing s addr with
  | nil => simp [State.putSram]
  | cons w ws ih =>
    rw [State.putSram, ih (s.setSram (addr / 8) w) (by omega)]
    have hnext : (addr + 8) / 8 = addr / 8 + 1 := by omega
    by_cases ha : a = addr / 8
    · subst ha
      simp [hnext]
    · rw [State.sramAt_setSram_ne _ _ _ _ ha, hnext]
      by_cases hle : addr / 8 ≤ a
      · rw [if_pos (by omega), if_pos hle, show a - addr / 8 = a - (addr / 8 + 1) + 1 by omega, List.getElem?_cons_succ]
      · rw [if_neg (by omega), if_neg hle]

theorem putSram_only (ws : List TWord) (s : State) (addr : Nat) : Only [.sram] s (s.putSram addr ws) := by
  induction ws generalizing s addr with
  | nil => exact Only.refl _ s
  | cons w ws ih =>
    have hw : Only [.sram] s (s.setSram (addr / 8) w) := by
      rintro (_ | _) hp <;> first | rfl | exact absurd (List.mem_singleton.2 rfl) hp
    exact hw.trans (ih _ _)

theorem inScratch_aligned {addr n : Nat} (h : inScratch addr n = true) : addr % 8 = 0 := by
  simp only [inScratch, Bool.and_eq_true, decide_eq_true_eq] at h
  exact h.1.1

/-! ### DECLASS -/

section Declass

variable {s : State} {core fetch src dst n : Nat} {cls : SecClass} {ecc : List Nat}

/-- Word `i` of a DECLASS's source, as read. -/
def State.declassFrom (s : State) (src : Nat) (ecc : List Nat) (i : Nat) : TWord := eccRead (ecc.contains i) (s.sramAt (src / 8 + i))

theorem eccRead_cls (b : Bool) (w : TWord) : (eccRead b w).cls = w.cls := by cases b <;> rfl

/-- The source words a DECLASS reads, by their places. -/
theorem declassFrom_list (s : State) (src n : Nat) (ecc : List Nat) :
    (((List.range n).zip (s.sramWords src n)).map fun p => eccRead (ecc.contains p.1) p.2) =
      (List.range n).map (s.declassFrom src ecc) := by
  apply List.ext_getElem <;> simp [State.sramWords, State.declassFrom]

/-- The words a DECLASS writes. -/
def State.declassWords (s : State) (src n : Nat) (cls : SecClass) (ecc : List Nat) : List TWord :=
  (List.range n).map fun i => { s.declassFrom src ecc i with cls := cls }

/-- R307: a DECLASS that its checks let run goes on to the fetch address. -/
theorem declass_valid (hn : n ≤ 8) (hc : cls = .pub ∨ cls = .confidential) (hs : inScratch src n = true) (hd : inScratch dst n = true) :
    ¬(inScratch src n = false ∨ inScratch dst n = false ∨ 8 < n ∨ (cls ≠ .pub ∧ cls ≠ .confidential)) := by
  rw [hs, hd]
  rintro (h | h | h | ⟨h1, h2⟩)
  · cases h
  · cases h
  · omega
  · exact hc.elim h1 h2

theorem exec_declass_fetch (hv : ¬(inScratch src n = false ∨ inScratch dst n = false ∨ 8 < n ∨ (cls ≠ .pub ∧ cls ≠ .confidential)))
    {b : Nat × Option Nat} (hf : s.gateCheck core .declassify fetch 4 [] = some b) :
    exec (.declass core fetch src dst n cls ecc) s = .next (s.refuse core .declassify (fetch, b.2)) := by
  refine congrArg Host.Outcome.next ((if_neg hv).trans ?_)
  dsimp only
  rw [hf]

/-- R307: a DECLASS that every check allows writes its words and is counted. -/
theorem exec_declass (hv : ¬(inScratch src n = false ∨ inScratch dst n = false ∨ 8 < n ∨ (cls ≠ .pub ∧ cls ≠ .confidential)))
    (hf : s.gateCheck core .declassify fetch 4 [] = none) (hheld : ∀ i, i < n → (s.sramAt (src / 8 + i)).cls ≠ .held)
    (hr : s.gateCheck core .read src (8 * n) [] = none)
    (hw : s.gateCheck core .write dst (8 * n) (s.declassWords src n cls ecc) = none) :
    let t := s.putSram dst (s.declassWords src n cls ecc)
    exec (.declass core fetch src dst n cls ecc) s = .next { t with gte := { t.gte with declass := satAdd 32 t.gte.declass 1 } } := by
  refine congrArg Host.Outcome.next ((if_neg hv).trans ?_)
  have hany : (((List.range n).map (s.declassFrom src ecc)).any fun w => decide (w.cls = .held)) = false := by
    simpa [State.declassFrom, eccRead_cls] using hheld
  have hwords : ((List.range n).map (s.declassFrom src ecc)).map (fun w => { w with cls := cls }) = s.declassWords src n cls ecc := by
    rw [List.map_map]
    rfl
  simp only [declassFrom_list, hf, hany, hr, hwords, hw, Bool.false_eq_true, if_false]

/-- A refused access by a crew core is counted (R299). -/
theorem refuse_violCount {g : Nat} (h : g < 96) (k : Access) (bad : Nat × Option Nat) :
    (s.refuse g k bad).gte.violCount = (s.gte.violCount + 1) % 2 ^ 32 := by
  unfold State.refuse
  extract_lets pick s1
  have hpick : pick.2.gte = s.gte := by
    simp only [pick]
    split <;> rfl
  have hviol : s1.gte.violCount = (pick.2.gte.violCount + 1) % 2 ^ 32 := by
    simp only [s1, State.violation, State.report]
    rw [logRec_only _ _ _ _ _ _ .gte (by decide)]
  rw [if_pos h, stopJob_only s1 _ _ .gte (by decide), hviol, hpick]

end Declass

/-- Settles O24: the words written are `declassWords`, read back by `sramAt_putSram`; a fetch address that does not qualify is refused. -/
theorem declassCopiesWords : Obligations.DeclassCopiesWords := by
  unfold Obligations.DeclassCopiesWords
  refine ⟨fun s core fetch src dst n cls ecc hn hc hs hd => ?_, fun s core fetch src dst n cls ecc b hn hc hs hd hf hcore => ?_⟩
  · intro from_ hf hheld hr hw
    have hput := sramAt_putSram (s.declassWords src n cls ecc) s (inScratch_aligned hd)
    have hgte : (s.putSram dst (s.declassWords src n cls ecc)).gte = s.gte := putSram_only _ s dst .gte (by decide)
    refine ⟨_, exec_declass (declass_valid hn hc hs hd) hf hheld hr hw, fun i hi => ?_, fun a ha => ?_, ?_,
      ((putSram_only _ s dst).mono (by simp)).trans ((only_gte _ _).mono (by simp))⟩
    · refine (hput (dst / 8 + i)).trans ?_
      simp [State.declassWords, State.declassFrom, hi, from_]
    · refine (hput a).trans ?_
      obtain ha | ha := ha
      · exact if_neg (by omega)
      · rw [if_pos (by omega), List.getElem?_eq_none (by simp [State.declassWords]; omega)]
        rfl
    · simp only [hgte]
  · refine ⟨_, exec_declass_fetch (declass_valid hn hc hs hd) hf, fun a => ?_, refuse_violCount hcore _ _⟩
    have hsram := refuse_only s core .declassify (fetch, b.2) .sram (by decide)
    exact congrArg (tget notValid a) hsram

end Sys2Proof.Machine

/-! SUPPORT. The logbook's records, archive and buckets (R425 to R432), and its cursors (R436). -/
namespace Sys2Proof.Machine

/-! ### Records, the archive and the buckets -/

section Records

variable {s : State} {r : Rec}

/-- The state in which a record has entered the ring (R425, R430), its audit count still to come. -/
def State.recordEntered (s : State) (r : Rec) (ring : List Rec) (lost : Nat) : State :=
  { s with log := { s.log with
    ingress := s.log.ingress.erase r
    ring := ring ++ [{ r with seq := s.log.nextSeq }]
    seqCount := s.log.seqCount + 1
    lostRing := satAdd 16 s.log.lostRing lost } }

theorem exec_logRecordEnter (hr : s.nextRec = some r) {ring : List Rec} {lost : Nat}
    (hroom : makeRoom r.words s.log.nextCopy s.log.ring.length s.log.ring = some (ring, lost)) :
    exec .logRecordEnter s = .next (if r.audit then (s.recordEntered r ring lost).countAudit r.words else s.recordEntered r ring lost) := by
  change Host.Outcome.next _ = _
  rw [hr]
  dsimp only
  rw [hroom]
  rfl

/-- R432: of the logbook an audit-critical record changes OUTSTANDING alone. -/
theorem countAudit_log (s : State) (n : Nat) : (s.countAudit n).log = { s.log with outstanding := s.log.outstanding + n } := by
  unfold State.countAudit
  extract_lets before bound lg s1
  split
  · exact setInt_only s1 _ .log (by decide)
  · rfl

theorem countAudit_only (s : State) (n : Nat) : Only [.log, .glb, .out, .wharf] s (s.countAudit n) := by
  unfold State.countAudit
  extract_lets before bound lg s1
  have h1 : Only [.log, .glb, .out, .wharf] s s1 := (only_log s _).mono (by simp)
  split
  · exact h1.trans ((setInt_only s1 _).mono (by simp))
  · exact h1

/-- What the archive does with the next record to copy (R430, R432). -/
theorem exec_archiveCopy (hready : s.slu.ready = true) (hstop : s.slu.stopped = false)
    (hr : (s.log.ring.find? fun x => decide (s.log.nextCopy ≤ x.seq)) = some r) (d : DramReturn) :
    let t := s.archiveLines r d
    exec (.archiveCopy d) s = .next (match archiveRoom r.words s.log.archCap s.log.ackTo s.log.archive.length s.log.archive with
      | some (kept, lost) => { t with log := { t.log with
          archive := kept ++ [r], nextCopy := r.seq + 1, lostArchive := satAdd 32 t.log.lostArchive lost } }
      | none =>
        if r.audit then { s with log := { s.log with auditStop := true } }
        else { s with log := { s.log with nextCopy := r.seq + 1, lostArchive := satAdd 32 s.log.lostArchive 1 } }) := by
  refine congrArg Host.Outcome.next ((if_neg (by simp [hready, hstop])).trans ?_)
  dsimp only
  rw [hr] <;> rfl

/-- R428, R429: a refill with no suppressed record makes no record. -/
theorem refillDue_quiet (hw : s.log.lastRefill < s.now / 100000) (hq : ∀ p ∈ s.log.rates, p.2.suppressed = 0) :
    s.refillDue = { s with log := { s.log with
      rates := s.log.rates.map fun p => (p.1, { p.2 with
        tokens := min p.2.capacity (p.2.tokens + (s.now / 100000 - s.log.lastRefill) * p.2.refill) })
      lastRefill := s.now / 100000 } } := by
  have htold : (s.log.rates.filter fun p => decide (0 < p.2.suppressed)) = [] :=
    List.filter_eq_nil_iff.2 fun p hp => by simp [hq p hp]
  have hrates : (s.log.rates.map fun p => (p.1, { p.2.refilled (s.now / 100000 - s.log.lastRefill) with suppressed := 0 })) =
      s.log.rates.map fun p => (p.1, { p.2 with
        tokens := min p.2.capacity (p.2.tokens + (s.now / 100000 - s.log.lastRefill) * p.2.refill) }) :=
    List.map_congr_left fun p hp => by simp [Rate.refilled, hq p hp]
  unfold State.refillDue
  extract_lets w told lg s1
  rw [if_pos hw, show told = [] from htold, List.foldl_nil]
  simp only [s1, lg, w, hrates]

end Records

/-- Settles O21: a record enters the ring, is copied to the archive, and the buckets are refilled. -/
theorem logbookRecords : Obligations.LogbookRecords := by
  unfold Obligations.LogbookRecords
  refine ⟨fun s r ring lost hr hroom => ?_, fun s r d hready hstop hr => ⟨fun kept lost hroom => ?_, fun hroom haudit => ?_⟩,
    fun s hw hq => congrArg Host.Outcome.next (refillDue_quiet hw hq)⟩
  · refine ⟨_, exec_logRecordEnter hr hroom, ?_⟩
    have hentered : Only [.log, .glb, .out, .wharf] s (s.recordEntered r ring lost) := (only_log s _).mono (by simp)
    by_cases haudit : r.audit = true
    · simp only [if_pos haudit, countAudit_log]
      exact ⟨rfl, rfl, rfl, rfl, hentered.trans (countAudit_only _ _)⟩
    · simp only [if_neg haudit]
      exact ⟨rfl, rfl, rfl, rfl, hentered⟩
  · rw [exec_archiveCopy hready hstop hr, hroom]
  · rw [exec_archiveCopy hready hstop hr, hroom]
    exact congrArg Host.Outcome.next (if_pos haudit)

/-! ### The cursors -/

section Cursors

variable {s : State} {p : Path} {n : Nat}

@[simp] theorem cursorAt_setCursor (s : State) (n : Nat) (c : Cursor) : (s.setCursor n c).cursorAt n = c := by
  simp [State.cursorAt, State.setCursor]

@[simp] theorem cursorAt_emit (s : State) (n : Nat) (e : Emit) : (s.emit e).cursorAt n = s.cursorAt n := rfl

@[simp] theorem setCursor_emit_out (s : State) (n : Nat) (c : Cursor) (e : Emit) : ((s.setCursor n c).emit e).out = s.out ++ [e] := rfl

/-- A path that has a cursor and reads the logbook answers. -/
theorem answers_of_reads_log (hp : cursorPath p = some n) (hr : s.reads p 0xF = true) : s.answers p = true := by
  have hmain : s.clock.mainPower = true := by
    cases h : s.clock.mainPower with
    | true => rfl
    | false => simp [State.reads, State.vis, h] at hr
  cases p with
  | vf n => cases hp
  | pf =>
    have hmode : s.glb.mode ≠ .dormant := fun h => by simp [State.reads, State.vis, hmain, h, pfVis] at hr
    simp [State.answers, hmain, hmode]
  | smbus => simp [State.answers, hmain]
  | spi => simp [State.answers, hmain]
  | debug => simp [State.answers, hmain]

theorem exec_logNextRead (hp : cursorPath p = some n) (hr : s.reads p 0xF = true) :
    exec (.logNextRead p) s = .next ((s.setCursor n ((s.cursorAt n).next s.log)).emit
      (.regData p logNextAddr (BitVec.ofNat 64 ((s.cursorAt n).next s.log).advanced))) := by
  refine congrArg Host.Outcome.next ((if_neg (by simp [answers_of_reads_log hp hr])).trans ((if_pos hr).trans ?_))
  simp only [State.logNext, hp]

/-- R436: a cursor whose record is still there advances by the words of its window. -/
theorem next_of_retained {c : Cursor} {l : Log} (h : c.overwritten l = false) : c.next l =
    let p := advanceBy l.nextSeq (l.ring.filter fun r => decide (c.seq ≤ r.seq)) c.off c.win.length
    Cursor.copy { c with seq := p.1, off := p.2, advanced := c.win.length } l := if_neg (by simp [h])

/-- R435, R436: a cursor whose record is gone moves to the oldest. -/
theorem next_of_overwritten {c : Cursor} {l : Log} (h : c.overwritten l = true) :
    c.next l = Cursor.copy { c with seq := l.oldest, off := 0, skipped := true, advanced := 0 } l := if_pos h

theorem cursorEmit_only (s : State) (n : Nat) (c : Cursor) (e : Emit) : Only [.log, .out] s ((s.setCursor n c).emit e) :=
  ((only_log s _).mono (by simp)).trans ((only_out (s.setCursor n c) _).mono (by simp))

end Cursors

/-- Settles O22: the seek, and a read by whether the cursor's record is still in the ring. -/
theorem logCursorMoves : Obligations.LogCursorMoves := by
  unfold Obligations.LogCursorMoves
  refine ⟨fun s v hm => ⟨_, congrArg Host.Outcome.next (if_pos hm), ?_⟩, fun s p n => ?_⟩
  · simp only [cursorAt_setCursor]
    exact ⟨rfl, rfl, rfl, only_log s _⟩
  · intro c hp hr
    refine ⟨fun hover => ⟨_, exec_logNextRead hp hr, ?_⟩, fun hover => ⟨_, exec_logNextRead hp hr, ?_⟩⟩
    · simp only [cursorAt_emit, cursorAt_setCursor, setCursor_emit_out]
      rw [next_of_retained hover]
      exact ⟨rfl, rfl, rfl, cursorEmit_only s n _ _⟩
    · simp only [cursorAt_emit, cursorAt_setCursor, setCursor_emit_out]
      rw [next_of_overwritten hover]
      exact ⟨rfl, rfl, rfl, rfl, rfl, cursorEmit_only s n _ _⟩

end Sys2Proof.Machine

/-! SUPPORT. A DRAM line written and read back, with its leaf counter block cached and DRAM returning what it holds (R275, R280, R284, R286). -/
namespace Sys2Proof.Machine

/-! ### What the SLU's accesses leave of its state -/

/-- What decides whether the SLU takes an access, and where its leaf counter blocks are found: not the lines, the counters or the counts. -/
def Slu.standing (x : Slu) : Bool × Bool × Bool × Bool × Nat × List Nat :=
  (x.ready, x.stopped, x.half0, x.half1, x.protLog, x.cached.map Prod.fst)

/-- The SLU stands as before: it takes the same accesses, with the same blocks in its cache, and the gates are as they were. -/
def SluStands (s t : State) : Prop := Only treeParts s t ∧ t.slu.standing = s.slu.standing

theorem SluStands.of_slu {s : State} (x : Slu) (h : x.standing = s.slu.standing) : SluStands s { s with slu := x } :=
  ⟨slu_tree (only_slu s x), h⟩

theorem SluStands.refl (s : State) : SluStands s s := ⟨Only.refl _ s, rfl⟩

theorem SluStands.trans {s t u : State} (h1 : SluStands s t) (h2 : SluStands t u) : SluStands s u :=
  ⟨h1.1.trans h2.1, h2.2.trans h1.2⟩

theorem blockCached_iff (s : State) (k : Nat) : s.blockCached k = true ↔ k ∈ s.slu.cached.map Prod.fst := by
  simp [State.blockCached]

section Stands

variable {s t : State}

theorem SluStands.sluTakes (h : SluStands s t) (half : Nat) : t.sluTakes half = s.sluTakes half := by
  obtain ⟨honly, hst⟩ := h
  have hwharf : t.wharf = s.wharf := honly .wharf (by decide)
  simp only [Slu.standing, Prod.mk.injEq] at hst
  obtain ⟨hready, hstop, hh0, hh1, -, -⟩ := hst
  simp only [State.sluTakes, hwharf, hready, hstop, hh0, hh1]

theorem SluStands.protLog (h : SluStands s t) : t.slu.protLog = s.slu.protLog := by
  obtain ⟨-, hst⟩ := h
  simp only [Slu.standing, Prod.mk.injEq] at hst
  obtain ⟨-, -, -, -, hlog, -⟩ := hst
  exact hlog

theorem SluStands.blockCached (h : SluStands s t) {k : Nat} (hk : s.blockCached k = true) : t.blockCached k = true := by
  obtain ⟨-, hst⟩ := h
  simp only [Slu.standing, Prod.mk.injEq] at hst
  obtain ⟨-, -, -, -, -, hcached⟩ := hst
  rw [blockCached_iff, hcached]
  exact (blockCached_iff s k).1 hk

/-- The gates' tables alone decide a gate's check (R297). -/
theorem SluStands.gateCheck (h : SluStands s t) (g : Nat) (k : Access) (addr len : Nat) (ws : List TWord) :
    t.gateCheck g k addr len ws = s.gateCheck g k addr len ws := by
  have hcfg : t.cfg = s.cfg := h.1 .cfg (by decide)
  simp only [State.gateCheck, State.gateScan, State.byteAllowed, State.blamed, State.matching, State.region, hcfg]

end Stands

/-! ### Counters -/

section Counters

variable (s : State) {k j : Nat}

theorem setBlock_stands (b : CtrBlock) : SluStands s (s.setBlock k b) := .of_slu _ rfl

theorem dirty_stands : SluStands s (s.dirty k) := by
  refine .of_slu _ ?_
  simp only [Slu.standing, List.map_map]
  congr 5
  refine List.map_congr_left fun x _ => ?_
  simp only [Function.comp]
  split
  · rename_i h
    exact h.symm
  · rfl

@[simp] theorem blockAt_setBlock (b : CtrBlock) : (s.setBlock k b).blockAt k = b := by simp [State.blockAt, State.setBlock]

@[simp] theorem blockAt_dirty (q : Nat) : (s.dirty k).blockAt q = s.blockAt q := rfl

/-- R281: a line rewritten by a rollover leaves the SLU as it stands. -/
theorem rollLine_stands (r : DramReturn) (c : Nat) : SluStands s (s.rollLine k j r c) := by
  refine ⟨rollLine_only s k j r c, ?_⟩
  unfold State.rollLine
  extract_lets off put f
  repeat' split
  all_goals rfl

theorem rollover_stands (h : keyLevel k = 0) (r : DramReturn) : SluStands s (s.rollover k j r) := by
  refine ⟨rollover_only s k j r, ?_⟩
  unfold State.rollover
  extract_lets s1 s2
  have h1 : s1.slu.standing = s.slu.standing := by
    simp only [s1, h, if_true]
    generalize List.range 64 = cs
    induction cs using List.reverseRecOn with
    | nil => rfl
    | append_singleton cs c ih =>
      rw [List.foldl_append]
      exact (rollLine_stands _ r c).2.trans ih
  have h2 : s2.slu.standing = s1.slu.standing := ((setBlock_stands s1 _).trans (dirty_stands _)).2
  exact h2.trans h1

theorem rollover_ctr (r : DramReturn) : 0 < ((s.rollover k j r).blockAt k).ctr j := by
  unfold State.rollover
  extract_lets s1 s2
  have h2 : s2.blockAt k = { major := (s1.blockAt k).major + 1 } := (blockAt_dirty _ k).trans (blockAt_setBlock s1 _)
  change 0 < (s2.blockAt k).ctr j
  rw [h2]
  simp [CtrBlock.ctr]

/-- R281: as DRAM returns what it holds, no child of a leaf block fails its rollover. -/
theorem rolloverCause_asStored (h : keyLevel k = 0) : s.rolloverCause k j .asStored = none := by
  simp [State.rolloverCause, h, State.verifyLine, DramReturn.asStored, List.findSome?_eq_none_iff]

/-- R280: below minor 127 a line's counter advances in its block, and no line changes. -/
theorem bump_below (h : tget 0 j (s.blockAt k).minors < 127) (r : DramReturn) : s.bump k j r =
    (none, (s.setBlock k { s.blockAt k with minors := Tbl.put j (tget 0 j (s.blockAt k).minors + 1) (s.blockAt k).minors }).dirty k) :=
  if_pos h

/-- R280, R281: a write of a line advances its counter, by a rollover where need be, and the SLU stands. -/
theorem bump_asStored (h : keyLevel k = 0) : ∃ t, s.bump k j .asStored = (none, t) ∧ SluStands s t ∧ 0 < (t.blockAt k).ctr j ∧
    (tget 0 j (s.blockAt k).minors < 127 → t.slu.lines = s.slu.lines) := by
  by_cases hm : tget 0 j (s.blockAt k).minors < 127
  · refine ⟨_, bump_below s hm _, (setBlock_stands s _).trans (dirty_stands _), ?_, fun _ => rfl⟩
    simp [CtrBlock.ctr]
  · refine ⟨s.rollover k j .asStored, ?_, rollover_stands s h _, rollover_ctr s _, fun h => absurd h hm⟩
    unfold State.bump
    extract_lets b m
    rw [if_neg hm, rolloverCause_asStored s h]

end Counters

/-! ### Lines -/

section Lines

variable {s : State} {off kd : Nat}

/-- The leaf counter block of the line at a DRAM offset (R278). -/
def leafOf (off : Nat) : Nat := blockKey (sluHalf off) 0 (sluLine off / 64)

theorem keyLevel_leafOf (off : Nat) : keyLevel (leafOf off) = 0 := by
  simp only [keyLevel, leafOf, blockKey, sluHalf]
  omega

theorem lineCtr_eq (s : State) (off : Nat) : s.lineCtr (sluHalf off) (sluLine off) = (s.blockAt (leafOf off)).ctr (sluLine off % 64) := rfl

/-- R280: a block in the cache is not brought in. -/
theorem bring_cached {k : Nat} (h : s.blockCached k = true) (r : DramReturn) (fuel : Nat) (keep : List Nat) :
    State.bring r fuel keep k s = (none, s) := by
  cases fuel with
  | zero => rfl
  | succ n => exact if_pos (.inl h)

/-- R280: with its leaf counter block cached and DRAM returning what it holds, a line's path costs a count of the lookups alone. -/
theorem walk_cached (h : s.blockCached (leafOf off) = true) : ∃ t, s.walk (sluHalf off) (sluLine off) .asStored = (none, t) ∧
    Only [.slu] s t ∧ SluStands s t ∧ t.slu.lines = s.slu.lines ∧ t.slu.blocks = s.slu.blocks ∧ t.slu.domainViol = s.slu.domainViol := by
  unfold State.walk
  extract_lets path stored missing slu0 s1 s2
  have h2 : SluStands s s2 := ⟨slu_tree ((only_slu s _).trans (only_slu s1 _)), rfl⟩
  refine ⟨s2, ?_, (only_slu s _).trans (only_slu s1 _), h2, rfl, rfl, rfl⟩
  rw [if_neg (by simp [DramReturn.asStored])]
  exact bring_cached (h2.blockCached h) _ _ _

/-- A line as DRAM holds it (R276). -/
def State.dramLine (s : State) (off : Nat) : Line := (Tbl.find (off / 64) s.slu.lines).getD ⟨List.replicate 8 notValid, 0⟩

/-- R276, R286: what is read of a line, by its counter. -/
theorem getLine_cached (h : s.blockCached (leafOf off) = true) : ∃ t,
    s.getLine off .asStored =
      (.line (if s.lineCtr (sluHalf off) (sluLine off) = 0 then none else some (s.dramLine off)), t) ∧
    Only [.slu] s t ∧ SluStands s t ∧ t.slu.lines = s.slu.lines ∧ t.slu.blocks = s.slu.blocks ∧ t.slu.domainViol = s.slu.domainViol := by
  obtain ⟨t, hwalk, honly, hst, hlines, hblocks, hviol⟩ := walk_cached h
  refine ⟨t, ?_, honly, hst, hlines, hblocks, hviol⟩
  have hctr : t.lineCtr (sluHalf off) (sluLine off) = s.lineCtr (sluHalf off) (sluLine off) := by
    simp only [State.lineCtr, State.blockAt, hblocks]
  have hverify : t.verifyLine off .asStored = some (s.dramLine off) := by
    simp [State.verifyLine, DramReturn.asStored, State.dramLine, hlines]
  unfold State.getLine
  simp only [hwalk, hctr, hverify]
  split
  · rfl
  · simp [DramReturn.asStored]

/-- R273, R275, R280, R284: what a write of a line leaves. -/
theorem putLine_asStored (s : State) (kd off : Nat) (ws : List TWord) : ∃ t, s.putLine kd off ws .asStored = (none, t) ∧ SluStands s t ∧
    0 < t.lineCtr (sluHalf off) (sluLine off) ∧ Tbl.find (off / 64) t.slu.lines = some ⟨ws.map TWord.stored, kd⟩ ∧
    (tget 0 (sluLine off % 64) (s.blockAt (leafOf off)).minors < 127 →
      ∀ o, o ≠ off / 64 → Tbl.find o t.slu.lines = Tbl.find o s.slu.lines) := by
  obtain ⟨t, hbump, hst, hctr, hlines⟩ := bump_asStored s (j := sluLine off % 64) (keyLevel_leafOf off)
  refine ⟨{ t with slu := { t.slu with lines := Tbl.put (off / 64) ⟨ws.map TWord.stored, kd⟩ t.slu.lines } }, ?_,
    hst.trans (.of_slu _ rfl), hctr, Tbl.find_put _ _ _, fun hm o ho => ?_⟩
  · unfold State.putLine
    extract_lets half i
    rw [show s.bump (blockKey half 0 (i / 64)) (i % 64) .asStored = (none, t) from hbump]
  · rw [← hlines hm]
    exact Tbl.find_put_ne _ _ _ _ ho

/-- R284: a full-line write past its gate. -/
theorem writeLine_cached (hoff : off < 2 ^ s.slu.protLog) (h : s.blockCached (leafOf off) = true) (m core kd : Nat) (ws : List TWord) :
    let t := s.writeLine m core kd off ws .asStored
    SluStands s t ∧ 0 < t.lineCtr (sluHalf off) (sluLine off) ∧ Tbl.find (off / 64) t.slu.lines = some ⟨ws.map TWord.stored, kd⟩ ∧
      (tget 0 (sluLine off % 64) (s.blockAt (leafOf off)).minors < 127 →
        ∀ o, o ≠ off / 64 → Tbl.find o t.slu.lines = Tbl.find o s.slu.lines) := by
  obtain ⟨s1, hwalk, -, hst1, hlines, hblocks, -⟩ := walk_cached h
  obtain ⟨t, hput, hst, hctr, hfind, hrest⟩ := putLine_asStored s1 kd off ws
  have hblock : s1.blockAt (leafOf off) = s.blockAt (leafOf off) := by simp only [State.blockAt, hblocks]
  have hwrite : s.writeLine m core kd off ws .asStored = t := by
    unfold State.writeLine
    rw [if_neg (Nat.not_le.2 hoff)]
    simp only [hwalk, hput, State.endWrite]
  rw [hwrite]
  refine ⟨hst1.trans hst, hctr, hfind, fun hm o ho => ?_⟩
  rw [hrest (by rwa [hblock]) o ho, hlines]

/-- R276, R286: a read past its gate, by the line's counter and the key domain it is made under. -/
theorem readLine_cached (hoff : off < 2 ^ s.slu.protLog) (h : s.blockCached (leafOf off) = true) (m core kd : Nat) :
    ∃ t, Only [.slu] s t ∧ t.slu.domainViol = s.slu.domainViol ∧ s.readLine m core kd off .asStored =
      if s.lineCtr (sluHalf off) (sluLine off) = 0 then t.giveWords m (List.replicate 8 notValid)
      else if (s.dramLine off).owner = kd then (t.countHeld (s.dramLine off).words).giveWords m ((s.dramLine off).words.map unheld)
      else (t.giveWords m poisonedLine).otherDomain m core := by
  obtain ⟨t, hget, honly, -, -, -, hviol⟩ := getLine_cached h
  refine ⟨t, honly, hviol, ?_⟩
  unfold State.readLine
  rw [if_neg (Nat.not_le.2 hoff)]
  simp only [hget]
  by_cases hctr : s.lineCtr (sluHalf off) (sluLine off) = 0
  · simp only [if_pos hctr]
  · simp only [if_neg hctr]

@[simp] theorem giveWords_returned (s : State) (m : Nat) (ws : List TWord) : tget [] m (s.giveWords m ws).slu.returned = ws := by
  simp [State.giveWords]

theorem failJob_only (s : State) (m core st : Nat) : Only [.cores] s (s.failJob m core st) := by
  unfold State.failJob
  split
  · exact stopJob_only s m st
  · split
    · exact stopJob_only s core st
    · exact Only.refl _ s

/-- R275: an access under another key domain is counted. -/
theorem otherDomain_slu (s : State) (m core : Nat) : (s.otherDomain m core).slu = { s.slu with domainViol := satAdd 32 s.slu.domainViol 1 } :=
  failJob_only _ m core stPoisoned .slu (by decide)

/-- R276, R284: a partial write past its gate of a line whose counter is 0. -/
theorem writePart_unwritten (hoff : off < 2 ^ s.slu.protLog) (h : s.blockCached (leafOf off) = true)
    (hctr : s.lineCtr (sluHalf off) (sluLine off) = 0) (m core kd : Nat) (ws : List (Nat × TWord)) :
    Tbl.find (off / 64) (s.writePart m core kd off ws .asStored).slu.lines = some ⟨(mergeWords [] ws).map TWord.stored, kd⟩ := by
  obtain ⟨s1, hget, -⟩ := getLine_cached h
  obtain ⟨t, hput, -, -, hfind, -⟩ := putLine_asStored s1 kd off (mergeWords [] ws)
  rw [if_pos hctr] at hget
  have hwrite : s.writePart m core kd off ws .asStored = t := by
    unfold State.writePart
    rw [if_neg (Nat.not_le.2 hoff)]
    simp only [hget, hput, State.endWrite]
  rwa [hwrite]

end Lines

/-! ### The commands -/

section Commands

variable {s : State} {m core addr kd off : Nat}

theorem exec_lineRead (hg : s.gateCheck m .read (addr - addr % 64) 64 [] = none) (hl : lineOf addr = some (kd, off))
    (ht : s.sluTakes (sluHalf off) = true) (r : DramReturn) :
    exec (.lineRead m core addr r) s = .next (s.readLine m core kd off r) := by
  change Host.Outcome.next _ = _
  rw [hg]
  dsimp only
  rw [hl]
  exact congrArg Host.Outcome.next (if_pos ht)

theorem exec_fullLineWrite {words : List TWord} (hw : wholeLine words = true)
    (hg : s.gateCheck m .write (addr - addr % 64) 64 words = none) (hl : lineOf addr = some (kd, off))
    (ht : s.sluTakes (sluHalf off) = true) (r : DramReturn) :
    exec (.fullLineWrite m core addr words r) s = .next (s.writeLine m core kd off words r) := by
  refine congrArg Host.Outcome.next ((if_neg (by simp [hw])).trans ?_)
  rw [hg]
  dsimp only
  rw [hl]
  exact if_pos ht

/-- One word is no whole line. -/
theorem mergeWords_single (i : Nat) (w : TWord) : mergeWords [] [(i, w)] = (List.replicate 8 notValid).set i w := by
  apply List.ext_getElem
  · simp [mergeWords]
  · intro j hj _
    by_cases h : i = j <;> simp [-List.reduceReplicate, mergeWords, h]

theorem wholeLine_single {i : Nat} (hi : i < 8) (w : TWord) : wholeLine (mergeWords [] [(i, w)]) = false := by
  rw [mergeWords_single]
  interval_cases i <;> simp [wholeLine, List.replicate, notValid]

theorem linesOf_single {i : Nat} (hi : i < 8) (w : TWord) : linesOf [(i, w)] = [0] := by
  simp [linesOf, Nat.div_eq_of_lt hi]

theorem exec_partialWrite_single {i : Nat} (hi : i < 8) {w : TWord}
    (hg : s.gateScan m .write [addr - addr % 64 + 8 * i] [(addr - addr % 64 + 8 * i, w)] = none) (hl : lineOf addr = some (kd, off))
    (ht : s.sluTakes (sluHalf off) = true) (r : DramReturn) :
    exec (.partialWrite m core addr [(i, w)] r) s = .next (s.writePart m core kd off [(i, w)] r) := by
  have hsplit : s.writeSplit m core kd off [(i, w)] r 0 = s.writePart m core kd off [(i, w)] r := by
    simp [State.writeSplit, Nat.div_eq_of_lt hi, Nat.mod_eq_of_lt hi, ht, wholeLine_single hi]
  refine congrArg Host.Outcome.next ((if_neg (by simp [wholeLine_single hi])).trans ?_)
  simp only [List.mergeSort_singleton, List.map_cons, List.map_nil, hg, hl, linesOf_single hi, List.all_cons, List.all_nil, Nat.mul_zero,
    Nat.add_zero, ht, Bool.and_self, if_true, List.foldl_cons, List.foldl_nil, hsplit]

end Commands

/-- Settles O39: a write leaves `writeLine_cached`'s line; a read after it goes by `readLine_cached`, whose key domain decides. -/
theorem dramLinesReadBack : Obligations.DramLinesReadBack := by
  unfold Obligations.DramLinesReadBack
  intro s m core addr kd off words leaf hl ht hoff hcached
  refine ⟨fun hw hg => ?_, fun hctr => ⟨fun hg => ?_, fun i w hi hg => ?_⟩⟩
  · obtain ⟨hst, hctr, hfind, hrest⟩ := writeLine_cached hoff hcached m core kd words
    refine ⟨_, exec_fullLineWrite hw hg hl ht .asStored, hfind, hrest, ?_⟩
    generalize s.writeLine m core kd off words .asStored = t at hst hctr hfind
    have hofft : off < 2 ^ t.slu.protLog := by rwa [hst.protLog]
    have htt : t.sluTakes (sluHalf off) = true := by rwa [hst.sluTakes]
    have hline : t.dramLine off = ⟨words.map TWord.stored, kd⟩ := by simp [State.dramLine, hfind]
    refine ⟨fun m' core' hg' => ?_, fun m' core' addr' kd' hl' hne hg' => ?_⟩
    · obtain ⟨u, honly, -, hread⟩ := readLine_cached hofft (hst.blockCached hcached) m' core' kd
      refine ⟨_, exec_lineRead (by rwa [hst.gateCheck]) hl htt .asStored, ?_⟩
      rw [hread, if_neg hctr.ne', hline, if_pos rfl]
      refine ⟨giveWords_returned _ _ _, (honly.mono (by simp)).trans ((Only.mono (countHeld_only (words.map TWord.stored)) (by simp)).trans ?_)⟩
      exact (only_slu (u.countHeld (words.map TWord.stored)) _).mono (by simp)
    · obtain ⟨u, honly, hviol, hread⟩ := readLine_cached hofft (hst.blockCached hcached) m' core' kd'
      refine ⟨_, exec_lineRead (by rwa [hst.gateCheck]) hl' htt .asStored, ?_⟩
      rw [hread, if_neg hctr.ne', hline, if_neg hne.symm]
      simp only [otherDomain_slu]
      exact ⟨giveWords_returned _ _ _, by rw [← hviol]; rfl⟩
  · obtain ⟨t, honly, -, hread⟩ := readLine_cached hoff hcached m core kd
    refine ⟨_, exec_lineRead hg hl ht .asStored, ?_⟩
    rw [hread, if_pos hctr]
    exact ⟨giveWords_returned _ _ _, honly.trans (only_slu _ _)⟩
  · refine ⟨_, exec_partialWrite_single hi hg hl ht .asStored, _, writePart_unwritten hoff hcached hctr m core kd _, ?_⟩
    rw [mergeWords_single]
    exact ⟨by simp [-List.reduceReplicate, hi], fun j hj hne => by simp [-List.reduceReplicate, hj, hne.symm]⟩

end Sys2Proof.Machine

/-! SUPPORT. Alarm sources sampled, latched and cleared (R340 to R348). -/
namespace Sys2Proof.Machine

/-! ### A source raised -/

/-- What the lengthsman holds of its sources and of the keel secret. -/
def Len.alarms (x : Len) : Tbl Nat × BitVec 24 × Tbl Latch × Bool × Bytes := (x.counts, x.cond, x.latches, x.keelValid, x.keel)

theorem Len.alarms_eq {x : Len} {c : Tbl Nat} {d : BitVec 24} {l : Tbl Latch} {k : Bool × Bytes} (h : x.alarms = (c, d, l, k)) :
    x.counts = c ∧ x.cond = d ∧ x.latches = l ∧ x.keelValid = k.1 ∧ x.keel = k.2 := by
  cases h
  exact ⟨rfl, rfl, rfl, rfl, rfl⟩

@[simp] theorem sentryAdd_alarms (s : State) (kind source level taken : Nat) (isProtected reported : Bool) (events : Nat) :
    (s.sentryAdd kind source level taken isProtected reported events).len.alarms = s.len.alarms := by
  unfold State.sentryAdd
  dsimp only
  split <;> rfl

/-- The keel secret's VALID and value, erased or not. -/
def Len.keelAfter (x : Len) (erased : Bool) : Bool × Bytes := if erased then (false, zeros 32) else (x.keelValid, x.keel)

/-- R342, R346, R347: a source raised alone is latched at its level; at level 5, the highest of its tick, ERASE erases the keel secret. -/
theorem raise_one_alarms (s : State) {src : Nat} (hsrc : src ≠ 21) (n : Nat) : ∃ erased : Bool,
    (s.raise [(src, n)]).len.alarms = (s.len.counts, s.len.cond,
      Tbl.put src ⟨(s.srcRow src).level, s.clock.stime⟩ s.len.latches, s.len.keelAfter erased) ∧
    ((s.srcRow src).level = 5 → s.len.tickLevel = none → erased = true) := by
  unfold State.raise
  rw [if_neg (by simp)]
  extract_lets level prior prior' taken lowest latches events len0 s1 s2 s3 s4 pwr0 s5 s6
  have hlevel : level src = (s.srcRow src).level := if_neg hsrc
  have h2 : s2.len.alarms = (s.len.counts, s.len.cond, latches, s.len.keelAfter (decide (5 ≤ taken ∧ prior' < 5))) := by
    simp only [s2]
    by_cases h : 5 ≤ taken ∧ prior' < 5
    · rw [if_pos h, decide_eq_true h]
      rfl
    · rw [if_neg h, decide_eq_false h]
      rfl
  have h3 : s3.len.alarms = s2.len.alarms := by
    simp only [s3, List.foldl_cons, List.foldl_nil]
    split
    · exact sentryAdd_alarms _ _ _ _ _ _ _ _
    · rfl
  have h4 : s4.len = s3.len := by
    simp only [s4]
    split
    · exact enterHalt_only s3 _ _ _ .len (by decide)
    · rfl
  have h6 : s6.len = s4.len := Only.foldl (ps := [.log]) (fun s p => logRec_only s _ _ _ _ _) _ s5 .len (by decide)
  refine ⟨decide (5 ≤ taken ∧ prior' < 5), ?_, fun h5 htick => ?_⟩
  · have hlatches : latches = Tbl.put src ⟨(s.srcRow src).level, s.clock.stime⟩ s.len.latches := by
      simp only [latches, List.foldl_cons, List.foldl_nil, hlevel]
    rw [← hlatches, ← h2, ← h3, ← h4, ← h6]
    repeat' split
    · rfl
    · exact congrArg Len.alarms (setInt_only s6 _ .len (by decide))
    · exact congrArg Len.alarms (setInt_only s6 _ .len (by decide))
    · rfl
  · have hprior : prior' ≤ 4 := by
      simp only [prior', prior, htick]
      split <;> omega
    have htaken : taken = max prior' 5 := by
      simp only [taken, List.foldl_cons, List.foldl_nil, hlevel, h5]
    exact decide_eq_true ⟨by omega, by omega⟩

/-- R347: with main power a source raised at HALT or above ends in HALT. -/
theorem raise_one_mode {s : State} (hm : s.glb.mode ≠ .sentry) {src : Nat} (hsrc : src ≠ 21) (n : Nat) (h4 : 4 ≤ (s.srcRow src).level) :
    (s.raise [(src, n)]).glb.mode = .halt := by
  unfold State.raise
  rw [if_neg (by simp)]
  extract_lets level prior prior' taken lowest latches events len0 s1 s2 s3 s4 pwr0 s5 s6
  have htaken : 4 ≤ taken := by
    have hlevel : level src = (s.srcRow src).level := if_neg hsrc
    simp only [taken, List.foldl_cons, List.foldl_nil, hlevel]
    omega
  have h3 : s3.glb = s.glb := by
    simp only [s3, List.foldl_cons, List.foldl_nil]
    have h2 : s2.glb = s.glb := by
      simp only [s2]
      split <;> rfl
    split
    · exact (sentryAdd_only _ _ _ _ _ _ _ _ .glb (by decide)).trans h2
    · exact h2
  have hhalt : s4.glb.mode = .halt := by
    simp only [s4, if_pos htaken]
    exact enterHalt_mode (by rwa [h3]) _ _ _
  have h6 : s6.glb.mode = .halt :=
    (congrArg Glb.mode (Only.foldl (ps := [.log]) (fun s p => logRec_only s _ _ _ _ _) _ s5 .glb (by decide))).trans hhalt
  rw [if_pos h6]
  exact h6

/-! ### Samples on main power -/

section Samples

variable {s : State} {src : Nat}

/-- R340, R342: an event of a latched source is counted and renews the hold. -/
theorem filterEvent_latched {l : Latch} (h : Tbl.find src s.len.latches = some l) : s.filterEvent src = ({ s with len := { s.len with
    counts := Tbl.put src (satAdd 16 (tget 0 src s.len.counts) 1) s.len.counts
    latches := Tbl.put src { l with lastSeen := s.clock.stime } s.len.latches } }, none) := by
  unfold State.filterEvent
  dsimp only
  rw [h]

/-- The state in which an event of a source has been counted, and the events of its filter are those given (R340). -/
def State.eventCounted (s : State) (src : Nat) (evs : Tbl (List Nat)) : State :=
  { s with len := { s.len with counts := Tbl.put src (satAdd 16 (tget 0 src s.len.counts) 1) s.len.counts, events := evs } }

/-- R340: with N = 1 the first event of a source without a latch raises it. -/
theorem filterEvent_unlatched (h : Tbl.find src s.len.latches = none) (hn : (s.srcRow src).n = 1) :
    ∃ (evs : Tbl (List Nat)) (n : Nat), s.filterEvent src = (s.eventCounted src evs, some (src, n)) := by
  unfold State.filterEvent
  dsimp only
  rw [h]
  dsimp only
  refine ⟨_, _, if_pos (.inr ?_)⟩
  rw [List.length_append, List.length_singleton]
  exact (Nat.le_of_eq hn).trans (Nat.le_add_left 1 _)

/-- The condition of a source is present (R340). -/
def State.conditionSeen (s : State) (src : Nat) : State := { s with len := { s.len with cond := s.len.cond ||| BitVec.ofNat 24 (2 ^ src) } }

theorem sampleOne_hit (h18 : src < 18) (hw : s.watched src = true) : State.sampleOne (s, []) (src, true) =
    (((s.conditionSeen src).filterEvent src).1, (((s.conditionSeen src).filterEvent src).2).toList) := by
  unfold State.sampleOne
  simp only [hw, Bool.true_eq_false, if_false, if_true, h18]
  change (((s.conditionSeen src).filterEvent src).1, (match ((s.conditionSeen src).filterEvent src).2 with
    | some r => [] ++ [r]
    | none => [])) = _
  cases ((s.conditionSeen src).filterEvent src).2 <;> rfl

theorem sampleOne_miss (h18 : src < 18) (hw : s.watched src = true) : State.sampleOne (s, []) (src, false) = (s.sampleClear src, []) := by
  simp [State.sampleOne, hw, h18]

theorem raise_nil (s : State) : s.raise [] = s := if_pos rfl

/-- R338: source 17, where it is among those raised, puts the device on the RC oscillator. -/
def State.withOsc (s : State) (raised : Bool) : State := if raised then { s with len := { s.len with oscRc := true } } else s

theorem withOsc_only (s : State) (b : Bool) : Only [.len] s (s.withOsc b) := by
  cases b
  · exact Only.refl _ s
  · exact only_len s _

@[simp] theorem withOsc_alarms (s : State) (b : Bool) : (s.withOsc b).len.alarms = s.len.alarms := by cases b <;> rfl

/-- A sample of one of the sources 0 to 17: what its filter raises is raised. -/
theorem exec_alarmSample_one (h18 : src < 18) (b : Bool) {t : State} {raised : List (Nat × Nat)}
    (h : State.sampleOne (s, []) (src, b) = (t, raised)) : exec (.alarmSample [(src, b)]) s =
      .next ((t.raise raised).withOsc (raised.any fun r => r.1 == 17)) := by
  have hrng : ([(src, b)] : List (Nat × Bool)).contains (20, true) = false := by
    have : src ≠ 20 := by omega
    simp [Ne.symm this]
  change execAlarmSample [(src, b)] s = _
  unfold execAlarmSample
  simp only [hrng, Bool.false_eq_true, false_and, if_false, List.foldl_cons, List.foldl_nil, h]
  rfl

theorem exec_alarmSample_latched (h18 : src < 18) (hw : s.watched src = true) {l : Latch} (h : Tbl.find src s.len.latches = some l) :
    exec (.alarmSample [(src, true)]) s = .next { s with len := { s.len with
      cond := s.len.cond ||| BitVec.ofNat 24 (2 ^ src)
      counts := Tbl.put src (satAdd 16 (tget 0 src s.len.counts) 1) s.len.counts
      latches := Tbl.put src { l with lastSeen := s.clock.stime } s.len.latches } } := by
  rw [exec_alarmSample_one h18 true (sampleOne_hit h18 hw), filterEvent_latched (s := s.conditionSeen src) h]
  simp only [Option.toList, raise_nil, List.any_nil]
  rfl

/-- R342: a sample below the threshold of a source without a latch ends its condition. -/
theorem exec_alarmSample_clear (h18 : src < 18) (h17 : src ≠ 17) (hw : s.watched src = true) (h : Tbl.find src s.len.latches = none) :
    exec (.alarmSample [(src, false)]) s =
      .next { s with len := { s.len with cond := s.len.cond &&& ~~~(BitVec.ofNat 24 (2 ^ src)) } } := by
  rw [exec_alarmSample_one h18 false (sampleOne_miss h18 hw)]
  simp [raise_nil, State.sampleClear, State.conditionGone, State.withOsc, h, h17]

theorem conditionSeen_cond (h18 : src < 18) : (s.conditionSeen src).len.cond.getLsbD src = true := by
  change (s.len.cond ||| BitVec.ofNat 24 (2 ^ src)).getLsbD src = true
  rw [BitVec.getLsbD_or, BitVec.getLsbD_ofNat, Nat.testBit_two_pow_self, decide_eq_true (by omega), Bool.and_self, Bool.or_true]

/-- R340, R342, R347: what a sample leaves that raises a source without a latch. -/
theorem exec_alarmSample_raises (h18 : src < 18) (hw : s.watched src = true) (h : Tbl.find src s.len.latches = none)
    (hn : (s.srcRow src).n = 1) : Completes (.alarmSample [(src, true)]) s fun t =>
      tget 0 src t.len.counts = satAdd 16 (tget 0 src s.len.counts) 1 ∧ t.len.cond.getLsbD src = true ∧
      Tbl.find src t.len.latches = some ⟨(s.srcRow src).level, s.clock.stime⟩ ∧
      ((s.srcRow src).level = 5 → s.len.tickLevel = none → t.len.keelValid = false ∧ t.len.keel = zeros 32) ∧
      (4 ≤ (s.srcRow src).level → s.glb.mode ≠ .sentry → t.glb.mode = .halt) ∧ Only raiseParts s t := by
  obtain ⟨evs, n, hfilter⟩ := filterEvent_unlatched (s := s.conditionSeen src) h hn
  have hone := sampleOne_hit h18 hw
  rw [hfilter] at hone
  have hexec := exec_alarmSample_one h18 true hone
  simp only [Option.toList] at hexec
  generalize hs1 : (s.conditionSeen src).eventCounted src evs = s1 at hexec
  have hlen : s1.len = ((s.conditionSeen src).eventCounted src evs).len := by rw [hs1]
  have honly : Only [.len] s s1 := hs1 ▸ (only_len s _).trans (only_len _ _)
  have hrow : s1.srcRow src = s.srcRow src := by rw [← hs1]; rfl
  have hsrc : src ≠ 21 := by omega
  obtain ⟨erased, halarms, herased⟩ := raise_one_alarms s1 hsrc n
  rw [← withOsc_alarms _ ([(src, n)].any fun r => r.1 == 17)] at halarms
  obtain ⟨hcounts, hcond, hlatches, hkeel⟩ := Len.alarms_eq halarms
  have hosc := withOsc_only (s1.raise [(src, n)]) ([(src, n)].any fun r => r.1 == 17)
  refine ⟨_, hexec, ?_, ?_, ?_, fun h5 htick => ?_, fun h4 hm => ?_,
    (honly.mono (by simp [raiseParts])).trans ((raise_only s1 _).trans (hosc.mono (by simp [raiseParts])))⟩
  · rw [hcounts, hlen]
    exact tget_put _ _ _ _
  · rw [hcond, hlen]
    exact conditionSeen_cond h18
  · rw [hlatches, hlen, hrow, show s1.clock = s.clock from honly .clock (by decide)]
    exact Tbl.find_put _ _ _
  · rw [herased (by rwa [hrow]) (by rw [hlen]; exact htick)] at hkeel
    exact hkeel
  · rw [show _ = (s1.raise [(src, n)]).glb from hosc .glb (by decide)]
    exact raise_one_mode (by rwa [show s1.glb = s.glb from honly .glb (by decide)]) hsrc n (by rwa [hrow])

end Samples

/-! ### Latches cleared -/

section Clear

variable {s : State} {src : Nat}

theorem clearLatch_only (s : State) (src : Nat) : Only [.len] s (s.clearLatch src) := by
  unfold State.clearLatch
  extract_lets before lg s1
  split
  · exact (only_len s _).trans (only_len s1 _)
  · exact only_len s _

@[simp] theorem clearLatch_latches (s : State) (src : Nat) : (s.clearLatch src).len.latches = Tbl.del src s.len.latches := by
  unfold State.clearLatch
  extract_lets before lg s1
  split <;> rfl

/-- R343: with the last latch at QUIESCE or above, admission resumes in the next sentry tick. -/
theorem clearLatch_resumes (h3 : s.latchedAt 3 = true) (h : (s.clearLatch src).latchedAt 3 = false) :
    (s.clearLatch src).len.resumeAt = s.clock.stime + 1 := by
  unfold State.clearLatch at h ⊢
  dsimp only at h ⊢
  split at h
  · rename_i hif
    rw [if_pos hif]
  · rename_i hif
    exact absurd ⟨h3, h⟩ hif

theorem exec_latchHoldExpire {l : Latch} (h : Tbl.find src s.len.latches = some l) (h3 : l.level ≤ 3) (ha : s.conditionAbsent src l = true) :
    exec (.latchHoldExpire src) s =
      .next (if l.lastSeen + 1 + holdTicks (s.srcRow src).holdMs ≤ s.clock.stime then s.clearLatch src else s) := by
  change Host.Outcome.next _ = _
  rw [h]
  simp only [h3, ha, true_and]

/-- The latches that a list of sources clears. -/
theorem clearLatches_find (srcs : List Nat) (s : State) (q : Nat) :
    Tbl.find q (srcs.foldl (fun (s : State) src => s.clearLatch src) s).len.latches = if q ∈ srcs then none else Tbl.find q s.len.latches := by
  induction srcs generalizing s with
  | nil => simp
  | cons r rs ih =>
    rw [List.foldl_cons, ih, clearLatch_latches]
    by_cases hq : q = r
    · subst hq
      simp
    · simp [hq]

/-- R342: the sources whose latches a write clears. -/
def State.clearable (s : State) (v : W64) : List Nat :=
  (s.len.latches.filter fun p => wbit p.1 v && decide (p.2.level ≤ 3) && s.conditionAbsent p.1 p.2).map Prod.fst

theorem exec_latchClearWrite (hm : s.glb.mode = .drydock) (v : W64) : exec (.latchClearWrite v) s =
    .next ((s.clearable v).foldl (fun (s : State) src => s.clearLatch src) s) := congrArg Host.Outcome.next (if_neg (by simp [hm]))

end Clear

/-! ### Samples on the cell -/

section Cell

variable {s : State} {src : Nat}

/-- A source raised on the cell is latched and has its entry (R348, R350). -/
def State.cellLatched (taken : Nat) (s : State) (src : Nat) : State :=
  let s := { s with len := { s.len with latches := Tbl.put src ⟨s.cellLevel src, s.clock.stime⟩ s.len.latches } }
  s.sentryAdd 2 src (s.cellLevel src) taken (decide (4 ≤ taken) || s.cellLevel src == 5) false (tget 0 src s.len.cellHits)

theorem cellLatched_only (taken : Nat) (s : State) (src : Nat) : Only [.len] s (s.cellLatched taken src) :=
  (only_len s _).trans (sentryAdd_only _ _ _ _ _ _ _ _)

theorem cellLatched_alarms (taken : Nat) (s : State) (src : Nat) : (s.cellLatched taken src).len.alarms = (s.len.counts, s.len.cond,
    Tbl.put src ⟨s.cellLevel src, s.clock.stime⟩ s.len.latches, s.len.keelValid, s.len.keel) := sentryAdd_alarms _ _ _ _ _ _ _ _

/-- The keel secret erased, where a source of the cell's response ERASE is raised (R348). -/
def State.erasedBy (s : State) (level : Nat) : State := if level = 5 then s.eraseKeel else s

/-- A cell sample's answer, by the sources it raises. -/
theorem exec_cellSample_one (hm : s.clock.mainPower = false) (hp : s.len.powered = true) {b : Bool} {t : State} {raised : List Nat}
    (h : State.cellOne (s, []) (src, b) = (t, raised)) : exec (.cellSample [(src, b)]) s = .next (
      let taken := raised.foldl (fun m src => max m (t.cellLevel src)) 0
      (raised.foldl (State.cellLatched taken) (t.erasedBy taken)).withOsc (raised.contains 17)) := by
  refine congrArg Host.Outcome.next ((if_neg (by simp [hm, hp])).trans ?_)
  simp only [List.foldl_cons, List.foldl_nil, h]
  rfl

theorem exec_cellSample_miss (hm : s.clock.mainPower = false) (hp : s.len.powered = true) (hd : s.cellDue src = true)
    (h : Tbl.find src s.len.latches = none) : exec (.cellSample [(src, false)]) s = .next { s with len := { s.len with
      cond := s.len.cond &&& ~~~(BitVec.ofNat 24 (2 ^ src)), cellHits := Tbl.put src 0 s.len.cellHits } } := by
  refine (exec_cellSample_one hm hp (raised := []) ?_).trans rfl
  simp [State.cellOne, hd, State.conditionGone, h]

/-- R348: the hit of a source without a latch that is due, and whether it raises the source. -/
theorem cellOne_hit (hd : s.cellDue src = true) (h : Tbl.find src s.len.latches = none)
    (hn : (s.srcRow src).cellN ≤ tget 0 src s.len.cellHits + 1) : State.cellOne (s, []) (src, true) =
      ({ s with len := { s.len with cellHits := Tbl.put src (tget 0 src s.len.cellHits + 1) s.len.cellHits
                                    cond := s.len.cond ||| BitVec.ofNat 24 (2 ^ src) } }, [src]) := by
  have hif : ∀ x : List Nat, (if (s.srcRow src).cellN ≤ tget 0 src s.len.cellHits + 1 then [src] else x) = [src] := fun _ => if_pos hn
  unfold State.cellOne
  simp only [hd, Bool.true_eq_false, if_false, if_true, h]
  exact congrArg (Prod.mk _) (hif [])

theorem erasedBy_only (s : State) (level : Nat) : Only [.len, .mor, .lcy] s (s.erasedBy level) := by
  unfold State.erasedBy
  split
  · exact eraseKeel_only s
  · exact Only.refl _ s

theorem erasedBy_alarms (s : State) (level : Nat) : (s.erasedBy level).len.alarms =
    (s.len.counts, s.len.cond, s.len.latches, s.len.keelAfter (decide (level = 5))) := by
  unfold State.erasedBy
  split
  · rename_i h
    rw [decide_eq_true h]
    rfl
  · rename_i h
    rw [decide_eq_false h]
    rfl

@[simp] theorem erasedBy_cellLevel (s : State) (level src : Nat) : (s.erasedBy level).cellLevel src = s.cellLevel src := by
  unfold State.erasedBy
  split <;> rfl

/-- R348: what a sample on the cell leaves that raises a source without a latch. -/
theorem exec_cellSample_raises (hm : s.clock.mainPower = false) (hp : s.len.powered = true) (hd : s.cellDue src = true)
    (h : Tbl.find src s.len.latches = none) (hn : (s.srcRow src).cellN ≤ tget 0 src s.len.cellHits + 1) :
    Completes (.cellSample [(src, true)]) s fun t =>
      Tbl.find src t.len.latches = some ⟨s.cellLevel src, s.clock.stime⟩ ∧
      ((s.srcRow src).cellErase = true → t.len.keelValid = false ∧ t.len.keel = zeros 32) ∧ Only [.len, .mor, .lcy] s t := by
  have hexec := exec_cellSample_one hm hp (cellOne_hit hd h hn)
  generalize hs1 : ({ s with len := { s.len with cellHits := Tbl.put src (tget 0 src s.len.cellHits + 1) s.len.cellHits
                                                 cond := s.len.cond ||| BitVec.ofNat 24 (2 ^ src) } } : State) = s1 at hexec
  have honly : Only [.len] s s1 := hs1 ▸ only_len s _
  have hlevel : s1.cellLevel src = s.cellLevel src := by rw [← hs1]; rfl
  simp only [List.foldl_cons, List.foldl_nil, Nat.zero_max, hlevel] at hexec
  have herased := erasedBy_only s1 (s.cellLevel src)
  have hlatched := cellLatched_only (s.cellLevel src) (s1.erasedBy (s.cellLevel src)) src
  have halarms := (withOsc_alarms _ ([src].contains 17)).trans (cellLatched_alarms (s.cellLevel src) (s1.erasedBy (s.cellLevel src)) src)
  obtain ⟨-, -, hlatches, hkeel⟩ := Len.alarms_eq halarms
  obtain ⟨-, -, -, hkeel'⟩ := Len.alarms_eq (erasedBy_alarms s1 (s.cellLevel src))
  refine ⟨_, hexec, ?_, fun hce => ?_, (honly.mono (by simp)).trans (herased.trans
    ((hlatched.mono (by simp)).trans ((withOsc_only _ _).mono (by simp))))⟩
  · rw [hlatches, erasedBy_cellLevel, hlevel, show _ = s1.clock from herased .clock (by decide),
      show s1.clock = s.clock from honly .clock (by decide)]
    exact Tbl.find_put _ _ _
  · have h5 : s.cellLevel src = 5 := if_pos hce
    rw [h5] at hkeel hkeel' ⊢
    exact ⟨hkeel.1.trans hkeel'.1, hkeel.2.trans hkeel'.2⟩

end Cell

/-- Settles O43: samples, the hold's end, a write of clear bits, and samples on the cell. -/
theorem alarmsLatchAndClear : Obligations.AlarmsLatchAndClear := by
  unfold Obligations.AlarmsLatchAndClear
  refine ⟨fun s src h18 hw => ⟨fun h => ⟨exec_alarmSample_raises h18 hw h, fun h17 => exec_alarmSample_clear h18 h17 hw h⟩,
      fun l => exec_alarmSample_latched h18 hw⟩,
    fun s src l h h3 ha => ⟨fun hdue => ⟨s.clearLatch src, ?_, clearLatch_latches s src, clearLatch_resumes, clearLatch_only s src⟩,
      fun hearly => ?_⟩,
    fun s v hm => ⟨_, exec_latchClearWrite hm v, Only.foldl (fun s src => clearLatch_only s src) _ s, fun src => ?_⟩,
    fun s src hm hp hd h => ⟨exec_cellSample_raises hm hp hd h, exec_cellSample_miss hm hp hd h⟩⟩
  · rw [exec_latchHoldExpire h h3 ha, if_pos hdue]
  · rw [exec_latchHoldExpire h h3 ha, if_neg (Nat.not_le.2 hearly)]
  · refine ⟨fun hbit => ?_, fun l hbit h h3 ha => ?_⟩
    · rw [clearLatches_find, if_neg]
      simp [State.clearable, hbit]
    · rw [clearLatches_find, if_pos]
      exact List.mem_map.2 ⟨(src, l), List.mem_filter.2 ⟨Tbl.mem_of_find h, by simp [hbit, h3, ha]⟩, rfl⟩

end Sys2Proof.Machine

/-! SUPPORT. Units retired and granted (R202, R218, R228, R237), power domains (R376, R377), and the loops of the voltage, the heat and the cap
(R378 to R381). -/
namespace Sys2Proof.Machine

/-! ### Units granted and retired: what stays as it is -/

section Units

/-- The parts that units granted, retired or failed can change: the units, the cores that wait for one, the log and the summary interrupt. -/
def unitParts : List Part := [.cores, .cph, .bgn, .hsh, .glb, .out, .wharf, .log]

theorem Only.units {ps : List Part} {s t : State} (h : Only ps s t) (hp : ∀ p ∈ ps, p ∈ unitParts) : Only unitParts s t := h.mono hp

theorem unit_setLane (s : State) (n : Nat) (l : Lane) : Only unitParts s (s.setLane n l) := (only_cph s _).units (by decide)
theorem unit_setTile (s : State) (n : Nat) (t : Tile) : Only unitParts s (s.setTile n t) := (only_bgn s _).units (by decide)
theorem unit_setEng (s : State) (e : Nat) (g : Eng) : Only unitParts s (s.setEng e g) := (only_hsh s _).units (by decide)
theorem unit_setInt (s : State) (b : BitVec 6) : Only unitParts s (s.setInt b) := (setInt_only s b).units (by decide)
theorem unit_logEvent (s : State) (k : LogKind) (sub a b : Nat) : Only unitParts s (s.logEvent k sub a b) :=
  (logEvent_only s k sub a b).units (by decide)

theorem laneSay_units (s : State) (k : Nat) (out : List TWord) (code : Nat) : Only [.cores, .cph] s (s.laneSay k out code) := by
  unfold State.laneSay
  extract_lets c s1
  have h1 : Only [.cores, .cph] s s1 := (only_cores s _).mono (by simp)
  split
  · exact h1.trans ((only_cph s1 _).mono (by simp))
  · exact h1

theorem tileSay_only (s : State) (k : Nat) (out : List TWord) (code : Nat) : Only [.cores, .bgn] s (s.tileSay k out code) := by
  unfold State.tileSay
  extract_lets c s1
  have h1 : Only [.cores, .bgn] s s1 := (only_cores s _).mono (by simp)
  split
  · exact h1.trans ((only_bgn s1 _).mono (by simp))
  · exact h1

/-- R202: lanes granted to waiting OPENs reach the lanes and the cores alone. -/
theorem grantLanes_units (s : State) : Only [.cores, .cph] s s.grantLanes := by
  refine Only.foldl (fun s w => ?_) _ s
  have hends (t : State) : Only [.cores, .cph] t (t.openEnds w) := (only_cph t _).mono (by simp)
  split
  · exact (hends s).trans (laneSay_units _ _ _ _)
  · split
    · exact Only.refl _ s
    · exact ((setCtx_only s _ _).mono (by simp)).trans ((hends _).trans (laneSay_units _ _ _ _))

/-- R228: as `grantLanes_units`, for tiles and JOPENs. -/
theorem grantTiles_only (s : State) : Only [.cores, .bgn] s s.grantTiles := by
  refine Only.foldl (fun s w => ?_) _ s
  have hends (t : State) : Only [.cores, .bgn] t (t.jopenEnds w) := (only_bgn t _).mono (by simp)
  split
  · exact (hends s).trans (tileSay_only _ _ _ _)
  · split
    · exact Only.refl _ s
    · exact ((setJob_only s _ _).mono (by simp)).trans ((hends _).trans (tileSay_only _ _ _ _))

theorem laneOut_only (s : State) (n : Nat) : Only [.cph] s (s.laneOut n) := (only_cph s _).trans (only_cph _ _)

theorem tileOut_only (s : State) (n : Nat) : Only [.bgn] s (s.tileOut n) := (only_bgn s _).trans (only_bgn _ _)

theorem laneSpare_only (s : State) (n g : Nat) : Only unitParts s (s.laneSpare n g) := by
  unfold State.laneSpare
  split
  · exact unit_setLane s _ _
  · extract_lets s1
    split
    · exact (unit_logEvent s _ _ _ _).trans (unit_logEvent s1 _ _ _ _)
    · exact unit_logEvent s _ _ _ _

theorem tileSpare_only (s : State) (n g : Nat) : Only unitParts s (s.tileSpare n g) := by
  unfold State.tileSpare
  split
  · exact unit_setTile s _ _
  · extract_lets s1
    split
    · exact (unit_logEvent s _ _ _ _).trans (unit_logEvent s1 _ _ _ _)
    · exact unit_logEvent s _ _ _ _

theorem retireLane_only (s : State) (n : Nat) (sparePass : Bool) : Only unitParts s (s.retireLane n sparePass) := by
  unfold State.retireLane
  extract_lets g s1 s2
  have h1 : Only unitParts s s1 := (laneOut_only s n).units (by decide)
  have h2 : Only unitParts s1 s2 := by
    simp only [s2]
    repeat' split
    · exact Only.refl _ s1
    · exact (laneOut_only s1 _).units (by decide)
    · exact Only.refl _ s1
  exact h1.trans (h2.trans ((laneSpare_only s2 n g).trans ((unit_setInt _ _).trans ((unit_logEvent _ _ _ _ _).trans
    ((grantLanes_units _).units (by decide))))))

theorem retireTile_only (s : State) (n : Nat) (sparePass : Bool) : Only unitParts s (s.retireTile n sparePass) := by
  unfold State.retireTile
  extract_lets g s1 s2
  have h1 : Only unitParts s s1 := (tileOut_only s n).units (by decide)
  have h2 : Only unitParts s1 s2 := by
    simp only [s2]
    repeat' split
    · exact Only.refl _ s1
    · exact (tileOut_only s1 _).units (by decide)
    · exact Only.refl _ s1
  exact h1.trans (h2.trans ((tileSpare_only s2 n g).trans ((unit_setInt _ _).trans ((unit_logEvent _ _ _ _ _).trans
    ((grantTiles_only _).units (by decide))))))

theorem hashFails_only (s : State) (engine : Nat) : Only unitParts s (s.hashFails engine) := by
  unfold State.hashFails
  extract_lets g lo
  split
  · exact Only.refl _ s
  · split
    · split
      · exact Only.refl _ s
      · exact (unit_setEng s _ _).trans ((unit_setEng _ _ _).trans (((only_hsh _ _).units (by decide)).trans
          ((unit_setInt _ _).trans (unit_logEvent _ _ _ _ _))))
    · exact (unit_setEng s _ _).trans ((unit_setInt _ _).trans (unit_logEvent _ _ _ _ _))

/-- R218, R237, R376: the units of a FAILED domain. -/
theorem unitsFail_only (s : State) (d : Nat) : Only unitParts s (s.unitsFail d) := by
  unfold State.unitsFail
  extract_lets s1 s2 s3 s4
  have h1 : Only unitParts s s1 := Only.foldl (fun s n => by
    split
    · exact unit_setLane s _ _
    · exact Only.refl _ s) _ s
  have h2 : Only unitParts s1 s2 := Only.foldl (fun s n => by
    split
    · exact retireLane_only s n true
    · exact Only.refl _ s) _ s1
  have h3 : Only unitParts s2 s3 := Only.foldl (fun s n => by
    split
    · exact unit_setTile s _ _
    · exact Only.refl _ s) _ s2
  have h4 : Only unitParts s3 s4 := Only.foldl (fun s n => by
    split
    · exact retireTile_only s n true
    · exact Only.refl _ s) _ s3
  refine h1.trans (h2.trans (h3.trans (h4.trans ?_)))
  split
  · exact Only.foldl (fun s e => (unit_setEng s _ _).trans ((unit_setInt _ _).trans (unit_logEvent _ _ _ _ _))) _ s4
  · exact Only.refl _ s4

end Units

/-! ### Power domains -/

section Domains

variable {s : State} {d : Nat}

/-- The power unit as it was leaves every domain as it was. -/
theorem domAt_of_pwr {s t : State} (h : t.pwr = s.pwr) (q : Nat) : t.domAt q = s.domAt q := by simp only [State.domAt, h]

theorem domainZeroed_only (s : State) (d : Nat) : Only [.sram, .cph, .hsh] s (s.domainZeroed d) := by
  unfold State.domainZeroed
  repeat' split
  · rintro (_ | _) hp <;> first | rfl | exact absurd (by simp) hp
  · exact Only.foldl (fun s n => (only_cph s _).mono (by simp)) _ s
  · exact Only.foldl (fun s e => (only_hsh s _).mono (by simp)) _ s
  · exact Only.refl _ s

theorem throttled_only (s : State) (sub a b : Nat) : Only [.log, .glb, .out, .wharf] s (s.throttled sub a b) :=
  ((logEvent_only s .power sub a b).mono (by simp)).trans ((setInt_only _ intThrottle).mono (by simp))

/-- R377: a domain of a family that the policy gates, idle for IDLE_US, by the family's floor. -/
theorem exec_domainIdleGate {family : List Nat} {floor : Nat} (hf : s.gateFamily d = some (family, floor)) (hs : s.serving = true)
    (hus : 0 < s.cfg.power.idleUs) (hon : (s.domAt d).st = .on) (hb : s.domainBusy d = false)
    (hi : (s.domAt d).idleFrom + 100 * s.cfg.power.idleUs ≤ s.now) :
    let floored : State := { s.idleNow d with pwr := { (s.idleNow d).pwr with floorHeld := satAdd 16 s.pwr.floorHeld 1 } }
    exec (.domainIdleGate d) s = .next (if (family.countP fun q => decide ((s.domAt q).st = .on)) ≤ floor then floored.throttled 1 d floor
      else (s.domainZeroed d).setDom d { s.domAt d with st := .gated }) := by
  change execDomainIdleGate d s = _
  unfold execDomainIdleGate
  simp only [hf, hs, hon, hb, Bool.true_eq_false, Bool.false_eq_true, ne_eq, not_true_eq_false, Nat.not_lt.2 hi, or_false,
    Nat.ne_of_gt hus, if_false]

theorem exec_domainWake {family : List Nat} {floor : Nat} (hf : s.gateFamily d = some (family, floor)) (hs : s.serving = true)
    (hg : (s.domAt d).st = .gated) (hw : s.wakeWanted d = true) : exec (.domainWake d) s =
      .next (s.setDom d { s.domAt d with st := .waking, wakes := (s.domAt d).wakes + 1, since := s.now }) :=
  congrArg Host.Outcome.next (if_pos ⟨by simp [hf], hg, hs, hw⟩)

theorem exec_domainWakeDone (hs : s.serving = true) (hw : (s.domAt d).st = .waking) (ht : (s.domAt d).since + 3000 ≤ s.now) :
    exec (.domainWakeDone d true) s = .next ((s.setDom d { s.domAt d with st := .on, idleFrom := s.now }).grantLanes).grantTiles :=
  congrArg Host.Outcome.next ((if_pos ⟨hw, hs, ht⟩).trans (if_pos rfl))

theorem exec_domainPowerFail (hw : (s.domAt d).st = .waking) (ht : (s.domAt d).since + 10000 ≤ s.now) :
    exec (.domainPowerFail d) s = .next (s.domainFails d) := congrArg Host.Outcome.next (if_pos ⟨hw, ht⟩)

/-- R376: outside a resume a domain that fails reads FAILED, whatever its units do. -/
theorem domainFails_st (ht : s.pwr.trans ≠ some .resume) : ((s.domainFails d).domAt d).st = .failed := by
  unfold State.domainFails
  extract_lets _ s1 s2 s3
  have h1 : s1.pwr = (s.setDom d { s.domAt d with st := .failed }).pwr := unitsFail_only _ d .pwr (by decide)
  have h2 : s2.pwr = s1.pwr := by
    simp only [s2]
    split <;> rfl
  have h3 : s3.pwr = s2.pwr := logEvent_only s2 _ _ _ _ .pwr (by decide)
  have hpwr : s3.pwr = (s.setDom d { s.domAt d with st := .failed }).pwr := h3.trans (h2.trans h1)
  rw [if_neg (fun h => ht (by rw [hpwr] at h; exact h.1)), domAt_of_pwr hpwr, State.domAt_setDom]

end Domains

/-! ### The loops -/

section Loops

variable {s : State}

/-- The hottest reading is the highest, and stands at the place told. -/
theorem hottest_spec {ts : List Int} (h : ts ≠ []) (i : Nat) :
    ∃ j t, hottest ts i = some (i + j, t) ∧ ts[j]? = some t ∧ ∀ x ∈ ts, x ≤ t := by
  induction ts generalizing i with
  | nil => exact absurd rfl h
  | cons t ts ih =>
    unfold hottest
    by_cases hts : ts = []
    · subst hts
      exact ⟨0, t, rfl, rfl, by simp⟩
    · obtain ⟨j, u, hj, hget, hmax⟩ := ih hts (i + 1)
      rw [hj]
      dsimp only
      by_cases hlt : t < u
      · refine ⟨j + 1, u, ?_, hget, List.forall_mem_cons.2 ⟨hlt.le, hmax⟩⟩
        rw [if_pos hlt, Nat.add_right_comm, Nat.add_assoc]
      · exact ⟨0, t, if_neg hlt, rfl, List.forall_mem_cons.2 ⟨le_refl t, fun x hx => (hmax x hx).trans (not_lt.1 hlt)⟩⟩

/-- The power unit after a temperature has been read (R380). -/
def Pwr.heated (p : Pwr) (now i : Nat) (t : Int) : Pwr :=
  { p with tempMax := t, tempSensor := i, coolFrom := if t < 388 then p.coolFrom.or (some now) else none }

theorem exec_thermalSample (hm : s.clock.mainPower = true) {temps : List Int} {i : Nat} {t : Int} (hh : hottest (temps.take 8) 0 = some (i, t)) :
    exec (.thermalSample temps) s = .next (
      let s1 : State := { s with pwr := s.pwr.heated s.now i t }
      let f := thermalFraction t
      if f < s.pwr.thermal then ({ s1 with pwr := { s1.pwr with thermal := f } }).stepDown 3 f
      else if t < 388 ∧ s.pwr.coolFrom.getD s.now + 1000000 ≤ s.now then { s1 with pwr := { s1.pwr with thermal := 8 } } else s1) := by
  change Host.Outcome.next _ = _
  rw [hh]
  simp only [hm, Bool.true_eq_false, if_false]
  by_cases hcool : t < 388
  · cases hfrom : s.pwr.coolFrom <;> simp [hcool, hfrom, Pwr.heated, State.now]
  · simp [hcool, Pwr.heated]

theorem stepDown_pwr (s : State) (sub level : Nat) : (s.stepDown sub level).pwr = { s.pwr with steps := satAdd 16 s.pwr.steps 1 } :=
  throttled_only _ _ _ _ .pwr (by decide)

theorem stepDown_only (s : State) (sub level : Nat) : Only [.pwr, .glb, .log, .out, .wharf] s (s.stepDown sub level) :=
  ((only_pwr s _).mono (by simp)).trans ((throttled_only _ _ _ _).mono (by simp))

/-- R380: what a reading of the eight sensors leaves. -/
theorem thermalSample_acts (hm : s.clock.mainPower = true) {temps : List Int} (hlen : temps.length = 8) :
    Completes (.thermalSample temps) s fun t =>
      (∀ x ∈ temps, x ≤ t.pwr.tempMax) ∧ temps[t.pwr.tempSensor]? = some t.pwr.tempMax ∧
      (thermalFraction t.pwr.tempMax < s.pwr.thermal →
        t.pwr.thermal = thermalFraction t.pwr.tempMax ∧ t.pwr.steps = satAdd 16 s.pwr.steps 1) ∧
      (s.pwr.thermal ≤ thermalFraction t.pwr.tempMax → t.pwr.thermal =
        if t.pwr.tempMax < 388 ∧ (s.pwr.coolFrom.getD s.now) + 1000000 ≤ s.now then 8 else s.pwr.thermal) ∧
      Only [.pwr, .glb, .log, .out, .wharf] s t := by
  have hne : temps ≠ [] := fun h => by simp [h] at hlen
  obtain ⟨j, u, hhot, hget, hmax⟩ := hottest_spec hne 0
  rw [Nat.zero_add] at hhot
  have htake : temps.take 8 = temps := List.take_of_length_le (by omega)
  refine ⟨_, exec_thermalSample hm (htake ▸ hhot), ?_⟩
  dsimp only
  have hheat : Only [.pwr, .glb, .log, .out, .wharf] s { s with pwr := s.pwr.heated s.now j u } := (only_pwr s _).mono (by simp)
  by_cases hstep : thermalFraction u < s.pwr.thermal
  · rw [if_pos hstep, stepDown_pwr]
    exact ⟨hmax, hget, fun _ => ⟨rfl, rfl⟩, fun h => absurd hstep (Nat.not_lt.2 h),
      hheat.trans (((only_pwr _ _).mono (by simp)).trans (stepDown_only _ _ _))⟩
  · rw [if_neg hstep]
    by_cases hcool : u < 388 ∧ s.pwr.coolFrom.getD s.now + 1000000 ≤ s.now
    · rw [if_pos hcool]
      exact ⟨hmax, hget, fun h => absurd h hstep, fun _ => (if_pos hcool).symm, hheat.trans ((only_pwr _ _).mono (by simp))⟩
    · rw [if_neg hcool]
      exact ⟨hmax, hget, fun h => absurd h hstep, fun _ => (if_neg hcool).symm, hheat⟩

/-- R378: the target and the emission of a change. -/
theorem avsUpdate_acts (hm : s.clock.mainPower = true) : Completes .avsUpdate s fun t =>
    650 ≤ t.pwr.targetMv ∧ t.pwr.targetMv ≤ 850 ∧ t.pwr.targetMv % 5 = 0 ∧
      t.out = (if t.pwr.targetMv = s.pwr.targetMv then s.out else s.out ++ [.avs t.pwr.targetMv]) ∧ Only [.pwr, .out] s t := by
  have hexec : exec .avsUpdate s = .next (
      let mv := 650 + 5 * (Config.avsTarget s.pwr.tempMax s.now % 41)
      let s' := { s with pwr := { s.pwr with targetMv := mv } }
      if mv = s.pwr.targetMv then s' else s'.emit (.avs mv)) := congrArg Host.Outcome.next (if_neg (by simp [hm]))
  have hrange := Nat.mod_lt (Config.avsTarget s.pwr.tempMax s.now) (show 0 < 41 by decide)
  refine ⟨_, hexec, ?_⟩
  dsimp only
  generalize hmv : 650 + 5 * (Config.avsTarget s.pwr.tempMax s.now % 41) = mv
  have honly : Only [.pwr, .out] s { s with pwr := { s.pwr with targetMv := mv } } := (only_pwr s _).mono (by simp)
  by_cases hsame : mv = s.pwr.targetMv
  · simp only [if_pos hsame]
    exact ⟨by omega, by omega, by omega, trivial, honly⟩
  · simp only [if_neg hsame, State.emit]
    exact ⟨by omega, by omega, by omega, trivial, honly.trans ((only_out _ _).mono (by simp))⟩

theorem exec_powerCapStep_down (hw : s.cfg.power.capW ≠ 0) {since : Nat} (ha : s.pwr.aboveFrom = some since) (ht : since + 100000 ≤ s.now)
    (hc : 1 < s.pwr.cap) : exec .powerCapStep s = .next (
      ({ s with pwr := { s.pwr with cap := capLower s.pwr.cap, aboveFrom := some s.now } } : State).stepDown 4 (capLower s.pwr.cap)) := by
  refine congrArg Host.Outcome.next ((if_neg hw).trans ?_)
  rw [ha]
  exact if_pos ⟨ht, hc⟩

theorem exec_powerCapStep_up (hw : s.cfg.power.capW ≠ 0) {since : Nat} (ha : s.pwr.aboveFrom = none) (hb : s.pwr.belowFrom = some since)
    (ht : since + 1000000 ≤ s.now) (hc : s.pwr.cap < 8) : exec .powerCapStep s =
      .next { s with pwr := { s.pwr with cap := capHigher s.pwr.cap, belowFrom := some s.now } } := by
  refine congrArg Host.Outcome.next ((if_neg hw).trans ?_)
  rw [ha, hb]
  exact if_pos ⟨ht, hc⟩

theorem exec_supplyReading (hm : s.clock.mainPower = true) (mv ma10 : Nat) : exec (.supplyReading mv ma10) s = .next { s with pwr := { s.pwr with
    measMv := mv % 2 ^ 16
    current := ma10 % 2 ^ 16
    aboveFrom := if 0 < s.cfg.power.capW ∧ 100000 * s.cfg.power.capW < mv * ma10 then s.pwr.aboveFrom.or (some s.now) else none
    belowFrom := if 0 < s.cfg.power.capW ∧ mv * ma10 < 100000 * (s.cfg.power.capW - 2) then s.pwr.belowFrom.or (some s.now) else none } } := by
  refine congrArg Host.Outcome.next ((if_neg (by simp [hm])).trans ?_)
  simp only [Bool.and_eq_true, decide_eq_true_eq]

end Loops

/-- Settles O48: domains by their state and family, and each loop by its bound. -/
theorem powerLoopsAct : Obligations.PowerLoopsAct := by
  unfold Obligations.PowerLoopsAct
  refine ⟨fun s d family floor => ?_, fun s d hw ht htr => ⟨_, exec_domainPowerFail hw ht, domainFails_st htr⟩, fun s mv ma10 => ?_⟩
  · intro x hf hs
    refine ⟨fun hus hon hb hi => ⟨fun hfloor => ⟨_, exec_domainIdleGate hf hs hus hon hb hi, ?_⟩,
        fun hfloor => ⟨_, exec_domainIdleGate hf hs hus hon hb hi, ?_⟩⟩,
      fun hg hw => exec_domainWake hf hs hg hw, fun hw ht => ⟨_, exec_domainWakeDone hs hw ht, ?_⟩⟩
    · rw [if_neg (Nat.not_le.2 hfloor)]
      have hzero := domainZeroed_only s d
      refine ⟨State.domAt_setDom _ _ _, fun q hq => ?_, (hzero.mono (by simp)).trans ((only_pwr _ _).mono (by simp))⟩
      rw [State.domAt_setDom_ne _ _ _ _ hq, domAt_of_pwr (hzero .pwr (by decide))]
    · rw [if_pos hfloor]
      have hthr (t : State) := throttled_only t 1 d floor
      refine ⟨?_, ?_, ((idleNow_only s d).mono (by simp)).trans (((only_pwr _ _).mono (by simp)).trans ((hthr _).mono (by simp)))⟩
      · rw [domAt_of_pwr (hthr _ .pwr (by decide))]
        exact State.domAt_setDom s d _
      · exact congrArg Pwr.floorHeld (hthr _ .pwr (by decide))
    · have hlanes := grantLanes_units (s.setDom d { s.domAt d with st := .on, idleFrom := s.now })
      have htiles := grantTiles_only (s.setDom d { s.domAt d with st := .on, idleFrom := s.now }).grantLanes
      refine ⟨?_, ((only_pwr s _).mono (by simp)).trans ((hlanes.mono (by simp)).trans (htiles.mono (by simp)))⟩
      rw [domAt_of_pwr (htiles .pwr (by decide)), domAt_of_pwr (hlanes .pwr (by decide)), State.domAt_setDom]
  · intro w hm
    refine ⟨avsUpdate_acts hm, exec_supplyReading hm mv ma10, fun hst => congrArg Host.Outcome.next (if_neg (by simp [hm, hst])),
      fun hst => congrArg Host.Outcome.next (if_pos (.inr hst)), rfl, fun temps => thermalSample_acts hm,
      fun hw => congrArg Host.Outcome.next (if_pos hw), fun since hw ha ht hc => ⟨_, exec_powerCapStep_down hw ha ht hc, ?_⟩,
      fun since hw => exec_powerCapStep_up hw⟩
    simp only [stepDown_pwr]
    exact ⟨trivial, trivial, ((only_pwr s _).mono (by simp)).trans (stepDown_only _ _ _)⟩

end Sys2Proof.Machine

/-! SUPPORT. Requests of a mode (R363), the drain to DORMANT (R366, R367) and the reset (R361). -/
namespace Sys2Proof.Machine

/-! ### Requests -/

section Requests

variable {s : State} {p : Path}

theorem modeResult_only (s : State) (result : Nat) : Only [.pwr, .log] s (s.modeResult result) :=
  ((only_pwr s _).mono (by simp)).trans ((logEvent_only _ _ _ _ _).mono (by simp))

/-- R363: of the power unit a RESULT changes RESULT alone. -/
@[simp] theorem modeResult_pwr (s : State) (result : Nat) : (s.modeResult result).pwr = { s.pwr with result := result } :=
  logEvent_only _ _ _ _ _ .pwr (by decide)

@[simp] theorem modeResult_glb (s : State) (result : Nat) : (s.modeResult result).glb = s.glb := modeResult_only s result .glb (by decide)

/-- The state in which a request's code has been taken (R363). -/
def State.requestedAs (s : State) (code : Nat) : State := { s with pwr := { s.pwr with req := code } }

theorem modeRequest_busy (hp : s.mayRequest p = true) (ht : s.inTransition = true) {code : Nat} (hc : code ≠ 3) (refusal : Option Nat)
    (k : State → State) : s.modeRequest p code refusal k = (s.requestedAs code).modeResult 4 :=
  (if_neg (by simp [hp])).trans (if_pos ⟨ht, hc⟩)

theorem modeRequest_refused (hp : s.mayRequest p = true) {code : Nat} (ht : s.inTransition = false ∨ code = 3) (r : Nat)
    (k : State → State) : s.modeRequest p code (some r) k = (s.requestedAs code).modeResult r :=
  (if_neg (by simp [hp])).trans (if_neg fun h => ht.elim (fun hf => Bool.false_ne_true (hf.symm.trans h.1)) h.2)

theorem modeRequest_taken (hp : s.mayRequest p = true) {code : Nat} (ht : s.inTransition = false ∨ code = 3) (k : State → State) :
    s.modeRequest p code none k = k (s.requestedAs code) :=
  (if_neg (by simp [hp])).trans (if_neg fun h => ht.elim (fun hf => Bool.false_ne_true (hf.symm.trans h.1)) h.2)

/-- A request that is answered at once leaves its code and its RESULT (R363). -/
theorem answered_at_once (s : State) (code result : Nat) : let t := (s.requestedAs code).modeResult result
    t.pwr.req = code ∧ t.pwr.result = result ∧ Only [.pwr, .log] s t := by
  simp only [modeResult_pwr]
  exact ⟨rfl, trivial, ((only_pwr s _).mono (by simp)).trans (modeResult_only _ _)⟩

/-- R363: while a transition runs a request other than HALT reads BUSY. -/
theorem request_busy (hp : s.mayRequest p = true) (ht : s.inTransition = true) {c : Nat × Instr × Bool}
    (hc : c ∈ [(1, Instr.dormantRequest p, decide (s.glb.mode = .service)), (2, .resumeRequest p, decide (s.glb.mode = .dormant)),
      (4, .resetRequest p, decide (s.glb.mode = .halt ∨ s.glb.mode = .dormant))]) :
    exec c.2.1 s = .next ((s.requestedAs c.1).modeResult 4) := by
  simp only [List.mem_cons, List.not_mem_nil, or_false] at hc
  obtain rfl | rfl | rfl := hc <;> exact congrArg Host.Outcome.next (modeRequest_busy hp ht (by decide) _ _)

/-- R363: a request that the mode does not allow reads WRONG_MODE. -/
theorem request_wrongMode (hp : s.mayRequest p = true) (ht : s.inTransition = false) {c : Nat × Instr × Bool}
    (hc : c ∈ [(1, Instr.dormantRequest p, decide (s.glb.mode = .service)), (2, .resumeRequest p, decide (s.glb.mode = .dormant)),
      (4, .resetRequest p, decide (s.glb.mode = .halt ∨ s.glb.mode = .dormant))]) (hm : c.2.2 = false) :
    exec c.2.1 s = .next ((s.requestedAs c.1).modeResult 3) := by
  have hrefused (code : Nat) (k : State → State) := modeRequest_refused hp (code := code) (.inl ht) 3 k
  simp only [List.mem_cons, List.not_mem_nil, or_false] at hc
  obtain rfl | rfl | rfl := hc <;> simp only [decide_eq_false_iff_not] at hm <;> refine congrArg Host.Outcome.next ?_
  · rw [if_pos hm, hrefused]
  · rw [if_pos hm, hrefused]
  · rw [if_neg hm, hrefused]

/-- R366: the DORMANT request of a device that need not leave a cluster begins the drain. -/
theorem exec_dormantRequest (hp : s.mayRequest p = true) (ht : s.inTransition = false) (hm : s.glb.mode = .service) (hs : s.pwr.stopped = [])
    (hc : s.cfg.cluster = none ∨ s.brv.st ≠ .member) : exec (.dormantRequest p) s = .next (
      ({ s.requestedAs 1 with
        glb := { s.glb with admitting := false }
        pwr := { (s.requestedAs 1).pwr with trans := some (.drain (s.now + 100000 * s.cfg.power.drainMs)) } } : State).modeResult 2) := by
  have hleave : (s.requestedAs 1).askLeave = (true, s.requestedAs 1) := by
    unfold State.askLeave
    obtain hnone | hst := hc
    · rw [show (s.requestedAs 1).cfg.cluster = none from hnone]
    · split
      · rfl
      · exact if_pos hst
  refine congrArg Host.Outcome.next ?_
  have hrefusal : (if s.glb.mode ≠ .service then some 3 else if s.pwr.stopped ≠ [] then some 6 else none : Option Nat) = none := by
    rw [if_neg (not_not_intro hm), if_neg (not_not_intro hs)]
  dsimp only
  rw [hrefusal, modeRequest_taken hp (.inl ht)]
  simp only [hleave, Bool.true_eq_false, if_false]
  rfl

/-- R368: the request to resume starts the domains' ramp and the RNG. -/
theorem exec_resumeRequest (hp : s.mayRequest p = true) (ht : s.inTransition = false) (hm : s.glb.mode = .dormant) :
    let s1 := (s.requestedAs 2).setDomains fun d =>
      if (s.requestedAs 2).domainWanted d then (if d = 70 ∨ d = 71 then .on else .waking) else .off
    exec (.resumeRequest p) s = .next (({ s1 with pwr := { s1.pwr with trans := some .resume } } : State).resumeResets.rngStart.modeResult 2) := by
  refine congrArg Host.Outcome.next ?_
  simp only [hm, ne_eq, not_true_eq_false, if_false]
  exact modeRequest_taken hp (.inl ht) _

theorem exec_haltRequest (hp : s.mayRequest p = true) (hh : s.glb.mode ≠ .halt) (hs : s.glb.mode ≠ .sentry) :
    exec (.haltRequest p) s = .next (((s.requestedAs 3).enterHalt 3 0 0).modeResult 1) := by
  refine congrArg Host.Outcome.next ?_
  rw [if_neg (not_or.2 ⟨hh, hs⟩)]
  exact modeRequest_taken hp (.inr rfl) _

theorem exec_resetRequest (hp : s.mayRequest p = true) (ht : s.inTransition = false) (hm : s.glb.mode = .halt ∨ s.glb.mode = .dormant) :
    let s1 := (s.requestedAs 4).modeResult 1
    exec (.resetRequest p) s = .next (s1.resetWith s1.endCause) := by
  refine congrArg Host.Outcome.next ?_
  rw [if_pos hm]
  exact modeRequest_taken hp (.inl ht) _

/-- R364: entry to HALT, of the power unit. -/
theorem enterHalt_pwr (hh : s.glb.mode ≠ .halt) (hs : s.glb.mode ≠ .sentry) (reason step code : Nat) :
    (s.enterHalt reason step code).pwr = { s.pwr with
      halt := some (s.haltReport reason step code), flushing := true, trans := none, pend := none
      stopped := [], restarting := [], drydockBy := none, launch := .ended } := by
  unfold State.enterHalt
  rw [if_neg (not_or.2 ⟨hh, hs⟩)]
  extract_lets p g s1
  rw [logEvent_only _ _ _ _ _ .pwr (by decide), toMode_only _ _ .pwr (by decide), rawOff_only _ .pwr (by decide)]

theorem toMode_glb (s : State) (m : Mode) : (s.toMode m).glb =
    { s.glb with mode := m, prevMode := s.glb.mode, intStatus := s.glb.intStatus ||| intMode } := by
  simp [State.toMode]

/-- R362, R364: entry to HALT, of the mode and admission. -/
theorem enterHalt_glb (hh : s.glb.mode ≠ .halt) (hs : s.glb.mode ≠ .sentry) (reason step code : Nat) :
    (s.enterHalt reason step code).glb = { s.glb with
      mode := .halt, prevMode := s.glb.mode, intStatus := s.glb.intStatus ||| intMode, admitting := false } := by
  unfold State.enterHalt
  rw [if_neg (not_or.2 ⟨hh, hs⟩)]
  extract_lets p g s1
  rw [logEvent_glb, toMode_glb, rawOff_only _ .glb (by decide)]

theorem setDomains_only (s : State) (f : Nat → DomState) : Only [.pwr] s (s.setDomains f) := only_pwr s _

theorem rngStart_only (s : State) : Only [.rng] s s.rngStart := only_rng s _

theorem resumeResets_only (s : State) : Only [.lkm, .wharf] s s.resumeResets := by
  rintro (_ | _) hp <;> first | rfl | exact absurd (by simp) hp

/-- R363, R366: what a DORMANT request leaves. -/
theorem dormantRequest_drains (hp : s.mayRequest p = true) (ht : s.inTransition = false) (hm : s.glb.mode = .service)
    (hs : s.pwr.stopped = []) (hc : s.cfg.cluster = none ∨ s.brv.st ≠ .member) : Completes (.dormantRequest p) s fun t =>
      t.glb.admitting = false ∧ t.pwr.trans = some (.drain (s.now + 100000 * s.cfg.power.drainMs)) ∧
        t.pwr.req = 1 ∧ t.pwr.result = 2 ∧ t.glb.mode = .service ∧ Only [.glb, .pwr, .log] s t := by
  refine ⟨_, exec_dormantRequest hp ht hm hs hc, ?_⟩
  simp only [modeResult_pwr, modeResult_glb]
  refine ⟨trivial, trivial, rfl, trivial, hm, Only.trans ?_ ((modeResult_only _ _).mono (by simp))⟩
  exact ((only_pwr s _).mono (by simp)).trans (((only_glb _ _).mono (by simp)).trans ((only_pwr _ _).mono (by simp)))

theorem resumeRequest_resumes (hp : s.mayRequest p = true) (ht : s.inTransition = false) (hm : s.glb.mode = .dormant) :
    Completes (.resumeRequest p) s fun t => t.pwr.trans = some .resume ∧ t.pwr.req = 2 ∧ t.pwr.result = 2 ∧ t.glb.mode = .dormant ∧
      t.rng.ready = false ∧ t.lkm.tbl = s.lkm.tbl ∧ Only [.pwr, .rng, .log, .lkm, .wharf] s t := by
  have hexec := exec_resumeRequest hp ht hm
  dsimp only at hexec
  refine ⟨_, hexec, ?_⟩
  simp only [modeResult_pwr, modeResult_glb]
  refine ⟨rfl, rfl, trivial, hm, ?_, ?_, ?_⟩
  · rw [modeResult_only _ _ .rng (by decide)]
    rfl
  · rw [modeResult_only _ _ .lkm (by decide)]
    rfl
  · refine Only.trans ?_ ((modeResult_only _ _).mono (by simp))
    refine Only.trans ?_ ((rngStart_only _).mono (by simp))
    refine Only.trans ?_ ((resumeResets_only _).mono (by simp))
    exact ((only_pwr s _).mono (by simp)).trans (((setDomains_only _ _).mono (by simp)).trans ((only_pwr _ _).mono (by simp)))

theorem haltRequest_halts (hp : s.mayRequest p = true) (hh : s.glb.mode ≠ .halt) (hs : s.glb.mode ≠ .sentry) :
    Completes (.haltRequest p) s fun t =>
      t.glb.mode = .halt ∧ t.glb.prevMode = s.glb.mode ∧ t.glb.admitting = false ∧ t.pwr.flushing = true ∧ t.pwr.trans = none ∧
      t.pwr.halt = some (s.haltReport 3 0 0) ∧ t.pwr.result = 1 ∧ Only [.glb, .pwr, .rng, .log, .out, .wharf] s t := by
  refine ⟨_, exec_haltRequest hp hh hs, ?_⟩
  have hh' : (s.requestedAs 3).glb.mode ≠ .halt := hh
  have hs' : (s.requestedAs 3).glb.mode ≠ .sentry := hs
  simp only [modeResult_pwr, modeResult_glb, enterHalt_pwr hh' hs', enterHalt_glb hh' hs']
  exact ⟨trivial, rfl, trivial, trivial, trivial, rfl, trivial, ((only_pwr s _).mono (by simp)).trans
    (((enterHalt_only _ _ _ _).mono (by simp)).trans ((modeResult_only _ _).mono (by simp)))⟩

theorem resetWith_launches (s : State) (cause : Nat) : let t := s.resetWith cause
    t.glb.mode = .launch ∧ t.glb.prevMode = s.glb.mode ∧ t.pwr.epochState = .ended cause ∧ t.pwr.launch = .notBegun ∧
      t.pwr.trans = none ∧ t.root.slots = s.root.slots ∧ t.len.keel = s.len.keel := ⟨rfl, rfl, rfl, rfl, rfl, rfl, rfl⟩

theorem resetRequest_resets (hp : s.mayRequest p = true) (ht : s.inTransition = false) (hm : s.glb.mode = .halt ∨ s.glb.mode = .dormant) :
    Completes (.resetRequest p) s fun t =>
      t.glb.mode = .launch ∧ t.glb.prevMode = s.glb.mode ∧ t.pwr.epochState = .ended s.endCause ∧ t.pwr.launch = .notBegun ∧
      t.root.slots = s.root.slots ∧ t.len.keel = s.len.keel := by
  have honly : Only [.pwr, .log] s ((s.requestedAs 4).modeResult 1) := ((only_pwr s _).mono (by simp)).trans (modeResult_only _ _)
  have hexec := exec_resetRequest hp ht hm
  dsimp only at hexec
  obtain ⟨hmode, hprev, hepoch, hlaunch, -, hslots, hkeel⟩ :=
    resetWith_launches ((s.requestedAs 4).modeResult 1) ((s.requestedAs 4).modeResult 1).endCause
  have hglb : ((s.requestedAs 4).modeResult 1).glb = s.glb := honly .glb (by decide)
  have hrings : ((s.requestedAs 4).modeResult 1).rings = s.rings := honly .rings (by decide)
  have hcause : ((s.requestedAs 4).modeResult 1).endCause = s.endCause := by simp only [State.endCause, hglb, hrings]
  refine ⟨_, hexec, hmode, ?_, ?_, hlaunch, ?_, ?_⟩
  · rw [hprev, hglb]
  · rw [hepoch, hcause]
  · rw [hslots, honly .root (by decide)]
  · rw [hkeel, honly .len (by decide)]

end Requests

end Sys2Proof.Machine

/-! SUPPORT. Sessions dropped (R389, R394), and what DORMANT loses (R366, R367). -/
namespace Sys2Proof.Machine

/-! ### Sessions dropped -/

theorem Tbl.del_eq_filter {α : Type} (k : Nat) (t : Tbl α) : Tbl.del k t = t.filter fun x => x.1 != k := by
  induction t with
  | nil => rfl
  | cons p t ih =>
    obtain ⟨j, a⟩ := p
    by_cases hj : j = k <;> simp [Tbl.del, hj, ih]

theorem Tbl.del_of_find_none {α : Type} {k : Nat} {t : Tbl α} (h : Tbl.find k t = none) : Tbl.del k t = t := by
  induction t with
  | nil => rfl
  | cons p t ih =>
    obtain ⟨j, a⟩ := p
    by_cases hj : j = k
    · simp [Tbl.find, hj] at h
    · rw [Tbl.del, if_neg hj, ih (by simpa [Tbl.find, hj] using h)]

/-- A ring whose binding to a session has ended (R55). -/
def Ring.unboundFrom (g : Ring) (n : Nat) : Ring := if g.bound = some n then { g with bound := none } else g

section Sessions

variable {s : State} {n what : Nat}

theorem dropSession_only (s : State) (n what : Nat) : Only [.wharf, .rings, .out] s (s.dropSession n what) := by
  unfold State.dropSession
  split
  · exact Only.refl _ s
  · rintro (_ | _) hp <;> first | rfl | exact absurd (by simp) hp

/-- R394: of the Wharf a dropped session leaves everything but itself. -/
theorem dropSession_wharf (s : State) (n what : Nat) : (s.dropSession n what).wharf =
    { s.wharf with sessions := s.wharf.sessions.filter fun x => x.1 != n } := by
  rw [← Tbl.del_eq_filter]
  unfold State.dropSession
  cases h : s.sessionAt n with
  | none =>
    rw [Tbl.del_of_find_none h]
  | some x => rfl

/-- R55: the rings of a dropped session are bound to none; no other ring changes. -/
theorem dropSession_ringAt {x : Session} (h : s.sessionAt n = some x) (what r : Nat) :
    (s.dropSession n what).ringAt r = (s.ringAt r).unboundFrom n := by
  have hmap : (s.rings.map fun (p : Nat × Ring) => if p.2.bound = some n then (p.1, { p.2 with bound := none }) else p) =
      s.rings.map fun p => (p.1, p.2.unboundFrom n) := by
    refine List.map_congr_left fun p _ => ?_
    unfold Ring.unboundFrom
    split <;> rfl
  have hrings : (s.dropSession n what).rings = s.rings.map fun p => (p.1, p.2.unboundFrom n) := by
    rw [← hmap]
    unfold State.dropSession
    rw [h]
    rfl
  simp only [State.ringAt, tget, hrings]
  rw [Tbl.find_mapValues (fun g : Ring => g.unboundFrom n)]
  cases Tbl.find r s.rings <;> rfl

/-- A dropped session leaves a ring's completions where they are (R55). -/
theorem dropSession_relq (s : State) (n what r : Nat) : ((s.dropSession n what).ringAt r).relq = (s.ringAt r).relq ∧
    ((s.dropSession n what).ringAt r).inFlight = (s.ringAt r).inFlight := by
  cases h : s.sessionAt n with
  | none =>
    unfold State.dropSession
    rw [h]
    exact ⟨rfl, rfl⟩
  | some x =>
    rw [dropSession_ringAt h]
    unfold Ring.unboundFrom
    split <;> exact ⟨rfl, rfl⟩

theorem dropSessions_only (s : State) (p : Session → Bool) : Only [.wharf, .rings, .out] s (s.dropSessions p) :=
  Only.foldl (fun s n => dropSession_only s n 3) _ s

theorem dropped_wharf (ns : List Nat) (s : State) : (ns.foldl (fun (s : State) (n : Nat) => s.dropSession n 3) s).wharf =
    { s.wharf with sessions := s.wharf.sessions.filter fun x => !ns.contains x.1 } := by
  induction ns generalizing s with
  | nil => simp
  | cons n ns ih =>
    rw [List.foldl_cons, ih, dropSession_wharf]
    simp only [List.filter_filter, List.contains_cons, Bool.not_or]
    congr 2
    funext x
    exact Bool.and_comm _ _

/-- Every session dropped, none is left. -/
theorem dropSessions_all (s : State) : (s.dropSessions fun _ => true).wharf.sessions = [] := by
  unfold State.dropSessions
  rw [dropped_wharf]
  refine List.filter_eq_nil_iff.2 fun x hx => ?_
  have hmem : x.1 ∈ s.wharf.sessions.map Prod.fst := List.mem_map_of_mem hx
  simpa using hmem

theorem dropSessions_relq (s : State) (p : Session → Bool) (r : Nat) : ((s.dropSessions p).ringAt r).relq = (s.ringAt r).relq ∧
    ((s.dropSessions p).ringAt r).inFlight = (s.ringAt r).inFlight := by
  unfold State.dropSessions
  generalize (s.wharf.sessions.filter fun x => p x.2).map Prod.fst = ns
  induction ns generalizing s with
  | nil => exact ⟨rfl, rfl⟩
  | cons n ns ih =>
    rw [List.foldl_cons]
    obtain ⟨hq, hf⟩ := ih (s.dropSession n 3)
    obtain ⟨hq', hf'⟩ := dropSession_relq s n 3 r
    exact ⟨hq.trans hq', hf.trans hf'⟩

end Sessions

/-! ### The drain to DORMANT -/

section Dormant

variable {s : State}

theorem writeBackBlock_only (s : State) (k : Nat) : Only treeParts s (s.writeBackBlock k) := by
  unfold State.writeBackBlock
  extract_lets s1
  have h1 : Only treeParts s s1 := bring_only _ _ _ _ s
  split
  · split
    · exact h1.trans ((slu_tree (only_slu s1 _)).trans (bump_only _ _ _ _))
    · exact h1
  · exact Only.refl _ s

theorem writeBackAll_only (s : State) : Only treeParts s s.writeBackAll :=
  Only.foldl (fun s _ => Only.foldl (fun s k => writeBackBlock_only s k) _ s) _ s

/-- The state whose sessions, permits, grants and unlock are gone, the units still to be cleared (R366 step 3). -/
def State.accessDropped (s : State) : State :=
  let t := (s.dropSessions fun _ => true).dropPermits fun _ => true
  { t with
    lcy := { t.lcy with unlocked := none }
    adm := { t.adm with comps := [] }
    mor := { t.mor with sessions := [], pageIns := [] }
    pwr := { t.pwr with grants := [] } }

theorem dormantLosses_eq (s : State) : s.dormantLosses = (s.accessDropped.writeBackAll.enginesCleared.rngOff).linksOff := rfl

theorem dropPermits_all (s : State) : (s.dropPermits fun _ => true).adm.permits = [] := by simp [State.dropPermits]

theorem linksOff_only (s : State) : Only [.brv] s s.linksOff := only_brv s _

theorem rngOff_only (s : State) : Only [.rng] s s.rngOff := by
  unfold State.rngOff
  extract_lets t
  exact Only.trans (t := t) ((only_rng s _).trans (only_rng _ _)) (only_rng t _)

theorem enginesCleared_only (s : State) : Only [.cores, .sram, .cph, .hsh, .bgn] s s.enginesCleared := by
  rintro (_ | _) hp <;> first | rfl | exact absurd (by simp) hp

/-- What DORMANT loses is gone (R366, R367, R372, R420). -/
theorem dormantLosses_spec (s : State) : let t := s.dormantLosses
    t.sram = [] ∧ t.adm.permits = [] ∧ t.adm.comps = [] ∧ t.pwr = { s.pwr with grants := [] } ∧ t.lcy.unlocked = none ∧
      t.wharf.sessions = [] ∧ t.rng.ready = false := by
  rw [dormantLosses_eq]
  generalize hu : s.accessDropped.writeBackAll = u
  have hcleared : Only [.cores, .sram, .cph, .hsh, .bgn, .rng, .brv] u ((u.enginesCleared.rngOff).linksOff) :=
    ((enginesCleared_only u).mono (by simp)).trans (((rngOff_only _).mono (by simp)).trans ((linksOff_only _).mono (by simp)))
  have hwb : Only treeParts s.accessDropped u := hu ▸ writeBackAll_only s.accessDropped
  have hdrop := dropSessions_only s fun _ => true
  dsimp only
  rw [hcleared .adm (by decide), hcleared .pwr (by decide), hcleared .lcy (by decide), hcleared .wharf (by decide),
    hwb .adm (by decide), hwb .pwr (by decide), hwb .lcy (by decide), hwb .wharf (by decide)]
  refine ⟨?_, dropPermits_all _, rfl, congrArg (fun p : Pwr => { p with grants := [] }) (hdrop .pwr (by decide)), rfl,
    dropSessions_all s, ?_⟩
  · rw [linksOff_only _ .sram (by decide), rngOff_only _ .sram (by decide)]
    rfl
  · rw [linksOff_only _ .rng (by decide)]
    rfl

theorem ethFollow_only (s : State) (p : Nat) : Only [.wharf] s (s.ethFollow p) := by
  unfold State.ethFollow
  extract_lets enabled looped up
  split <;> exact only_wharf s _

theorem ethFollow_sessions (s : State) (p : Nat) : (s.ethFollow p).wharf.sessions = s.wharf.sessions := by
  unfold State.ethFollow
  extract_lets enabled looped up
  split <;> rfl

/-- R386: in DORMANT the link goes down, and that is all. -/
theorem pcieDown_dormant (hm : s.glb.mode = .dormant) : Only [.wharf] s s.pcieDown ∧ s.pcieDown.wharf.sessions = s.wharf.sessions := by
  unfold State.pcieDown
  split
  · exact ⟨Only.refl _ s, rfl⟩
  · dsimp only
    rw [if_pos hm]
    exact ⟨only_wharf s _, rfl⟩

theorem Tbl.find_map_of_mem {α : Type} (f : Nat → α) {k : Nat} {ks : List Nat} (h : k ∈ ks) :
    Tbl.find k (ks.map fun j => (j, f j)) = some (f k) := by
  induction ks with
  | nil => cases h
  | cons j ks ih =>
    by_cases hj : j = k
    · subst hj
      simp [Tbl.find]
    · simpa [Tbl.find, hj] using ih ((List.mem_cons.1 h).resolve_left (Ne.symm hj))

theorem domAt_setDomains (s : State) (f : Nat → DomState) {d : Nat} (hd : d < 72) : (s.setDomains f).domAt d =
    { s.domAt d with st := if (s.domAt d).st = .failed then .failed else f d, since := s.now, idleFrom := s.now } :=
  congrArg (Option.getD · _) (Tbl.find_map_of_mem (fun d => ({ s.domAt d with
    st := if (s.domAt d).st = .failed then .failed else f d, since := s.now, idleFrom := s.now } : Domain)) (List.mem_range.2 hd))

/-- R375: every domain takes its state, but for a FAILED one. -/
theorem setDomains_st (s : State) (f : Nat → DomState) {d : Nat} (hd : d < 72) :
    ((s.setDomains f).domAt d).st = f d ∨ ((s.setDomains f).domAt d).st = .failed := by
  rw [domAt_setDomains s f hd]
  dsimp only
  split
  · exact .inr rfl
  · exact .inl rfl

theorem exec_drainTimeout {limit : Nat} (ht : s.pwr.trans = some (.drain limit)) : exec .drainTimeout s = .next (
    if limit < s.now then
      ({ s with glb := { s.glb with admitting := true }, pwr := { s.pwr with trans := none } } : State).modeResult 5
    else s) := by
  change Host.Outcome.next _ = _
  rw [ht]

/-- An MSI-X message leaves the sessions alone. -/
theorem withGlb_sessions (s : State) (g : Glb) : (s.withGlb g).wharf.sessions = s.wharf.sessions := by
  unfold State.withGlb State.msix State.sendMsix
  dsimp only
  repeat' split
  all_goals rfl

theorem toMode_sessions (s : State) (m : Mode) : (s.toMode m).wharf.sessions = s.wharf.sessions := by
  unfold State.toMode
  extract_lets _ s1
  rw [logEvent_only s1 _ _ _ _ .wharf (by decide)]
  exact withGlb_sessions s _

/-- The state into which a drained device goes: the losses told, its domains' states taken, its mode DORMANT. -/
def State.madeDormant (s : State) : State :=
  ((({ s with slu := { s.slu with ready := false, half0 := false, half1 := false } } : State).setDomains dormantDomain).toMode .dormant).pcieDown

theorem madeDormant_spec (s : State) : let t := s.madeDormant
    Only [.slu, .pwr, .glb, .out, .wharf, .log] s t ∧ t.glb.mode = .dormant ∧ t.slu.ready = false ∧
      t.wharf.sessions = s.wharf.sessions ∧ t.pwr = (s.setDomains dormantDomain).pwr := by
  unfold State.madeDormant
  generalize hs1 : ({ s with slu := { s.slu with ready := false, half0 := false, half1 := false } } : State) = s1
  have h1 : Only [.slu] s s1 := hs1 ▸ only_slu s _
  have hmode := toMode_only (s1.setDomains dormantDomain) .dormant
  obtain ⟨hdown, hsessions⟩ := pcieDown_dormant (toMode_mode (s1.setDomains dormantDomain) .dormant)
  dsimp only
  refine ⟨(h1.mono (by simp)).trans (((setDomains_only s1 _).mono (by simp)).trans ((hmode.mono (by simp)).trans (hdown.mono (by simp)))),
    ?_, ?_, ?_, ?_⟩
  · rw [hdown .glb (by decide), toMode_mode]
  · rw [hdown .slu (by decide), hmode .slu (by decide), setDomains_only s1 _ .slu (by decide), ← hs1]
  · rw [hsessions, toMode_sessions, setDomains_only s1 _ .wharf (by decide), h1 .wharf (by decide)]
  · rw [hdown .pwr (by decide), hmode .pwr (by decide), ← hs1]
    rfl

theorem exec_dormantDrainDone {limit : Nat} (ht : s.pwr.trans = some (.drain limit)) : exec .dormantDrainDone s = .next (
    if s.drained = true ∧ s.now ≤ limit then
      let u := s.dormantLosses.madeDormant
      (((({ u with pwr := { u.pwr with trans := none } } : State).ethFollow 0).ethFollow 1).modeResult 1)
    else s) := by
  change Host.Outcome.next _ = _
  rw [ht]
  rfl

/-- R366 steps 3 to 5, R367: what the end of the drain leaves. -/
theorem dormantDrainDone_dormant {limit : Nat} (ht : s.pwr.trans = some (.drain limit)) (hd : s.drained = true) (hl : s.now ≤ limit) :
    Completes .dormantDrainDone s fun t =>
      t.glb.mode = .dormant ∧ t.pwr.trans = none ∧ t.pwr.result = 1 ∧ t.sram = [] ∧ t.adm.permits = [] ∧ t.adm.comps = [] ∧
      t.pwr.grants = [] ∧ t.lcy.unlocked = none ∧ t.wharf.sessions = [] ∧ t.rng.ready = false ∧ t.slu.ready = false ∧
      ∀ d, d < 72 → (t.domAt d).st = dormantDomain d ∨ (t.domAt d).st = .failed := by
  obtain ⟨hsram, hpermits, hcomps, hpwr, hlcy, hsessions, hrng⟩ := dormantLosses_spec s
  obtain ⟨honly, hmode, hslu, hwharf, hdoms⟩ := madeDormant_spec s.dormantLosses
  refine ⟨_, (exec_dormantDrainDone ht).trans (congrArg Host.Outcome.next (if_pos ⟨hd, hl⟩)), ?_⟩
  generalize s.dormantLosses = u at *
  generalize u.madeDormant = v at *
  dsimp only
  generalize hw : ({ v with pwr := { v.pwr with trans := none } } : State) = w
  have hvw : Only [.pwr] v w := hw ▸ only_pwr v _
  have heth : Only [.wharf] w ((w.ethFollow 0).ethFollow 1) := (ethFollow_only w 0).trans (ethFollow_only _ 1)
  have hethSessions : ((w.ethFollow 0).ethFollow 1).wharf.sessions = w.wharf.sessions :=
    (ethFollow_sessions _ 1).trans (ethFollow_sessions w 0)
  generalize (w.ethFollow 0).ethFollow 1 = x at *
  have hres := modeResult_only x 1
  have hall : Only [.slu, .pwr, .glb, .out, .wharf, .log] u (x.modeResult 1) :=
    honly.trans ((hvw.mono (by simp)).trans ((heth.mono (by simp)).trans (hres.mono (by simp))))
  have hpwr1 : x.pwr = { v.pwr with trans := none } := (heth .pwr (by decide)).trans (by rw [← hw])
  have hdomAt (d : Nat) : (x.modeResult 1).domAt d = (u.setDomains dormantDomain).domAt d := by
    simp only [State.domAt, modeResult_pwr, hpwr1, hdoms]
  refine ⟨?_, ?_, ?_, ?_, ?_, ?_, ?_, ?_, ?_, ?_, ?_, fun d hd => ?_⟩
  · rw [modeResult_glb, heth .glb (by decide), hvw .glb (by decide), hmode]
  · rw [modeResult_pwr, hpwr1]
  · rw [modeResult_pwr]
  · rw [hall .sram (by decide), hsram]
  · rw [hall .adm (by decide), hpermits]
  · rw [hall .adm (by decide), hcomps]
  · rw [modeResult_pwr, hpwr1, hdoms]
    exact congrArg Pwr.grants hpwr
  · rw [hall .lcy (by decide), hlcy]
  · rw [hres .wharf (by decide), hethSessions, hvw .wharf (by decide), hwharf, hsessions]
  · rw [hall .rng (by decide), hrng]
  · rw [hres .slu (by decide), heth .slu (by decide), hvw .slu (by decide), hslu]
  · rw [hdomAt]
    exact setDomains_st u dormantDomain hd

/-- R366: past the limit of the drain admission resumes with DRAIN_TIMEOUT. -/
theorem drainTimeout_resumes {limit : Nat} (ht : s.pwr.trans = some (.drain limit)) (hl : limit < s.now) :
    Completes .drainTimeout s fun t => t.glb = { s.glb with admitting := true } ∧ t.pwr.trans = none ∧ t.pwr.result = 5 ∧
      Only [.glb, .pwr, .log] s t := by
  refine ⟨_, (exec_drainTimeout ht).trans (congrArg Host.Outcome.next (if_pos hl)), ?_⟩
  have honly : Only [.glb, .pwr] s
      { s with glb := { s.glb with admitting := true }, pwr := { s.pwr with trans := none } } := by
    rintro (_ | _) hp <;> first | rfl | exact absurd (by simp) hp
  simp only [modeResult_pwr, modeResult_glb]
  exact ⟨trivial, trivial, trivial, (honly.mono (by simp)).trans ((modeResult_only _ _).mono (by simp))⟩

end Dormant

end Sys2Proof.Machine

/-! SUPPORT. The end of a resume (R368): the units that fail their self-checks leave service. -/
namespace Sys2Proof.Machine

/-! ### Units retired one after another -/

/-- A fold that retires units one by one, each of them in a state that the others' retirements leave as it is, retires just these units. -/
theorem foldl_retires {st : State → Nat → UnitState} {step : State → Nat → State} {keep : UnitState → Prop} (hretired : keep .retired)
    (hself : ∀ s m, keep (st s m) → st (step s m) m = .retired)
    (hother : ∀ s m n, keep (st s n) → n ≠ m → st (step s m) n = st s n) (ms : List Nat) {s : State} {n : Nat} (hn : keep (st s n)) :
    st (ms.foldl step s) n = if n ∈ ms then .retired else st s n := by
  induction ms generalizing s with
  | nil => rfl
  | cons m ms ih =>
    rw [List.foldl_cons]
    by_cases hm : n = m
    · subst hm
      have hst := hself s n hn
      rw [ih (by rwa [hst]), hst, if_pos (List.mem_cons_self ..), ite_self]
    · have hst := hother s m n hn hm
      rw [ih (by rwa [hst]), hst]
      simp [hm]

section Units

variable {s t : State} {m n g : Nat}

theorem laneAt_of_cph (h : t.cph = s.cph) (n : Nat) : t.laneAt n = s.laneAt n := by rw [State.laneAt, h, State.laneAt]

theorem tileAt_of_bgn (h : t.bgn = s.bgn) (n : Nat) : t.tileAt n = s.tileAt n := by rw [State.tileAt, h, State.tileAt]

theorem laneSay_laneAt (s : State) (k : Nat) (out : List TWord) (code n : Nat) : (s.laneSay k out code).laneAt n = s.laneAt n := by
  unfold State.laneSay
  extract_lets c s1
  split <;> rfl

theorem tileSay_tileAt (s : State) (k : Nat) (out : List TWord) (code n : Nat) : (s.tileSay k out code).tileAt n = s.tileAt n := by
  unfold State.tileSay
  extract_lets c s1
  split <;> rfl

/-- R202: a lane granted keeps its state. -/
theorem grantLanes_laneAt (s : State) (n : Nat) : s.grantLanes.laneAt n = s.laneAt n := by
  unfold State.grantLanes
  generalize s.cph.waiting = ws
  induction ws generalizing s with
  | nil => rfl
  | cons w ws ih =>
    rw [List.foldl_cons, ih]
    split
    · exact laneSay_laneAt _ _ _ _ n
    · split
      · rfl
      · exact laneSay_laneAt _ _ _ _ n

/-- R228: a tile granted keeps its state. -/
theorem grantTiles_tileAt (s : State) (n : Nat) : s.grantTiles.tileAt n = s.tileAt n := by
  unfold State.grantTiles
  generalize s.bgn.waiting = ws
  induction ws generalizing s with
  | nil => rfl
  | cons w ws ih =>
    rw [List.foldl_cons, ih]
    split
    · exact tileSay_tileAt _ _ _ _ n
    · split
      · rfl
      · exact tileSay_tileAt _ _ _ _ n

/-- R218: only a spare lane joins a group. -/
theorem laneSpare_laneAt (hn : (s.laneAt n).st ≠ .spare) : (s.laneSpare m g).laneAt n = s.laneAt n := by
  unfold State.laneSpare
  split
  case h_1 x hx =>
    have hspare : (s.laneAt x).st = .spare := by simpa using List.find?_some hx
    exact State.laneAt_setLane_ne s x n _ fun h => hn (h ▸ hspare)
  case h_2 =>
    extract_lets s1
    have h1 : s1.laneAt n = s.laneAt n := laneAt_of_cph (logEvent_only _ _ _ _ _ .cph (by decide)) n
    split
    · exact (laneAt_of_cph (logEvent_only s1 _ _ _ _ .cph (by decide)) n).trans h1
    · exact h1

/-- R218, R237: only a spare tile joins a group. -/
theorem tileSpare_tileAt (hn : (s.tileAt n).st ≠ .spare) : (s.tileSpare m g).tileAt n = s.tileAt n := by
  unfold State.tileSpare
  split
  case h_1 x hx =>
    have hspare : (s.tileAt x).st = .spare := by simpa using List.find?_some hx
    exact State.tileAt_setTile_ne s x n _ fun h => hn (h ▸ hspare)
  case h_2 =>
    extract_lets s1
    have h1 : s1.tileAt n = s.tileAt n := tileAt_of_bgn (logEvent_only _ _ _ _ _ .bgn (by decide)) n
    split
    · exact (tileAt_of_bgn (logEvent_only s1 _ _ _ _ .bgn (by decide)) n).trans h1
    · exact h1

theorem retireLane_pass (s : State) (m : Nat) : s.retireLane m true =
    ((((s.laneOut m).laneSpare m (s.laneAt m).group).setInt intSpare).logEvent .interface 8 m (s.laneAt m).group).grantLanes := by
  unfold State.retireLane
  extract_lets g s1 s2
  have h2 : s2 = s1 := by
    simp only [s2, if_true]
    split <;> rfl
  rw [h2]

theorem retireTile_pass (s : State) (m : Nat) : s.retireTile m true =
    ((((s.tileOut m).tileSpare m (s.tileAt m).group).setInt intSpare).logEvent .interface 10 m (s.tileAt m).group).grantTiles := by
  unfold State.retireTile
  extract_lets g s1 s2
  have h2 : s2 = s1 := by
    simp only [s2, if_true]
    split <;> rfl
  rw [h2]

/-- R218: a lane's retirement, seen by a lane that is no spare. -/
theorem retireLane_laneAt (hn : ((s.laneOut m).laneAt n).st ≠ .spare) : (s.retireLane m true).laneAt n = (s.laneOut m).laneAt n := by
  rw [retireLane_pass, grantLanes_laneAt, laneAt_of_cph (logEvent_only _ _ _ _ _ .cph (by decide)),
    laneAt_of_cph (setInt_only _ _ .cph (by decide)), laneSpare_laneAt hn]

/-- R218, R237: a tile's retirement, seen by a tile that is no spare. -/
theorem retireTile_tileAt (hn : ((s.tileOut m).tileAt n).st ≠ .spare) : (s.retireTile m true).tileAt n = (s.tileOut m).tileAt n := by
  rw [retireTile_pass, grantTiles_tileAt, tileAt_of_bgn (logEvent_only _ _ _ _ _ .bgn (by decide)),
    tileAt_of_bgn (setInt_only _ _ .bgn (by decide)), tileSpare_tileAt hn]

theorem laneOut_laneAt_same (s : State) (m : Nat) : ((s.laneOut m).laneAt m).st = .retired :=
  congrArg Lane.st (State.laneAt_setLane s m { s.laneAt m with st := .retired, slots := [] })

theorem tileOut_tileAt_same (s : State) (m : Nat) : ((s.tileOut m).tileAt m).st = .retired :=
  congrArg Tile.st (State.tileAt_setTile s m { s.tileAt m with st := .retired })

theorem laneOut_laneAt_ne (s : State) (h : n ≠ m) : (s.laneOut m).laneAt n = s.laneAt n :=
  State.laneAt_setLane_ne s m n { s.laneAt m with st := .retired, slots := [] } h

theorem tileOut_tileAt_ne (s : State) (h : n ≠ m) : (s.tileOut m).tileAt n = s.tileAt n :=
  State.tileAt_setTile_ne s m n { s.tileAt m with st := .retired } h

theorem retireLanes_st (ms : List Nat) (hn : (s.laneAt n).st ≠ .spare) :
    ((ms.foldl (fun (s : State) n => s.retireLane n true) s).laneAt n).st = if n ∈ ms then .retired else (s.laneAt n).st :=
  foldl_retires (st := fun s n => (s.laneAt n).st) (keep := (· ≠ .spare)) (by decide)
    (fun s m _ => by rw [retireLane_laneAt (by simp [laneOut_laneAt_same]), laneOut_laneAt_same])
    (fun s m n hn h => by rw [retireLane_laneAt (by rwa [laneOut_laneAt_ne s h]), laneOut_laneAt_ne s h]) ms hn

theorem retireTiles_st (ms : List Nat) (hn : (s.tileAt n).st ≠ .spare) :
    ((ms.foldl (fun (s : State) n => s.retireTile n true) s).tileAt n).st = if n ∈ ms then .retired else (s.tileAt n).st :=
  foldl_retires (st := fun s n => (s.tileAt n).st) (keep := (· ≠ .spare)) (by decide)
    (fun s m _ => by rw [retireTile_tileAt (by simp [tileOut_tileAt_same]), tileOut_tileAt_same])
    (fun s m n hn h => by rw [retireTile_tileAt (by rwa [tileOut_tileAt_ne s h]), tileOut_tileAt_ne s h]) ms hn

theorem sparesOut_lanes (ms : List Nat) (s : State) (n : Nat) :
    ((ms.foldl (fun (s : State) n => s.setLane n { s.laneAt n with st := .retired }) s).laneAt n).st =
      if n ∈ ms then .retired else (s.laneAt n).st :=
  foldl_retires (st := fun s n => (s.laneAt n).st) (keep := fun _ => True) trivial (fun s m _ => by simp)
    (fun s m n _ h => by simp [State.laneAt_setLane_ne _ _ _ _ h]) ms trivial

theorem sparesOut_tiles (ms : List Nat) (s : State) (n : Nat) :
    ((ms.foldl (fun (s : State) n => s.setTile n { s.tileAt n with st := .retired }) s).tileAt n).st =
      if n ∈ ms then .retired else (s.tileAt n).st :=
  foldl_retires (st := fun s n => (s.tileAt n).st) (keep := fun _ => True) trivial (fun s m _ => by simp)
    (fun s m n _ h => by simp [State.tileAt_setTile_ne _ _ _ _ h]) ms trivial

/-! ### Lanes do not reach the tiles, nor tiles the lanes -/

theorem retireTile_cph (s : State) (m : Nat) : (s.retireTile m true).cph = s.cph := by
  have hspare (s : State) (n g : Nat) : (s.tileSpare n g).cph = s.cph := by
    unfold State.tileSpare
    split
    · rfl
    · extract_lets s1
      have h1 : s1.cph = s.cph := logEvent_only _ _ _ _ _ .cph (by decide)
      split
      · exact (logEvent_only s1 _ _ _ _ .cph (by decide)).trans h1
      · exact h1
  rw [retireTile_pass, grantTiles_only _ .cph (by decide), logEvent_only _ _ _ _ _ .cph (by decide), setInt_only _ _ .cph (by decide),
    hspare, tileOut_only _ _ .cph (by decide)]

theorem retireLane_bgn (s : State) (m : Nat) : (s.retireLane m true).bgn = s.bgn := by
  have hspare (s : State) (n g : Nat) : (s.laneSpare n g).bgn = s.bgn := by
    unfold State.laneSpare
    split
    · rfl
    · extract_lets s1
      have h1 : s1.bgn = s.bgn := logEvent_only _ _ _ _ _ .bgn (by decide)
      split
      · exact (logEvent_only s1 _ _ _ _ .bgn (by decide)).trans h1
      · exact h1
  rw [retireLane_pass, grantLanes_units _ .bgn (by decide), logEvent_only _ _ _ _ _ .bgn (by decide), setInt_only _ _ .bgn (by decide),
    hspare, laneOut_only _ _ .bgn (by decide)]

theorem hashFails_hsh (s : State) (engine : Nat) : Only [.hsh, .glb, .out, .wharf, .log] s (s.hashFails engine) := by
  have hsay (t : State) (a b : Nat) : Only [.hsh, .glb, .out, .wharf, .log] t ((t.setInt intSpare).logEvent .interface 9 a b) :=
    ((setInt_only t _).mono (by simp)).trans ((logEvent_only _ _ _ _ _).mono (by simp))
  have heng (t : State) (e : Nat) (g : Eng) : Only [.hsh] t (t.setEng e g) := only_hsh t _
  unfold State.hashFails
  extract_lets g lo
  split
  · exact Only.refl _ s
  · split
    · split
      · exact Only.refl _ s
      · exact (((heng s _ _).trans (heng _ _ _)).mono (by simp)).trans (((only_hsh _ _).mono (by simp)).trans (hsay _ _ _))
    · exact ((heng s _ _).mono (by simp)).trans (hsay _ _ _)

/-! ### The units of a resume -/

/-- A state in which a unit serves (R201, R227). -/
def UnitState.inService (x : UnitState) : Bool := decide (x = .active) || decide (x = .draining)

theorem lane_serves (l : Lane) : l.serves = l.st.inService := rfl

theorem tile_serves (t : Tile) : t.serves = t.st.inService := rfl

theorem foldl_tile_cph {step : State → Nat → State} (h : ∀ s n, (step s n).cph = s.cph) (ns : List Nat) (s : State) :
    (ns.foldl step s).cph = s.cph := by
  induction ns generalizing s with
  | nil => rfl
  | cons n ns ih => exact (ih _).trans (h s n)

theorem foldl_lane_bgn {step : State → Nat → State} (h : ∀ s n, (step s n).bgn = s.bgn) (ns : List Nat) (s : State) :
    (ns.foldl step s).bgn = s.bgn := by
  induction ns generalizing s with
  | nil => rfl
  | cons n ns ih => exact (ih _).trans (h s n)

/-- R368: the units that failed their self-checks are out of service. -/
theorem resumeChecked_out (s : State) (lanes tiles engines : List Nat) : let t := s.resumeChecked lanes tiles engines
    (∀ n ∈ lanes, (t.laneAt n).serves = false) ∧ ∀ n ∈ tiles, (t.tileAt n).serves = false := by
  unfold State.resumeChecked
  generalize h1 : (lanes.filter fun n => decide ((s.laneAt n).st = .spare)).foldl
    (fun (s : State) n => s.setLane n { s.laneAt n with st := .retired }) s = s1
  dsimp only
  generalize h2 : (tiles.filter fun n => decide ((s1.tileAt n).st = .spare)).foldl
    (fun (s : State) n => s.setTile n { s.tileAt n with st := .retired }) s1 = s2
  generalize h3 : (lanes.filter fun n => (s2.laneAt n).serves).foldl (fun (s : State) n => s.retireLane n true) s2 = s3
  generalize h4 : (tiles.filter fun n => (s3.tileAt n).serves).foldl (fun (s : State) n => s.retireTile n true) s3 = s4
  have h5 := Only.foldl hashFails_hsh engines s4
  have hcph2 : s2.cph = s1.cph := h2 ▸ foldl_tile_cph (step := fun s n => s.setTile n { s.tileAt n with st := .retired }) (fun _ _ => rfl) _ s1
  have hbgn3 : s3.bgn = s2.bgn := h3 ▸ foldl_lane_bgn retireLane_bgn _ s2
  have hcph4 : s4.cph = s3.cph := h4 ▸ foldl_tile_cph retireTile_cph _ s3
  refine ⟨fun n hn => ?_, fun n hn => ?_⟩
  · have hst2 : (s2.laneAt n).st ≠ .spare := by
      rw [laneAt_of_cph hcph2, ← h1, sparesOut_lanes]
      by_cases hspare : (s.laneAt n).st = .spare <;> simp [hn, hspare]
    rw [laneAt_of_cph ((h5 .cph (by decide)).trans hcph4), lane_serves, ← h3, retireLanes_st _ hst2]
    by_cases hserves : (s2.laneAt n).serves = true
    · simp [hn, hserves, UnitState.inService]
    · simpa [hn, hserves] using (lane_serves _).symm.trans (Bool.eq_false_iff.2 hserves)
  · have hst3 : (s3.tileAt n).st ≠ .spare := by
      rw [tileAt_of_bgn hbgn3, ← h2, sparesOut_tiles]
      by_cases hspare : (s1.tileAt n).st = .spare <;> simp [hn, hspare]
    rw [tileAt_of_bgn (h5 .bgn (by decide)), tile_serves, ← h4, retireTiles_st _ hst3]
    by_cases hserves : (s3.tileAt n).serves = true
    · simp [hn, hserves, UnitState.inService]
    · simpa [hn, hserves] using (tile_serves _).symm.trans (Bool.eq_false_iff.2 hserves)

end Units

/-! ### RESUME_COMPLETE -/

section Resume

variable {s : State} {images : List Bytes} {trained : Bool} {lanes tiles engines : List Nat}

theorem linksTrain_only (s : State) : Only [.brv] s s.linksTrain := by
  unfold State.linksTrain
  split
  · exact Only.refl _ s
  · refine Only.foldl (fun s l => ?_) _ s
    split
    · exact only_brv s _
    · exact Only.refl _ s

theorem exec_resumeComplete (ht : s.pwr.trans = some .resume) : exec (.resumeComplete images trained lanes tiles engines) s = .next (
    if s.imagesMatch images = false ∨ trained = false ∨ (s.resumeChecked lanes tiles engines).selfTestsPass = false then s.resumeFails
    else if s.rng.ready = false then s
    else
      let s := s.resumeChecked lanes tiles engines
      let s := s.setDomains fun d => if s.domainWanted d then .on else .off
      let s := { s with
        slu := { s.slu with ready := true, half0 := true, half1 := true }
        pwr := { s.pwr with trans := none } }
      let s := { s.toMode .service with glb := { (s.toMode .service).glb with admitting := true } }
      ((s.linksTrain.ethFollow 0).ethFollow 1).modeResult 1) := by
  change Host.Outcome.next _ = _
  rw [ht]

theorem resumeComplete_serves (ht : s.pwr.trans = some .resume) (hi : s.imagesMatch images = true)
    (hp : (s.resumeChecked lanes tiles engines).selfTestsPass = true) (hr : s.rng.ready = true) :
    Completes (.resumeComplete images true lanes tiles engines) s fun t =>
      t.glb.mode = .service ∧ t.glb.admitting = true ∧ t.pwr.trans = none ∧ t.pwr.result = 1 ∧ t.slu.ready = true ∧ t.slu.half0 = true ∧
      t.slu.half1 = true ∧ (∀ n ∈ lanes, (t.laneAt n).serves = false) ∧ ∀ n ∈ tiles, (t.tileAt n).serves = false := by
  obtain ⟨hlanes, htiles⟩ := resumeChecked_out s lanes tiles engines
  refine ⟨_, (exec_resumeComplete ht).trans (congrArg Host.Outcome.next ((if_neg (by simp [hi, hp])).trans (if_neg (by simp [hr])))), ?_⟩
  generalize s.resumeChecked lanes tiles engines = u at *
  dsimp only
  generalize hv : u.setDomains _ = v
  have huv : Only [.pwr] u v := hv ▸ setDomains_only u _
  generalize hw : ({ v with
    slu := { v.slu with ready := true, half0 := true, half1 := true }
    pwr := { v.pwr with trans := none } } : State) = w
  have hvw : Only [.slu, .pwr] v w := by
    rw [← hw]
    rintro (_ | _) hp <;> first | rfl | exact absurd (by simp) hp
  have hmode := toMode_only w .service
  generalize hx : ({ w.toMode .service with glb := { (w.toMode .service).glb with admitting := true } } : State) = x
  have hwx : Only [.glb] (w.toMode .service) x := hx ▸ only_glb _ _
  have hend : Only [.brv, .wharf] x ((x.linksTrain.ethFollow 0).ethFollow 1) :=
    ((linksTrain_only x).mono (by simp)).trans (((ethFollow_only _ 0).mono (by simp)).trans ((ethFollow_only _ 1).mono (by simp)))
  generalize (x.linksTrain.ethFollow 0).ethFollow 1 = y at *
  have hres := modeResult_only y 1
  have hux : Only [.pwr, .slu, .glb, .log, .out, .wharf, .brv] u (y.modeResult 1) := (huv.mono (by simp)).trans ((hvw.mono (by simp)).trans
    ((hmode.mono (by simp)).trans ((hwx.mono (by simp)).trans ((hend.mono (by simp)).trans (hres.mono (by simp))))))
  have hpwr : y.pwr = w.pwr := (hend .pwr (by decide)).trans ((hwx .pwr (by decide)).trans (hmode .pwr (by decide)))
  have hslu : (y.modeResult 1).slu = w.slu := (hres .slu (by decide)).trans ((hend .slu (by decide)).trans
    ((hwx .slu (by decide)).trans (hmode .slu (by decide))))
  have hglb : y.glb = x.glb := hend .glb (by decide)
  simp only [modeResult_pwr, modeResult_glb, hpwr, hslu, hglb]
  refine ⟨?_, ?_, ?_, trivial, ?_, ?_, ?_, fun n hn => ?_, fun n hn => ?_⟩
  · rw [← hx]
    exact toMode_mode w .service
  · rw [← hx]
  · rw [← hw]
  · rw [← hw]
  · rw [← hw]
  · rw [← hw]
  · rw [laneAt_of_cph (hux .cph (by decide)), hlanes n hn]
  · rw [tileAt_of_bgn (hux .bgn (by decide)), htiles n hn]

theorem resumeComplete_waits (ht : s.pwr.trans = some .resume) (hi : s.imagesMatch images = true)
    (hp : (s.resumeChecked lanes tiles engines).selfTestsPass = true) (hr : s.rng.ready = false) :
    exec (.resumeComplete images true lanes tiles engines) s = .next s :=
  (exec_resumeComplete ht).trans (congrArg Host.Outcome.next ((if_neg (by simp [hi, hp])).trans (if_pos hr)))

theorem resumeComplete_fails (ht : s.pwr.trans = some .resume)
    (hf : s.imagesMatch images = false ∨ trained = false ∨ (s.resumeChecked lanes tiles engines).selfTestsPass = false) :
    Completes (.resumeComplete images trained lanes tiles engines) s fun t =>
      t.glb.mode = .launch ∧ t.pwr.result = 7 ∧ t.pwr.epochState = .ended 3 ∧ t.pwr.trans = none :=
  ⟨_, (exec_resumeComplete ht).trans (congrArg Host.Outcome.next (if_pos hf)), rfl, rfl, rfl, rfl⟩

end Resume

end Sys2Proof.Machine

/-! SUPPORT. The flush of HALT (R59, R364). -/
namespace Sys2Proof.Machine

/-! ### The completions of the flush -/

/-- What a completion of ring `r` leaves: every ring's waiting completions, and every other ring's count in flight. -/
def OtherRingsStand (r : Nat) (s t : State) : Prop :=
  ∀ q, (t.ringAt q).relq = (s.ringAt q).relq ∧ (q ≠ r → (t.ringAt q).inFlight = (s.ringAt q).inFlight)

section Flush

variable {s t u : State} {r : Nat}

theorem OtherRingsStand.refl (r : Nat) (s : State) : OtherRingsStand r s s := fun _ => ⟨rfl, fun _ => rfl⟩

theorem OtherRingsStand.trans (h : OtherRingsStand r s t) (h' : OtherRingsStand r t u) : OtherRingsStand r s u := fun q =>
  ⟨(h' q).1.trans (h q).1, fun hq => ((h' q).2 hq).trans ((h q).2 hq)⟩

theorem OtherRingsStand.of_rings (h : t.rings = s.rings) : OtherRingsStand r s t := fun q => by
  simp only [State.ringAt, h]
  exact ⟨trivial, fun _ => trivial⟩

theorem OtherRingsStand.of_only {ps : List Part} (h : Only ps s t) (hp : Part.rings ∉ ps) : OtherRingsStand r s t := .of_rings (h .rings hp)

theorem otherRings_setRing {g : Ring} (hg : g.relq = (s.ringAt r).relq) : OtherRingsStand r s (s.setRing r g) := fun q => by
  by_cases hq : q = r
  · subst hq
    rw [State.ringAt_setRing]
    exact ⟨hg, fun h => absurd rfl h⟩
  · rw [State.ringAt_setRing_ne _ _ _ _ hq]
    exact ⟨rfl, fun _ => rfl⟩

theorem OtherRingsStand.foldl {α : Type} {f : State → α → State} (hf : ∀ s x, OtherRingsStand r s (f s x)) (xs : List α) (s : State) :
    OtherRingsStand r s (xs.foldl f s) := by
  induction xs generalizing s with
  | nil => exact .refl r s
  | cons x xs ih => exact (hf s x).trans (ih _)

theorem otherRings_interrupt (s : State) (r : Nat) : OtherRingsStand r s (s.ringInterrupt r) := fun q => by
  by_cases hq : q = r
  · subst hq
    rw [ringInterrupt_ringAt]
    exact ⟨rfl, fun h => absurd rfl h⟩
  · rw [ringInterrupt_ringAt_ne hq]
    exact ⟨rfl, fun _ => rfl⟩

theorem otherRings_signal (s : State) (r : Nat) (irq : Bool) : OtherRingsStand r s (s.signal r irq) := by
  have hcount : OtherRingsStand r s (s.unsignalled r) := otherRings_setRing rfl
  obtain h | h := signal_cases s r irq
  · rwa [h]
  · rw [h]
    exact hcount.trans (otherRings_interrupt _ r)

theorem ltpLines_only (s : State) (r : Nat) (slot : W32) (comp : Bytes) (out : Option Bytes) :
    Only lineParts s (s.ltpLines r slot comp out) := by
  unfold State.ltpLines
  split
  · exact Only.refl _ s
  · extract_lets place s1
    split
    · exact (unitPut_only s _ _ _ _).trans (unitPut_only s1 _ _ _ _)
    · exact unitPut_only s _ _ _ _

theorem ltpTo_only (s : State) (r typ arg : Nat) (body : Bytes) : Only [.out] s (s.ltpTo r typ arg body) := by
  unfold State.ltpTo
  split
  · exact only_out s _
  · exact Only.refl _ s

/-- R50: one completion leaves; no ring's waiting completions change. -/
theorem otherRings_putCompletion (s : State) (r : Nat) (p : Pending) : OtherRingsStand r s (s.putCompletion r p) := by
  unfold State.putCompletion
  extract_lets g phase pool s1 s2 s3 s4
  have h1 : OtherRingsStand r s s1 := by
    simp only [s1]
    split
    · exact .of_rings rfl
    · exact .refl r s
  have hg : g.relq = (s1.ringAt r).relq := ((h1 r).1).symm
  split
  · exact h1.trans ((otherRings_setRing (g := { g with cqTail := g.cqTail + 1, inFlight := g.inFlight - 1 }) hg).trans
      ((OtherRingsStand.of_rings (t := s2.emit _) rfl).trans (otherRings_signal _ r _)))
  · have h3 : OtherRingsStand r s1 s3 := otherRings_setRing hg
    exact h1.trans (h3.trans ((OtherRingsStand.of_only (ltpLines_only s3 r _ _ _) (by decide)).trans
      (.of_only (ltpTo_only s4 r _ _ _) (by decide))))

theorem countFlush_only (s : State) (delivered : Bool) : Only [.pwr] s (s.countFlush delivered) := only_pwr s _

/-- R294: a completion that gate 112 refuses is reported and stops no job. -/
theorem refuse_host_only (s : State) (k : Access) (bad : Nat × Option Nat) : OtherRingsStand r s (s.refuse 112 k bad) := by
  unfold State.refuse
  extract_lets pick s1
  rw [if_neg (by decide), if_neg (by decide)]
  have hpick : OtherRingsStand r s pick.2 := by
    simp only [pick]
    split
    · exact .refl r s
    · exact .of_rings rfl
  exact hpick.trans (.of_only (violation_only _ _ _ _ _ _) (by decide))

/-- R59: one completion of the flush. -/
theorem otherRings_flushOne (failed : List (Nat × Nat)) (s : State) (p : Nat × Pending) :
    OtherRingsStand r s (State.flushOne failed r s p) := by
  unfold State.flushOne
  extract_lets gone
  have hgone (s : State) : OtherRingsStand r s (gone s) := by
    simp only [gone]
    split
    · exact .of_rings rfl
    · exact .refl r s
  have hlost (s : State) : OtherRingsStand r s ((gone s).countFlush false) :=
    (hgone s).trans (.of_only (countFlush_only _ false) (by decide))
  split
  · exact hlost s
  · split
    · exact (refuse_host_only s _ _).trans (hlost _)
    · split
      · exact hlost s
      · exact (otherRings_putCompletion s r _).trans (.of_only (countFlush_only _ true) (by decide))

/-- A ring without a completion that waits and with none of its barges in flight. -/
def Ring.flushed (g : Ring) : Prop := g.relq = [] ∧ g.inFlight = 0

/-- R59: a ring is flushed by its own flush, and another ring's flush leaves its completions alone. -/
theorem flushRing_rings (failed : List (Nat × Nat)) (s : State) (r : Nat) :
    ((s.flushRing failed r).ringAt r).flushed ∧ OtherRingsStand r (s.setRing r { s.ringAt r with relq := [] }) (s.flushRing failed r) := by
  unfold State.flushRing
  extract_lets g first all s1 s2
  have hset {x : State} (h : OtherRingsStand r (s.setRing r { s.ringAt r with relq := [] }) x) (y : Ring) (hy : y.relq = [])
      (hf : y.inFlight = 0) : ((x.setRing r y).ringAt r).flushed ∧
        OtherRingsStand r (s.setRing r { s.ringAt r with relq := [] }) (x.setRing r y) := by
    have hx : (x.ringAt r).relq = [] := by rw [(h r).1, State.ringAt_setRing]
    rw [State.ringAt_setRing]
    exact ⟨⟨hy, hf⟩, h.trans (otherRings_setRing (hy.trans hx.symm))⟩
  split
  · refine ⟨?_, fun q => ?_⟩
    · rw [State.ringAt_setRing]
      exact ⟨rfl, rfl⟩
    · by_cases hq : q = r
      · subst hq
        simp
      · simp [State.ringAt_setRing_ne _ _ _ _ hq]
  · have h1 : OtherRingsStand r (s.setRing r { s.ringAt r with relq := [] }) s1 := fun q => by
      by_cases hq : q = r
      · subst hq
        simp [s1]
      · simp [s1, State.ringAt_setRing_ne _ _ _ _ hq]
    have h2 : OtherRingsStand r (s.setRing r { s.ringAt r with relq := [] }) s2 :=
      h1.trans (OtherRingsStand.foldl (otherRings_flushOne failed) _ s1)
    exact hset h2 _ (by rw [(h2 r).1, State.ringAt_setRing]) rfl

theorem flushRing_keeps_flushed (failed : List (Nat × Nat)) (s : State) (r : Nat) {q : Nat} (hq : (s.ringAt q).flushed) :
    ((s.flushRing failed r).ringAt q).flushed := by
  obtain ⟨hself, hothers⟩ := flushRing_rings failed s r
  by_cases h : q = r
  · exact h ▸ hself
  · obtain ⟨hrelq, hflight⟩ := hothers q
    rw [State.ringAt_setRing_ne _ _ _ _ h] at hrelq hflight
    exact ⟨hrelq.trans hq.1, (hflight h).trans hq.2⟩

/-- R59: every ring of the flush is flushed. -/
theorem flushRings_flushed (failed : List (Nat × Nat)) (rs : List Nat) (s : State) {q : Nat} (hq : q ∈ rs ∨ (s.ringAt q).flushed) :
    ((rs.foldl (State.flushRing failed) s).ringAt q).flushed := by
  induction rs generalizing s with
  | nil => exact hq.resolve_left List.not_mem_nil
  | cons r rs ih =>
    refine ih _ ?_
    obtain hmem | hfl := hq
    · obtain rfl | hrest := List.mem_cons.1 hmem
      · exact .inr (flushRing_rings failed s q).1
      · exact .inl hrest
    · exact .inr (flushRing_keeps_flushed failed s r hfl)

/-! ### The end of HALT -/

/-- The sessions and links told of the halt, the sessions gone (R364). -/
def State.haltTold (s : State) : State :=
  let told := (s.wharf.sessions.filter fun p => decide (p.2.stage = .opened)).map fun p =>
    Emit.ltp p.1 0x21 0 0 ((s.pwr.halt.map HaltReport.bytes).getD (zeros 64))
  let s := (s.emits told).dropSessions fun _ => true
  s.linksUp.foldl (fun (s : State) l => s.sendOn l 0x04 0 (s.linkAt l).peer [BitVec.ofNat 8 s.index, 0]) s

/-- What the halt zeroes, but for the domains (R364). -/
def State.haltZeroed (s : State) : State :=
  let s := (s.linksOff.zeroRoots.enginesCleared).rngOff
  { s with
    lkm := { s.lkm with tbl := [] }
    mor := { s.mor with moorings := [], cache := [], pageIns := [], gathered := [], gatherFrom := none, sessions := [] }
    slu := { s.slu with lines := [] }
    log := { s.log with archive := [] }
    adm := { s.adm with permits := [], comps := [] }
    pwr := { s.pwr with flushing := false } }

theorem haltEnd_eq (s : State) : s.haltEnd = (((s.haltTold.haltZeroed).setDomains haltDomain).ethFollow 0).ethFollow 1 := rfl

theorem haltTold_sessions (s : State) : s.haltTold.wharf.sessions = [] := by
  unfold State.haltTold
  extract_lets told s1
  have h := Only.foldl (fun (s : State) l => sendOn_only s l 0x04 0 (s.linkAt l).peer [BitVec.ofNat 8 s.index, 0]) s1.linksUp s1
  rw [h .wharf (by decide)]
  exact dropSessions_all _

theorem haltTold_flushed {q : Nat} (hq : (s.ringAt q).flushed) : (s.haltTold.ringAt q).flushed := by
  unfold State.haltTold
  extract_lets told s1
  have h := Only.foldl (fun (s : State) l => sendOn_only s l 0x04 0 (s.linkAt l).peer [BitVec.ofNat 8 s.index, 0]) s1.linksUp s1
  obtain ⟨hrelq, hflight⟩ := dropSessions_relq (s.emits told) (fun _ => true) q
  have hs1 : (s1.ringAt q).flushed := ⟨hrelq.trans hq.1, hflight.trans hq.2⟩
  rw [State.ringAt, h .rings (by decide)]
  exact hs1

/-- R364: what the end of HALT leaves of the state. -/
theorem haltZeroed_spec (s : State) : let t := s.haltZeroed
    t.pwr.flushing = false ∧ t.lkm.tbl = [] ∧ t.sram = [] ∧ t.mor.moorings = [] ∧ t.slu.lines = [] ∧ t.slu.keys = [] ∧
      t.root.cr = none ∧ t.adm.permits = [] ∧ t.wharf = s.wharf ∧ t.rings = s.rings := by
  have hrng : Only [.rng] (s.linksOff.zeroRoots.enginesCleared) ((s.linksOff.zeroRoots.enginesCleared).rngOff) := rngOff_only _
  unfold State.haltZeroed
  generalize (s.linksOff.zeroRoots.enginesCleared).rngOff = s1 at *
  exact ⟨rfl, rfl, hrng .sram (by decide), rfl, rfl, congrArg Slu.keys (hrng .slu (by decide)), congrArg Root.cr (hrng .root (by decide)),
    rfl, hrng .wharf (by decide), hrng .rings (by decide)⟩

theorem haltEnd_spec (s : State) : let t := s.haltEnd
    t.pwr.flushing = false ∧ t.lkm.tbl = [] ∧ t.sram = [] ∧ t.mor.moorings = [] ∧ t.slu.lines = [] ∧ t.slu.keys = [] ∧ t.root.cr = none ∧
      t.wharf.sessions = [] ∧ t.adm.permits = [] ∧ (∀ q, (s.ringAt q).flushed → (t.ringAt q).flushed) ∧
      ∀ d, d < 72 → (t.domAt d).st = haltDomain d ∨ (t.domAt d).st = .failed := by
  obtain ⟨hflushing, htbl, hsram, hmoor, hlines, hkeys, hcr, hpermits, hwharf, hrings⟩ := haltZeroed_spec s.haltTold
  have hsessions := haltTold_sessions s
  have hflushed (q : Nat) := haltTold_flushed (s := s) (q := q)
  rw [haltEnd_eq]
  generalize s.haltTold = a at *
  generalize a.haltZeroed = b at *
  have heth : Only [.wharf] (b.setDomains haltDomain) (((b.setDomains haltDomain).ethFollow 0).ethFollow 1) :=
    (ethFollow_only _ 0).trans (ethFollow_only _ 1)
  have hethSessions : (((b.setDomains haltDomain).ethFollow 0).ethFollow 1).wharf.sessions = b.wharf.sessions :=
    (ethFollow_sessions _ 1).trans (ethFollow_sessions _ 0)
  generalize ((b.setDomains haltDomain).ethFollow 0).ethFollow 1 = t at *
  have hbt : Only [.pwr, .wharf] b t := ((setDomains_only b haltDomain).mono (by simp)).trans (heth.mono (by simp))
  have hpwr : t.pwr = (b.setDomains haltDomain).pwr := heth .pwr (by decide)
  dsimp only
  rw [hbt .lkm (by decide), hbt .sram (by decide), hbt .mor (by decide), hbt .slu (by decide), hbt .root (by decide),
    hbt .adm (by decide), hethSessions, hwharf, hpwr]
  refine ⟨hflushing, htbl, hsram, hmoor, hlines, hkeys, hcr, hsessions, hpermits, fun q hq => ?_, fun d hd => ?_⟩
  · have hq' := hflushed q hq
    rw [State.ringAt, hbt .rings (by decide), hrings]
    exact hq'
  · simp only [State.domAt, hpwr]
    exact setDomains_st b haltDomain hd

/-- R59, R364: what HALT_FLUSH_DONE leaves. -/
theorem haltFlushDone_clears (failed : List (Nat × Nat)) (hf : s.pwr.flushing = true) : Completes (.haltFlushDone failed) s fun t =>
    t.pwr.flushing = false ∧ t.lkm.tbl = [] ∧ t.sram = [] ∧ t.mor.moorings = [] ∧ t.slu.lines = [] ∧ t.slu.keys = [] ∧ t.root.cr = none ∧
    t.wharf.sessions = [] ∧ t.adm.permits = [] ∧ (∀ r g, (r, g) ∈ s.rings → (t.ringAt r).relq = [] ∧ (t.ringAt r).inFlight = 0) ∧
    ∀ d, d < 72 → (t.domAt d).st = haltDomain d ∨ (t.domAt d).st = .failed := by
  obtain ⟨hflushing, htbl, hsram, hmoor, hlines, hkeys, hcr, hsessions, hpermits, hrings, hdoms⟩ :=
    haltEnd_spec ((s.rings.map Prod.fst).foldl (State.flushRing failed) s)
  refine ⟨_, congrArg Host.Outcome.next (if_pos hf), hflushing, htbl, hsram, hmoor, hlines, hkeys, hcr, hsessions, hpermits,
    fun r g hrg => hrings r (flushRings_flushed failed _ s (.inl (List.mem_map_of_mem hrg))), hdoms⟩

end Flush

/-- Settles O46, mode by mode: a request is answered at once or taken; what the drain, the flush and a reset leave is read off the frames of
their steps, and no lane or tile that failed its self-check serves after a resume, for only a spare one can join a group. -/
theorem modesChangeOnRequest : Obligations.ModesChangeOnRequest := by
  unfold Obligations.ModesChangeOnRequest
  refine ⟨fun s p hp => ⟨fun c hc => ⟨fun ht => ?_, fun ht hm => ?_⟩, fun ht hm hs hcl => dormantRequest_drains hp ht hm hs hcl,
      fun ht hm => resumeRequest_resumes hp ht hm, fun hh hs => haltRequest_halts hp hh hs, fun ht hm => resetRequest_resets hp ht hm⟩,
    fun s limit ht => ⟨fun hd hl => dormantDrainDone_dormant ht hd hl, fun h => ?_, fun hl => drainTimeout_resumes ht hl, fun hl => ?_⟩,
    fun s images lanes tiles engines ht => ⟨fun hi hp => ⟨fun hr => resumeComplete_serves ht hi hp hr,
      fun hr => resumeComplete_waits ht hi hp hr⟩, fun trained hf => resumeComplete_fails ht hf⟩,
    fun s failed hf => haltFlushDone_clears failed hf⟩
  · exact ⟨_, request_busy hp ht hc, answered_at_once s c.1 4⟩
  · exact ⟨_, request_wrongMode hp ht hc hm, answered_at_once s c.1 3⟩
  · refine (exec_dormantDrainDone ht).trans (congrArg Host.Outcome.next (if_neg fun hd => ?_))
    obtain hnot | hlate := h
    · simp [hnot] at hd
    · omega
  · exact (exec_drainTimeout ht).trans (congrArg Host.Outcome.next (if_neg (by omega)))

end Sys2Proof.Machine

/-! SUPPORT. Connections, handshakes and sessions (R389 to R391, R394). -/
namespace Sys2Proof.Machine

section Sessions

variable {s : State} {n port : Nat} {x : Session}

/-! ### Connections and control packets -/

theorem exec_tcpConnect (hp : port < 2) (hup : s.ethUp port = true) (hs : s.pwr.stopped.contains (0x29 + port) = false) :
    exec (.tcpConnect port) s = .next (
      if 4096 ≤ s.wharf.sessions.length then s.emit (.tcp port s.wharf.sessionNext 1)
      else
        let t := s.putSession s.wharf.sessionNext { port := port, traffic := s.now }
        ({ t with wharf := { t.wharf with sessionNext := s.wharf.sessionNext + 1 } }).emit (.tcp port s.wharf.sessionNext 0)) :=
  congrArg Host.Outcome.next (if_neg (by rw [hup, hs]; simp [hp]))

theorem exec_controlPacket (hup : s.ethUp port = true) : exec (.controlPacket port) s = .next (
    let sec := s.now / 100000000
    let c := tget (sec, 0) port s.wharf.control
    let k := if c.1 = sec then c.2 else 0
    if 1000 ≤ k then s
    else ({ s with wharf := { s.wharf with control := Tbl.put port (sec, k + 1) s.wharf.control } }).emit (.control port (s.macOf port))) :=
  congrArg Host.Outcome.next (if_neg (by simp [hup]))

/-! ### A session -/

theorem exec_tcpKeepalive (hx : Tbl.find n s.wharf.sessions = some x) : exec (.tcpKeepalive n) s = .next (
    if x.traffic + 6000000000 ≤ s.now then s.emit (.tcp x.port n 3) else s) := by
  change Host.Outcome.next (match s.sessionAt n with | some x => _ | none => _) = _
  rw [show s.sessionAt n = some x from hx]

theorem exec_tlsKeyUpdate (hx : Tbl.find n s.wharf.sessions = some x) (ho : x.stage = .opened) : exec (.tlsKeyUpdate n) s = .next (
    s.putSession n { x with rxKey := Config.tlsTrafficKey x.rxKey (x.rxGen + 4), rxGen := x.rxGen + 1, traffic := s.now }) := by
  refine congrArg Host.Outcome.next ?_
  rw [show s.sessionAt n = some x from hx]
  exact if_pos ho

/-- R394: a session dropped is gone, its rings are bound to none, and its client is told. -/
theorem dropSession_ends (hx : Tbl.find n s.wharf.sessions = some x) (what : Nat) : let t := s.dropSession n what
    Tbl.find n t.wharf.sessions = none ∧
      (∀ r, t.ringAt r = if (s.ringAt r).bound = some n then { s.ringAt r with bound := none } else s.ringAt r) ∧
      t.out = s.out ++ [.tls n what, .tcp x.port n 2] := by
  refine ⟨?_, fun r => dropSession_ringAt hx what r, ?_⟩
  · rw [dropSession_wharf, ← Tbl.del_eq_filter]
    exact Tbl.find_del n _
  · unfold State.dropSession
    rw [show s.sessionAt n = some x from hx]
    rfl

/-- R391: a handshake that fails is counted, and its session is gone. -/
theorem handshakeFails_spec (s : State) (n what : Nat) : let t := s.handshakeFails n what
    Tbl.find n t.wharf.sessions = none ∧ t.wharf.hsFailed = satAdd 16 s.wharf.hsFailed 1 ∧ Only [.wharf, .rings, .out] s t := by
  refine ⟨?_, ?_, ((only_wharf s _).mono (by simp)).trans (dropSession_only _ n what)⟩
  · rw [State.handshakeFails, dropSession_wharf, ← Tbl.del_eq_filter]
    exact Tbl.find_del n _
  · rw [State.handshakeFails, dropSession_wharf]

theorem exec_handshakeTimeout (hx : Tbl.find n s.wharf.sessions = some x) {since : Nat} (hst : x.stage = .handshake since)
    (hlate : since + 100000 * (s.cfg.iface.map (·.hsMs)).getD 0 ≤ s.now) :
    exec (.handshakeTimeout n) s = .next (s.handshakeFails n 4) := by
  refine congrArg Host.Outcome.next ?_
  rw [show s.sessionAt n = some x from hx]
  dsimp only
  rw [hst]
  exact if_pos hlate

/-! ### The handshake -/

theorem sessionTraffic_only (s : State) (n : Nat) : Only [.wharf] s (s.sessionTraffic n) := by
  unfold State.sessionTraffic
  split
  · exact only_wharf s _
  · exact Only.refl _ s

theorem sessionTraffic_hsFailed (s : State) (n : Nat) : (s.sessionTraffic n).wharf.hsFailed = s.wharf.hsFailed := by
  unfold State.sessionTraffic
  split <;> rfl

/-- The handshake whose ClientHello has come (R390): its time limit counts from the first. -/
def Session.hailed (x : Session) (now : Nat) : Session :=
  { x with
    stage := .handshake (match x.stage with
      | .handshake t => t
      | _ => now)
    traffic := now }

/-- R390: what a ClientHello does on a session without a transcript. -/
theorem exec_tlsClientHello {i : IfaceCfg} (hx : Tbl.find n s.wharf.sessions = some x) (hi : s.cfg.iface = some i) (ho : x.stage ≠ .opened)
    (ht : x.transcript = []) (hello : Bytes) : exec (.tlsClientHello n hello) s = .next (
      let u := s.sessionTraffic n
      if Config.helloOk hello = false then u.handshakeFails n 6
      else if ((Config.helloAlpn hello == 2 && i.ltpV2) || (Config.helloAlpn hello == 1 && i.ltpV1)) = false then u.handshakeFails n 5
      else if Config.helloShare hello = false then (u.putSession n (x.hailed u.now)).emit (.tls n 1)
      else if u.resident i.serverKey = false then (u.putSession n (x.hailed u.now)).startPageIns [i.serverKey]
      else match (u.draw 80 64).1 with
        | .bytes bs =>
          (((u.draw 80 64).2.putSession n { x.hailed u.now with
            v2 := Config.helloAlpn hello == 2, transcript := hello ++ bs, rxKey := Config.tlsTrafficKey (hello ++ bs) 0,
            txKey := Config.tlsTrafficKey (hello ++ bs) 1 }).emit (.tls n 0))
        | _ => u.putSession n (x.hailed u.now)) := by
  refine congrArg Host.Outcome.next ?_
  rw [show s.sessionAt n = some x from hx, hi]
  dsimp only
  exact if_neg (by simp [ho, ht])

/-- R391: what the client's flight does on a session with a transcript. -/
theorem exec_clientFinished {i : IfaceCfg} (hx : Tbl.find n s.wharf.sessions = some x) (hi : s.cfg.iface = some i) {since : Nat}
    (hst : x.stage = .handshake since) (ht : x.transcript ≠ []) (chain : List Bytes) (flight : Bytes) :
    exec (.clientFinished n chain flight) s = .next (
      let u := s.sessionTraffic n
      match (if chain = [] ∨ 3 < chain.length then none
        else Config.tlsClientTenant (chain.flatMap fun c => toLE 4 c.length ++ c) i.anchors i.oid u.calendarNow : Option Nat) with
      | some tenant =>
        if 4096 ≤ tenant ∨ Config.tlsFinishedOk (x.transcript ++ flight) = false then u.handshakeFails n 6
        else
          (if u.adm.calendar.isNone then u.logEvent .interface 14 n 0 else u).putSession n { x with
            stage := .opened, tenant := tenant, transcript := [], rxKey := Config.tlsTrafficKey (x.transcript ++ flight) 2, rxGen := 0
            txKey := Config.tlsTrafficKey (x.transcript ++ flight) 3, txGen := 0
            traffic := (if u.adm.calendar.isNone then u.logEvent .interface 14 n 0 else u).now }
      | none => u.handshakeFails n 6) := by
  refine congrArg Host.Outcome.next ?_
  rw [show s.sessionAt n = some x from hx, hi]
  dsimp only
  rw [hst]
  dsimp only
  rw [if_neg ht] <;> rfl

/-- R261 to R263: what a draw answers. -/
theorem draw_answer (s : State) (k m : Nat) : (s.draw k m).1 =
    if (s.drbgAt (homeDrbg k)).st = .rawBlocked then .rawBlocked
    else if s.serves (homeDrbg k) then .bytes (fixLen m (Config.drbgGenerate (s.drbgAt (homeDrbg k)).v m)) else .again := by
  unfold State.draw
  extract_lets i d
  by_cases hblocked : d.st = .rawBlocked
  · rw [if_pos hblocked, if_pos hblocked]
  · rw [if_neg hblocked, if_neg hblocked]
    by_cases hserves : s.serves i = true
    · rw [if_pos hserves, if_pos hserves]
    · rw [if_neg hserves, if_neg hserves]

/-- A change of the Wharf alone changes no draw (R261 to R263). -/
theorem draw_of_wharf {u : State} (h : Only [.wharf] s u) (k m : Nat) :
    (u.draw k m).1 = (s.draw k m).1 ∧ Only [.wharf, .rng] s (u.draw k m).2 := by
  have hrng : u.rng = s.rng := h .rng (by decide)
  have hclock : u.clock = s.clock := h .clock (by decide)
  refine ⟨?_, ?_⟩
  · simp only [draw_answer, State.drbgAt, State.serves, State.now, hrng, hclock]
    rfl
  · refine (h.mono (by simp)).trans ?_
    unfold State.draw
    extract_lets i d
    repeat' split
    · exact Only.refl _ u
    · exact (only_rng u _).mono (by simp)
    · exact Only.refl _ u

theorem resident_of_wharf {u : State} (h : Only [.wharf] s u) (k : Nat) : u.resident k = s.resident k := by
  have hmor : u.mor = s.mor := h .mor (by decide)
  simp only [State.resident, State.mooringOf, hmor]

/-- A session put in the place of another is found (R389). -/
theorem putSession_find (s : State) (n : Nat) (x : Session) : Tbl.find n (s.putSession n x).wharf.sessions = some x := Tbl.find_put n x _

/-- A handshake that fails after its session's traffic (R390, R391). -/
theorem trafficFails_spec (s : State) (n what : Nat) : Tbl.find n ((s.sessionTraffic n).handshakeFails n what).wharf.sessions = none ∧
    ((s.sessionTraffic n).handshakeFails n what).wharf.hsFailed = satAdd 16 s.wharf.hsFailed 1 := by
  obtain ⟨hgone, hcount, -⟩ := handshakeFails_spec (s.sessionTraffic n) n what
  rw [sessionTraffic_hsFailed] at hcount
  exact ⟨hgone, hcount⟩

/-- R390: a ClientHello that is not acceptable, or names no enabled protocol, fails the handshake. -/
theorem clientHello_fails {i : IfaceCfg} (hx : Tbl.find n s.wharf.sessions = some x) (hi : s.cfg.iface = some i) (ho : x.stage ≠ .opened)
    (ht : x.transcript = []) {hello : Bytes} (hbad : Config.helloOk hello = false ∨
      ((Config.helloAlpn hello == 2 && i.ltpV2) || (Config.helloAlpn hello == 1 && i.ltpV1)) = false) :
    ∃ what, exec (.tlsClientHello n hello) s = .next ((s.sessionTraffic n).handshakeFails n what) := by
  rw [exec_tlsClientHello hx hi ho ht]
  dsimp only
  by_cases hok : Config.helloOk hello = false
  · exact ⟨6, by rw [if_pos hok]⟩
  · exact ⟨5, by rw [if_neg hok, if_pos (hbad.resolve_left hok)]⟩

/-- R390: the server flight of an acceptable ClientHello. -/
theorem clientHello_answers {i : IfaceCfg} (hx : Tbl.find n s.wharf.sessions = some x) (hi : s.cfg.iface = some i) (ho : x.stage ≠ .opened)
    (ht : x.transcript = []) {hello bs : Bytes} (hok : Config.helloOk hello = true)
    (hknown : ((Config.helloAlpn hello == 2 && i.ltpV2) || (Config.helloAlpn hello == 1 && i.ltpV1)) = true)
    (hshare : Config.helloShare hello = true) (hkey : s.resident i.serverKey = true) (hdraw : (s.draw 80 64).1 = .bytes bs) :
    Completes (.tlsClientHello n hello) s fun t => ∃ y, Tbl.find n t.wharf.sessions = some y ∧ y.transcript = hello ++ bs ∧
      y.stage ≠ .opened ∧ y.v2 = (Config.helloAlpn hello == 2) ∧ t.out = s.out ++ [.tls n 0] := by
  have hu := sessionTraffic_only s n
  obtain ⟨hbytes, honly⟩ := draw_of_wharf hu 80 64
  have hexec := exec_tlsClientHello hx hi ho ht hello
  dsimp only at hexec
  rw [if_neg (by simp [hok]), if_neg (by simp [hknown]), if_neg (by simp [hshare]), resident_of_wharf hu, if_neg (by simp [hkey]),
    hbytes, hdraw] at hexec
  refine ⟨_, hexec, _, putSession_find _ n _, rfl, ?_, rfl, ?_⟩
  · simp [Session.hailed]
  · exact congrArg (· ++ [_]) (honly .out (by decide))

theorem clientFinished_fails {i : IfaceCfg} (hx : Tbl.find n s.wharf.sessions = some x) (hi : s.cfg.iface = some i) {since : Nat}
    (hst : x.stage = .handshake since) (ht : x.transcript ≠ []) {chain : List Bytes} (hc : chain = [] ∨ 3 < chain.length)
    (flight : Bytes) : exec (.clientFinished n chain flight) s = .next ((s.sessionTraffic n).handshakeFails n 6) := by
  have hexec := exec_clientFinished hx hi hst ht chain flight
  dsimp only at hexec
  rwa [if_pos hc] at hexec

/-- R391: chain and Finished verified open the session. -/
theorem clientFinished_opens {i : IfaceCfg} (hx : Tbl.find n s.wharf.sessions = some x) (hi : s.cfg.iface = some i) {since : Nat}
    (hst : x.stage = .handshake since) (ht : x.transcript ≠ []) {chain : List Bytes} {flight : Bytes} {tenant : Nat}
    (hc : ¬ (chain = [] ∨ 3 < chain.length)) (htenant : tenant < 4096) (hfin : Config.tlsFinishedOk (x.transcript ++ flight) = true)
    (hwho : Config.tlsClientTenant (chain.flatMap fun c => toLE 4 c.length ++ c) i.anchors i.oid s.calendarNow = some tenant) :
    Completes (.clientFinished n chain flight) s fun t =>
      ∃ y, Tbl.find n t.wharf.sessions = some y ∧ y.stage = .opened ∧ y.tenant = tenant ∧ y.transcript = [] := by
  have hu := sessionTraffic_only s n
  have hcal : (s.sessionTraffic n).calendarNow = s.calendarNow := by
    have hadm : (s.sessionTraffic n).adm = s.adm := hu .adm (by decide)
    have hclock : (s.sessionTraffic n).clock = s.clock := hu .clock (by decide)
    simp only [State.calendarNow, State.now, hadm, hclock]
  have hexec := exec_clientFinished hx hi hst ht chain flight
  dsimp only at hexec
  rw [if_neg hc, hcal, hwho] at hexec
  dsimp only at hexec
  rw [if_neg (not_or.2 ⟨by omega, by simp [hfin]⟩)] at hexec
  exact ⟨_, hexec, _, putSession_find _ n _, rfl, rfl, rfl⟩

end Sessions

/-- Settles O50, command by command: what each does with the session found is read off its definition; a handshake that fails, a late one
and a close all end in one lemma about a session dropped. -/
theorem tcpAndTlsSessions : Obligations.TcpAndTlsSessions := by
  unfold Obligations.TcpAndTlsSessions
  refine ⟨fun s port hup => ⟨fun hp hs => ⟨fun hfull => ?_, fun hroom => ?_⟩, fun hk => ?_, fun hk => ?_⟩,
    fun s n x hx => ⟨fun hidle => ?_, fun ho => exec_tlsKeyUpdate hx ho, ?_, fun since hst hlate => ?_, fun i hello hi ho ht => ?_,
      fun i since chain flight hi hst ht => ?_⟩⟩
  · exact (exec_tcpConnect hp hup hs).trans (congrArg Host.Outcome.next (if_pos hfull))
  · exact (exec_tcpConnect hp hup hs).trans (congrArg Host.Outcome.next (if_neg (by omega)))
  · exact (exec_controlPacket hup).trans (congrArg Host.Outcome.next (if_neg (by omega)))
  · exact (exec_controlPacket hup).trans (congrArg Host.Outcome.next (if_pos hk))
  · exact (exec_tcpKeepalive hx).trans (congrArg Host.Outcome.next (if_pos hidle))
  · obtain ⟨hgone, hrings, hout⟩ := dropSession_ends hx 3
    exact ⟨_, rfl, hgone, hrings, hout, dropSession_only s n 3⟩
  · exact ⟨_, exec_handshakeTimeout hx hst hlate, handshakeFails_spec s n 4⟩
  · dsimp only
    by_cases hbad : Config.helloOk hello = false ∨
        ((Config.helloAlpn hello == 2 && i.ltpV2) || (Config.helloAlpn hello == 1 && i.ltpV1)) = false
    · obtain ⟨what, hexec⟩ := clientHello_fails hx hi ho ht hbad
      refine ⟨_, hexec, fun _ => trafficFails_spec s n what, fun bs hok hknown => ?_⟩
      simp [hok, hknown] at hbad
    · by_cases hall : Config.helloShare hello = true ∧ s.resident i.serverKey = true ∧ ∃ bs, (s.draw 80 64).1 = .bytes bs
      · obtain ⟨hshare, hkey, bs, hdraw⟩ := hall
        obtain ⟨hok, hknown⟩ := not_or.1 hbad
        obtain ⟨t, hexec, ht'⟩ := clientHello_answers hx hi ho ht (eq_true_of_ne_false hok) (eq_true_of_ne_false hknown) hshare hkey hdraw
        refine ⟨t, hexec, fun h => absurd h hbad, fun bs' _ _ _ _ hdraw' => ?_⟩
        rw [hdraw] at hdraw'
        cases hdraw'
        exact ht'
      · exact ⟨_, exec_tlsClientHello hx hi ho ht hello, fun h => absurd h hbad,
          fun bs _ _ hshare hkey hdraw => absurd ⟨hshare, hkey, bs, hdraw⟩ hall⟩
  · by_cases hc : chain = [] ∨ 3 < chain.length
    · refine ⟨_, clientFinished_fails hx hi hst ht hc flight, fun _ => trafficFails_spec s n 6, fun tenant hne hle => ?_⟩
      exact absurd hc (not_or.2 ⟨hne, by omega⟩)
    · by_cases hall : ∃ tenant, tenant < 4096 ∧ Config.tlsFinishedOk (x.transcript ++ flight) = true ∧
          Config.tlsClientTenant (chain.flatMap fun c => toLE 4 c.length ++ c) i.anchors i.oid s.calendarNow = some tenant
      · obtain ⟨tenant, htenant, hfin, hwho⟩ := hall
        obtain ⟨t, hexec, ht'⟩ := clientFinished_opens hx hi hst ht hc htenant hfin hwho
        refine ⟨t, hexec, fun h => absurd h hc, fun tenant' _ _ _ _ hwho' => ?_⟩
        rw [hwho] at hwho'
        cases hwho'
        exact ht'
      · exact ⟨_, exec_clientFinished hx hi hst ht chain flight, fun h => absurd h hc,
          fun tenant _ _ htenant hfin hwho => absurd ⟨tenant, htenant, hfin, hwho⟩ hall⟩

end Sys2Proof.Machine

/-! SUPPORT. Clusters (R407 to R418): what a message leaves, membership and the map, forwarding and replication. -/
namespace Sys2Proof.Machine

/-! ### Messages to other devices -/

section Messages

variable {s t u : State}

/-- Only the Broviry links, and what leaves by them, differ (R401). -/
def LinksOnly (s t : State) : Prop := Only [.brv, .out] s t ∧ t.brv = { s.brv with links := t.brv.links }

theorem LinksOnly.refl (s : State) : LinksOnly s s := ⟨Only.refl _ s, rfl⟩

theorem LinksOnly.trans (h : LinksOnly s t) (h' : LinksOnly t u) : LinksOnly s u :=
  ⟨h.1.trans h'.1, h'.2.trans (congrArg (fun b : Brv => { b with links := u.brv.links }) h.2)⟩

theorem LinksOnly.foldl {α : Type} {f : State → α → State} (hf : ∀ s x, LinksOnly s (f s x)) (xs : List α) (s : State) :
    LinksOnly s (xs.foldl f s) := by
  induction xs generalizing s with
  | nil => exact .refl s
  | cons x xs ih => exact (hf s x).trans (ih _)

theorem linksOnly_setLink (s : State) (l : Nat) (k : BLink) : LinksOnly s (s.setLink l k) := ⟨(only_brv s _).mono (by simp), rfl⟩

theorem linksOnly_emit (s : State) (e : Emit) : LinksOnly s (s.emit e) := ⟨(only_out s _).mono (by simp), rfl⟩

theorem linksOnly_sendMsg (s : State) (l : Nat) (m : LinkMsg) : LinksOnly s (s.sendMsg l m) :=
  (linksOnly_setLink s l _).trans (linksOnly_emit _ _)

theorem linksOnly_pumpLink (l fuel : Nat) (s : State) : LinksOnly s (State.pumpLink l fuel s) := by
  induction fuel generalizing s with
  | zero => exact .refl s
  | succ fuel ih =>
    unfold State.pumpLink
    dsimp only
    split
    · exact .refl s
    · exact (linksOnly_setLink s l _).trans ((linksOnly_sendMsg _ l _).trans (ih _))

theorem linksOnly_sendOn (s : State) (l typ vc dst : Nat) (payload : Bytes) : LinksOnly s (s.sendOn l typ vc dst payload) := by
  unfold State.sendOn State.queueOn
  dsimp only
  split
  · exact .refl s
  · exact (linksOnly_setLink s l _).trans (linksOnly_pumpLink l _ _)

theorem linksOnly_sendTo (s : State) (typ vc dst : Nat) (payload : Bytes) : LinksOnly s (s.sendTo typ vc dst payload) := by
  unfold State.sendTo
  split
  · exact .refl s
  · exact LinksOnly.foldl (fun s p => linksOnly_sendOn s _ typ vc dst p) _ s

theorem linksOnly_sendBarge (s : State) (d : Nat) (e : Entry) (input : Bytes) : LinksOnly s (s.sendBarge d e input) := by
  unfold State.sendBarge
  extract_lets f s1
  split
  · exact linksOnly_sendTo s _ _ _ _
  · exact (linksOnly_sendTo s _ _ _ _).trans (linksOnly_sendTo s1 _ _ _ _)

theorem linksOnly_tellHeads (s : State) (c : ClusterCfg) (joins : Bool) : LinksOnly s (s.tellHeads c joins) :=
  LinksOnly.foldl (fun s h => linksOnly_sendTo s _ _ h _) _ s

end Messages

/-! ### Membership and the map (R408, R416, R418) -/

section Map

variable {s : State} {c : ClusterCfg}

/-- R408: a decided change joins those that wait, its switch tick 2,000 ticks on. -/
theorem decide_spec (s : State) (u : MapUpdate) : let t := s.decide_ u
    t.brv.updates = s.brv.updates ++ [{ u with tick := s.now + 2000 }] ∧ Only [.brv, .out, .log] s t := by
  unfold State.decide_
  extract_lets u1 brv s1 to_
  have h1 : Only [.brv] s s1 := only_brv s _
  obtain ⟨honly, hbrv⟩ := LinksOnly.foldl (fun s d => linksOnly_sendTo s 0x03 0 d u1.payload) to_ s1
  have hlog := logEvent_only (to_.foldl (fun (s : State) d => s.sendTo 0x03 0 d u1.payload) s1) .interface 20 (maskOf u1.lost) (maskOf u1.joined)
  refine ⟨?_, (h1.mono (by simp)).trans ((honly.mono (by simp)).trans (hlog.mono (by simp)))⟩
  rw [hlog .brv (by decide), hbrv]

theorem declareLost_decides {d : Nat} (hm : s.isMember d = true) (hd : s.deciding d = false) :
    s.declareLost [d] = s.decide_ ⟨[d], [], [], [], 0⟩ := by
  unfold State.declareLost
  simp [hm, hd]

theorem haltNotice_declares (hc : s.cfg.cluster = some c) {d : Nat} (w : Bool) (hst : s.brv.st = .member) (hm : s.isMember d = true)
    (hd : s.deciding d = false) (hh : lowestHead c (s.members.filter (· != d)) = some c.index) :
    exec (.haltNoticeReceive d w) s = .next (s.decide_ ⟨[d], [], [], [], 0⟩) := by
  refine congrArg Host.Outcome.next ?_
  rw [hc]
  dsimp only
  rw [if_neg (by simp [hst, hm]), hh]
  dsimp only
  rw [if_pos rfl, declareLost_decides hm hd]

theorem index_of_cluster (hc : s.cfg.cluster = some c) : s.index = c.index := by simp [State.index, hc]

theorem resyncComplete_decides (hc : s.cfg.cluster = some c) {b : Nat} (hst : s.brv.st = .member) (hb : (s.bucketAt b).st = .resync)
    (hcoord : s.brv.coord = c.index) (hu : (s.brv.updates.any fun u => u.resynced.contains b) = false) :
    exec (.resyncComplete b) s = .next (s.decide_ ⟨[], [], [], [b], 0⟩) := by
  refine congrArg Host.Outcome.next ?_
  dsimp only
  rw [if_neg (by simp [hst, hb]), if_pos (by rw [index_of_cluster hc, hcoord]), if_neg (by rw [hu]; exact Bool.false_ne_true)]

theorem gather_only (s : State) (x : Commit) : Only [.mor] s (s.gather x) := only_mor s _

/-- R414: commits that wait no more for lost devices change, of the cluster's state, those that wait and the count of degraded ones. -/
theorem replicasLost_brv (s : State) (ds : List Nat) : (s.replicasLost ds).brv =
    { s.brv with awaiting := (s.replicasLost ds).brv.awaiting, degradedCount := (s.replicasLost ds).brv.degradedCount } := by
  unfold State.replicasLost
  extract_lets gone left alone brv s1
  have h1 : s1.brv = { s.brv with awaiting := s1.brv.awaiting, degradedCount := s1.brv.degradedCount } := rfl
  generalize alone.eraseDups = cs
  generalize s1 = s1 at *
  induction cs generalizing s1 with
  | nil => exact h1
  | cons x cs ih =>
    refine ih _ ?_
    rw [gather_only _ _ .brv (by decide)]
    split
    · exact h1
    · exact congrArg (fun b : Brv => { b with degradedCount := satAdd 16 s1.brv.degradedCount 1 }) h1

/-- R408: the switch of a founded cluster's map. -/
theorem switchMap_spec (u : MapUpdate) (hv : s.brv.mapVersion ≠ 0) (hl : u.lost.contains c.index = false) : let t := s.switchMap c u
    let live := (s.members.filter fun d => !(u.lost ++ u.leaving).contains d) ++ u.joined
    t.brv.updates = s.brv.updates ∧ t.brv.mapVersion = (s.brv.mapVersion + 1) % 2 ^ 16 ∧ t.brv.map = mapAfter (c.x * c.y) u s.brv.map ∧
      t.brv.live = BitVec.ofNat 64 (maskOf live) ∧ t.brv.coord = (lowestHead c live).getD 0xFF := by
  unfold State.switchMap
  extract_lets n away live founding map st brv s1 s2 s3 t live'
  have hfounding : founding = false := decide_eq_false hv
  have hbrv : s3.brv = { s1.brv with
      awaiting := (s1.replicasLost away).brv.awaiting, degradedCount := (s1.replicasLost away).brv.degradedCount } :=
    (logEvent_only s2 _ _ _ _ .brv (by decide)).trans (replicasLost_brv s1 away)
  have ht : t = s3 := if_neg (by rw [hl]; exact Bool.false_ne_true)
  rw [ht, hbrv]
  refine ⟨rfl, rfl, ?_, rfl, rfl⟩
  change map = _
  simp only [map, hfounding]
  rfl

theorem exec_mapSwitch (hc : s.cfg.cluster = some c) {u : MapUpdate} {rest : List MapUpdate} (hu : s.brv.updates = u :: rest)
    (ht : u.tick ≤ s.now) (hst : s.brv.st ≠ .withdrawn) (hs : s.brv.settle = none) :
    exec .mapSwitch s = .next (({ s with brv := { s.brv with updates := rest } } : State).switchMap c u) := by
  have hsettled : s.settled = s := by
    unfold State.settled
    rw [hs]
  refine congrArg Host.Outcome.next ?_
  dsimp only
  rw [hsettled, hc, hu]
  exact if_pos ⟨ht, hst⟩

/-- R418: the keys that a joining device founded are forgotten. -/
theorem discardFounded_store (s : State) (c : ClusterCfg) {p : Nat × StoreEntry} (hp : p ∈ (s.discardFounded c).mor.store) :
    foundingHome (c.x * c.y) (bucketOf p.1) ≠ c.index ∧ foundingReplica (c.x * c.y) (bucketOf p.1) ≠ c.index := by
  have hmem := List.mem_filter.1 hp
  simpa using hmem.2

theorem exec_clusterJoin (hc : s.cfg.cluster = some c) (hst : s.brv.st = .forming ∨ s.brv.st = .joining ∨ s.brv.st = .left) :
    exec .clusterJoin s = .next (({ s.discardFounded c with
      brv := { s.brv with st := .joining, linked := [], updates := [] } } : State).tellHeads c true) := by
  refine congrArg Host.Outcome.next ?_
  rw [hc]
  exact if_pos hst

theorem clusterJoin_joins (hc : s.cfg.cluster = some c) (hst : s.brv.st = .forming ∨ s.brv.st = .joining ∨ s.brv.st = .left) :
    Completes .clusterJoin s fun t => t.brv.st = .joining ∧ t.brv.linked = [] ∧ t.brv.updates = [] ∧
      ∀ p ∈ t.mor.store, foundingHome (c.x * c.y) (bucketOf p.1) ≠ c.index ∧ foundingReplica (c.x * c.y) (bucketOf p.1) ≠ c.index := by
  refine ⟨_, exec_clusterJoin hc hst, ?_⟩
  obtain ⟨honly, hbrv⟩ := linksOnly_tellHeads ({ s.discardFounded c with
    brv := { s.brv with st := .joining, linked := [], updates := [] } } : State) c true
  rw [hbrv, honly .mor (by decide)]
  exact ⟨rfl, rfl, rfl, fun p hp => discardFounded_store s c hp⟩

end Map

/-! ### Pair keys (R407) -/

section Pairs

variable {s : State} {c : ClusterCfg}

theorem sealFor_pairs (s : State) (d : Nat) (bs : Bytes) : (s.sealFor d bs).2.brv.pairs = s.brv.pairs := rfl

theorem streamTo_pairs (s : State) (d : Nat) : (s.streamTo d).brv.pairs = s.brv.pairs := by
  unfold State.streamTo
  extract_lets n keys tables
  generalize tables ++ keys = chs
  have hstep (s : State) (ch : Change) :
      ((s.sealFor d (s.commitBytes (s.streamCommit [ch]))).2.sendTo 0x20 1 d (s.sealFor d (s.commitBytes (s.streamCommit [ch]))).1).brv.pairs =
        s.brv.pairs := by
    rw [(linksOnly_sendTo _ 0x20 1 d _).2, sealFor_pairs]
  induction chs generalizing s with
  | nil => rfl
  | cons ch chs ih => exact (ih _).trans (hstep s ch)

theorem exec_pairKeyAgree (hc : s.cfg.cluster = some c) {dev : Nat} (hst : s.brv.st = .member) (hm : s.isMember dev = true)
    (hd : dev ≠ c.index) (p : PeerHello) {sent : Bytes × Bytes} {z digest : Bytes} {s1 : State}
    (ha : s.attest c (some dev) p = (some (sent, .inr (z, digest)), s1)) :
    ∃ u : State, exec (.pairKeyAgree dev p) s = .next (u.streamTo dev) ∧
      Tbl.find dev u.brv.pairs = some (fixLen 32 (Config.kmac256 z digest 256 (ascii "LT7200-PAIR"))) := by
  have hexec : exec (.pairKeyAgree dev p) s = .next (
      let t := s1.emit (.hello true dev sent.1 sent.2)
      ({ t with brv := { t.brv with
        pairs := Tbl.put dev (fixLen 32 (Config.kmac256 z digest 256 (ascii "LT7200-PAIR"))) t.brv.pairs
        pairCtr := Tbl.put dev 0 t.brv.pairCtr } } : State).streamTo dev) := by
    refine congrArg Host.Outcome.next ?_
    rw [hc]
    dsimp only
    rw [if_neg (by simp [hst, hm, hd]), ha]
  exact ⟨_, hexec, Tbl.find_put dev _ _⟩

end Pairs

/-! ### Forwarding (R411, R412) -/

section Forwarding

variable {s : State} {c : ClusterCfg}

theorem exec_forwardBarge (hc : s.cfg.cluster = some c) {i d : Nat} {e : Entry} {bs : Bytes} (r : XferReturn) (he : s.entryAt i = some e)
    (hm : s.glb.mode = .service) (hst : s.brv.st = .member) (ho : e.origin = none) (hel : s.eligible i e = true)
    (hruns : s.runsAt e.tenant e.b e.input = .device d) (hd : s.isMember d = true) (hcr : s.hasCredit c d = true)
    (hin : e.input = some bs) : exec (.forwardBarge i r) s = .next (s.forwardTo i d e bs) := by
  have hhead : s.headInput e r = (some (.inl bs), s) := by
    unfold State.headInput
    rw [hin]
  refine congrArg Host.Outcome.next ?_
  rw [hc, he]
  dsimp only
  rw [if_neg (by simp [hm, hst, ho, hel]), hruns]
  dsimp only
  rw [if_neg (by simp [hd]), if_neg (by simp [hcr]), hhead]

/-- R412: what a forwarded barge leaves at its head. -/
theorem forwardTo_spec (s : State) (i d : Nat) (e : Entry) (bs : Bytes) : let t := s.forwardTo i d e bs
    t.entryAt i = some { e with ph := .forwarded d, chamber := s.takesChamber i e } ∧ t.brv.forwarded = s.brv.forwarded + 1 ∧
      tget 0 d t.brv.fwdUsed = tget 0 d s.brv.fwdUsed + 1 ∧ Only [.lkm, .brv, .out] s t := by
  unfold State.forwardTo
  extract_lets lodge s1 brv s2
  have h1 : Only [.lkm] s s1 := only_lkm s _
  have h2 : Only [.brv] s1 s2 := only_brv s1 _
  obtain ⟨honly, hbrv⟩ := linksOnly_sendBarge s2 d e bs
  refine ⟨?_, ?_, ?_, (h1.mono (by simp)).trans ((h2.mono (by simp)).trans (honly.mono (by simp)))⟩
  · rw [State.entryAt, honly .lkm (by decide)]
    exact Tbl.find_put i _ _
  · rw [hbrv]
    rfl
  · rw [hbrv]
    exact tget_put _ _ _ _

/-- The state once a barge from a head waits at the port of link `l` (R412). -/
def State.atPort (s : State) (l : Nat) (fb : FwdBarge) : State :=
  { s with brv := { s.brv with ports := Tbl.put l (tget [] l s.brv.ports ++ [fb]) s.brv.ports } }

theorem exec_forwardedBargeReceive (hc : s.cfg.cluster = some c) (l : Nat) {fb : FwdBarge} (hm : s.glb.mode = .service)
    (hst : s.brv.st = .member) (hd : s.isMember fb.head = true) (hh : c.heads.contains fb.head = true) :
    exec (.forwardedBargeReceive l fb) s = .next (
      if (s.atPort l fb).linkReady l then (s.atPort l fb).admitForwarded l else s.atPort l fb) := by
  refine congrArg Host.Outcome.next ?_
  rw [hc]
  dsimp only
  exact if_neg (by rw [hh]; simp [hm, hst, hd])

/-! #### An admission counts one barge -/

theorem Only.nextOrder {ps : List Part} {t : State} (h : Only ps s t) (hp : Part.lkm ∉ ps) : t.lkm.nextOrder = s.lkm.nextOrder :=
  congrArg Lkm.nextOrder (h .lkm hp)

theorem release_nextOrder (s : State) (i : Nat) (e : Entry) (x : Comp) : (s.release i e x).lkm.nextOrder = s.lkm.nextOrder := by
  unfold State.release
  extract_lets x'
  split
  · split
    · exact (sendTo_only _ _ _ _ _).nextOrder (by decide)
    · rfl
  · split <;> rfl

theorem releaseRun_nextOrder (f fuel : Nat) (s : State) : (State.releaseRun f fuel s).lkm.nextOrder = s.lkm.nextOrder := by
  induction fuel generalizing s with
  | zero => rfl
  | succ fuel ih =>
    unfold State.releaseRun
    split
    · rfl
    · split
      · rfl
      · exact (ih _).trans (release_nextOrder s _ _ _)

theorem moveReserved_nextOrder (s : State) (f : Nat) : (s.moveReserved f).lkm.nextOrder = s.lkm.nextOrder := by
  unfold State.moveReserved
  split
  · rfl
  · split <;> rfl

theorem failBarge_nextOrder (s : State) (i st : Nat) : (s.failBarge i st).lkm.nextOrder = s.lkm.nextOrder := by
  unfold State.failBarge State.finish
  split
  · rfl
  · split
    · rfl
    · extract_lets e2 s2
      split
      · exact release_nextOrder s i _ _
      · exact (moveReserved_nextOrder _ _).trans (releaseRun_nextOrder _ _ s2)

theorem spillLine_nextOrder (s : State) (i : Nat) (e : Entry) : (s.spillLine i e).lkm.nextOrder = s.lkm.nextOrder := by
  unfold State.spillLine
  split
  · rfl
  · exact (unitPut_only s _ _ _ _).nextOrder (by decide)

theorem enqueue_nextOrder (s : State) (i : Nat) (e : Entry) : (s.enqueue i e).lkm.nextOrder = s.lkm.nextOrder := by
  have hgeneral : (s.enqueueGeneral i e).lkm.nextOrder = s.lkm.nextOrder := by
    unfold State.enqueueGeneral
    extract_lets s1
    split
    · rfl
    · split
      · rfl
      · exact spillLine_nextOrder _ _ _
  unfold State.enqueue
  split
  · split
    · rfl
    · exact hgeneral
  · exact hgeneral

theorem readSector_nextOrder (s : State) (h n lba : Nat) (avoid tried : Option Nat) :
    (s.readSector h n lba avoid tried).lkm.nextOrder = s.lkm.nextOrder := by
  unfold State.readSector
  split
  · rfl
  · extract_lets mor s1
    split <;> rfl

theorem startPageIn_nextOrder (s : State) (h : Nat) : (s.startPageIn h).lkm.nextOrder = s.lkm.nextOrder := by
  unfold State.startPageIn
  split
  · rfl
  · extract_lets mor s1
    split
    · exact readSector_nextOrder s1 _ _ _ _ _
    · rfl

theorem foldl_nextOrder {α : Type} {f : State → α → State} (hf : ∀ s x, (f s x).lkm.nextOrder = s.lkm.nextOrder) (xs : List α)
    (s : State) : (xs.foldl f s).lkm.nextOrder = s.lkm.nextOrder := by
  induction xs generalizing s with
  | nil => rfl
  | cons x xs ih => exact (ih _).trans (hf s x)

theorem startPageIns_nextOrder (s : State) (hs : List Nat) : (s.startPageIns hs).lkm.nextOrder = s.lkm.nextOrder := by
  refine foldl_nextOrder (fun s h => ?_) hs s
  split
  · rfl
  · exact startPageIn_nextOrder _ h

theorem lookup_nextOrder (s : State) (i : Nat) (e : Entry) : (s.lookup i e).lkm.nextOrder = s.lkm.nextOrder := by
  unfold State.lookup
  extract_lets hs s1 e'
  have h1 : s1.lkm.nextOrder = s.lkm.nextOrder := foldl_nextOrder (fun s h => by split <;> rfl) hs s
  split
  · exact (enqueue_nextOrder s1 i e').trans h1
  · exact (startPageIns_nextOrder _ _).trans h1

/-- R42: what the head of an admitted barge meets counts no further barge. -/
theorem admitEntry_nextOrder (s : State) (i : Nat) (e : Entry) (bad : Option Nat) :
    (s.admitEntry i e bad).lkm.nextOrder = s.lkm.nextOrder := by
  unfold State.admitEntry
  extract_lets s1 group
  have hfail (st : Nat) : (s1.failBarge i st).lkm.nextOrder = s.lkm.nextOrder := failBarge_nextOrder s1 i st
  split
  · exact hfail _
  · split
    · exact hfail _
    · split
      · exact hfail _
      · split
        · exact hfail _
        · split
          · exact hfail _
          · exact enqueue_nextOrder s1 i e
          · exact lookup_nextOrder s1 i e

theorem admitForwarded_counts {l : Nat} (h : tget [] l s.brv.ports ≠ []) :
    (s.admitForwarded l).lkm.nextOrder = s.lkm.nextOrder + 1 := by
  unfold State.admitForwarded
  split
  · contradiction
  · exact admitEntry_nextOrder _ _ _ none

theorem linkReady_of {l : Nat} (h : tget [] l s.brv.ports ≠ []) (ha : s.glb.admitting = true) (hm : s.glb.mode = .service)
    (hq : s.quiesced = false) (hst : s.brv.st = .member) : s.linkReady l = true := by
  simp [State.linkReady, h, ha, hm, hq, hst]

/-- R412, R420: a member in SERVICE takes a barge of a member's head at its link's port, and admits it when it may. -/
theorem forwardedBarge_waits (hc : s.cfg.cluster = some c) (l : Nat) {fb : FwdBarge} (hm : s.glb.mode = .service)
    (hst : s.brv.st = .member) (hd : s.isMember fb.head = true) (hh : c.heads.contains fb.head = true) (ha : s.glb.admitting = false) :
    exec (.forwardedBargeReceive l fb) s = .next (s.atPort l fb) :=
  (exec_forwardedBargeReceive hc l hm hst hd hh).trans
    (congrArg Host.Outcome.next (if_neg (by simp [State.linkReady, State.atPort, ha])))

theorem forwardedBarge_admits (hc : s.cfg.cluster = some c) (l : Nat) {fb : FwdBarge} (hm : s.glb.mode = .service)
    (hst : s.brv.st = .member) (hd : s.isMember fb.head = true) (hh : c.heads.contains fb.head = true) (ha : s.glb.admitting = true)
    (hq : s.quiesced = false) : Completes (.forwardedBargeReceive l fb) s fun t => t.lkm.nextOrder = s.lkm.nextOrder + 1 := by
  have hport : tget [] l (s.atPort l fb).brv.ports ≠ [] := by simp [State.atPort, tget_put]
  have hready : (s.atPort l fb).linkReady l = true := linkReady_of hport ha hm hq hst
  exact ⟨_, (exec_forwardedBargeReceive hc l hm hst hd hh).trans (congrArg Host.Outcome.next (if_pos hready)),
    admitForwarded_counts hport⟩

end Forwarding

/-! ### Completions and replication (R413, R414) -/

section Completions

variable {o s : State}

theorem exec_forwardedCompletion {home ring seq i : Nat} {e : Entry} (comp : Comp) {out : Option Bytes}
    (h : o.settled.forwardedAt home ring seq = some (i, e)) (ht : (o.settled.ringCfg ring).transport ≠ 0 ∨ out = none) :
    exec (.forwardedCompletionReceive home ring seq comp out) o = .next (State.finish { o.settled with
      brv := { o.settled.brv with fwdUsed := Tbl.put home (tget 0 home o.settled.brv.fwdUsed - 1) o.settled.brv.fwdUsed } } i
        { comp with seq := seq, forwarded := true, epoch := false } out) := by
  refine congrArg Host.Outcome.next ?_
  rw [h]
  dsimp only
  obtain hltp | rfl := ht
  · exact if_pos hltp
  · exact ite_self _

theorem exec_lateCompletion {home ring seq : Nat} (comp : Comp) (out : Option Bytes) (h : o.settled.forwardedAt home ring seq = none)
    (ha : o.settled.askingAt home ring seq = none) : exec (.forwardedCompletionReceive home ring seq comp out) o = .next
      { o.settled with brv := { o.settled.brv with late := satAdd 16 o.settled.brv.late 1 } } := by
  refine congrArg Host.Outcome.next ?_
  rw [h]
  dsimp only
  rw [ha]

theorem replication_gathers {dev : Nat} {record bs : Bytes} (hb : s.unseal dev record = some bs) (hs : s.storeUp = true) :
    exec (.replicationReceive dev record) s = .next (s.gather { s.commitOf bs with
      ack := if (s.commitOf bs).opcode = 0 then none else some (dev, (s.commitOf bs).number), replicated := true }) := by
  refine congrArg Host.Outcome.next ?_
  rw [hb]
  exact if_pos hs

theorem replication_dropped {dev : Nat} {record : Bytes} (h : s.unseal dev record = none ∨ s.storeUp = false) :
    ∃ sub, exec (.replicationReceive dev record) s = .next (s.logEvent .interface 26 dev sub) := by
  cases hb : s.unseal dev record with
  | none =>
    refine ⟨0, congrArg Host.Outcome.next ?_⟩
    rw [hb]
  | some bs =>
    refine ⟨1, congrArg Host.Outcome.next ?_⟩
    rw [hb]
    exact if_neg (by simpa [hb] using h)

/-- R414: the last acknowledgement of a commit has the home commit. -/
theorem replicationAck_commits {dev number : Nat} {c : Commit} (ha : s.brv.awaiting = [(c, dev)]) (hn : c.number = number)
    (hs : s.storeUp = true) : exec (.replicationAckReceive dev number) s = .next (
      ({ s with brv := { s.brv with awaiting := [], replicated := s.brv.replicated + 1 } } : State).gather { c with replicated := true }) := by
  have hfind : (s.brv.awaiting.find? fun p => p.1.number == number && p.2 == dev) = some (c, dev) := by simp [ha, hn]
  refine congrArg Host.Outcome.next ?_
  rw [hfind]
  simp only [ha, List.erase_cons_head, List.map_nil, List.any_nil, Bool.false_eq_true, if_false]
  exact if_pos hs

end Completions

/-- Settles O54, clause by clause: messages to other devices change the links alone, so that what each command does to the map, the credits
and the commits is read off its own equation. -/
theorem clustersShareBuckets : Obligations.ClustersShareBuckets := by
  unfold Obligations.ClustersShareBuckets
  refine ⟨fun k n b d => ⟨fun hh hr hd => ?_, fun hh hr => ?_, fun hh hr => ?_⟩,
    fun s c hc => ⟨fun u rest hu ht hst hs hv hl => ?_, fun d w hst hm hd hh => ?_, fun b hst hb hcoord hu => ?_,
      fun hst => clusterJoin_joins hc hst, fun dev p hst hm hd => ?_, fun i d e bs r he hm hst ho hel hruns hd hcr hin => ?_,
      fun l fb hm hst hd hh => ⟨fun ha => forwardedBarge_waits hc l hm hst hd hh ha,
        fun ha hq => forwardedBarge_admits hc l hm hst hd hh ha hq⟩⟩,
    fun o home ring seq comp out => ⟨fun i e h ht => exec_forwardedCompletion comp h ht, fun h ha => exec_lateCompletion comp out h ha⟩,
    fun s head ring arg => rfl, fun s dev record => ?_, fun s dev number c ha hn hs => ?_⟩
  · simp [Bucket.lose, hh, hr, hd]
  · simp [Bucket.lose, hh, hr]
  · simp [Bucket.lose, hh, hr]
  · obtain ⟨hupd, hver, hmap, hlive, hcoord⟩ :=
      switchMap_spec (s := { s with brv := { s.brv with updates := rest } }) (c := c) u hv hl
    exact ⟨_, exec_mapSwitch hc hu ht hst hs, hupd, hver, hmap, hlive, hcoord⟩
  · exact ⟨_, haltNotice_declares hc w hst hm hd hh, decide_spec s _⟩
  · exact ⟨_, resyncComplete_decides hc hst hb hcoord hu, decide_spec s _⟩
  · refine ⟨_, exec_eq_via _ s, fun sent z digest s1 ha => ?_⟩
    obtain ⟨u, hexec, hpair⟩ := exec_pairKeyAgree hc hst hm hd p ha
    rw [Host.Outcome.next.inj ((exec_eq_via _ s).symm.trans hexec), streamTo_pairs, hpair]
  · exact ⟨_, exec_forwardBarge hc r he hm hst ho hel hruns hd hcr hin, forwardTo_spec s i d e bs⟩
  · by_cases hup : s.storeUp = true ∧ ∃ bs, s.unseal dev record = some bs
    · obtain ⟨hs, bs, hb⟩ := hup
      refine ⟨_, replication_gathers hb hs, fun bs' hb' _ => ?_, fun h => ?_⟩
      · cases hb.symm.trans hb'
        exact ⟨_, rfl, rfl, rfl, fun hne => if_neg hne, gather_only s _⟩
      · simp [hb, hs] at h
    · have hdrop : s.unseal dev record = none ∨ s.storeUp = false := by
        cases hb : s.unseal dev record with
        | none => exact .inl rfl
        | some bs => exact .inr (eq_false_of_ne_true fun hs => hup ⟨hs, bs, hb⟩)
      obtain ⟨sub, hexec⟩ := replication_dropped hdrop
      exact ⟨_, hexec, fun bs hb hs => absurd ⟨hs, bs, hb⟩ hup, fun _ => logEvent_only s _ _ _ _⟩
  · refine ⟨_, replicationAck_commits ha hn hs, rfl, rfl, rfl, ?_⟩
    exact ((only_brv s _).mono (by simp)).trans ((gather_only _ _).mono (by simp))

end Sys2Proof.Machine

/-! SUPPORT. The configuration, the measurements and the power unit in the commands that a function's RESTART sets off (R370, R371). -/
namespace Sys2Proof.Machine

/-- The configuration, the ROOT block and the power unit stay as they are. -/
@[simp] abbrev Still (s t : State) : Prop := t.cfg = s.cfg ∧ t.root = s.root ∧ t.pwr = s.pwr

theorem Still.refl (s : State) : Still s s := ⟨rfl, rfl, rfl⟩

theorem Still.trans {s t u : State} (h : Still s t) (k : Still t u) : Still s u := by
  obtain ⟨hcfg, hroot, hpwr⟩ := h
  obtain ⟨kcfg, kroot, kpwr⟩ := k
  exact ⟨kcfg.trans hcfg, kroot.trans hroot, kpwr.trans hpwr⟩

theorem Only.still {ps : List Part} {s t : State} (h : Only ps s t) (hc : .cfg ∉ ps) (hr : .root ∉ ps) (hp : .pwr ∉ ps) : Still s t :=
  ⟨h .cfg hc, h .root hr, h .pwr hp⟩

theorem Still.foldl {α : Type} {f : State → α → State} (h : ∀ s a, Still s (f s a)) (as : List α) (s : State) : Still s (as.foldl f s) := by
  induction as generalizing s with
  | nil => exact .refl s
  | cons a as ih => exact (h s a).trans (ih _)

section Simp

variable {α : Type} {f : State → α → State}

@[simp] theorem cfg_foldl (h : ∀ s a, (f s a).cfg = s.cfg) (as : List α) (s : State) : (as.foldl f s).cfg = s.cfg := by
  induction as generalizing s with
  | nil => rfl
  | cons a as ih => exact (ih _).trans (h s a)

@[simp] theorem root_foldl (h : ∀ s a, (f s a).root = s.root) (as : List α) (s : State) : (as.foldl f s).root = s.root := by
  induction as generalizing s with
  | nil => rfl
  | cons a as ih => exact (ih _).trans (h s a)

@[simp] theorem pwr_foldl (h : ∀ s a, (f s a).pwr = s.pwr) (as : List α) (s : State) : (as.foldl f s).pwr = s.pwr := by
  induction as generalizing s with
  | nil => rfl
  | cons a as ih => exact (ih _).trans (h s a)

@[simp] theorem cfg_ite (c : Prop) [Decidable c] (a b : State) : (if c then a else b).cfg = if c then a.cfg else b.cfg := apply_ite ..

@[simp] theorem root_ite (c : Prop) [Decidable c] (a b : State) : (if c then a else b).root = if c then a.root else b.root := apply_ite ..

@[simp] theorem pwr_ite (c : Prop) [Decidable c] (a b : State) : (if c then a else b).pwr = if c then a.pwr else b.pwr := apply_ite ..

end Simp

/-! ### Operations that reach none of the three -/

@[simp] theorem State.logEvent_still (s : State) (k : LogKind) (sub a b : Nat) : Still s (s.logEvent k sub a b) :=
  (logEvent_only s k sub a b).still (by decide) (by decide) (by decide)

@[simp] theorem State.setInt_still (s : State) (b : BitVec 6) : Still s (s.setInt b) :=
  (setInt_only s b).still (by decide) (by decide) (by decide)

@[simp] theorem State.sendTo_still (s : State) (typ vc dst : Nat) (payload : Bytes) : Still s (s.sendTo typ vc dst payload) :=
  (sendTo_only s typ vc dst payload).still (by decide) (by decide) (by decide)

@[simp] theorem State.pumpLink_still (l : Nat) (n : Nat) (s : State) : Still s (State.pumpLink l n s) :=
  (pumpLink_only l n s).still (by decide) (by decide) (by decide)

@[simp] theorem State.stopJob_still (s : State) (k status : Nat) : Still s (s.stopJob k status) :=
  (stopJob_only s k status).still (by decide) (by decide) (by decide)

@[simp] theorem State.setCtx_still (s : State) (k : Nat) (c : LaneCtx) : Still s (s.setCtx k c) :=
  (setCtx_only s k c).still (by decide) (by decide) (by decide)

@[simp] theorem State.laneSay_still (s : State) (k : Nat) (out : List TWord) (code : Nat) : Still s (s.laneSay k out code) :=
  (laneSay_units s k out code).still (by decide) (by decide) (by decide)

@[simp] theorem State.openEnds_still (s : State) (w : Nat × Nat × Nat) : Still s (s.openEnds w) := ⟨rfl, rfl, rfl⟩

@[simp] theorem State.grantLanes_still (s : State) : Still s s.grantLanes :=
  (grantLanes_units s).still (by decide) (by decide) (by decide)

@[simp] theorem State.grantTiles_still (s : State) : Still s s.grantTiles :=
  (grantTiles_only s).still (by decide) (by decide) (by decide)

@[simp] theorem State.ringFault_still (s : State) (r code : Nat) : Still s (s.ringFault r code) := by simp [State.ringFault]

@[simp] theorem State.pcieDown_still (s : State) : Still s s.pcieDown := by simp [State.pcieDown]

@[simp] theorem State.dropSession_still (s : State) (n what : Nat) : Still s (s.dropSession n what) :=
  (dropSession_only s n what).still (by decide) (by decide) (by decide)

@[simp] theorem State.dropSessions_still (s : State) (p : Session → Bool) : Still s (s.dropSessions p) :=
  (dropSessions_only s p).still (by decide) (by decide) (by decide)

@[simp] theorem State.ethFollow_still (s : State) (p : Nat) : Still s (s.ethFollow p) :=
  (ethFollow_only s p).still (by decide) (by decide) (by decide)

@[simp] theorem State.setDrive_still (s : State) (d : Nat) (x : Drive) : Still s (s.setDrive d x) := by simp [State.setDrive]

@[simp] theorem State.setStage_still (s : State) (h : Nat) (st : PageStage) : Still s (s.setStage h st) := ⟨rfl, rfl, rfl⟩

@[simp] theorem State.readSector_still (s : State) (h n lba : Nat) (avoid tried : Option Nat) : Still s (s.readSector h n lba avoid tried) := by
  unfold State.readSector
  split <;> simp

@[simp] theorem State.resendReads_still (s : State) : Still s s.resendReads := by
  refine Still.foldl (fun s p => ?_) _ s
  split <;> simp

@[simp] theorem State.reissueReads_still (s : State) (d : Nat) : Still s (s.reissueReads d) := by
  refine Still.foldl (fun s p => ?_) _ s
  repeat' split
  all_goals simp

@[simp] theorem State.setStore_still (s : State) (st : StoreState) : Still s (s.setStore st) := by simp [State.setStore]

@[simp] theorem State.bankAccess_still (s : State) (m : Nat) : Still s (s.bankAccess m) := ⟨rfl, rfl, rfl⟩

@[simp] theorem State.startPageIn_still (s : State) (h : Nat) : Still s (s.startPageIn h) := by
  unfold State.startPageIn
  split <;> simp

@[simp] theorem State.startPageIns_still (s : State) (hs : List Nat) : Still s (s.startPageIns hs) := by simp [State.startPageIns]

@[simp] theorem State.pageInPins_still (s : State) : Still s s.pageInPins := by simp [State.pageInPins]

@[simp] theorem State.release_still (s : State) (i : Nat) (e : Entry) (c : Comp) : Still s (s.release i e c) := by
  unfold State.release
  split <;> simp

@[simp] theorem State.moveReserved_still (s : State) (f : Nat) : Still s (s.moveReserved f) := by
  unfold State.moveReserved
  split <;> simp

@[simp] theorem State.releaseRun_still (f n : Nat) (s : State) : Still s (State.releaseRun f n s) := by
  induction n generalizing s with
  | zero => exact Still.refl s
  | succ n ih =>
    unfold State.releaseRun
    repeat' split
    · exact Still.refl s
    · exact Still.refl s
    · simp [ih]

@[simp] theorem State.finish_still (s : State) (i : Nat) (c : Comp) (out : Option Bytes) : Still s (s.finish i c out) := by
  unfold State.finish
  dsimp only
  repeat' split
  all_goals simp

@[simp] theorem State.failBarge_still (s : State) (i : Nat) (status : Nat) : Still s (s.failBarge i status) := by
  unfold State.failBarge
  split <;> simp

@[simp] theorem State.withdraw_still (s : State) : Still s s.withdraw := by simp [State.withdraw]

@[simp] theorem State.answer_still (s : State) (code : Nat) : Still s (s.answer code).st := by simp [State.answer]

@[simp] theorem State.setLane_still (s : State) (n : Nat) (l : Lane) : Still s (s.setLane n l) := ⟨rfl, rfl, rfl⟩

@[simp] theorem State.putSlot_still (s : State) (n p : Nat) (k : KSlot) : Still s (s.putSlot n p k) := ⟨rfl, rfl, rfl⟩

@[simp] theorem State.dropSlot_still (s : State) (n p : Nat) : Still s (s.dropSlot n p) := ⟨rfl, rfl, rfl⟩

@[simp] theorem State.freeSlot_still (s : State) (k : Nat) (c : LaneCtx) (i : Nat) : Still s (s.freeSlot k c i) := by
  unfold State.freeSlot
  dsimp only
  repeat' split
  all_goals simp

@[simp] theorem kduStartAll_still (n : Nat) (s : State) : Still s (kduStartAll n s) := by
  induction n generalizing s with
  | zero => exact Still.refl s
  | succ n ih =>
    unfold kduStartAll
    split
    · exact Still.refl s
    · split
      · exact Still.refl s
      · dsimp only
        refine Still.trans ?_ (ih _)
        split <;> simp

@[simp] theorem State.kduAsk_still (s : State) (q : KduReq) : Still s (s.kduAsk q) := by simp [State.kduAsk]

@[simp] theorem State.touchSlot_still (s : State) (c : LaneCtx) (i : Nat) : Still s (s.touchSlot c i) := by
  unfold State.touchSlot
  split <;> simp

@[simp] theorem State.laneWork_still (s : State) (c : LaneCtx) (i cycles : Nat) : Still s (s.laneWork c i cycles) := by simp [State.laneWork]

@[simp] theorem State.writeKey_still (s : State) (k t : Nat) (kind : SlotKind) (cls : SecClass) (dst part : Nat) (parity : Bool)
    (bs : Bytes) :
    Still s (s.writeKey k t kind cls dst part parity bs).st := by
  unfold State.writeKey
  repeat' split
  all_goals simp

@[simp] theorem State.giveNonce_still (s : State) (k slot : Nat) (gcm : Bool) (nonce : Bytes) : Still s (s.giveNonce k slot gcm nonce).st := by
  unfold State.giveNonce
  split <;> simp

@[simp] theorem State.takeCounter_still (s : State) (m : Nat) (x : Mooring) : Still s (s.takeCounter m x) := ⟨rfl, rfl, rfl⟩

@[simp] theorem State.nonceFor_still (s : State) (k i sub : Nat) (gcm : Bool) : Still s (s.nonceFor k i sub gcm).st := by
  unfold State.nonceFor
  repeat' split
  all_goals simp

@[simp] theorem State.cmdOpen_still (s : State) (k : Nat) (data : List TWord) : Still s (s.cmdOpen k data).st := by
  unfold State.cmdOpen
  dsimp only
  repeat' split
  all_goals simp

@[simp] theorem State.cmdLoad_still (s : State) (k : Nat) (c : LaneCtx) (i : Nat) (data : List TWord) : Still s (s.cmdLoad k c i data).st := by
  unfold State.cmdLoad
  dsimp only
  repeat' split
  all_goals simp

@[simp] theorem State.cmdStore_still (s : State) (k : Nat) (c : LaneCtx) (cmd : W64) (data : List TWord) :
    Still s (s.cmdStore k c cmd data).st := by
  unfold State.cmdStore
  split <;> simp

@[simp] theorem State.cmdHold_still (s : State) (k : Nat) (c : LaneCtx) : Still s (s.cmdHold k c).st := by simp [State.cmdHold]

@[simp] theorem State.cmdPut_still (s : State) (k : Nat) (c : LaneCtx) (u : UnitCmd) : Still s (s.cmdPut k c u).st := by
  unfold State.cmdPut
  dsimp only
  repeat' split
  all_goals simp

@[simp] theorem State.cmdLoadt_still (s : State) (k : Nat) (c : LaneCtx) (cmd : W64) (data : List TWord) :
    Still s (s.cmdLoadt k c cmd data).st := by
  unfold State.cmdLoadt
  dsimp only
  repeat' split
  all_goals simp

/-! ### The alarm's way to HALT -/

/-- The configuration, the measurements and the REASON codes and grants stay; what pending copy and which functions are STOPPED stays, but for
an entry to HALT, which ends both (R371). -/
structure FnSteady (s t : State) : Prop where
  cfg : t.cfg = s.cfg
  root : t.root = s.root
  reasons : t.pwr.reasons = s.pwr.reasons
  grants : t.pwr.grants = s.pwr.grants
  pend : s.pwr.pend = none → t.pwr.pend = none
  stopped : ∀ f ∈ t.pwr.stopped, f ∈ s.pwr.stopped

section Steady

variable {s t u : State}

theorem FnSteady.refl (s : State) : FnSteady s s := ⟨rfl, rfl, rfl, rfl, id, fun _ => id⟩

theorem FnSteady.trans (h : FnSteady s t) (k : FnSteady t u) : FnSteady s u :=
  ⟨k.cfg.trans h.cfg, k.root.trans h.root, k.reasons.trans h.reasons, k.grants.trans h.grants, fun hp => k.pend (h.pend hp),
    fun f hf => h.stopped f (k.stopped f hf)⟩

theorem FnSteady.foldl {α : Type} {f : State → α → State} (h : ∀ s a, FnSteady s (f s a)) (as : List α) (s : State) :
    FnSteady s (as.foldl f s) := by
  induction as generalizing s with
  | nil => exact .refl s
  | cons a as ih => exact (h s a).trans (ih _)

theorem Still.steady (h : Still s t) : FnSteady s t := by
  obtain ⟨hcfg, hroot, hpwr⟩ := h
  refine ⟨hcfg, hroot, ?_, ?_, fun hp => ?_, fun f hf => ?_⟩
  · rw [hpwr]
  · rw [hpwr]
  · rwa [hpwr]
  · rwa [hpwr] at hf

theorem Only.steady {ps : List Part} (h : Only ps s t) (hc : .cfg ∉ ps) (hr : .root ∉ ps) (hp : .pwr ∉ ps) : FnSteady s t :=
  (h.still hc hr hp).steady

theorem setDom_steady (s : State) (d : Nat) (x : Domain) : FnSteady s (s.setDom d x) := ⟨rfl, rfl, rfl, rfl, id, fun _ => id⟩

theorem setCore_steady (s : State) (k : Nat) (c : Core) : FnSteady s (s.setCore k c) := Still.steady ⟨rfl, rfl, rfl⟩

theorem setLink_steady (s : State) (l : Nat) (k : BLink) : FnSteady s (s.setLink l k) := Still.steady ⟨rfl, rfl, rfl⟩

theorem powerTo_steady (s : State) (d : Nat) (on : Bool) : FnSteady s (s.powerTo d on) := by
  unfold State.powerTo
  extract_lets x
  repeat' split
  · exact setDom_steady s d _
  · exact .refl s
  · exact setDom_steady s d _

/-- R364, R371: entry to HALT abandons the pending copy and the stops. -/
theorem enterHalt_steady (s : State) (reason step code : Nat) : FnSteady s (s.enterHalt reason step code) := by
  by_cases hm : s.glb.mode = .halt ∨ s.glb.mode = .sentry
  · rw [State.enterHalt, if_pos hm]
    exact .refl s
  · obtain ⟨hh, hs⟩ := not_or.1 hm
    have honly := enterHalt_only s reason step code
    have hpwr := enterHalt_pwr hh hs reason step code
    refine ⟨honly .cfg (by decide), honly .root (by decide), ?_, ?_, fun _ => ?_, fun f hf => ?_⟩
    · rw [hpwr]
    · rw [hpwr]
    · rw [hpwr]
    · rw [hpwr] at hf
      cases hf

theorem raise_steady (s : State) (srcs : List (Nat × Nat)) : FnSteady s (s.raise srcs) := by
  unfold State.raise
  split
  · exact .refl s
  · extract_lets level prior prior' taken lowest latches events len0 s1 s2 s3 s4 pwr0 s5 s6
    have h2 : FnSteady s s2 := by
      simp only [s2]
      split <;> exact Still.steady ⟨rfl, rfl, rfl⟩
    have h3 : FnSteady s2 s3 := (Only.foldl (ps := [.len]) (fun s p => by
      split
      · exact sentryAdd_only s _ _ _ _ _ _ _
      · exact Only.refl _ s) srcs s2).steady (by decide) (by decide) (by decide)
    have h4 : FnSteady s3 s4 := by
      simp only [s4]
      split
      · exact enterHalt_steady s3 _ _ _
      · exact .refl s3
    have h5 : FnSteady s4 s5 := ⟨rfl, rfl, rfl, rfl, id, fun _ => id⟩
    have h6 : FnSteady s5 s6 :=
      (Only.foldl (ps := [.log]) (fun s p => logRec_only s _ _ _ _ _) srcs s5).steady (by decide) (by decide) (by decide)
    refine h2.trans (h3.trans (h4.trans (h5.trans (h6.trans ?_))))
    repeat' split
    · exact .refl s6
    · exact (State.setInt_still s6 _).steady
    · exact (State.setInt_still s6 _).steady
    · exact .refl s6

theorem alarmEvent_steady (s : State) (src : Nat) : FnSteady s (s.alarmEvent src) := by
  unfold State.alarmEvent
  extract_lets s1 f
  have h1 : FnSteady s s1 := by
    simp only [s1]
    split
    · exact enterHalt_steady s _ _ _
    · exact .refl s
  have hf : FnSteady s1 f.1 := (filterEvent_only s1 src).steady (by decide) (by decide) (by decide)
  split
  · exact h1.trans (hf.trans (raise_steady _ _))
  · exact h1.trans hf

/-! ### Lane commands (R209) -/

theorem laneMismatch_steady (s : State) (n : Nat) : FnSteady s (s.laneMismatch n) := by
  unfold State.laneMismatch
  extract_lets l win s1 c s2 d
  have h2 : FnSteady s s2 := Still.steady ⟨rfl, rfl, rfl⟩
  have h3 : FnSteady s2 { s2 with cph := { s2.cph with raisedWin := true } } := Still.steady ⟨rfl, rfl, rfl⟩
  split
  · exact h2.trans (h3.trans (alarmEvent_steady _ 22))
  · exact h2

theorem checkBlock_steady (s : State) (n t mism : Nat) : FnSteady s (s.checkBlock n t mism).1 := by
  unfold State.checkBlock
  split
  · exact .refl s
  · extract_lets s1
    have h1 : FnSteady s s1 := laneMismatch_steady s n
    repeat' split
    · exact h1
    · exact h1
    · exact h1.trans (laneMismatch_steady s1 _)
    · exact h1

theorem closeLane_steady (s : State) (k : Nat) : FnSteady s (s.closeLane k) := by
  unfold State.closeLane
  split
  · exact Still.steady ⟨rfl, rfl, rfl⟩
  · extract_lets c s1 rest l mine s2
    have hdiag (s : State) : Still s s.diagLane := by
      unfold State.diagLane
      split <;> exact ⟨rfl, rfl, rfl⟩
    have h2 : FnSteady s s2 := Still.steady ⟨rfl, rfl, rfl⟩
    exact h2.trans ((setDom_steady s2 _ _).trans ((hdiag _).steady.trans (State.grantLanes_still _).steady))

/-- What follows a block's check of the three (R215). -/
theorem checked_steady (n k mism : Nat) (h : Still (s.checkBlock n k mism).1 t) : FnSteady s t := (checkBlock_steady s n k mism).trans h.steady

theorem cmdBlock_steady (s : State) (k : Nat) (c : LaneCtx) (u : UnitCmd) (dec : Bool) : FnSteady s (s.cmdBlock k c u dec).st := by
  unfold State.cmdBlock
  extract_lets cmd t cmp label chk part
  split
  · exact .refl s
  · extract_lets n x fromT words ws given input refs sourceOk install child useOk bad y out s1 test cls
    have h1 : FnSteady s s1 := checked_steady c.lane c.tenant u.mism (by simp [s1, chk])
    clear_value s1 child
    repeat' split
    all_goals first
      | exact .refl s
      | exact h1.trans (Still.steady (by simp))

theorem cmdZkey_steady (s : State) (c : LaneCtx) (cmd : W64) (mism : Nat) : FnSteady s (s.cmdZkey c cmd mism).st := by
  unfold State.cmdZkey
  split
  · exact .refl s
  · extract_lets check chk s1 test
    have h1 : FnSteady s s1 := checked_steady c.lane c.tenant mism (by simp [s1, chk])
    clear_value s1
    repeat' split
    all_goals first
      | exact .refl s
      | exact h1

theorem cmdKstream_steady (s : State) (k : Nat) (c : LaneCtx) (cmd : W64) (data : List TWord) (mism : Nat) :
    FnSteady s (s.cmdKstream k c cmd data mism).st := by
  unfold State.cmdKstream
  extract_lets ws chk bad
  split
  · extract_lets s1 out
    have h1 : FnSteady s s1 := checked_steady c.lane c.tenant mism (by simp [s1, chk])
    clear_value s1
    repeat' split
    · exact .refl s
    all_goals exact h1
  · exact .refl s

theorem cmdKstreamD_steady (s : State) (k : Nat) (c : LaneCtx) (cmd : W64) (data : List TWord) (mism : Nat) :
    FnSteady s (s.cmdKstreamD k c cmd data mism).st := by
  unfold State.cmdKstreamD
  extract_lets ws full chk bad code
  split
  · exact .refl s
  · extract_lets s1 out core test
    have h1 : FnSteady s s1 := checked_steady c.lane c.tenant mism (by simp [s1, chk])
    clear_value s1
    repeat' split
    · exact .refl s
    all_goals exact h1.trans (Still.steady (by simp))

theorem cmdTag_steady (s : State) (k : Nat) (c : LaneCtx) (cmd : W64) (data : List TWord) (mism : Nat) :
    FnSteady s (s.cmdTag k c cmd data mism).st := by
  unfold State.cmdTag
  extract_lets ws chk bad
  split
  · extract_lets s1 out
    have h1 : FnSteady s s1 := checked_steady c.lane c.tenant mism (by simp [s1, chk])
    clear_value s1
    repeat' split
    · exact .refl s
    all_goals exact h1
  · exact .refl s

theorem cmdTagchk_steady (s : State) (k : Nat) (c : LaneCtx) (cmd : W64) (data : List TWord) (mism : Nat) :
    FnSteady s (s.cmdTagchk k c cmd data mism).st := by
  unfold State.cmdTagchk
  extract_lets ws chk
  split
  · exact .refl s
  · extract_lets s1 core
    have h1 : FnSteady s s1 := checked_steady c.lane c.tenant mism (by simp [s1, chk])
    clear_value s1
    repeat' split
    · exact .refl s
    all_goals exact h1.trans (Still.steady (by simp))

theorem laneRun_steady (s : State) (k : Nat) (u : UnitCmd) : FnSteady s (s.laneRun k u).st := by
  unfold State.laneRun
  split
  · split
    · exact (State.cmdOpen_still s k _).steady
    · exact .refl s
  · split
    · exact .refl s
    · split
      · exact .refl s
      · exact (State.cmdLoad_still ..).steady
      · exact cmdBlock_steady ..
      · exact cmdBlock_steady ..
      · exact cmdZkey_steady ..
      · exact (State.nonceFor_still ..).steady
      · exact cmdKstream_steady ..
      · exact cmdKstreamD_steady ..
      · exact cmdTag_steady ..
      · exact cmdTagchk_steady ..
      · exact (State.cmdStore_still ..).steady
      · exact (State.freeSlot_still ..).steady
      · exact (State.cmdHold_still ..).steady
      · exact (State.cmdPut_still ..).steady
      · exact (State.cmdLoadt_still ..).steady
      · exact closeLane_steady s k

theorem laneIssue_steady (s : State) (k : Nat) (u : UnitCmd) : FnSteady s (s.laneIssue k u) := by
  unfold State.laneIssue
  extract_lets a
  split
  · exact (laneRun_steady s k u).trans (State.laneSay_still ..).steady
  · exact laneRun_steady s k u

theorem laneDrain_steady (n k : Nat) (s : State) : FnSteady s (laneDrain n k s) := by
  induction n generalizing s with
  | zero => exact .refl s
  | succ n ih =>
    unfold laneDrain
    split
    · exact .refl s
    · split
      · exact .refl s
      · exact (setCore_steady s k _).trans ((laneIssue_steady _ k _).trans (ih _))

theorem settleLane_steady (s : State) (k : Nat) : FnSteady s (s.settleLane k) := by
  unfold State.settleLane
  split
  · split
    · exact closeLane_steady s k
    · exact .refl s
  · exact .refl s

/-! ### Drives and links dropped (R186, R403) -/

theorem failCommit_steady (s : State) (c : Commit) (status unit : Nat) : FnSteady s (s.failCommit c status unit) := by
  unfold State.failCommit
  extract_lets log s1 s2
  have h1 : FnSteady s s1 := Still.steady ⟨rfl, rfl, rfl⟩
  have h2 : FnSteady s1 s2 := Still.steady (by simp [s2])
  refine h1.trans ?_
  clear_value s2
  split
  · split
    · extract_lets s3
      have h3 : FnSteady s2 s3 := Still.steady ⟨rfl, rfl, rfl⟩
      split
      · exact h2.trans (h3.trans (State.stopJob_still s3 _ _).steady)
      · exact h2.trans h3
    · exact h2
  · refine FnSteady.foldl (fun s p => ?_) _ s1
    repeat' split
    · exact .refl s
    · exact .refl s
    · exact (State.setCtx_still s _ _).steady.trans ((State.laneSay_still _ _ _ _).steady.trans
        ((settleLane_steady _ _).trans (laneDrain_steady _ _ _)))
    · exact .refl s

theorem storeOffline_steady (s : State) : FnSteady s s.storeOffline := by
  unfold State.storeOffline
  extract_lets cs mor s1
  have h1 : FnSteady s s1 := Still.steady ⟨rfl, rfl, rfl⟩
  exact h1.trans ((State.setStore_still s1 _).steady.trans
    (FnSteady.foldl (f := State.offlineCommit) (fun s c => failCommit_steady s c _ _) cs _))

theorem dropDrive_steady (s : State) (d : Nat) : FnSteady s (s.dropDrive d) := by
  unfold State.dropDrive
  extract_lets x s1 mor s2
  have h2 : FnSteady s s2 := (State.setDrive_still s d _).steady.trans (Still.steady ⟨rfl, rfl, rfl⟩)
  repeat' split
  · exact .refl s
  · exact h2
  · exact h2.trans ((storeOffline_steady s2).trans (State.reissueReads_still _ d).steady)
  · exact h2.trans ((State.setStore_still s2 _).steady.trans (State.reissueReads_still _ d).steady)

theorem linkRestart_steady (s : State) (l : Nat) : FnSteady s (s.linkRestart l) := by
  unfold State.linkRestart
  extract_lets on s1 k
  refine (powerTo_steady s (59 + l) on).trans ?_
  repeat' split
  · exact Still.steady ⟨rfl, rfl, rfl⟩
  · exact (setLink_steady s1 l _).trans (State.pumpLink_still _ _ _).steady
  · exact Still.steady ⟨rfl, rfl, rfl⟩
  · exact .refl s1

theorem ethRestart_steady (s : State) (p : Nat) : FnSteady s (s.ethRestart p) := by
  unfold State.ethRestart
  extract_lets s1 s2
  have h2 : FnSteady s s2 := (powerTo_steady s _ _).trans (State.ethFollow_still s1 p).steady
  split
  · exact h2
  · exact h2.trans (State.dropSessions_still s2 _).steady

/-- R371: what a latched copy sets in the units leaves the latch itself as it is. -/
theorem fnEffects_steady (s : State) (f : Nat) : FnSteady s (s.fnEffects f) := by
  unfold State.fnEffects
  extract_lets m
  repeat' split
  · exact Still.steady ⟨rfl, rfl, rfl⟩
  · exact ((only_cph s _).steady (by decide) (by decide) (by decide)).trans (State.grantLanes_still _).steady
  · exact ((only_bgn s _).steady (by decide) (by decide) (by decide)).trans (State.grantTiles_still _).steady
  · exact .refl s
  · exact (State.pcieDown_still s).steady
  · exact ethRestart_steady s _
  · exact (State.resendReads_still s).steady
  · exact (dropDrive_steady s 0).trans (dropDrive_steady _ 1)
  · exact linkRestart_steady s _
  · exact Still.steady ⟨rfl, rfl, rfl⟩
  · exact (State.pageInPins_still s).steady
  · exact .refl s

end Steady

/-! ### STOP and CHANGE (R370) -/

section Functions

variable {s : State} {f : Nat}

theorem fnWrite_taken (hv : s.vis .pf 0xD = .full) (hf : fnValid s.pwr.fnSel = true) (hg : s.fnGranted s.pwr.fnSel = true)
    (k : Nat → State) : s.fnWrite k = k s.pwr.fnSel := if_neg (by simp [hv, hf, hg])

/-- R53: a ring as the stop of function `f` leaves it. -/
def Ring.stoppedWith (g : Ring) (f r : Nat) : Ring := if r / 1024 = f ∧ g.st = .opened then { g with st := .stopped } else g

theorem Tbl.find_mapKeyed {α : Type} (h : Nat → α → α) (r : Nat) (t : Tbl α) :
    Tbl.find r (t.map fun p => (p.1, h p.1 p.2)) = (Tbl.find r t).map (h r) := by
  induction t with
  | nil => rfl
  | cons p t ih =>
    by_cases hp : p.1 = r
    · subst hp
      simp [Tbl.find]
    · simpa [Tbl.find, hp] using ih

theorem exec_fnStop (hv : s.vis .pf 0xD = .full) (hf : fnValid s.pwr.fnSel = true) (hg : s.fnGranted s.pwr.fnSel = true) :
    exec .fnStop s = .next (s.stopFn s.pwr.fnSel) := congrArg Host.Outcome.next (fnWrite_taken hv hf hg _)

/-- R53, R370: what a function's stop leaves. -/
theorem stopFn_spec (hs : s.fnStopped f = false) : let t := s.stopFn f
    t.pwr.stopped = s.pwr.stopped ++ [f] ∧ (∀ r, t.ringAt r = (s.ringAt r).stoppedWith f r) ∧ Only [.pwr, .rings, .brv] s t := by
  unfold State.stopFn
  rw [if_neg (by rw [hs]; exact Bool.false_ne_true)]
  extract_lets pwr s1 link t
  have h1 : Only [.pwr, .rings] s s1 := by rintro (_ | _) hp <;> first | rfl | exact absurd (by simp) hp
  have hrings : s1.rings = s.rings.map fun p => (p.1, p.2.stoppedWith f p.1) := by
    refine List.map_congr_left fun p _ => ?_
    unfold Ring.stoppedWith
    split <;> rfl
  have hring (r : Nat) : s1.ringAt r = (s.ringAt r).stoppedWith f r := by
    simp only [State.ringAt, tget, hrings]
    rw [Tbl.find_mapKeyed fun r (g : Ring) => g.stoppedWith f r]
    cases Tbl.find r s.rings with
    | none => simp [Ring.stoppedWith]
    | some g => rfl
  have ht : Only [.brv] s1 t := by
    simp only [t]
    split
    · exact only_brv s1 _
    · exact Only.refl _ s1
  refine ⟨?_, fun r => ?_, (h1.mono (by simp)).trans (ht.mono (by simp))⟩
  · rw [ht .pwr (by decide)]
  · rw [State.ringAt, ht .rings (by decide)]
    exact hring r

theorem stopFn_fnStopped (hs : s.fnStopped f = false) :
    (s.stopFn f).fnStopped f = true ∧ ∀ g, g ≠ f → (s.stopFn f).fnStopped g = s.fnStopped g := by
  obtain ⟨hstopped, -, -⟩ := stopFn_spec hs
  simp only [State.fnStopped, hstopped]
  exact ⟨by simp, fun g hne => by simp [hne]⟩

theorem exec_fnChange (hv : s.vis .pf 0xD = .full) (hf : fnValid s.pwr.fnSel = true) (hg : s.fnGranted s.pwr.fnSel = true) :
    exec .fnChange s = .next (
      if s.fnStopped s.pwr.fnSel = false then s
      else match s.pwr.pend with
        | some (g, _) => if g = s.pwr.fnSel then s.openPending s.pwr.fnSel else s.setReason s.pwr.fnSel 22
        | none => s.openPending s.pwr.fnSel) := congrArg Host.Outcome.next (fnWrite_taken hv hf hg _)

theorem fnChange_opens (hv : s.vis .pf 0xD = .full) (hf : fnValid s.pwr.fnSel = true) (hg : s.fnGranted s.pwr.fnSel = true)
    (hs : s.fnStopped s.pwr.fnSel = true) (hp : s.pwr.pend = none ∨ ∃ m, s.pwr.pend = some (s.pwr.fnSel, m)) :
    exec .fnChange s = .next (s.openPending s.pwr.fnSel) := by
  rw [exec_fnChange hv hf hg, if_neg (by simp [hs])]
  obtain hnone | ⟨m, hsome⟩ := hp
  · rw [hnone]
  · rw [hsome]
    exact congrArg Host.Outcome.next (if_pos rfl)

theorem fnChange_busy (hv : s.vis .pf 0xD = .full) (hf : fnValid s.pwr.fnSel = true) (hg : s.fnGranted s.pwr.fnSel = true)
    (hs : s.fnStopped s.pwr.fnSel = true) {g : Nat} {m : Manifest} (hp : s.pwr.pend = some (g, m)) (hne : g ≠ s.pwr.fnSel) :
    exec .fnChange s = .next (s.setReason s.pwr.fnSel 22) := by
  rw [exec_fnChange hv hf hg, if_neg (by simp [hs]), hp]
  exact congrArg Host.Outcome.next (if_neg hne)

/-! ### RESTART (R370, R371) -/

theorem exec_fnRestart (hv : s.vis .pf 0xD = .full) (hf : fnValid s.pwr.fnSel = true) : exec .fnRestart s = .next (
    if s.pwr.fnSel = 0x39 ∧ s.pwr.restarting ≠ [] then s
    else if s.fnGranted s.pwr.fnSel = false then s.refuseRestart s.pwr.fnSel 21
    else s.restartFn s.pwr.fnSel) := congrArg Host.Outcome.next (if_neg (by simp [hv, hf]))

theorem restart_free (h : f ≠ 0x39 ∨ s.pwr.restarting = []) : ¬ (f = 0x39 ∧ s.pwr.restarting ≠ []) := by
  rintro ⟨h39, hne⟩
  exact h.elim (fun h => h h39) hne

theorem fnRestart_runs (hv : s.vis .pf 0xD = .full) (hf : fnValid s.pwr.fnSel = true) (hg : s.fnGranted s.pwr.fnSel = true)
    (h : s.pwr.fnSel ≠ 0x39 ∨ s.pwr.restarting = []) : exec .fnRestart s = .next (s.restartFn s.pwr.fnSel) :=
  (exec_fnRestart hv hf).trans (congrArg Host.Outcome.next ((if_neg (restart_free h)).trans (if_neg (by simp [hg]))))

theorem refuseRestart_pwr (s : State) (f code : Nat) : (s.refuseRestart f code).pwr =
    { s.pwr with reasons := Tbl.put f code s.pwr.reasons } := setInt_only _ _ .pwr (by decide)

theorem refuseRestart_only (s : State) (f code : Nat) : Only [.pwr, .glb, .out, .wharf] s (s.refuseRestart f code) :=
  ((only_pwr s _).mono (by simp)).trans ((setInt_only _ _).mono (by simp))

/-- R370: a RESTART refused leaves its code in REASON and the active copy in force. -/
theorem refuseRestart_spec (s : State) (f code : Nat) : let t := s.refuseRestart f code
    tget 0 f t.pwr.reasons = code ∧ t.cfg = s.cfg ∧ Only [.pwr, .glb, .out, .wharf] s t := by
  have honly := refuseRestart_only s f code
  refine ⟨?_, honly .cfg (by decide), honly⟩
  rw [refuseRestart_pwr]
  exact tget_put _ _ _ _

theorem restartFn_running (hs : s.fnStopped f = false) : s.restartFn f = s.refuseRestart f 20 := if_pos hs

theorem restartFn_pending (hs : s.fnStopped f = true) {m m' : Manifest} (hp : s.pwr.pend = some (f, m)) (hb : s.bufApplied f m = some m') :
    s.restartFn f = if s.restartReason f m' = 0 then s.switchFn f m'
      else ({ s with pwr := { s.pwr with pend := some (f, m') } } : State).refuseRestart f (s.restartReason f m') := by
  unfold State.restartFn
  rw [if_neg (by simp [hs]), hp]
  dsimp only
  rw [if_neg (not_not_intro rfl), hb]

/-- The gates whose barriers a RESTART waits for (R301, R370). -/
def State.barriersOf (s : State) (f : Nat) (m : Manifest) : List Nat := if f = 0x39 then gatesChanged s.cfg m else []

/-- The state in which a function's copy is in force, its barriers not begun (R371). -/
def State.copied (s : State) (f : Nat) (m : Manifest) : State :=
  { s with
    cfg := m
    pwr := { s.pwr with
      pend := match s.pwr.pend with
        | some (g, c) => if g = f then none else some (g, c)
        | none => none
      stopped := s.pwr.stopped.filter (· != f)
      grants := s.pwr.grants.filter (· != f)
      restarting := if f = 0x39 then s.barriersOf f m else s.pwr.restarting } }

/-- The state in which a function's copy is latched, before what it sets in the units (R371). -/
def State.latched (s : State) (f : Nat) (m : Manifest) : State :=
  ((s.barriersOf f m).foldl (fun (s : State) (g : Nat) => s.startBarrier g) (s.copied f m)).setReason f 0

theorem switchFn_eq (s : State) (f : Nat) (m : Manifest) : s.switchFn f m =
    let t := ((s.latched f m).fnEffects f).extend 7 (Config.measureItem 7 [1, f] [])
    if s.barriersOf f m = [] then t.restarted else t := rfl

theorem latched_only (s : State) (f : Nat) (m : Manifest) : Only [.gte, .pwr] (s.copied f m) (s.latched f m) :=
  (Only.foldl (ps := [.gte]) (fun s g => only_gte s _) (s.barriersOf f m) (s.copied f m)).mono (by simp) |>.trans
    ((only_pwr _ _).mono (by simp))

theorem latched_pwr (s : State) (f : Nat) (m : Manifest) : (s.latched f m).pwr =
    { (s.copied f m).pwr with reasons := Tbl.put f 0 s.pwr.reasons } := by
  have hbar := Only.foldl (ps := [.gte]) (f := fun (s : State) (g : Nat) => s.startBarrier g) (fun s g => only_gte s _) (s.barriersOf f m)
    (s.copied f m)
  rw [State.latched, State.setReason, hbar .pwr (by decide)]
  rfl

/-- R371: the latch of a function's copy. -/
theorem latched_spec (s : State) (f : Nat) (m : Manifest) {m0 : Manifest} (hp : s.pwr.pend = some (f, m0)) :
    (s.latched f m).cfg = m ∧ (s.latched f m).root = s.root ∧ tget 1 f (s.latched f m).pwr.reasons = 0 ∧ f ∉ (s.latched f m).pwr.grants ∧
      (s.latched f m).pwr.pend = none ∧ f ∉ (s.latched f m).pwr.stopped := by
  have honly := latched_only s f m
  rw [latched_pwr]
  refine ⟨honly .cfg (by decide), honly .root (by decide), tget_put _ _ _ _, ?_, ?_, ?_⟩
  · simp [State.copied]
  · simp [State.copied, hp]
  · simp [State.copied]

/-- R370, R371: a copy that passes is latched; the function runs, its grant is gone, REASON is 0 and MR7 is extended. -/
theorem switchFn_spec (s : State) (f : Nat) (m : Manifest) {m0 : Manifest} (hp : s.pwr.pend = some (f, m0)) : let t := s.switchFn f m
    t.cfg = m ∧ t.fnStopped f = false ∧ t.pwr.grants.contains f = false ∧ t.pwr.pend = none ∧ tget 1 f t.pwr.reasons = 0 ∧
      t.mr 7 = Config.shake256 (s.mr 7 ++ Config.shake256 (Config.measureItem 7 [1, f] []) 64) 64 := by
  obtain ⟨hcfg, hroot, hreason, hgrants, hpend, hstopped⟩ := latched_spec s f m hp
  have heff := fnEffects_steady (s.latched f m) f
  rw [switchFn_eq]
  generalize s.latched f m = u at *
  generalize u.fnEffects f = v at *
  have hend (w : State) : Only [.glb, .out, .wharf] w (if s.barriersOf f m = [] then w.restarted else w) := by
    split
    · exact setInt_only w _
    · exact Only.refl _ w
  specialize hend (v.extend 7 (Config.measureItem 7 [1, f] []))
  dsimp only
  generalize (if s.barriersOf f m = [] then (v.extend 7 (Config.measureItem 7 [1, f] [])).restarted
    else v.extend 7 (Config.measureItem 7 [1, f] [])) = t at *
  have hpwr : t.pwr = v.pwr := hend .pwr (by decide)
  have htroot : t.root = (v.extend 7 (Config.measureItem 7 [1, f] [])).root := hend .root (by decide)
  have hmr : v.mr 7 = s.mr 7 := by rw [State.mr, heff.root, hroot, State.mr]
  refine ⟨?_, ?_, ?_, ?_, ?_, ?_⟩
  · exact (hend .cfg (by decide)).trans (heff.cfg.trans hcfg)
  · rw [State.fnStopped, hpwr]
    simpa using fun h => hstopped (heff.stopped f h)
  · rw [hpwr, heff.grants]
    simpa using hgrants
  · rw [hpwr]
    exact heff.pend hpend
  · rw [hpwr, heff.reasons, hreason]
  · rw [State.mr, htroot, ← hmr]
    exact tget_put _ _ _ _

end Functions

/-- Settles O47: STOP, CHANGE and the refusals are read off their equations; a copy that passes stays latched because nothing that it sets
in the units reaches the configuration, the measurements, a REASON code or a grant, and only an entry to HALT, which ends every pending copy
and stop, reaches the rest. -/
theorem functionsStopChangeRestart : Obligations.FunctionsStopChangeRestart := by
  unfold Obligations.FunctionsStopChangeRestart
  intro s f hv hf
  refine ⟨fun hg => ⟨fun hs => ?_, fun hs => ⟨?_, fun hp => fnChange_opens hv hf hg hs hp, fun g m hp hne => fnChange_busy hv hf hg hs hp hne,
      fun m m' hp hb hb39 => ⟨fun hr => ?_, fun hr => ?_⟩⟩, fun hs => ⟨?_, fun h39 => ?_⟩⟩, fun hg h39 => ?_, fun h39 hne => ?_⟩
  · obtain ⟨-, hrings, honly⟩ := stopFn_spec hs
    obtain ⟨hself, hothers⟩ := stopFn_fnStopped hs
    exact ⟨_, exec_fnStop hv hf hg, hself, hothers, hrings, honly⟩
  · exact (exec_fnStop hv hf hg).trans (congrArg Host.Outcome.next (if_pos hs))
  · exact ⟨_, (fnRestart_runs hv hf hg hb39).trans (congrArg Host.Outcome.next ((restartFn_pending hs hp hb).trans (if_pos hr))),
      switchFn_spec s f m' hp⟩
  · obtain ⟨hreason, hcfg, honly⟩ :=
      refuseRestart_spec ({ s with pwr := { s.pwr with pend := some (f, m') } } : State) f (s.restartReason f m')
    refine ⟨_, (fnRestart_runs hv hf hg hb39).trans (congrArg Host.Outcome.next ((restartFn_pending hs hp hb).trans (if_neg hr))), hcfg, ?_,
      hreason, ((only_pwr s _).mono (by simp)).trans honly⟩
    rw [State.fnStopped, refuseRestart_pwr]
    exact hs
  · exact (exec_fnChange hv hf hg).trans (congrArg Host.Outcome.next (if_pos hs))
  · exact ⟨_, (fnRestart_runs hv hf hg h39).trans (congrArg Host.Outcome.next (restartFn_running hs)), refuseRestart_spec s f 20⟩
  · exact ⟨_, (exec_fnRestart hv hf).trans (congrArg Host.Outcome.next ((if_neg (restart_free h39)).trans (if_pos hg))),
      refuseRestart_spec s f 21⟩
  · exact (exec_fnRestart hv hf).trans (congrArg Host.Outcome.next (if_pos ⟨h39, hne⟩))

end Sys2Proof.Machine
